-- ==== Sys2Proof/Word.lean ====
section
/-! DEFINITION. The word types of the device and the shape of a sparse table.

A device word is 64 bits (R699), an instruction 128 bits (R45), a course number 48 bits (R6). -/

namespace Sys2Proof

/-- A byte of memory. -/
abbrev Byte := BitVec 8

/-- A control-space word (R699). -/
abbrev Word := BitVec 64

/-- A course number (R6): 48 bits, wrapping. -/
abbrev Course := BitVec 48

/-- A sparse table: (key, value) pairs, keys strictly rising, no value equal to the table's default. -/
abbrev SMap (α : Type) := List (Nat × α)

/-- The bits [hi:lo] of a register word (R8). -/
structure BitField where
  hi : Nat
  lo : Nat
  deriving DecidableEq, Repr

end Sys2Proof
end

