-- ==== Sys2Proof/Syntax.lean ====
section
/-! DEFINITION. The commands of the device: one constructor per row of `opcode_table.json`, with its
operands, and the types of those operands. -/

namespace Sys2Proof

/-- A Parium packet (R281): header fields and payload; `LEN` is the payload's length, the destination
and source of 15 bits each with their `SIDE` bits, `addr` the 42-bit `ADDR` field. The `resv` bit 106 has no field: a device
sends 0 there and passes over what it receives (DESIGN CHOICE, assumption 215). -/
structure Packet where
  ty : BitVec 4
  tc : BitVec 2
  phase : Bool
  retx : Bool
  dst : BitVec 15
  dstSide : Bool
  dstEp : BitVec 8
  src : BitVec 15
  srcSide : Bool
  srcEp : BitVec 8
  mid : BitVec 15
  stamp : BitVec 8
  gen : BitVec 8
  epoch : BitVec 16
  e2eSeq : BitVec 32
  start : Bool
  addr : BitVec 42
  poison : BitVec 64
  payload : List Byte
  deriving DecidableEq, Repr

/-- One flit slot of a block (R274, R280): idle, or flit `i` of a packet as it reads once decrypted; `tag` is the 16-byte tag
that the packet's last flit carries. -/
inductive Flit
  | idle
  | part (p : Packet) (i : Nat) (tag : List Byte)
  deriving DecidableEq, Repr

/-- How a received block decoded (R272, R275, R313): symbols corrected, code words that could not be, and whether the `CRC`
passes. -/
structure BlockFate where
  corrected : Nat
  uncorrectable : Nat
  crcOk : Bool
  deriving DecidableEq, Repr

/-- A block: 40 flits and the tag fields of R273. `CRC` is judged by `BlockFate`; `resv` is sent as 0 and passed over when
received (DESIGN CHOICE, assumption 215). -/
structure Block where
  flits : List Flit
  seq : BitVec 12
  ack : BitVec 12
  nak : Bool
  resync : Bool
  crVc : BitVec 3
  crTotal : BitVec 10
  keyPhase : Bool
  deriving DecidableEq, Repr

/-- A sender on port H (R560): its Ethernet and IP source addresses, and whether it speaks IPv6. -/
structure Peer where
  eth : BitVec 48
  ip : BitVec 128
  v6 : Bool
  deriving DecidableEq, Repr

/-- The keys of one direction of a secure channel (R563, R621). -/
structure SecureKeys where
  sak : List Byte
  salt : List Byte
  ssci : Nat
  deriving DecidableEq, Repr

/-- How a received frame is protected (R562–R566): not at all, or by MACsec, with the keys under which it validates (none
where it is damaged or its SecTAG carries no SCI), its association number and its packet number. -/
inductive Protection
  | plain
  | macsec (keys : Option SecureKeys) (an : BitVec 2) (pn : BitVec 64)
  deriving DecidableEq, Repr

/-- A frame received on port H: its sender, length from destination address to FCS, the free space that it finds in
its class's receive buffer (R554), protection, whether it was addressed to the link-local, the global or the IPv4
address (0, 1, 2), and whether the two halves of the root of trust agree on the outcome of a command that it carries (R607). -/
structure Frame where
  from_ : Peer
  len : Nat
  room : Nat
  prot : Protection
  to_ : Fin 3
  agree : Bool
  deriving DecidableEq, Repr

/-- A request packet that is no READ (R570): a part of an RDMA WRITE message, or an operation that is not supported. -/
inductive WritePart
  | first | middle | last | only | unsupported
  deriving DecidableEq, Repr

/-- NAK codes of a responder (R570, R575, R576). -/
inductive RdmaNak
  | sequence | invalidRequest | remoteAccess | remoteOperational
  deriving DecidableEq, Repr

/-- The contents of a boot flash device (R644): two protection block slots, base image and site overlay,
header first; the lists are empty where erased. `ok` is whether it answers at all; its SFDP table declares 8D-8D-8D or not, it
holds `gib` Gib, and it works at 3.3 V or at 1.8 V (R643). -/
structure Flash where
  declares8D : Bool
  gib : Nat
  volts33 : Bool
  slot0 : List Byte
  slot1 : List Byte
  base : List Byte
  site : List Byte
  ok : Bool
  deriving DecidableEq, Repr

/-- What the codes of a memory show of a granule when it is read (R240, R245, R249, R251). -/
inductive MemError
  | none | corrected | uncorrectable
  deriving DecidableEq, Repr

/-- A hardware fault that a comparison of a checked tile meets: the array, the row, and whether the two passes
disagree (R456). -/
structure CheckFault where
  array : Fin 4
  row : Fin 128
  dup : Bool
  deriving DecidableEq, Repr

/-- A swatch that has finished: its unit's path and whether its answers were the known ones (R468, R470). -/
structure SwatchResult where
  unit_ : BitVec 32
  clean : Bool
  deriving DecidableEq, Repr

/-- What the recovery controller finds at a sample beside the wait states (R495, R504): a firmware share of
partition 0 to 3 or of the fabric domain (4) that does not acknowledge, the memory controllers of a partition or the
router without progress, or its own self-check failing. -/
inductive Trouble
  | firmware (domain : Fin 5)
  | memory (p : Fin 4)
  | router
  | selfCheck
  deriving DecidableEq, Repr

/-- What the partner's BUDDY region holds of a device (R414, R441): the slot bytes of the skein of the generation restored, those
of the skein that its base folds, the pages of its base, the granules of them that came poisoned, and the base generation, fold
generation and fold pointer of its header. -/
structure BuddyShare where
  skein : List Byte
  folding : List Byte
  base : List Byte
  bad : List Nat
  baseGen : Nat
  foldGen : Nat
  pointer : Nat
  deriving DecidableEq, Repr

/-- P or Q of a stripe's parity chain, with those of its granules that are poisoned (R252, R435). -/
structure ChainDelta where
  bytes : List Byte
  bad : List Nat
  deriving DecidableEq, Repr

/-- Where a restore takes a device's share from (R441, R442): its own SKEIN slot; its partner's BUDDY region; or chains through
the group's whole members and holders, which bring for each of the device's fragments what is left of its stripe's P and Q
when every whole member's fragment is taken out, and the sections. -/
inductive RestoreSource
  | own
  | partner (share : BuddyShare)
  | rebuilt (chains : List (ChainDelta × ChainDelta)) (sections : List Byte)
  deriving DecidableEq, Repr

/-- What a spare takes from its partner beside the pages that it reads (R27, R400, R418, R446, assumption 177): `CUR_BUF`, the
boundaries held, whether the current one's update was applied, and the job's last generation. -/
structure FillPeer where
  curBuf : Fin 2
  boundary : Option (BitVec 32)
  prevBoundary : Option (BitVec 32)
  applied : Bool
  lastGen : BitVec 32
  deriving DecidableEq, Repr

/-- A parity set as the chains of the group's members give it: generation, whether it is complete, its fragments P and Q, and
their poisoned granules (R252, R434, R435, R446). -/
structure ParitySet where
  gen : BitVec 32
  whole : Bool
  bytes : List Byte
  bad : List Nat
  deriving DecidableEq, Repr

/-- Both parity sets of a region (R414). -/
structure ParitySets where
  set0 : ParitySet
  set1 : ParitySet
  deriving DecidableEq, Repr

/-- What a restore has gathered (R441, R442): where the device's share comes from, the members of its group whose share is
whole, and the holders whose parity set of the generation is complete. -/
structure RestoreShares where
  source : RestoreSource
  whole : List (Fin 16)
  holders : List (Fin 16)
  deriving DecidableEq, Repr

/-- The end of a port's training step (R270, R278, R312): whether it has succeeded, and the lanes with signal and lock. -/
structure TrainingEnd where
  ok : Bool
  lanes : BitVec 16
  deriving DecidableEq, Repr

/-- A release (R267, R505): the domain, and the granules of the writes that its controllers had accepted and could not perform. -/
structure DomainRelease where
  domain : Nat
  lost : List Nat
  deriving DecidableEq, Repr

/-- A Neighbor Discovery frame about one of the device's addresses (R559, RFC 4861, RFC 4862): a solicitation of a
neighbour, the probe of a node that detects duplicates of the same address, or the advertisement of a node that has it. -/
inductive NdKind
  | solicit | probe | advert
  deriving DecidableEq, Repr

/-- The transport header of an RDMA request (R570): the device's queue pair, the packet sequence number, whether the
frame carries a congestion mark, and the address, key and length of the packets that open a request. -/
structure RdmaHeader where
  qpn : Nat
  psn : BitVec 24
  marked : Bool
  addr : BitVec 64
  rkey : BitVec 32
  len : Nat
  deriving DecidableEq, Repr

/-- The straps as they are tied (R688). -/
structure Straps where
  eightLane : Bool
  flash33 : Bool
  test : Bool
  deriving DecidableEq, Repr

/-- What an AVSBus read of a rail gives: millivolts and units of 50 mA (R669, R670). -/
structure RailReading where
  voltage : BitVec 16
  current : BitVec 16
  deriving DecidableEq, Repr

/-- Kinds of memory module (R246). -/
inductive DimmKind
  | rdimm | udimm | lrdimm | mrdimm
  deriving DecidableEq, Repr

/-- A DIMM as its SPD describes it (R246): kind, whether it has ECC and 3DS stacks, the width of its DRAMs, their density in Gb,
and its ranks. -/
structure Dimm where
  kind : DimmKind
  ecc : Bool
  stacked : Bool
  width : Nat
  density : Nat
  ranks : Nat
  deriving DecidableEq, Repr

/-- What a cast-on phase finds of the hardware (R640): nothing beyond its completion in phases 0 to 3, or
in phase 1 that the roots of trust disagree (R607); in phase 4 the
DIMMs that each DDR5 channel holds, DIMM 0 first, the channels whose DIMM failed to train, an HBM4 stack that
failed, and the rows that could not be repaired; in phase 5 the granules with corrected errors and one that failed, by its codes or by a
miscompare; in
phase 6 the units whose swatch failed, and each partition's array current, in amperes, at full duty above idle. -/
inductive PhaseReport
  | quiet
  | disagreement
  | training (channels : List (List Dimm)) (failed : List (Fin 12)) (stack : Option (Fin 16)) (unrepaired : List Nat)
  | memory (corrected : List Nat) (bad : Option Nat) (miscompare : Bool)
  | swatches (failed : List (BitVec 32)) (currents : List Nat)
  deriving DecidableEq, Repr

/-- The steps of the device (opcode_table.json), each whole and indivisible. -/
inductive Instr
  /-- `DISPATCH` (R39). The front end dispatches the next instruction of the resident context's pattern into its queue, resuming once a full queue frees an entry. -/
  | dispatch (core : Fin 160)
  /-- `C_SETI` (R41). The front end writes an immediate into a scalar register at dispatch. -/
  | cSeti (core : Fin 160)
  /-- `C_ADDI` (R41). The front end adds a two's complement immediate to a scalar register modulo 2^64 at dispatch. -/
  | cAddi (core : Fin 160)
  /-- `C_LOOP` (R56). The front end decrements a scalar register and branches to the target while it is non-zero. -/
  | cLoop (core : Fin 160)
  /-- `C_JUMP` (R56). The front end continues dispatch at the target instruction. -/
  | cJump (core : Fin 160)
  /-- `MA_LOADW` (R87). A weight load issues and loads the selected arrays' weight slot and channel scales, 10 cycles per array. -/
  | maLoadw (core : Fin 160)
  /-- `MA_MUL` (R61). A matrix multiply issues once its tokens, slot, buffer, stream and side-unit reservations are held, opens or continues a run and streams its rows. -/
  | maMul (core : Fin 160)
  /-- `MA_DRAIN` (R111). A drain reads a wide accumulator buffer, converts each entry through the gauge unit and writes it to core store, counting non-finite entries. -/
  | maDrain (core : Fin 160)
  /-- `V_LD` (R51). A vector load writes a register from core store. -/
  | vLd (core : Fin 160)
  /-- `V_ST` (R51). A vector store converts a register to the target format and writes it to core store. -/
  | vSt (core : Fin 160)
  /-- `V_FMA` (R150). A fused multiply-add writes VA times VB plus VC with one rounding. -/
  | vFma (core : Fin 160)
  /-- `V_ADD` (R150). A vector add writes VA plus VB with one rounding. -/
  | vAdd (core : Fin 160)
  /-- `V_MUL` (R150). A vector multiply writes VA times VB with one rounding. -/
  | vMul (core : Fin 160)
  /-- `V_MAX` (R151). A vector maximum writes the larger operand or magnitude of each lane. -/
  | vMax (core : Fin 160)
  /-- `V_MIN` (R151). A vector minimum writes the smaller operand or magnitude of each lane. -/
  | vMin (core : Fin 160)
  /-- `V_SCALE` (R150). A vector scale writes VA times a scalar F32 plus VC with one rounding. -/
  | vScale (core : Fin 160)
  /-- `V_RSQ` (R152). A reciprocal square root writes 1/sqrt of each lane within 1 ulp. -/
  | vRsq (core : Fin 160)
  /-- `V_RSUM` (R52). A reduction sum writes the fixed pairwise tree sum of the participating elements to element 0. -/
  | vRsum (core : Fin 160)
  /-- `V_RMAX` (R52). A reduction maximum writes the maximum of the participating elements to element 0. -/
  | vRmax (core : Fin 160)
  /-- `V_CVT` (R725). A vector conversion converts elements between F32 and B16, or copies them in the same format. -/
  | vCvt (core : Fin 160)
  /-- `G_QUANT` (R155). A quantisation extracts outliers, rotates, measures, scales and converts a source into its output layout and updates its gauge record. -/
  | gQuant (core : Fin 160)
  /-- `G_PREPASS` (R185). A pre-pass reads, rotates and measures a source into its record, and may find static outlier channels, writing nothing else. -/
  | gPrepass (core : Fin 160)
  /-- `M_COPY` (R54). A move issues into its channel's list after its extent passes the address checks. -/
  | mCopy (core : Fin 160)
  /-- `MOVE_TRANSFER` (R241). A move channel begins transferring its next move once the previous move has sent its last request or byte. -/
  | moveTransfer (core : Fin 160) (channel : Fin 4)
  /-- `C_NOP` (R56). A no-operation issues, serving as a pure wait when it has a header wait. -/
  | cNop (core : Fin 160)
  /-- `C_RAISE` (R56). A local raise adds an amount to a token of the resident context at issue. -/
  | cRaise (core : Fin 160)
  /-- `C_RRAISE` (R56). A remote raise sends a CT RAISE packet to a named core, context and token. -/
  | cRraise (core : Fin 160)
  /-- `C_YIELD` (R72). A yield offers the core to the next qualifying context at issue. -/
  | cYield (core : Fin 160)
  /-- `C_HALT` (R68). A halt ends the pattern on the core once every earlier instruction has completed. -/
  | cHalt (core : Fin 160)
  /-- `INSTRUCTION_COMPLETE` (R63). An issued instruction completes and raises its token in the next stitch if asked. -/
  | instructionComplete (core : Fin 160) (n : Nat) (parity : Bool)
  /-- `CABLE_PATH_WORK` (R221). The cable path begins a tile's outlier and checksum work after the previous tile's work ends. -/
  | cablePathWork (core : Fin 160)
  /-- `LOW_RANK_WORK` (R225). The low-rank unit begins a tile's first stage or a run's close after its previous work ends and adds the correction at the close. -/
  | lowRankWork (core : Fin 160)
  /-- `CHECK_CLOSE` (R460). The partition checker closes the comparison of a checked tile's row sums against its checksum. -/
  | checkClose (core : Fin 160) (fault : Option CheckFault)
  /-- `CTX_LOAD` (R67). The command loads a FREE context with its pattern base, core mask, allotment and control, clears its tokens and sets it READY. -/
  | ctxLoad
  /-- `CONTEXT_SELECT` (R719). A core with no resident, a halted or a faulted context selects the next qualifying context by itself. -/
  | contextSelect (core : Fin 160)
  /-- `QUANTUM_EXPIRY` (R72). The residency quantum of a context expires and a switch is offered. -/
  | quantumExpiry (core : Fin 160)
  /-- `CONTEXT_SAVE_RESTORE` (R75). Once issued instructions complete, a core saves the outgoing context and reads and checks the incoming image. -/
  | contextSaveRestore (core : Fin 160)
  /-- `CTX_FREE` (R591). The command frees a HALTED or FAULTED context. -/
  | ctxFree
  /-- `CTX_SWITCH` (R72). The command switches the named cores to a named context. -/
  | ctxSwitch
  /-- `GAP_FOREWARNING` (R120). When a core's gap reaches 16 courses the power manager asserts the fall forewarning on the partition's LSTEP pins. -/
  | gapForewarning (core : Fin 160)
  /-- `TENSION_FALL` (R120). When a gap reaches 32 courses the core's tension duty begins to fall. -/
  | tensionFall (core : Fin 160)
  /-- `TENSION_STEP_DOWN` (R120). Each later step of the tension fall lowers the duty by one sixteenth. -/
  | tensionStepDown (core : Fin 160)
  /-- `STREAM_RAMP_STEP` (R122). After an unannounced resumption the stream-grant duty rises by one sixteenth every 768 stitches. -/
  | streamRampStep (core : Fin 160)
  /-- `EVENT_FOREWARNING` (R123). Sixteen courses before a forewarned scheduled event the power manager asserts the rise forewarning. -/
  | eventForewarning (p : Fin 4)
  /-- `LSTEP_CLEAR` (R675). The LSTEP pins return to 0b0000 at the start of the second course after the step ends. -/
  | lstepClear (p : Fin 4)
  /-- `SERVE_BLOCK_CLOSE` (R124). A serving block closes when it holds 128 requests or its oldest request has waited D courses. -/
  | serveBlockClose (stream : Fin 16)
  /-- `SERVE_BLOCK_START` (R605). Once the stream's context is HALTED the firmware copies a closed block's inputs and starts the context at its entry. -/
  | serveBlockStart (stream : Fin 16)
  /-- `SERVE_BLOCK_DONE` (R605). When the context halts on every core the firmware copies outputs and writes completion records. -/
  | serveBlockDone (stream : Fin 16)
  /-- `SCRUB` (R250). The scrubber reads a granule, writing back corrected data or poison. -/
  | scrub (granule : Nat) (found : MemError)
  /-- `BLOCK_SEND` (R274). A port sends a block every 6.4 ns, filling free slots with idle flits. -/
  | blockSend (port : Fin 8)
  /-- `BLOCK_RECEIVE` (R275). A port receives a block, discarding and NAKing a bad one and taking acknowledgements and credit reports. -/
  | blockReceive (port : Fin 8) (block : Block) (fate : BlockFate)
  /-- `REPLAY_TIMEOUT` (R276). After 1 µs with flits unacknowledged and no ACK advance the sender replays. -/
  | replayTimeout (port : Fin 8)
  /-- `PEER_SILENT` (R277). A peer silent for 10 µs makes the port retrain fully. -/
  | peerSilent (port : Fin 8)
  /-- `PORT_TRAINING_STEP` (R278). A training step of a port completes and the next begins, ending UP, TOO_LONG, PEER_REJECTED or FAILED. -/
  | portTrainingStep (port : Fin 8) (found : TrainingEnd) (delay : Nat) (roundTrip : Nat)
  /-- `LINK_KEY_CHANGE` (R291). After 2^40 packets or on request a sender moves to the next link key and toggles KEY_PHASE. -/
  | linkKeyChange (port : Fin 8) (requested : Bool)
  /-- `PACKET_ROUTE` (R300). A router routes an arriving packet head by phase, destination, SA and the fault map. -/
  | packetRoute (input : Fin 9) (vc : Fin 8)
  /-- `WRITE` (R285). A WRITE packet delivers payload granules to memory or core store, poisoned as marked, or is refused by the tier regions. -/
  | write
  /-- `READ_REQ` (R302). A read request enters the read table or is dropped when it is full. -/
  | readReq
  /-- `READ_RESP` (R308). A read response delivers data to its return address, discarded if its tag is no longer awaited. -/
  | readResp
  /-- `RAISE` (R64). A remote raise packet raises a token of the named context on the target core unless misdirected, stale or late. -/
  | raise_
  /-- `E2E_ACK` (R308). An end-to-end acknowledgement frees the acknowledged packets of a sender flow. -/
  | e2eAck
  /-- `E2E_RETRANSMIT` (R307). An unacknowledged reliable packet 128 courses old is sent again with a new stamp. -/
  | e2eRetransmit
  /-- `FLOW_IDLE_FREE` (R309). A flow entry idle for 256 courses at the sender or 512 at the receiver is freed. -/
  | flowIdleFree (sender : Bool) (key : Nat)
  /-- `FAULT` (R305). A fault record is stored if new and flooded on every other live torus port. -/
  | fault
  /-- `HELLO` (R622). A link session HELLO carrying the peer's share, nonce, image digest and chain is received. -/
  | hello
  /-- `FINISH` (R623). A link session FINISH is verified and the link secret is derived, or the peer is rejected. -/
  | finish (agree : Bool)
  /-- `FINISH_TIMEOUT` (R623). No FINISH within 10 ms of the HELLO holds the port in PEER_REJECTED. -/
  | finishTimeout (port : Fin 8)
  /-- `COLL` (R337). A collective packet is added into the passing sum or written, and an out-of-order packet marks its descriptor LOST. -/
  | coll
  /-- `GRANT` (R335). A grant of 64 staging buffers for a descriptor and direction arrives. -/
  | grant
  /-- `RETURN` (R335). Eight staging buffers are returned to a sender. -/
  | return_
  /-- `REDUCE_SCATTER` (R325). A reduce-scatter descriptor starts and sums each chunk in fixed order to its owner, and with DUAL to its partner. -/
  | reduceScatter (x : Fin 16)
  /-- `ALL_REDUCE` (R319). An all-reduce descriptor starts, reduce-scattering and then gathering the sums to every member. -/
  | allReduce (x : Fin 16)
  /-- `ALL_GATHER` (R327). An all-gather descriptor starts and passes each member's block to every member unchanged. -/
  | allGather (x : Fin 16)
  /-- `RING_PASS` (R327). A ring-pass descriptor starts and sends each block n - 1 times in the + direction. -/
  | ringPass (x : Fin 16)
  /-- `DESCRIPTOR_COMPLETE` (R318). A collective descriptor completes once its results are written and visible and raises its token. -/
  | descriptorComplete (n : Nat)
  /-- `COLLECTIVE_TIMEOUT` (R337). A running descriptor without a packet for CE_TIMEOUT courses is marked LOST. -/
  | collectiveTimeout (n : Nat)
  /-- `RECLAIM_HOLD_END` (R531). Sixty-five courses after a reclaim the collective engine may start the affected contexts' descriptors again. -/
  | reclaimHoldEnd (x : Fin 16)
  /-- `STEP_END_CONTRIBUTE` (R462). Once its last descriptor has passed its wait, its digests are written and the previous step's comparisons have closed, a device contributes its step-end vector. -/
  | stepEndContribute
  /-- `STEP_END_SUM` (R25). On the step-end sum the device tests consistency, decides the update, releases entries, updates loss scale and plan and schedules a cut. -/
  | stepEndSum (parts : List (List (List Byte)))
  /-- `BEACON_SEND` (R360). At each course that is a multiple of 64 a timed device sends a beacon on every UP port. -/
  | beaconSend
  /-- `BEACON` (R364). A beacon is received, the parent chosen, err measured and the multiplier steered or state changed. -/
  | beacon (fraction : Fin 256)
  /-- `PARENT_TIMEOUT` (R364). A LOCKED device without a parent beacon for 256 courses enters HOLDOVER. -/
  | parentTimeout
  /-- `MASTER_ELECTION` (R369). A device that has heard no ranking beacon within 256 courses becomes master. -/
  | masterElection
  /-- `FREE_RUN_TIMEOUT` (R371). After 4,096 courses without a beacon following reset a device applies the election rule with TERM 0. -/
  | freeRunTimeout
  /-- `EVENT_FIRE` (R375). An armed scheduled-event entry fires at its course and stitch and hands its action over. -/
  | eventFire (table : Fin 5) (n : Fin 64)
  /-- `RESET_RELEASE` (R505). A reset domain is released, its generation tag bumped and its state rebuilt; `lost` lists the
  granules of the accepted writes that the memory controllers could not perform within 10 µs of the reset (R267). -/
  | resetRelease (released : DomainRelease)
  /-- `OVERLAY_SWITCH` (R37). At the later of its course and the boundary the device switches to the staged overlay. -/
  | overlaySwitch
  /-- `LIFELINE_CUT` (R31). At the cut course or when the update completes, a cut starts with the bitmap swap. -/
  | lifelineCut
  /-- `SNAPSHOT` (R449). The firmware copies the snapshot extents of the next completed boundary into a SNAPSHOT region, header last. -/
  | snapshot
  /-- `SWATCH_WINDOW` (R469). A swatch window takes its units, saves context and store region, and runs the known-answer tests. -/
  | swatchWindow (table : Fin 5)
  /-- `SWATCH_WINDOW_END` (R470). At the window's end unfinished swatches are abandoned, state restored and deferred step starts handed over. -/
  | swatchWindowEnd (table : Fin 5) (results : List SwatchResult)
  /-- `CONTEXT_SWITCH` (R72). A scheduled event requests a switch of a partition's cores to a named context. -/
  | contextSwitch (p : Fin 4)
  /-- `STEP_START` (R351). At the step-start event the firmware evaluates layers, copies micro-batches, sets entry counters and raises the start tokens. -/
  | stepStart (p : Fin 4)
  /-- `JOURNAL_RECORD` (R388). After the arm and the previous step's actions, the step keeper makes the record and sends the partner copy. -/
  | journalRecord
  /-- `JOURNAL_DURABLE` (R389). The record becomes durable when both copies, or the local one alone, are accepted. -/
  | journalDurable
  /-- `PARTNER_COPY` (R389). A partner's journal record arrives and is written to the partner slot or refused. -/
  | partnerCopy
  /-- `COPY_REFUSED` (R389). A partner's refusal of a journal copy marks the step unmirrored. -/
  | copyRefused
  /-- `CUT_DELTA_WRITE` (R420). After the previous cut and folds, the cut writes sections and compressed page deltas to its slot and the partner's buddy slot. -/
  | cutDeltaWrite
  /-- `CUT_WRITTEN` (R420). Once both copies are accepted the slot is set WRITTEN and the skein report sent. -/
  | cutWritten
  /-- `SKEIN_REPORT` (R427). The leader receives a member's skein report and signs the manifest once all present members have reported. -/
  | skeinReport
  /-- `MANIFEST` (R429). A member receives the signed manifest, writes it and carries out the commit actions. -/
  | manifest
  /-- `MANIFEST_QUERY` (R284). A manifest query is answered with the manifest if held. -/
  | manifestQuery
  /-- `TEAR` (R431). A tear notice tears the cut, freeing its slots and merging the outgoing bitmap. -/
  | tear
  /-- `MANIFEST_TIMEOUT` (R430). No manifest within 65,536 courses of the report and none found by query tears the cut. -/
  | manifestTimeout
  /-- `REPORT_TIMEOUT` (R430). The leader sends a tear notice when a member's report is 65,536 courses late. -/
  | reportTimeout
  /-- `FOLD_COMPLETE` (R432). Folding a committed generation into the HBM base ends and the older slot is freed. -/
  | foldComplete
  /-- `PARITY_CHAIN` (R435). A stripe's parity chain passes P and Q deltas and the holders write the new parity set. -/
  | parityChain (stripe : Fin 16) (p : ChainDelta) (q : ChainDelta) (groupDone : Bool)
  /-- `DOMAIN_TAGS` (R439). A group member's or partner's failure-domain tags arrive and are compared with the device's own. -/
  | domainTags
  /-- `TAG_EXCHANGE_TIMEOUT` (R439). A member silent for 4,096 courses refuses the enable. -/
  | tagExchangeTimeout
  /-- `RESTORE_COMPLETE` (R443). A lifeline restore finishes writing the base, protected extents and sections and reports the step;
  `whole` and `holders` are the other members that tell they are whole for the generation, and that their parity set of it is
  complete (R442). -/
  | restoreComplete (shares : RestoreShares)
  /-- `FILL_COMPLETE` (R446). A spare fill finishes copying its table and lifeline parts and returns to IDLE. -/
  | fillComplete (peer : FillPeer) (sets : ParitySets)
  /-- `UNIT_DUE` (R471). A unit becomes due for swatches six hours, or ten minutes if suspect, after its last. -/
  | unitDue (kind : Fin 10)
  /-- `LADDER_WINDOW` (R483). At the end of each 2^20-course window each source's count is tested for a ladder warning. -/
  | ladderWindow
  /-- `FSR_SUMMARY` (R485). Once per hour the sentinel writes a summary fault signature record. -/
  | fsrSummary
  /-- `WAIT_FOR_SAMPLE` (R490). Every 1,024 courses the agents capture wait states and the recovery controller tests for hangs and stalls. -/
  | waitForSample (troubles : List Trouble)
  /-- `HEARTBEAT` (R496). Every 16,384 courses the recovery controller advances the heartbeat. -/
  | heartbeat
  /-- `ABORT` (R501). An abort message is flooded and a RUNNING device aborts its step. -/
  | abort_
  /-- `MAP_REQUEST` (R503). A request for fault records is answered with a map reply. -/
  | mapRequest
  /-- `MAP_REPLY` (R503). Fault records from a map reply are stored. -/
  | mapReply
  /-- `EPOCH_ADVANCE_RECEIVE` (R503). An epoch-advance message is flooded and its snapshot digest awaited. -/
  | epochAdvanceReceive
  /-- `EPOCH_APPLY` (R503). When the fault map matches the digest the device sets the epoch, fixes ring forms, removes replicas and replans. -/
  | epochApply
  /-- `EPOCH_DIGEST_TIMEOUT` (R503). A digest unmatched within 4,096 courses refuses the advance. -/
  | epochDigestTimeout
  /-- `ORIGIN_FORGET` (R547). A remembered origin and sequence pair is forgotten 4,096 courses after receipt. -/
  | originForget
  /-- `RESET_L0` (R506). A context reset stops the context, discards its queues, zeroes its tokens and leaves it HALTED. -/
  | resetL0
  /-- `RESET_L1` (R507). An engine reset fences, dumps, resets and tests a core or fixed engine, preserving registers and contexts. -/
  | resetL1
  /-- `RESET_L2` (R507). A partition reset fences, dumps, resets and retrains the partition with its memories preserved. -/
  | resetL2
  /-- `RESET_L3` (R505). A fabric-domain reset idles the ports, dumps, resets and retrains the fabric domain. -/
  | resetL3
  /-- `RESET_L4` (R505). A chip reset dumps and resets the chip, keeping the chip-domain diagnosis state. -/
  | resetL4
  /-- `RESET_LIMIT_EXPIRY` (R510). A reset exceeding its level's limit escalates to the containing domain. -/
  | resetLimitExpiry (domain : Nat)
  /-- `WATCH_END` (R510). Four samples without recurrence return a domain from WATCH to NORMAL. -/
  | watchEnd (domain : Nat)
  /-- `DUMP_UNIT_TIMEOUT` (R520). A unit that has not delivered its dump state in 100 µs is recorded UNREADABLE. -/
  | dumpUnitTimeout (n : Nat)
  /-- `ISOLATION_LIMIT` (R518). An isolated suspect context's run limit expires. -/
  | isolationLimit
  /-- `FCP_DATAGRAM` (R568). An FCP datagram is validated, classed by sequence number and slot, and passed to the interpreter or answered from the cache. -/
  | fcpDatagram (frame : Frame) (bytes : List Byte)
  /-- `PFC_FRAME` (R556). A received PFC frame pauses or resumes the named priorities. -/
  | pfcFrame (named : BitVec 8) (quanta : List (BitVec 16))
  /-- `XOFF_REPEAT` (R554). An XOFF is repeated every 20 µs while the buffer condition holds. -/
  | xoffRepeat (bulk : Bool) (room : Nat)
  /-- `ANNOUNCE` (R561). Until a session exists the device multicasts an announcement every second. -/
  | announce
  /-- `NEIGHBOR_DISCOVERY` (R559). An IPv6 Neighbor Discovery frame is answered. -/
  | neighborDiscovery (frame : Frame) (kind : NdKind)
  /-- `ARP` (R559). An ARP request for the IPv4 address is answered. -/
  | arp (frame : Frame)
  /-- `ECHO_REQUEST` (R559). An ICMP or ICMPv6 echo request is answered at no more than 100 per second. -/
  | echoRequest (frame : Frame)
  /-- `RDMA_WRITE` (R572). An RDMA WRITE packet is checked against the windows, written and acknowledged. -/
  | rdmaWrite (frame : Frame) (header : RdmaHeader) (part : WritePart) (data : List Byte)
  /-- `RDMA_READ` (R575). An RDMA READ request is checked against the windows and answered with paced read responses. -/
  | rdmaRead (frame : Frame) (header : RdmaHeader)
  /-- `CNP` (R571). A congestion notification halves the QP's read-response rate. -/
  | cnp (frame : Frame) (header : RdmaHeader)
  /-- `CNP_RATE_RAISE` (R571). Every 64 courses without a CNP the QP's rate rises by one eighth. -/
  | cnpRateRaise
  /-- `HOST_LINK_UP` (R550). Port H completes training and comes UP, starting link-local address detection. -/
  | hostLinkUp
  /-- `DAD_RETRY` (R713). Every 60 s after a link-local conflict the device runs address detection again. -/
  | dadRetry
  /-- `MACSEC_PREVIOUS_AN_END` (R565). 1,024 courses after the first frame under a new association number the old one is no longer accepted. -/
  | macsecPreviousAnEnd
  /-- `SESSION_LAPSE` (R620). A session with no valid protected frame for 16,777,216 courses ends. -/
  | sessionLapse
  /-- `SESSION_OPEN_LAPSE` (R619). A pending session open lapses 65,536 courses after its reply. -/
  | sessionOpenLapse
  /-- `STATUS_READ` (R591). The command returns the status page sampled at its commit stitch. -/
  | statusRead
  /-- `IDENTITY_GET` (R611). The command returns the device certificate chain. -/
  | identityGet
  /-- `ATTEST` (R617). The command returns a signed attestation report over the given nonce. -/
  | attest
  /-- `SESSION_OPEN` (R618). The command answers the host key share with the device share and a signature. -/
  | sessionOpen
  /-- `SESSION_CONFIRM` (R621). The command verifies the host and installs the MACsec keys, creating the session. -/
  | sessionConfirm (agree : Bool)
  /-- `SESSION_REKEY` (R621). The command installs the next session keys under the next association number. -/
  | sessionRekey
  /-- `SESSION_CLOSE` (R620). The command ends the session after its reply. -/
  | sessionClose
  /-- `APPROVAL_SUBMIT` (R634). The command submits one party's signature on a change record, opening or completing an approval window. -/
  | approvalSubmit (agree : Bool)
  /-- `APPROVAL_WINDOW_END` (R634). An approval window ends without the second signature and nothing is granted. -/
  | approvalWindowEnd
  /-- `GRANT_LAPSE` (R635). An unused approval grant lapses after 65,536 courses. -/
  | grantLapse
  /-- `JOB_KEY_PROVISION` (R626). The command unwraps and installs an owner-signed job key. -/
  | jobKeyProvision (agree : Bool)
  /-- `CS_READ` (R592). The command reads consecutive control-space words. -/
  | csRead
  /-- `CS_WRITE` (R593). The command checks and applies register write pairs in order, returning an outcome per pair. -/
  | csWrite
  /-- `GENERIC_REGISTER_WRITE` (R10). A write pair to a register without behaviour of its own sets RW fields and clears W1C bits. -/
  | genericRegisterWrite
  /-- `PROTECTED_WRITE` (R635). A write of protected registers matching a grant applies them, writes the protection block and burns a fuse. -/
  | protectedWrite
  /-- `PR_ALIAS_WRITE` (R296). A write of an alias entry is refused if its logical coordinate duplicates another valid entry. -/
  | prAliasWrite
  /-- `DT_REGION_WRITE` (R264). A write of a tier region's registers is tested and applied or refused. -/
  | dtRegionWrite
  /-- `SK_CONFIG_WRITE` (R383). A write of the step keeper configuration is ignored while a step is armed or a slot held. -/
  | skConfigWrite
  /-- `LIFELINE_ENABLE` (R439). Setting the lifeline enable checks the regions and base area and exchanges failure-domain tags. -/
  | lifelineEnable
  /-- `LE_DOMAIN_WRITE` (R438). A write of the failure-domain tags is ignored while lifelines are enabled. -/
  | leDomainWrite
  /-- `HP_WINDOW_WRITE` (R574). A write of an RDMA window draws a new remote key when it becomes valid. -/
  | hpWindowWrite
  /-- `HP_IPV6_WRITE` (R713). A write changing the global IPv6 address starts duplicate address detection. -/
  | hpIpv6Write
  /-- `SCRUB_HOURS_WRITE` (R711). A write of the scrub period outside 1–168 is ignored. -/
  | scrubHoursWrite
  /-- `EVENT_ENTRY_ARM` (R718). A direct write arming an event entry is tested as a scheduling command or refused. -/
  | eventEntryArm
  /-- `CONTEXT_TABLE_WRITE` (R705). A write of a context's record, spec, layer or queue base is ignored while the context is READY. -/
  | contextTableWrite
  /-- `TJ_THROTTLE_WRITE` (R693). A write of the throttle temperature outside 85–100 °C is ignored. -/
  | tjThrottleWrite
  /-- `SUSPECT_REMOVE` (R473). Writing 1 to a suspect entry's VALID removes it. -/
  | suspectRemove
  /-- `JOB_LOAD` (R346). The command checks and loads the mapping descriptor, sets the epoch to 0, clears fault maps and sets the job RUNNING. -/
  | jobLoad
  /-- `JOB_UNLOAD` (R591). The command frees the job's contexts and sets the job IDLE. -/
  | jobUnload
  /-- `OVERLAY_STAGE` (R614). The command verifies an overlay and replaces the staged overlay of its kind. -/
  | overlayStage
  /-- `STEP_ARM` (R594). The command accepts a step and arms its STEP_START entries, or refuses it. -/
  | stepArm
  /-- `STEP_REPLAY` (R397). The recovery replay command discards later steps, rewinds contexts, restores the record's state and arms the replayed step. -/
  | stepReplay
  /-- `DIAGNOSIS_REPLAY` (R403). The diagnosis replay command runs a journalled step in a diagnosis context and compares its digests. -/
  | diagnosisReplay
  /-- `EVENT_SCHEDULE` (R595). The command arms the lowest free entry of a table with an allowed action. -/
  | eventSchedule
  /-- `EVENT_CANCEL` (R591). The command cancels an armed event entry. -/
  | eventCancel
  /-- `LIFELINE_ARM` (R417). The command arms a lifeline cut request for a step. -/
  | lifelineArm
  /-- `LIFELINE_RESTORE` (R440). The command obtains and verifies a manifest and starts restoring a generation. -/
  | lifelineRestore
  /-- `SPARE_FILL` (R446). The command starts filling a spare from its twin and partner. -/
  | spareFill
  /-- `MANIFEST_READ` (R591). The command returns a stored manifest. -/
  | manifestRead
  /-- `EPOCH_ADVANCE` (R502). The command makes an ABORTED device originate an epoch advance with its fault-map snapshot. -/
  | epochAdvance
  /-- `FAULT_DECLARE` (R305). The command floods a device fault record naming a coordinate. -/
  | faultDeclare
  /-- `ISOLATION_REPORT` (R518). The command reports a diagnosis replay's outcome for a suspect context. -/
  | isolationReport
  /-- `DUMP_READ` (R591). The command returns bytes of a dump slot. -/
  | dumpRead
  /-- `DUMP_RELEASE` (R521). The command marks a dump read. -/
  | dumpRelease
  /-- `LOG_READ` (R591). The command returns error log entries in sequence order. -/
  | logRead
  /-- `FSR_READ` (R591). The command returns the oldest fault signature records. -/
  | fsrRead
  /-- `FSR_FREE` (R488). The command frees the oldest fault signature records. -/
  | fsrFree
  /-- `QP_CREATE` (R570). The command creates a RoCEv2 queue pair. -/
  | qpCreate
  /-- `QP_DESTROY` (R591). The command destroys a queue pair, abandoning outstanding reads. -/
  | qpDestroy
  /-- `SERVE_OPEN` (R603). The command opens a serving stream with a ring result slot and halts its context. -/
  | serveOpen
  /-- `SERVE_SUBMIT` (R603). The command delivers request records to a serving stream, one per stitch. -/
  | serveSubmit
  /-- `SERVE_CLOSE` (R591). The command closes a serving stream. -/
  | serveClose
  /-- `RESULT_READ` (R599). The command returns a result slot's header and body. -/
  | resultRead
  /-- `RESULT_RELEASE` (R600). The command frees a complete result slot. -/
  | resultRelease
  /-- `RESULT_LEASE_END` (R601). An unreleased complete result slot is freed when its lease ends. -/
  | resultLeaseEnd (n : Fin 64)
  /-- `BIND_OFF` (R658). The command retires the device from its job, erasing keys and zeroing memory. -/
  | bindOff
  /-- `PERST_N_RISE` (R637). The rising edge of PERST_N with PWR_OK begins cast-on and samples the straps. -/
  | perstNRise (power : Bool) (straps : Straps) (flash0 : Option Flash) (flash1 : Option Flash)
  /-- `PERST_N_ASSERT` (R638). Assertion of PERST_N discards all device state as a power cycle. -/
  | perstNAssert
  /-- `PWR_OK_DEASSERT` (R638). Deassertion of PWR_OK discards all device state as a power cycle. -/
  | pwrOkDeassert
  /-- `CASTON_PHASE_END` (R640). A cast-on phase completes and the next begins. -/
  | castonPhaseEnd (report : PhaseReport)
  /-- `CASTON_PHASE_TIMEOUT` (R641). A cast-on phase passing its maximum is logged FATAL and resets the chip. -/
  | castonPhaseTimeout (unit_ : BitVec 32)
  /-- `AVS_SAMPLE` (R670). Every 16 courses each AVSBus reads voltage and current of its rails. -/
  | avsSample (bus : Fin 2) (rails : List (Option RailReading))
  /-- `ENVELOPE_STEP` (R680). Every 1,024 courses the envelope limit moves one step toward the envelope. -/
  | envelopeStep
  /-- `THERMAL_STEP` (R681). Every 16 courses the thermal limit moves one step from junction and stack temperatures. -/
  | thermalStep
  /-- `SETPOINT_STEP` (R671). Every 1,024 courses a VCORE setpoint moves one step toward its band target. -/
  | setpointStep (p : Fin 4)
  /-- `VR_FAULT` (R673). A rail fault input low for 1 µs fences the partition, stops issue and asserts FAULT_N. -/
  | vrFault (p : Fin 4)
  /-- `JUNCTION_READ` (R683). Each course the junction sensors are read and thermal excursions logged. -/
  | junctionRead (junctions : List (BitVec 16)) (stackTemps : List (BitVec 16))
  /-- `PFC_PAUSE_EXPIRY` (R556). The pause time carried by a received PFC frame runs out and the device resumes starting frames of that priority, clearing its HP_STATUS.PAUSED bit. -/
  | pfcPauseExpiry
  /-- `DAD_PASS` (R713). Duplicate address detection of the global or link-local address ends without a conflict, so the device uses the address or clears DAD_LINK_LOCAL. -/
  | dadPass (linkLocal : Bool)
  /-- `FAULT_N_PULSE` (R687). Every 10 ms during a failed cast-on the device toggles FAULT_N between asserted and released. -/
  | faultNPulse
  /-- `SNAPSHOT_COMPLETE` (R449). The snapshot copy ends with page 0 written, the snapshot status becomes complete, the held update is released and any waiting snapshot begins. -/
  | snapshotComplete
  /-- `BIND_OFF_COMPLETE` (R659). The bind-off finishes zeroing memory and removing the mapping, sets JOB_STATE IDLE and completes its result slot. -/
  | bindOffComplete
  /-- `OVERLAY_STAGE_COMPLETE` (R602). Verification of a staged overlay ends, replacing the staged overlay of its kind and completing the result slot with its configuration tag or a refusal. -/
  | overlayStageComplete (agree : Bool)
  /-- `MANIFEST_WAIT_EXPIRY` (R430). When 65,536 courses pass after a device's skein report without a manifest, the device queries members and partner for the manifest. -/
  | manifestWaitExpiry
  deriving DecidableEq, Repr

end Sys2Proof
end

