-- ==== Sys2Proof/Config.lean ====
section
/-! DEFINITION. What an implementation or a factory fixes, and the values the spec leaves open.

Every constant below is opaque: nothing in Lean can evaluate it, so a statement that holds of the
machine holds for every value of it. The assumption log names each (notes/assumptions). -/

namespace Sys2Proof.Config

/-- The n-th free value of a run: an open value drawn afresh (assumptions 2). DESIGN CHOICE, safe. -/
opaque freeWord : Nat → BitVec 64

/-- SHAKE256 (a named standard, R617): input bytes, output length in bytes. UNVERIFIED, safe. -/
opaque shake256 : List Byte → Nat → List Byte

/-- Ed448 verification with a context string: public key, context, message, signature. -/
opaque ed448Verify : List Byte → List Byte → List Byte → List Byte → Bool

/-- Ed448 signature: private seed, context, message. -/
opaque ed448Sign : List Byte → List Byte → List Byte → List Byte

/-- The Ed448 public key of a private seed. -/
opaque publicKey : List Byte → List Byte

/-- X448: secret scalar, peer share (empty list: the base point); the shared secret. -/
opaque x448 : List Byte → List Byte → List Byte

/-- The bytes that show the values of a comparison in key 16 of a record: each value by its kind and sign, its digits and its
exponent. R487 names the values and gives them no form (assumption 239). -/
opaque comparisonBytes : List (Nat × Nat × Int) → List Byte

/-- The fused device secret (R609). -/
opaque deviceSecret : List Byte

/-- What the factory put into the product certificate and the device identity certificate (R611, R612): the product key, the
name of the product line, the serial numbers of the three certificates and the signatures over the first two, which the
Moraudun root and the product key make. -/
opaque productKey : List Byte

/-- The name of the product line. -/
opaque productName : List Byte

/-- The serial number of certificate 1, 2 or 3. -/
opaque certSerial : Nat → BitVec 64

/-- The signature over certificate 1 or 2. -/
opaque certSignature : Nat → List Byte

/-- The Moraudun root public key in the boot ROM (R612). -/
opaque rootKey : List Byte

/-- The two Moraudun image keys in the boot ROM (R614). -/
opaque imageKey : Fin 2 → List Byte

/-- Whether a fuse revokes an image key (R614). -/
opaque imageKeyRevoked : Fin 2 → Bool

/-- `KIND` of the protection block's entry in the measurement log: the manual gives none (R615, assumption 115). -/
opaque protectionKind : BitVec 8

/-- `SVN` of that entry. -/
opaque protectionSvn : BitVec 32

/-- AES-256-GCM: key, nonce, additional data, plaintext; ciphertext with its tag. -/
opaque gcmSeal : List Byte → List Byte → List Byte → List Byte → List Byte

/-- AES-256-GCM opening: none when the tag is wrong. -/
opaque gcmOpen : List Byte → List Byte → List Byte → List Byte → Option (List Byte)

/-- AES-256-XTS of one data unit (R258): key, tweak, data. -/
opaque xtsSeal : List Byte → Nat → List Byte → List Byte

/-- The inverse of `xtsSeal`. -/
opaque xtsOpen : List Byte → Nat → List Byte → List Byte

/-- The fused MAC address (R558, R578). -/
opaque fusedMac : BitVec 48

/-- The fused voltage table of partition p (R721), resv bits included. -/
opaque fusedVTable : Nat → BitVec 64

/-- The fused anti-rollback floors at the factory (R628). -/
opaque fusedFloor : BitVec 64

/-- The control firmware version of the base image (R479). -/
opaque firmwareVersion : BitVec 32

/-- Which of the neighbours within 1 ulp `V.RSQ` returns (R152): operand code, precision. -/
opaque rsqPick : Nat → Nat → Fin 3

/-- Checking level that a mode overlay's payload sets: the manual gives headers, not payloads (assumption 114). -/
opaque overlayLevel : List Byte → Fin 5

/-- Whether its payload selects compatibility accumulation. -/
opaque overlayCompat : List Byte → Bool

/-- Default outlier capacity of its payload. -/
opaque overlayCap : List Byte → BitVec 8

/-- Lifeline cadence of its payload. -/
opaque overlayCadence : List Byte → BitVec 16

/-- Smallest k of a lifeline group of its payload, less 8. -/
opaque overlayGroupK : List Byte → Fin 7

/-- Power envelope of a site overlay's payload: 0 E45, 1 E54, 2 E60. -/
opaque siteEnvelope : List Byte → Fin 3

/-- `TB_CONFIG.CAPABLE` of a site overlay's payload. -/
opaque siteCapable : List Byte → Bool

/-- The speed of the DDR5 channels, which the site overlay sets (R246): 0 DDR5-6400, 1 -7200, 2 -8000, 3 -8800; without a
site overlay the manual gives none. -/
opaque ddrSpeed : Option (List Byte) → Fin 4

/-- The global IPv6 address of a site overlay's payload, if it sets one. -/
opaque siteIpv6 : List Byte → Option (BitVec 128)

/-- The IPv4 address of a site overlay's payload, if it sets one. -/
opaque siteIpv4 : List Byte → Option (BitVec 32)

/-- A byte that an engine of the device reads at an address which its region's use does not admit: nothing is read there
(R232, R265, assumption 219). -/
opaque unreadByte : Nat → Byte

/-- The token that an applied update raises: the manual names none (R26, assumption 93). -/
opaque updateToken : Fin 64

/-- The start token of R351, raised on the cores of a context that a step starts: the manual numbers none (assumption 98). -/
opaque startToken : Fin 64

end Sys2Proof.Config
end

