-- ==== Sys2Proof/Machine/Bits.lean ====
section
/-! DEFINITION. Bit fields, byte order and sign extension (R8, R9). -/

namespace Sys2Proof

/-- Bits [hi:lo] of a word, as a number (R8). -/
def bitsOf {n : Nat} (w : BitVec n) (hi lo : Nat) : Nat := (w.toNat >>> lo) % 2 ^ (hi + 1 - lo)

/-- One bit of a word. -/
def bitOf {n : Nat} (w : BitVec n) (i : Nat) : Bool := w.getLsbD i

/-- The mask of a bit field within a 64-bit word. -/
def BitField.mask (f : BitField) : Word := BitVec.ofNat 64 ((2 ^ (f.hi + 1 - f.lo) - 1) <<< f.lo)

/-- Reads a field of a register word. -/
def BitField.get (f : BitField) (w : Word) : Nat := bitsOf w f.hi f.lo

/-- Writes a field of a register word; the other bits keep their values. -/
def BitField.put (f : BitField) (w : Word) (v : Nat) : Word :=
  (w &&& ~~~f.mask) ||| (BitVec.ofNat 64 (v <<< f.lo) &&& f.mask)

/-- The number that little-endian bytes spell (R9). -/
def leNat : List Byte → Nat
  | [] => 0
  | b :: bs => b.toNat + 256 * leNat bs

/-- The number that big-endian bytes spell (R9: FCP and Parium headers). -/
def beNat (bs : List Byte) : Nat := leNat bs.reverse

/-- `n` little-endian bytes of a number. -/
def leBytes : Nat → Nat → List Byte
  | 0, _ => []
  | n + 1, v => BitVec.ofNat 8 v :: leBytes n (v / 256)

/-- `n` big-endian bytes of a number. -/
def beBytes (n v : Nat) : List Byte := (leBytes n v).reverse

/-- Bytewise exclusive or. -/
def xorBytes (a b : List Byte) : List Byte := List.zipWith (· ^^^ ·) a b

/-- `n` zero bytes. -/
def zeroBytes (n : Nat) : List Byte := List.replicate n 0

/-- A two's complement number of width `w` read as an integer. -/
def signedOf (w v : Nat) : Int := if v % 2 ^ w < 2 ^ (w - 1) then (v % 2 ^ w : Nat) else (v % 2 ^ w : Nat) - (2 ^ w : Nat)

/-- An integer stored in `w` bits, two's complement. -/
def unsignedOf (w : Nat) (i : Int) : Nat := (i % (2 ^ w : Nat)).toNat

/-- A Boolean as a bit. -/
def bit (b : Bool) : Nat := if b then 1 else 0

/-- The courses from `then_` to `now`, modulo 2⁴⁸ (R6, R544). -/
def coursesSince (now then_ : Course) : Nat := (now - then_).toNat

/-- `now` has reached `t`: it lies in the half of the 48-bit circle after `t` (R544). -/
def reached (now t : Course) : Bool := (now - t).toNat < 2 ^ 47

end Sys2Proof
end

