-- ==== Sys2Proof/Machine/Keys.lean ====
section
/-! DEFINITION. The root of trust's primitives: the digest, key derivation and text constants (R609,
R610). The named standards SHAKE256, Ed448, X448, AES-GCM and AES-XTS are constants of `Config`. -/

namespace Sys2Proof.Machine

/-- ASCII bytes of a text. -/
def ascii (t : String) : List Byte := t.toList.map (fun c => BitVec.ofNat 8 c.toNat)

/-- Cuts or pads a byte string with zeros to `n` bytes. -/
def fitTo (n : Nat) (bs : List Byte) : List Byte := (bs ++ zeroBytes n).take n

/-- SHAKE256 with `n` bytes of output. -/
def shake (n : Nat) (m : List Byte) : List Byte := fitTo n (Config.shake256 m n)

/-- The first 64 bits of a SHAKE256 digest, as stored little-endian (R77, R385, R415). -/
def check64 (m : List Byte) : List Byte := shake 8 m

/-- `derive` of R609. -/
def derive (secret : List Byte) (label : String) (n : Nat) (context : List Byte) : List Byte :=
  let l := ascii label
  shake n (ascii "MDN-SV1 KDF" ++ [BitVec.ofNat 8 l.length] ++ l ++ beBytes 4 context.length ++ context ++ secret)

/-- The XTS key that a job key gives (R609). -/
def jobXtsKey (job : List Byte) : List Byte := derive job "XTS" 64 []

/-- The private seed of the device identity key (R609). -/
def identitySeed : List Byte := derive Config.deviceSecret "IDENTITY" 57 []

/-- The identity public key. -/
def identityKey : List Byte := Config.publicKey identitySeed

/-- A secret drawn by the root of trust at draw number `h`, of `n` bytes (R608, assumption 2). -/
def drawnSecret (h n : Nat) : List Byte :=
  (List.range n).map (fun i => BitVec.ofNat 8 ((Config.freeWord (h + i / 8)).toNat / 256 ^ (i % 8)))

/-- The first 16 bytes of a key's SHAKE256 digest (R612, R613). -/
def keyDigest (key : List Byte) : List Byte := shake 16 key

/-! ### CBOR (RFC 8949, R611, R617) -/

/-- The head of a data item in the deterministic encoding. -/
def cborHead (major n : Nat) : List Byte :=
  if n < 24 then [BitVec.ofNat 8 (major * 32 + n)]
  else if n < 2 ^ 8 then BitVec.ofNat 8 (major * 32 + 24) :: beBytes 1 n
  else if n < 2 ^ 16 then BitVec.ofNat 8 (major * 32 + 25) :: beBytes 2 n
  else if n < 2 ^ 32 then BitVec.ofNat 8 (major * 32 + 26) :: beBytes 4 n
  else BitVec.ofNat 8 (major * 32 + 27) :: beBytes 8 n

/-- An unsigned integer. -/
def cborUint (n : Nat) : List Byte := cborHead 0 n
/-- A byte string. -/
def cborBytes (bs : List Byte) : List Byte := cborHead 2 bs.length ++ bs
/-- A text string. -/
def cborText (bs : List Byte) : List Byte := cborHead 3 bs.length ++ bs
/-- An array of encoded items. -/
def cborArray (xs : List (List Byte)) : List Byte := cborHead 4 xs.length ++ xs.flatten
/-- A map from 1 upward to encoded items, in their order. -/
def cborMap (xs : List (List Byte)) : List Byte :=
  cborHead 5 xs.length ++ (xs.zipIdx.map (fun p => cborUint (p.2 + 1) ++ p.1)).flatten

/-- The head of a data item off a byte string, in the deterministic encoding alone: its major type, its argument and the rest. -/
def cborRead : List Byte → Option (Nat × Nat × List Byte)
  | [] => none
  | b :: rest =>
    let a := b.toNat % 32
    if a < 24 then some (b.toNat / 32, a, rest)
    else if 27 < a then none
    else
      let k := 2 ^ (a - 24)
      let n := beNat (rest.take k)
      let least := if a = 24 then 24 else 256 ^ (k / 2)
      if rest.length < k ∨ n < least then none else some (b.toNat / 32, n, rest.drop k)

/-- A head of a given major type: its argument and the rest. -/
def cborOf (major : Nat) (bs : List Byte) : Option (Nat × List Byte) :=
  match cborRead bs with
  | some (m, n, rest) => if m = major then some (n, rest) else none
  | none => none

/-- A string of a given major type: its bytes and the rest. -/
def cborString (major : Nat) (bs : List Byte) : Option (List Byte × List Byte) :=
  match cborOf major bs with
  | some (n, rest) => if n ≤ rest.length then some (rest.take n, rest.drop n) else none
  | none => none

/-- A head with a given argument: the rest. -/
def cborExpect (major n : Nat) (bs : List Byte) : Option (List Byte) :=
  match cborOf major bs with
  | some (m, rest) => if m = n then some rest else none
  | none => none

/-! ### Certificates (R611, R612) -/

/-- "MDN-SV1 A1", the name in certificates of roles 2 and 3. -/
def partName : List Byte := ascii "MDN-SV1 A1"

/-- A certificate payload. -/
def certPayload (role : Nat) (key issuer name : List Byte) : List Byte :=
  cborMap [cborUint 1, cborBytes (fitTo 57 key), cborBytes (keyDigest issuer), cborUint role, cborText name,
    cborUint (Config.certSerial role).toNat]

/-- A certificate: its payload and the signature over it. -/
def certificate (payload sig : List Byte) : List Byte := cborArray [cborBytes payload, cborBytes (fitTo 114 sig)]

/-- The private seed of the fault record key (R609). -/
def faultSeed : List Byte := derive Config.deviceSecret "FSR" 57 []

/-- The device's chain: the product certificate, the device identity certificate, and that of the fault record key, which the
identity key signs. -/
def deviceChain : List Byte :=
  let fault := certPayload 3 (Config.publicKey faultSeed) identityKey partName
  cborArray [
    certificate (certPayload 1 Config.productKey Config.rootKey Config.productName) (Config.certSignature 1),
    certificate (certPayload 2 identityKey Config.productKey partName) (Config.certSignature 2),
    certificate fault (Config.ed448Sign identitySeed (ascii "MDN-SV1 CERT") fault)]

/-- Splits a certificate off a byte string: payload, signature, rest. -/
def certSplit (bs : List Byte) : Option (List Byte × List Byte × List Byte) :=
  ((cborExpect 4 2 bs).bind (cborString 2)).bind (fun p => (cborString 2 p.2).bind (fun q =>
    if q.1.length = 114 then some (p.1, q.1, q.2) else none))

/-- The fields of a certificate payload: subject, digest of the issuer, role and name. -/
def certFields (bs : List Byte) : Option (List Byte × List Byte × Nat × List Byte) :=
  let key (k : Nat) (rest : List Byte) := cborExpect 0 k rest
  ((((cborExpect 5 6 bs).bind (key 1)).bind (cborExpect 0 1)).bind (key 2)).bind (fun r2 => (cborString 2 r2).bind (fun subject =>
    ((key 3 subject.2).bind (cborString 2)).bind (fun issuer => ((key 4 issuer.2).bind (cborOf 0)).bind (fun role =>
      ((key 5 role.2).bind (cborString 3)).bind (fun name => ((key 6 name.2).bind (cborOf 0)).bind (fun serial =>
        if serial.2 = [] then some (subject.1, issuer.1, role.1, name.1) else none))))))

/-- The subject key of a certificate of a role whose issuer has a key, signed by that key. -/
def certKey (role : Nat) (issuer payload sig : List Byte) : Option (List Byte) :=
  match certFields payload with
  | none => none
  | some (subject, digest, r, name) =>
    if subject.length = 57 ∧ digest = keyDigest issuer ∧ r = role ∧ (role = 1 ∨ name = partName) ∧
        Config.ed448Verify issuer (ascii "MDN-SV1 CERT") payload sig = true then some subject
    else none

/-- The identity key of a chain that verifies to the Moraudun root. -/
def chainKey (bs : List Byte) : Option (List Byte) :=
  match (cborExpect 4 3 bs).bind certSplit with
  | none => none
  | some (p1, s1, r1) =>
    match certKey 1 Config.rootKey p1 s1, certSplit r1 with
    | some k1, some (p2, s2, r2) =>
      match certKey 2 k1 p2 s2, certSplit r2 with
      | some k2, some (p3, s3, []) => if (certKey 3 k2 p3 s3).isSome then some k2 else none
      | _, _ => none
    | _, _ => none

end Sys2Proof.Machine
end

