-- ==== Sys2Proof/Machine/Numbers.lean ====
section
/-! DEFINITION. Number formats, exact arithmetic and the device's one rounding (04_number_formats.md).

A value is exact: a NaN, a signed infinity, or (−1)^neg × m × 2^e with its own sign, so that zeros
keep theirs. Every operation is exact; `roundTo` is the only rounding (R140–R142). -/

namespace Sys2Proof.Machine

/-- The formats of R46 and the internal W36. -/
inductive Fmt
  | t4 | i4 | t8 | t8w | b16 | f32 | w36
  deriving DecidableEq, Repr

/-- The format a code of R46 names; the other codes are reserved. -/
def Fmt.ofCode : Nat → Option Fmt
  | 0 => some .t4
  | 1 => some .i4
  | 2 => some .t8
  | 3 => some .t8w
  | 4 => some .b16
  | 5 => some .f32
  | _ => none

/-- Bytes of one element of a byte-wide or wider format. -/
def Fmt.bytes : Fmt → Nat
  | .b16 => 2
  | .f32 => 4
  | .w36 => 8
  | _ => 1

/-- Significand width of a wide format (R132). -/
def Fmt.precision : Fmt → Nat
  | .b16 => 8
  | .f32 => 24
  | _ => 28

/-- An exact value. -/
inductive Num
  | nan
  | inf (neg : Bool)
  | fin (neg : Bool) (m : Nat) (e : Int)
  deriving DecidableEq, Repr

/-- A number's kind and sign, digits and exponent: 4 a NaN, 2 and 3 an infinity, 0 and 1 a finite number. -/
def Num.parts : Num → Nat × Nat × Int
  | .nan => (4, 0, 0)
  | .inf neg => (if neg then 3 else 2, 0, 0)
  | .fin neg m e => (if neg then 1 else 0, m, e)

/-- +0. -/
def Num.zero : Num := .fin false 0 0

/-- 1.0. -/
def Num.one : Num := .fin false 1 0

/-- Bits needed to write `m`. -/
def sizeOf' (m : Nat) : Nat := if m = 0 then 0 else m.log2 + 1

/-- Shifts left by an integer that is not negative. -/
def shl (m : Nat) (k : Int) : Nat := m * 2 ^ k.toNat

/-- Whether a value is neither NaN nor infinite. -/
def Num.isFinite : Num → Bool
  | .fin _ _ _ => true
  | _ => false

/-- Whether a value is a zero of either sign. -/
def Num.isZero : Num → Bool
  | .fin _ 0 _ => true
  | _ => false

/-- The magnitude. -/
def Num.abs : Num → Num
  | .nan => .nan
  | .inf _ => .inf false
  | .fin _ m e => .fin false m e

/-- The negative. -/
def Num.neg : Num → Num
  | .nan => .nan
  | .inf n => .inf (!n)
  | .fin n m e => .fin (!n) m e

/-- The exact product; ∞ × 0 is NaN (R107). -/
def Num.mul : Num → Num → Num
  | .nan, _ => .nan
  | _, .nan => .nan
  | .inf a, .inf b => .inf (a ^^ b)
  | .inf a, .fin b m _ => if m = 0 then .nan else .inf (a ^^ b)
  | .fin a m _, .inf b => if m = 0 then .nan else .inf (a ^^ b)
  | .fin a m e, .fin b m' e' => .fin (a ^^ b) (m * m') (e + e')

/-- The signed integer a finite value is, in units of 2^u, for u at most its exponent. -/
def signedUnits (neg : Bool) (m : Nat) (e u : Int) : Int :=
  if neg then -(shl m (e - u) : Nat) else (shl m (e - u) : Nat)

/-- The exact sum; signs of zero as R143 states, ∞ − ∞ is NaN. -/
def Num.add : Num → Num → Num
  | .nan, _ => .nan
  | _, .nan => .nan
  | .inf a, .inf b => if a = b then .inf a else .nan
  | .inf a, .fin _ _ _ => .inf a
  | .fin _ _ _, .inf b => .inf b
  | .fin a m e, .fin b m' e' =>
    let u := min e e'
    let t := signedUnits a m e u + signedUnits b m' e' u
    if t = 0 then .fin (a && b) 0 0 else .fin (decide (t < 0)) t.natAbs u

/-- Compares two finite magnitudes. -/
def magLt (m : Nat) (e : Int) (m' : Nat) (e' : Int) : Bool :=
  let u := min e e'
  decide (shl m (e - u) < shl m' (e' - u))

/-- Strict order of two values that are not NaN, −0 below +0 (R151). -/
def Num.lt : Num → Num → Bool
  | .nan, _ => false
  | _, .nan => false
  | .inf a, .inf b => a && !b
  | .inf a, .fin _ _ _ => a
  | .fin _ _ _, .inf b => !b
  | .fin a m e, .fin b m' e' =>
    if a && !b then true
    else if !a && b then false
    else if a then magLt m' e' m e
    else magLt m e m' e'

/-- |a| < |b| for finite values. -/
def Num.absLt (a b : Num) : Bool := Num.lt a.abs b.abs

/-- Rounds m × 2^e to `p` significant bits, nearest even, exponent unbounded (R140). -/
def roundSig (p m : Nat) (e : Int) : Nat × Int :=
  let s := sizeOf' m - p
  if s = 0 then (m, e)
  else
    let q := m / 2 ^ s
    let r := m % 2 ^ s
    let up := decide (2 ^ (s - 1) < r) || (decide (r = 2 ^ (s - 1)) && decide (q % 2 = 1))
    (if up then q + 1 else q, e + s)

/-- One rounding to a wide format of `p` bits: nearest even, results below 2^−126 to a signed zero,
results beyond the largest finite value to an infinity (R140–R142). -/
def roundTo (p : Nat) : Num → Num
  | .nan => .nan
  | .inf n => .inf n
  | .fin n m e =>
    let (q, f) := roundSig p m e
    let top : Int := sizeOf' q + f - 1
    if q = 0 then .fin n 0 0
    else if top < -126 then .fin n 0 0
    else if 128 ≤ top then .inf n
    else .fin n q f

/-- The code of a rounded value in a wide format of `p` bits; the NaN is the canonical one (R132). -/
def encodeWide (p : Nat) : Num → Nat
  | .nan => 255 * 2 ^ (p - 1) + 2 ^ (p - 2)
  | .inf n => bit n * 2 ^ (p + 7) + 255 * 2 ^ (p - 1)
  | .fin n m e =>
    if m = 0 then bit n * 2 ^ (p + 7)
    else
      let z := sizeOf' m
      let frac := m * 2 ^ (p - z) % 2 ^ (p - 1)
      let ex : Int := z - 1 + e + 127
      bit n * 2 ^ (p + 7) + ex.toNat * 2 ^ (p - 1) + frac

/-- The value of a wide code of `p` bits (R131, R132); W36 has no subnormals (R133). -/
def decodeWide (p code : Nat) : Num :=
  let n := decide (code / 2 ^ (p + 7) % 2 = 1)
  let ex := code / 2 ^ (p - 1) % 256
  let frac := code % 2 ^ (p - 1)
  if ex = 255 then (if frac = 0 then .inf n else .nan)
  else if ex = 0 then (if p = 28 then .fin n 0 0 else .fin n frac (-126 - (p - 1 : Nat)))
  else .fin n (2 ^ (p - 1) + frac) ((ex : Int) - 127 - (p - 1 : Nat))

/-- Exponent and fraction widths and the bias of a narrow format (R131). -/
def Fmt.narrow : Fmt → Nat × Nat × Nat
  | .t4 => (2, 1, 1)
  | .t8w => (5, 2, 15)
  | _ => (4, 3, 7)

/-- The value of a narrow code: sign, integer significand and exponent (R94, R131). -/
def decodeNarrow (f : Fmt) (code : Nat) : Num :=
  let (eb, mb, bias) := f.narrow
  let n := decide (code / 2 ^ (eb + mb) % 2 = 1)
  let ex := code / 2 ^ mb % 2 ^ eb
  let frac := code % 2 ^ mb
  if f = .t8 ∧ ex = 15 ∧ frac = 7 then .nan
  else if f = .t8w ∧ ex = 31 then (if frac = 0 then .inf n else .nan)
  else if ex = 0 then .fin n frac (1 - (bias : Int) - mb)
  else .fin n (2 ^ mb + frac) ((ex : Int) - bias - mb)

/-- The value of an element of any stored format (R131, R135). -/
def Fmt.decode : Fmt → Nat → Num
  | .t4, c => decodeNarrow .t4 (c % 16)
  | .i4, c => let i := signedOf 4 c; .fin (decide (i < 0)) i.natAbs 0
  | .t8, c => decodeNarrow .t8 (c % 256)
  | .t8w, c => decodeNarrow .t8w (c % 256)
  | .b16, c => decodeWide 8 (c % 2 ^ 16)
  | .f32, c => decodeWide 24 (c % 2 ^ 32)
  | .w36, c => decodeWide 28 (c % 2 ^ 36)

/-- Rounds to a wide format and encodes (R148). -/
def Fmt.encode (f : Fmt) (x : Num) : Nat := encodeWide f.precision (roundTo f.precision x)

/-- rne_w36: one rounding to W36 (R99). -/
def rneW36 (x : Num) : Num := roundTo 28 x

/-- The largest code magnitude of a narrow format that is finite (R132). -/
def Fmt.maxCode : Fmt → Nat
  | .t4 => 0b0111
  | .t8w => 0x7b
  | _ => 0x7e

/-- The largest finite value of a narrow format: 6, 448 or 57,344 (R132). -/
def Fmt.maxFinite : Fmt → Nat
  | .t4 => 6
  | .t8w => 57344
  | _ => 448

/-- The sign bit of a narrow format. -/
def Fmt.signCode : Fmt → Nat
  | .t4 => 8
  | _ => 128

/-- What one element's conversion gives: the code, whether it saturated, and whether it is counted
as non-finite. -/
structure Converted where
  code : Nat
  saturated : Bool
  nonFinite : Bool
  deriving DecidableEq, Repr

/-- A non-finite value in a narrow format (R146). -/
def narrowNonFinite (f : Fmt) : Num → Nat
  | .inf n => match f with
    | .t4 => if n then 0b1111 else 0b0111
    | .t8w => if n then 0xfc else 0x7c
    | _ => 0x7f
  | _ => match f with
    | .t4 => 0
    | .t8w => 0x7e
    | _ => 0x7f

/-- The code whose value is nearest |v| / |s|, ties to the even code: the number of steps c to c + 1
whose midpoint lies below the quotient, or at it from an odd code (R144). -/
def nearestCode (f : Fmt) (v s : Num) : Nat :=
  (List.range f.maxCode).countP (fun c =>
    let mid := Num.mul (Num.add (decodeNarrow f c) (decodeNarrow f (c + 1))) (Num.mul s.abs (.fin false 1 (-1)))
    Num.lt mid v.abs || (decide (c % 2 = 1) && !Num.lt v.abs mid))

/-- Conversion of `v` to a narrow format with scale `s`, saturating (R144–R146). -/
def convertNarrow (f : Fmt) (v s : Num) : Converted :=
  match v, s with
  | .nan, _ => ⟨narrowNonFinite f .nan, false, true⟩
  | .inf n, _ => ⟨narrowNonFinite f (.inf n), false, true⟩
  | .fin _ _ _, .nan => ⟨narrowNonFinite f .nan, false, true⟩
  | .fin n _ _, .inf k => ⟨if n ^^ k then f.signCode else 0, false, false⟩
  | .fin n m e, .fin k m' e' =>
    if m' = 0 then
      (if m = 0 then ⟨narrowNonFinite f .nan, false, true⟩ else ⟨narrowNonFinite f (.inf (n ^^ k)), false, true⟩)
    else
      let limit := Num.mul (.fin false f.maxFinite 0) (.fin false m' e')
      let sgn := if n ^^ k then f.signCode else 0
      if Num.lt limit (.fin false m e) then ⟨sgn + f.maxCode, true, false⟩
      else ⟨sgn + nearestCode f (.fin n m e) (.fin k m' e'), false, false⟩

/-- m × 2^e ÷ d rounded toward +∞ to a B16 code, never below 2^−126 (R137, R175); above
the largest finite B16 value it is +∞ (R142). -/
def ceilB16 (m : Nat) (e : Int) (d : Nat) : Nat :=
  if m = 0 then 0
  else
    let k := 16 + sizeOf' d
    let q := m * 2 ^ k / d
    let s := sizeOf' q - 8
    let top := q / 2 ^ s
    let inexact := decide (q % 2 ^ s ≠ 0) || decide (m * 2 ^ k % d ≠ 0)
    let c := if inexact then top + 1 else top
    let f : Int := e - k + s
    let lead : Int := sizeOf' c - 1 + f
    if lead < -126 then 0x0080
    else if 128 ≤ lead then 0x7f80
    else encodeWide 8 (roundTo 8 (.fin false c f))

/-- The scale the device chooses for a largest magnitude `x` and format `f` (R137). -/
def chooseScale (f : Fmt) : Num → Nat
  | .fin _ m e => if m = 0 then 0x3f80 else ceilB16 m e f.maxFinite
  | _ => 0x3f80

/-- A magnitude rounded toward +∞ to B16 (R175). -/
def maxToB16 : Num → Nat
  | .fin _ m e => ceilB16 m e 1
  | _ => 0

/-- The larger of two magnitudes, leaving NaN and infinities out (R137, R156). -/
def maxFiniteMag (a x : Num) : Num :=
  match x with
  | .fin _ m e => if Num.lt a (.fin false m e) then .fin false m e else a
  | _ => a

/-- The largest finite magnitude of a list, +0 of an empty one (R156). -/
def maxMagOf (xs : List Num) : Num := xs.foldl maxFiniteMag Num.zero

/-- Maximum or minimum under R151: NaN if either is NaN, −0 below +0; with `mag`, the larger or
smaller magnitude. -/
def pick (isMax mag : Bool) (a b : Num) : Num :=
  if a = .nan ∨ b = .nan then .nan
  else
    let x := if mag then a.abs else a
    let y := if mag then b.abs else b
    if isMax then (if Num.lt x y then y else x) else (if Num.lt y x then y else x)

/-- ⌊√n⌋ by `fuel` bits from the top. -/
def isqrtFrom (n : Nat) : Nat → Nat → Nat
  | 0, r => r
  | k + 1, r => let t := r + 2 ^ k; isqrtFrom n k (if t * t ≤ n then t else r)

/-- ⌊√n⌋. -/
def isqrt (n : Nat) : Nat := isqrtFrom n (sizeOf' n / 2 + 1) 0

/-- 1/√x to `p` bits, within 1 ulp of the exact value; which neighbour is the device's (R152). -/
def rsqrt (p : Nat) : Num → Num
  | .nan => .nan
  | .inf n => if n then .nan else .fin false 0 0
  | .fin n m e =>
    if m = 0 then .inf n
    else if n then .nan
    else
      let m2 := if e % 2 = 0 then m else 2 * m
      let e2 : Int := if e % 2 = 0 then e else e - 1
      let w := sizeOf' m2 + p + 8
      let q := isqrt (2 ^ (2 * w) / m2)
      let s := sizeOf' q - p
      let f := q / 2 ^ s
      let exact := decide (f * 2 ^ s * (f * 2 ^ s) * m2 = 2 ^ (2 * w))
      let base : Int := s - w - e2 / 2
      match Config.rsqPick (encodeWide p (.fin false m e)) p with
      | 0 => if exact then .fin false (2 * f - 1) (base - 1) else .fin false f base
      | 1 => .fin false f base
      | _ => .fin false (f + 1) base

end Sys2Proof.Machine
end

