-- ==== Sys2Proof/Machine/Maps.lean ====
section
/-! DEFINITION. Reading and writing a sparse table, in one canonical form.

`SMap.get d m k` reads key `k`, `d` where the table lists nothing; `SMap.set d m k v` writes it and
keeps the keys strictly rising and the default unlisted. Memory, registers, cores, tokens and every
other numbered thing of the machine are held this way, so equal contents are equal data. -/

namespace Sys2Proof

/-- The value at key `k`, or `d` where the table lists nothing. -/
def SMap.get {α : Type} (d : α) : SMap α → Nat → α
  | [], _ => d
  | (k', v) :: m, k => if k = k' then v else SMap.get d m k

/-- The table without key `k`. -/
def SMap.erase {α : Type} (m : SMap α) (k : Nat) : SMap α := m.filter (fun p => p.1 ≠ k)

/-- Places a pair before the first larger key. -/
def SMap.place {α : Type} : SMap α → Nat → α → SMap α
  | [], k, v => [(k, v)]
  | (k', v') :: m, k, v => if k < k' then (k, v) :: (k', v') :: m else (k', v') :: SMap.place m k v

/-- Writes key `k`; writing the default removes the entry. -/
def SMap.set {α : Type} [DecidableEq α] (d : α) (m : SMap α) (k : Nat) (v : α) : SMap α :=
  if v = d then SMap.erase m k else SMap.place (SMap.erase m k) k v

/-- Applies `f` to the value at key `k`. -/
def SMap.update {α : Type} [DecidableEq α] (d : α) (m : SMap α) (k : Nat) (f : α → α) : SMap α :=
  SMap.set d m k (f (SMap.get d m k))

/-- The canonical form: keys strictly rising and no listed value equal to the default. -/
def SMap.wf {α : Type} [DecidableEq α] (d : α) (m : SMap α) : Bool :=
  decide (m.Pairwise (fun a b => a.1 < b.1)) && m.all (fun p => decide (p.2 ≠ d))

/-- Writes the values of a list from key `k` upward. -/
def SMap.setList {α : Type} [DecidableEq α] (d : α) (m : SMap α) (k : Nat) : List α → SMap α
  | [] => m
  | v :: vs => SMap.setList d (SMap.set d m k v) (k + 1) vs

/-- The table that holds a list's values from key 0 upward, and nothing else. -/
def SMap.ofList {α : Type} [DecidableEq α] (d : α) (vs : List α) : SMap α :=
  (vs.zipIdx.filter (fun p => decide (p.1 ≠ d))).map (fun p => (p.2, p.1))

/-- The `n` values from key `k` upward. -/
def SMap.getList {α : Type} (d : α) (m : SMap α) (k n : Nat) : List α :=
  (List.range n).map (fun i => SMap.get d m (k + i))

/-- A set of numbers held as a table of flags. -/
abbrev NatSet := SMap Bool

/-- Membership in a set of numbers. -/
def NatSet.has (m : NatSet) (k : Nat) : Bool := SMap.get false m k

/-- Adds or removes a number. -/
def NatSet.put (m : NatSet) (k : Nat) (b : Bool) : NatSet := SMap.set false m k b

end Sys2Proof
end

