-- ==== Sys2Proof/Machine/Registers.lean ====
section
/-! DEFINITION. The control-space register map (21_register_map.md).

A register is named by its offset in the 4 GiB control space: block × 0x0100_0000 + region base +
offset (R697). The functions of `Reg` give the offset of every register that holds a stored word;
`table` lists them with the masks of their implemented, writable and write-1-to-clear bits, taken
from the field tables of the chapters. The windows of R716, the status page, the token window and
`TB_COURSE` are computed views and stand in `Machine/Views.lean`. -/

namespace Sys2Proof.Machine.Reg

/-- `MA_STREAM_CYCLES` (R701, core). -/
def maStreamCycles (c : Nat) : Nat := 0x1200800 + c * 0x1000
/-- `MA_TENSION_CYCLES` (R701, core). -/
def maTensionCycles (c : Nat) : Nat := 0x1200808 + c * 0x1000
/-- `MA_PACED_CYCLES` (R701, core). -/
def maPacedCycles (c : Nat) : Nat := 0x1200810 + c * 0x1000
/-- `CS_CORRECTED` (R701, core). -/
def csCorrected (c : Nat) : Nat := 0x3200800 + c * 0x1000
/-- `GU_RECORDS` (R710, context). -/
def guRecords (x : Nat) : Nat := 0x4010000 + x * 0x1000
/-- `GU_STEP` (R710, context). -/
def guStep (x : Nat) : Nat := 0x4010008 + x * 0x1000
/-- `GU_LOSS_SCALE` (R181, context). -/
def guLossScale (x : Nat) : Nat := 0x4010010 + x * 0x1000
/-- `GU_SATURATIONS` (R701, partition). -/
def guSaturations (p : Nat) : Nat := 0x4001800 + p * 0x1000
/-- `CP_SPECS` (R192, context). -/
def cpSpecs (x : Nat) : Nat := 0x5010000 + x * 0x1000
/-- `CP_LAYERS` (R206, context). -/
def cpLayers (x : Nat) : Nat := 0x5010008 + x * 0x1000
/-- `CP_PIN_EVENTS` (R701, context). -/
def cpPinEvents (x : Nat) : Nat := 0x5010800 + x * 0x1000
/-- `CP_FB_SATURATIONS` (R701, partition). -/
def cpFbSaturations (p : Nat) : Nat := 0x5001800 + p * 0x1000
/-- `CP_FALLBACK_TILES` (R701, core). -/
def cpFallbackTiles (c : Nat) : Nat := 0x5200800 + c * 0x1000
/-- `CP_VALUES` (R701, core). -/
def cpValues (c : Nat) : Nat := 0x5200808 + c * 0x1000
/-- `CP_BACKLOG_CYCLES` (R701, core). -/
def cpBacklogCycles (c : Nat) : Nat := 0x5200810 + c * 0x1000
/-- `LRC_BACKLOG_CYCLES` (R701, core). -/
def lrcBacklogCycles (c : Nat) : Nat := 0x6200800 + c * 0x1000
/-- `SCRUB_HOURS` (R711, device). -/
def scrubHours : Nat := 0x7000000
/-- `POISON_COPIED` (R701, partition). -/
def poisonCopied (p : Nat) : Nat := 0x7001800 + p * 0x1000
/-- `SCRUB_PASSES` (R701, partition). -/
def scrubPasses (p : Nat) : Nat := 0x7001808 + p * 0x1000
/-- `HBM_CORRECTED` (R701, unit). -/
def hbmCorrected (n : Nat) : Nat := 0x7020800 + n * 0x1000
/-- `HBM_UNCORRECTED` (R701, unit). -/
def hbmUncorrected (n : Nat) : Nat := 0x7020808 + n * 0x1000
/-- `DT_REGION_A` (R262, device). -/
def dtRegionA (n : Nat) : Nat := 0x8000000 + n * 24
/-- `DT_REGION_B` (R262, device). -/
def dtRegionB (n : Nat) : Nat := 0x8000008 + n * 24
/-- `DT_REGION_C` (R262, device). -/
def dtRegionC (n : Nat) : Nat := 0x8000010 + n * 24
/-- `DT_REGION_REFUSED` (R701, device). -/
def dtRegionRefused : Nat := 0x8000800
/-- `DT_REMOTE_REFUSED` (R701, device). -/
def dtRemoteRefused : Nat := 0x8000808
/-- `DT_POP` (R711, partition). -/
def dtPop (p : Nat) : Nat := 0x8001000 + p * 0x1000
/-- `DT_CORRECTED` (R701, unit). -/
def dtCorrected (n : Nat) : Nat := 0x8020800 + n * 0x1000
/-- `DT_UNCORRECTED` (R701, unit). -/
def dtUncorrected (n : Nat) : Nat := 0x8020808 + n * 0x1000
/-- `PP_STATUS` (R312, unit). -/
def ppStatus (n : Nat) : Nat := 0x9020000 + n * 0x1000
/-- `PP_FEC_CORRECTED` (R701, unit). -/
def ppFecCorrected (n : Nat) : Nat := 0x9020800 + n * 0x1000
/-- `PP_FEC_UNCORRECTED` (R701, unit). -/
def ppFecUncorrected (n : Nat) : Nat := 0x9020808 + n * 0x1000
/-- `PP_CRC_ERRORS` (R701, unit). -/
def ppCrcErrors (n : Nat) : Nat := 0x9020810 + n * 0x1000
/-- `PP_REPLAYS` (R701, unit). -/
def ppReplays (n : Nat) : Nat := 0x9020818 + n * 0x1000
/-- `PP_RETRAINS` (R701, unit). -/
def ppRetrains (n : Nat) : Nat := 0x9020820 + n * 0x1000
/-- `PP_AUTH_FAIL` (R701, unit). -/
def ppAuthFail (n : Nat) : Nat := 0x9020828 + n * 0x1000
/-- `PP_STOMPED` (R701, unit). -/
def ppStomped (n : Nat) : Nat := 0x9020830 + n * 0x1000
/-- `PR_TORUS` (R295, device). -/
def prTorus : Nat := 0xa000000
/-- `PR_ROUTE` (R298, device). -/
def prRoute : Nat := 0xa000008
/-- `PR_ALIAS` (R296, device). -/
def prAlias (n : Nat) : Nat := 0xa000100 + n * 8
/-- `PR_EXPIRED` (R701, device). -/
def prExpired : Nat := 0xa000800
/-- `PR_UNREACHABLE` (R701, device). -/
def prUnreachable : Nat := 0xa000808
/-- `PR_BAD_TYPE` (R701, device). -/
def prBadType : Nat := 0xa000810
/-- `PR_READ_BUSY` (R701, device). -/
def prReadBusy : Nat := 0xa000818
/-- `PR_E2E_RETX` (R701, device). -/
def prE2eRetx : Nat := 0xa000820
/-- `PR_E2E_DUP` (R701, device). -/
def prE2eDup : Nat := 0xa000828
/-- `PR_E2E_ABANDONED` (R701, device). -/
def prE2eAbandoned : Nat := 0xa000830
/-- `PR_FAULTMAP_FULL` (R701, device). -/
def prFaultmapFull : Nat := 0xa000838
/-- `PR_FLOW_WAIT_CYCLES` (R701, device). -/
def prFlowWaitCycles : Nat := 0xa000840
/-- `PR_FLOW_FULL` (R701, device). -/
def prFlowFull : Nat := 0xa000848
/-- `PR_PORT_FLUSHED` (R701, unit). -/
def prPortFlushed (n : Nat) : Nat := 0xa020800 + n * 0x1000
/-- `CE_EPOCH` (R340, device). -/
def ceEpoch : Nat := 0xb000000
/-- `CE_TIMEOUT` (R339, device). -/
def ceTimeout : Nat := 0xb000008
/-- `CE_BYTES_SUMMED` (R701, device). -/
def ceBytesSummed : Nat := 0xb000800
/-- `CE_EPOCH_STALE` (R701, device). -/
def ceEpochStale : Nat := 0xb000808
/-- `CE_UNMIRRORED` (R701, device). -/
def ceUnmirrored : Nat := 0xb000810
/-- `CE_WINDOW_WAIT_CYCLES` (R701, device). -/
def ceWindowWaitCycles : Nat := 0xb000818
/-- `CE_ORPHAN_DROPPED` (R701, device). -/
def ceOrphanDropped : Nat := 0xb000820
/-- `CE_QUEUE` (R314, context). -/
def ceQueue (x : Nat) : Nat := 0xb010000 + x * 0x1000
/-- `CE_LOST` (R701, context). -/
def ceLost (x : Nat) : Nat := 0xb010800 + x * 0x1000
/-- `HP_CONFIG` (R578, device). -/
def hpConfig : Nat := 0xc000000
/-- `HP_STATUS` (R578, device). -/
def hpStatus : Nat := 0xc000008
/-- `HP_MAC` (R578, device). -/
def hpMac : Nat := 0xc000010
/-- `HP_IPV6_HI` (R712, device). -/
def hpIpv6Hi : Nat := 0xc000018
/-- `HP_IPV6_LO` (R712, device). -/
def hpIpv6Lo : Nat := 0xc000020
/-- `HP_IPV4` (R712, device). -/
def hpIpv4 : Nat := 0xc000028
/-- `HP_WINDOW_A` (R573, device). -/
def hpWindowA (n : Nat) : Nat := 0xc000100 + n * 16
/-- `HP_WINDOW_B` (R573, device). -/
def hpWindowB (n : Nat) : Nat := 0xc000108 + n * 16
/-- `HP_RX_DROPPED` (R701, device). -/
def hpRxDropped : Nat := 0xc000800
/-- `HP_MACSEC_DROPPED` (R701, device). -/
def hpMacsecDropped : Nat := 0xc000808
/-- `HP_FCP_BAD` (R701, device). -/
def hpFcpBad : Nat := 0xc000810
/-- `HP_RDMA_NAKS` (R701, device). -/
def hpRdmaNaks : Nat := 0xc000818
/-- `HP_POISON_READS` (R701, device). -/
def hpPoisonReads : Nat := 0xc000820
/-- `HP_PFC_SENT` (R701, device). -/
def hpPfcSent : Nat := 0xc000828
/-- `HP_PAUSED_CYCLES` (R701, device). -/
def hpPausedCycles : Nat := 0xc000830
/-- `HP_RDMA_BYTES` (R701, device). -/
def hpRdmaBytes : Nat := 0xc000838
/-- `CASTON_STATUS` (R653, device). -/
def castonStatus : Nat := 0xd000100
/-- `CMD_ACCEPTED` (R701, device). -/
def cmdAccepted : Nat := 0xd000800
/-- `CMD_DUPLICATES` (R701, device). -/
def cmdDuplicates : Nat := 0xd000808
/-- `CMD_WINDOW` (R701, device). -/
def cmdWindow : Nat := 0xd000810
/-- `CMD_BUSY` (R701, device). -/
def cmdBusy : Nat := 0xd000818
/-- `CMD_NO_INTERPRETER` (R701, device). -/
def cmdNoInterpreter : Nat := 0xd000820
/-- `RESULT_EXPIRED` (R701, device). -/
def resultExpired : Nat := 0xd000828
/-- `CTX_CONTROL` (R69, context). -/
def ctxControl (x : Nat) : Nat := 0xd010000 + x * 0x1000
/-- `CTX_FAULT` (R708, context). -/
def ctxFault (x : Nat) : Nat := 0xd010008 + x * 0x1000
/-- `CTX_PATTERN_BASE` (R709, context). -/
def ctxPatternBase (x : Nat) : Nat := 0xd010010 + x * 0x1000
/-- `CTX_CORE_MASK` (R709, context). -/
def ctxCoreMask (x : Nat) : Nat := 0xd010018 + x * 0x1000
/-- `CTX_ALLOTMENT` (R709, context). -/
def ctxAllotment (x : Nat) : Nat := 0xd010020 + x * 0x1000
/-- `CTX_TOKEN_MISDIRECT` (R701, partition). -/
def ctxTokenMisdirect (p : Nat) : Nat := 0xd001800 + p * 0x1000
/-- `CTX_SWITCH_REFUSED` (R701, partition). -/
def ctxSwitchRefused (p : Nat) : Nat := 0xd001808 + p * 0x1000
/-- `CTX_TOKEN_LATE` (R701, partition). -/
def ctxTokenLate (p : Nat) : Nat := 0xd001810 + p * 0x1000
/-- `CTX_TOKEN_RESIDUE` (R701, partition). -/
def ctxTokenResidue (p : Nat) : Nat := 0xd001818 + p * 0x1000
/-- `TB_CONFIG` (R357, device). -/
def tbConfig : Nat := 0xe000000
/-- `TB_STATUS` (R358, device). -/
def tbStatus : Nat := 0xe000008
/-- `TB_STEPS` (R701, device). -/
def tbSteps : Nat := 0xe000800
/-- `TB_MISSED` (R701, device). -/
def tbMissed : Nat := 0xe000808
/-- `TB_LATE_WRITES` (R701, device). -/
def tbLateWrites : Nat := 0xe000810
/-- `TB_MASTER_CHANGES` (R701, device). -/
def tbMasterChanges : Nat := 0xe000818
/-- `TB_HOLDOVER_COURSES` (R701, device). -/
def tbHoldoverCourses : Nat := 0xe000820
/-- `TB_DEFERRED` (R701, partition). -/
def tbDeferred (p : Nat) : Nat := 0xe001800 + p * 0x1000
/-- `TB_PEVENT_A` (R372, table). -/
def tbPeventA (p n : Nat) : Nat := 0xe400000 + p * 0x800 + n * 16
/-- `TB_PEVENT_B` (R372, table). -/
def tbPeventB (p n : Nat) : Nat := 0xe400008 + p * 0x800 + n * 16
/-- `TB_FEVENT_A` (R372, table). -/
def tbFeventA (n : Nat) : Nat := 0xe402000 + n * 16
/-- `TB_FEVENT_B` (R372, table). -/
def tbFeventB (n : Nat) : Nat := 0xe402008 + n * 16
/-- `SK_CONFIG` (R382, device). -/
def skConfig : Nat := 0xf000000
/-- `SK_STATUS` (R406, device). -/
def skStatus : Nat := 0xf000008
/-- `SK_DIAG_RESULT` (R407, device). -/
def skDiagResult : Nat := 0xf000010
/-- `SK_EXTENT` (R384, device). -/
def skExtent (n : Nat) : Nat := 0xf000100 + n * 8
/-- `SK_RECORDS` (R701, device). -/
def skRecords : Nat := 0xf000800
/-- `SK_REFUSED_FULL` (R701, device). -/
def skRefusedFull : Nat := 0xf000808
/-- `SK_REPLAYS` (R701, device). -/
def skReplays : Nat := 0xf000810
/-- `SK_DIAG_REPLAYS` (R701, device). -/
def skDiagReplays : Nat := 0xf000818
/-- `SK_PARTNER_READS` (R701, device). -/
def skPartnerReads : Nat := 0xf000820
/-- `SK_BAD_RECORDS` (R701, device). -/
def skBadRecords : Nat := 0xf000828
/-- `LE_CONFIG` (R413, device). -/
def leConfig : Nat := 0x10000000
/-- `LE_STATUS` (R450, device). -/
def leStatus : Nat := 0x10000008
/-- `LE_GEN` (R419, device). -/
def leGen : Nat := 0x10000010
/-- `LE_GROUP` (R437, device). -/
def leGroup : Nat := 0x10000018
/-- `LE_DOMAIN` (R438, device). -/
def leDomain : Nat := 0x10000020
/-- `LE_BASE` (R412, device). -/
def leBase : Nat := 0x10000028
/-- `LE_FILL` (R445, device). -/
def leFill : Nat := 0x10000030
/-- `LE_EXTENT` (R410, device). -/
def leExtent (n : Nat) : Nat := 0x10000100 + n * 8
/-- `LE_MEMBER` (R437, device). -/
def leMember (n : Nat) : Nat := 0x10000200 + n * 8
/-- `LE_CUTS` (R701, device). -/
def leCuts : Nat := 0x10000800
/-- `LE_TORN` (R701, device). -/
def leTorn : Nat := 0x10000808
/-- `LE_DELTA_BYTES` (R701, device). -/
def leDeltaBytes : Nat := 0x10000810
/-- `LE_CHECK_FAIL` (R701, device). -/
def leCheckFail : Nat := 0x10000818
/-- `LE_REBUILT_PAGES` (R701, device). -/
def leRebuiltPages : Nat := 0x10000820
/-- `LE_RESTORES` (R701, device). -/
def leRestores : Nat := 0x10000828
/-- `LE_FALLBACKS` (R701, device). -/
def leFallbacks : Nat := 0x10000830
/-- `SN_CONFIG` (R488, device). -/
def snConfig : Nat := 0x11000000
/-- `SN_LOG_NEXT` (R714, device). -/
def snLogNext (n : Nat) : Nat := 0x11000020 + n * 8
/-- `SN_SUSPECT` (R473, device). -/
def snSuspect (n : Nat) : Nat := 0x11000100 + n * 8
/-- `SN_LADDER` (R484, device). -/
def snLadder (n : Nat) : Nat := 0x11000200 + n * 8
/-- `SN_SWATCHES` (R701, device). -/
def snSwatches : Nat := 0x11000800
/-- `SN_SWATCH_FAILS` (R701, device). -/
def snSwatchFails : Nat := 0x11000808
/-- `SN_LADDER_WARNINGS` (R701, device). -/
def snLadderWarnings : Nat := 0x11000810
/-- `SN_SUSPECT_FULL` (R701, device). -/
def snSuspectFull : Nat := 0x11000818
/-- `SN_FSR_DROPPED` (R701, device). -/
def snFsrDropped : Nat := 0x11000820
/-- `SN_STRICT_RESETS` (R701, device). -/
def snStrictResets : Nat := 0x11000828
/-- `SN_TILES_CHECKED` (R701, core). -/
def snTilesChecked (c : Nat) : Nat := 0x11200800 + c * 0x1000
/-- `SN_CHECK_FAILS` (R701, core). -/
def snCheckFails (c : Nat) : Nat := 0x11200808 + c * 0x1000
/-- `SN_FOLDED` (R701, table). -/
def snFolded (l k : Nat) : Nat := 0x11600000 + l * 0x1000 + k * 8
/-- `RV_CONFIG` (R523, device). -/
def rvConfig : Nat := 0x12000000
/-- `RV_STATUS` (R523, device). -/
def rvStatus : Nat := 0x12000008
/-- `RV_RESET` (R523, device). -/
def rvReset : Nat := 0x12000010
/-- `RV_GEN` (R513, device). -/
def rvGen : Nat := 0x12000018
/-- `RV_ISOLATE` (R518, device). -/
def rvIsolate : Nat := 0x12000020
/-- `RV_ABORTS` (R701, device). -/
def rvAborts : Nat := 0x12000800
/-- `RV_RESETS_L0` (R701, device). -/
def rvResetsL0 : Nat := 0x12000808
/-- `RV_RESETS_L1` (R701, device). -/
def rvResetsL1 : Nat := 0x12000810
/-- `RV_RESETS_L2` (R701, device). -/
def rvResetsL2 : Nat := 0x12000818
/-- `RV_RESETS_L3` (R701, device). -/
def rvResetsL3 : Nat := 0x12000820
/-- `RV_RESETS_L4` (R701, device). -/
def rvResetsL4 : Nat := 0x12000828
/-- `GEN_STALE_F` (R701, device). -/
def genStaleF : Nat := 0x12000830
/-- `RV_E2E_DISCARDED` (R701, device). -/
def rvE2eDiscarded : Nat := 0x12000838
/-- `RV_DUMP_UNREADABLE` (R701, device). -/
def rvDumpUnreadable : Nat := 0x12000840
/-- `RV_DUMP_LOST` (R701, device). -/
def rvDumpLost : Nat := 0x12000848
/-- `RV_CYCLES` (R701, partition). -/
def rvCycles (p : Nat) : Nat := 0x12001800 + p * 0x1000
/-- `RV_STALLS` (R701, partition). -/
def rvStalls (p : Nat) : Nat := 0x12001808 + p * 0x1000
/-- `RV_ORPHANS` (R701, partition). -/
def rvOrphans (p : Nat) : Nat := 0x12001810 + p * 0x1000
/-- `GEN_STALE_P` (R701, partition). -/
def genStaleP (p : Nat) : Nat := 0x12001818 + p * 0x1000
/-- `RT_DEBUG` (R628, device). -/
def rtDebug : Nat := 0x13000000
/-- `RT_FLOOR` (R628, device). -/
def rtFloor : Nat := 0x13000008
/-- `RT_ISOLATION` (R628, device). -/
def rtIsolation : Nat := 0x13000010
/-- `RT_ENCRYPT` (R628, device). -/
def rtEncrypt : Nat := 0x13000018
/-- `RT_KEY` (R628, device). -/
def rtKey (s w : Nat) : Nat := 0x13000100 + s * 64 + w * 8
/-- `RT_SIG_FAILS` (R701, device). -/
def rtSigFails : Nat := 0x13000800
/-- `RT_IMAGE_REFUSED` (R701, device). -/
def rtImageRefused : Nat := 0x13000808
/-- `RT_LINK_REJECTS` (R701, device). -/
def rtLinkRejects : Nat := 0x13000810
/-- `RT_APPROVALS` (R701, device). -/
def rtApprovals : Nat := 0x13000818
/-- `RT_APPROVALS_EXPIRED` (R701, device). -/
def rtApprovalsExpired : Nat := 0x13000820
/-- `RT_SESSIONS` (R701, device). -/
def rtSessions : Nat := 0x13000828
/-- `PM_CONFIG` (R693, device). -/
def pmConfig : Nat := 0x14000000
/-- `PM_STATUS` (R694, device). -/
def pmStatus : Nat := 0x14000008
/-- `PM_RAIL` (R695, device). -/
def pmRail (n : Nat) : Nat := 0x14000100 + n * 8
/-- `PM_VTABLE` (R721, partition). -/
def pmVtable (p : Nat) : Nat := 0x14001000 + p * 0x1000
/-- `PM_ENVELOPE_COURSES` (R701, device). -/
def pmEnvelopeCourses : Nat := 0x14000800
/-- `PM_THERMAL_COURSES` (R701, device). -/
def pmThermalCourses : Nat := 0x14000808
/-- `PM_AVS_ERRORS` (R701, unit). -/
def pmAvsErrors (n : Nat) : Nat := 0x14020800 + n * 0x1000
/-- `PM_FOREWARNINGS` (R701, unit). -/
def pmForewarnings (n : Nat) : Nat := 0x14020808 + n * 0x1000
/-- `PM_WITHDRAWN` (R701, unit). -/
def pmWithdrawn (n : Nat) : Nat := 0x14020810 + n * 0x1000

/-- The registers whose reset value the field tables give as something other than 0, with that value
(R181, R298, R339, R357, R413, R484, R488, R518, R523, R578, R628, R693, R694, R711). -/
def resetList : List (Nat × Nat) :=
  (List.range 16).map (fun x => (guLossScale x, 0xfd040000000)) ++
  [(scrubHours, 0x18), (prRoute, 0x300000), (ceTimeout, 0x2000), (hpConfig, 0xcc00100000000000), (tbConfig, 0x80000000),
   (leConfig, 0x800000000000), (snConfig, 0x1000000000000000)] ++
  [(snLadder 0, 0x400000400001), (snLadder 1, 0x400001000001), (snLadder 2, 0x400000020001), (snLadder 3, 0x400000040001)] ++
  [(rvConfig, 0x1000100000000001), (rvStatus, 0x3800000000000000), (rvIsolate, 0xff00), (rtIsolation, 0xffff),
   (rtEncrypt, 1), (pmConfig, 0x9900000000000000), (pmStatus, 0x8000000000000000)]

end Sys2Proof.Machine.Reg

namespace Sys2Proof.Machine.Fld

/- `GU_RECORDS` (R710) -/
def guRecordsCount : BitField := ⟨57, 42⟩
def guRecordsBase : BitField := ⟨41, 0⟩
/- `GU_STEP` (R710) -/
def guStepStep : BitField := ⟨31, 0⟩
/- `GU_LOSS_SCALE` (R181) -/
def guLossScaleFloorHit : BitField := ⟨63, 63⟩
def guLossScaleClean : BitField := ⟨62, 53⟩
def guLossScaleExp : BitField := ⟨52, 45⟩
def guLossScaleMaxExp : BitField := ⟨44, 37⟩
def guLossScaleMinExp : BitField := ⟨36, 29⟩
def guLossScaleSlot : BitField := ⟨20, 0⟩
/- `CP_SPECS` (R192) -/
def cpSpecsBase : BitField := ⟨41, 0⟩
/- `CP_LAYERS` (R206) -/
def cpLayersCount : BitField := ⟨53, 42⟩
def cpLayersBase : BitField := ⟨41, 0⟩
/- `SCRUB_HOURS` (R711) -/
def scrubHoursHours : BitField := ⟨7, 0⟩
/- `DT_REGION_A` (R262) -/
def dtRegionAValid : BitField := ⟨63, 63⟩
def dtRegionAUse : BitField := ⟨62, 60⟩
def dtRegionAKeySel : BitField := ⟨59, 59⟩
def dtRegionADirty : BitField := ⟨58, 58⟩
def dtRegionABase : BitField := ⟨47, 16⟩
def dtRegionAKeyId : BitField := ⟨15, 0⟩
/- `DT_REGION_B` (R262) -/
def dtRegionBSize : BitField := ⟨31, 0⟩
/- `DT_REGION_C` (R262) -/
def dtRegionCTweakHi : BitField := ⟨63, 0⟩
/- `DT_POP` (R711) -/
def dtPopMismatch : BitField := ⟨63, 63⟩
def dtPopAbsent : BitField := ⟨62, 62⟩
def dtPopSize : BitField := ⟨31, 0⟩
/- `PP_STATUS` (R312) -/
def ppStatusLanesOk : BitField := ⟨63, 48⟩
def ppStatusPeerCoord : BitField := ⟨47, 33⟩
def ppStatusPeerSide : BitField := ⟨32, 32⟩
def ppStatusDelay : BitField := ⟨21, 12⟩
def ppStatusKeyPhase : BitField := ⟨8, 8⟩
def ppStatusState : BitField := ⟨3, 0⟩
/- `PR_TORUS` (R295) -/
def prTorusValid : BitField := ⟨63, 63⟩
def prTorusPhys : BitField := ⟨62, 48⟩
def prTorusLogical : BitField := ⟨47, 33⟩
def prTorusSide : BitField := ⟨32, 32⟩
def prTorusXnM1 : BitField := ⟨31, 27⟩
def prTorusYnM1 : BitField := ⟨26, 22⟩
def prTorusZnM1 : BitField := ⟨21, 17⟩
/- `PR_ROUTE` (R298) -/
def prRouteRandomLl : BitField := ⟨21, 21⟩
def prRouteRandomPt : BitField := ⟨20, 20⟩
def prRouteSaValid : BitField := ⟨15, 15⟩
def prRouteSaPeer : BitField := ⟨14, 0⟩
/- `PR_ALIAS` (R296) -/
def prAliasValid : BitField := ⟨63, 63⟩
def prAliasLogical : BitField := ⟨62, 48⟩
def prAliasPhys : BitField := ⟨47, 33⟩
def prAliasSide : BitField := ⟨32, 32⟩
/- `CE_EPOCH` (R340) -/
def ceEpochExhausted : BitField := ⟨16, 16⟩
def ceEpochEpoch : BitField := ⟨15, 0⟩
/- `CE_TIMEOUT` (R339) -/
def ceTimeoutCourses : BitField := ⟨15, 0⟩
/- `CE_QUEUE` (R314) -/
def ceQueueHead : BitField := ⟨57, 50⟩
def ceQueueTail : BitField := ⟨49, 42⟩
def ceQueueBase : BitField := ⟨41, 0⟩
/- `HP_CONFIG` (R578) -/
def hpConfigPcpCmd : BitField := ⟨63, 61⟩
def hpConfigPcpBulk : BitField := ⟨60, 58⟩
def hpConfigVlan : BitField := ⟨57, 46⟩
def hpConfigIpv4En : BitField := ⟨45, 45⟩
def hpConfigAnnounce : BitField := ⟨44, 44⟩
/- `HP_STATUS` (R578) -/
def hpStatusLink : BitField := ⟨63, 62⟩
def hpStatusMode : BitField := ⟨61, 61⟩
def hpStatusSession : BitField := ⟨60, 60⟩
def hpStatusTxAn : BitField := ⟨59, 58⟩
def hpStatusPaused : BitField := ⟨57, 56⟩
def hpStatusDadGlobal : BitField := ⟨55, 55⟩
def hpStatusDadLinkLocal : BitField := ⟨54, 54⟩
/- `HP_MAC` (R578) -/
def hpMacMac : BitField := ⟨47, 0⟩
/- `HP_IPV6_HI` (R712) -/
def hpIpv6HiAddr : BitField := ⟨63, 0⟩
/- `HP_IPV6_LO` (R712) -/
def hpIpv6LoAddr : BitField := ⟨63, 0⟩
/- `HP_IPV4` (R712) -/
def hpIpv4Addr : BitField := ⟨31, 0⟩
/- `HP_WINDOW_A` (R573) -/
def hpWindowAValid : BitField := ⟨63, 63⟩
def hpWindowAWrite : BitField := ⟨62, 62⟩
def hpWindowARead : BitField := ⟨61, 61⟩
def hpWindowABase : BitField := ⟨47, 12⟩
/- `HP_WINDOW_B` (R573) -/
def hpWindowBRkey : BitField := ⟨63, 32⟩
def hpWindowBLen : BitField := ⟨31, 0⟩
/- `CASTON_STATUS` (R653) -/
def castonStatusPhase : BitField := ⟨63, 60⟩
def castonStatusSource : BitField := ⟨59, 59⟩
def castonStatusSite : BitField := ⟨58, 58⟩
def castonStatusAttempt : BitField := ⟨57, 56⟩
def castonStatusFailPhase : BitField := ⟨55, 52⟩
def castonStatusPrimaryErr : BitField := ⟨51, 48⟩
def castonStatusRepairs : BitField := ⟨47, 32⟩
def castonStatusReadyMs : BitField := ⟨31, 0⟩
/- `CTX_CONTROL` (R69) -/
def ctxControlQuantum : BitField := ⟨23, 8⟩
def ctxControlDiag : BitField := ⟨7, 7⟩
def ctxControlState : BitField := ⟨3, 0⟩
/- `CTX_FAULT` (R708) -/
def ctxFaultValid : BitField := ⟨63, 63⟩
def ctxFaultClass : BitField := ⟨55, 48⟩
def ctxFaultCore : BitField := ⟨47, 40⟩
def ctxFaultPc : BitField := ⟨31, 0⟩
/- `CTX_PATTERN_BASE` (R709) -/
def ctxPatternBaseBase : BitField := ⟨47, 0⟩
/- `CTX_CORE_MASK` (R709) -/
def ctxCoreMaskMask : BitField := ⟨39, 0⟩
/- `CTX_ALLOTMENT` (R709) -/
def ctxAllotmentBase : BitField := ⟨63, 32⟩
def ctxAllotmentSize : BitField := ⟨31, 0⟩
/- `TB_CONFIG` (R357) -/
def tbConfigMaster : BitField := ⟨63, 49⟩
def tbConfigMasterValid : BitField := ⟨48, 48⟩
def tbConfigBackup : BitField := ⟨47, 33⟩
def tbConfigBackupValid : BitField := ⟨32, 32⟩
def tbConfigCapable : BitField := ⟨31, 31⟩
/- `TB_STATUS` (R358) -/
def tbStatusState : BitField := ⟨63, 62⟩
def tbStatusRole : BitField := ⟨61, 60⟩
def tbStatusParent : BitField := ⟨59, 57⟩
def tbStatusHops : BitField := ⟨56, 51⟩
def tbStatusTerm : BitField := ⟨50, 35⟩
def tbStatusCurMaster : BitField := ⟨34, 20⟩
def tbStatusPhaseErr : BitField := ⟨19, 0⟩
/- `TB_PEVENT_A` (R372) -/
def tbPeventAArmed : BitField := ⟨63, 63⟩
def tbPeventAFired : BitField := ⟨62, 62⟩
def tbPeventAMissed : BitField := ⟨61, 61⟩
def tbPeventAStitch : BitField := ⟨59, 48⟩
def tbPeventACourse : BitField := ⟨47, 0⟩
/- `TB_PEVENT_B` (R372) -/
def tbPeventBAction : BitField := ⟨63, 56⟩
def tbPeventBContext : BitField := ⟨55, 52⟩
def tbPeventBParam : BitField := ⟨31, 0⟩
/- `TB_FEVENT_A` (R372) -/
def tbFeventAArmed : BitField := ⟨63, 63⟩
def tbFeventAFired : BitField := ⟨62, 62⟩
def tbFeventAMissed : BitField := ⟨61, 61⟩
def tbFeventAStitch : BitField := ⟨59, 48⟩
def tbFeventACourse : BitField := ⟨47, 0⟩
/- `TB_FEVENT_B` (R372) -/
def tbFeventBAction : BitField := ⟨63, 56⟩
def tbFeventBContext : BitField := ⟨55, 52⟩
def tbFeventBParam : BitField := ⟨31, 0⟩
/- `SK_CONFIG` (R382) -/
def skConfigSlotSize : BitField := ⟨47, 32⟩
def skConfigCtxMask : BitField := ⟨31, 16⟩
def skConfigRegion : BitField := ⟨3, 0⟩
/- `SK_STATUS` (R406) -/
def skStatusHeld : BitField := ⟨63, 56⟩
def skStatusPartnerHeld : BitField := ⟨55, 48⟩
def skStatusReplay : BitField := ⟨47, 47⟩
def skStatusUnmirrored : BitField := ⟨46, 46⟩
def skStatusRebuilding : BitField := ⟨45, 45⟩
def skStatusCurBuf : BitField := ⟨44, 44⟩
def skStatusLastArmed : BitField := ⟨31, 0⟩
/- `SK_DIAG_RESULT` (R407) -/
def skDiagResultCompared : BitField := ⟨63, 48⟩
def skDiagResultMismatch : BitField := ⟨47, 32⟩
def skDiagResultStep : BitField := ⟨31, 0⟩
/- `SK_EXTENT` (R384) -/
def skExtentValid : BitField := ⟨63, 63⟩
def skExtentKind : BitField := ⟨62, 62⟩
def skExtentLenM1 : BitField := ⟨61, 42⟩
def skExtentAddr : BitField := ⟨41, 0⟩
/- `LE_CONFIG` (R413) -/
def leConfigCadence : BitField := ⟨63, 48⟩
def leConfigK : BitField := ⟨47, 44⟩
def leConfigSkein : BitField := ⟨43, 40⟩
def leConfigBuddy : BitField := ⟨39, 36⟩
def leConfigParity : BitField := ⟨35, 32⟩
def leConfigEnable : BitField := ⟨0, 0⟩
/- `LE_STATUS` (R450) -/
def leStatusProtection : BitField := ⟨63, 62⟩
def leStatusPhase : BitField := ⟨61, 59⟩
def leStatusRefuse : BitField := ⟨58, 55⟩
def leStatusPresent : BitField := ⟨47, 32⟩
def leStatusFoldPage : BitField := ⟨31, 0⟩
/- `LE_GEN` (R419) -/
def leGenGen : BitField := ⟨63, 32⟩
def leGenStep : BitField := ⟨31, 0⟩
/- `LE_GROUP` (R437) -/
def leGroupValid : BitField := ⟨63, 63⟩
def leGroupSizeM1 : BitField := ⟨62, 59⟩
def leGroupIndex : BitField := ⟨58, 55⟩
def leGroupId : BitField := ⟨54, 39⟩
def leGroupBasePages : BitField := ⟨31, 0⟩
/- `LE_DOMAIN` (R438) -/
def leDomainTray : BitField := ⟨63, 48⟩
def leDomainShelf : BitField := ⟨47, 32⟩
def leDomainLoop : BitField := ⟨31, 16⟩
def leDomainSwitch : BitField := ⟨15, 0⟩
/- `LE_BASE` (R412) -/
def leBaseAddr : BitField := ⟨31, 0⟩
/- `LE_FILL` (R445) -/
def leFillCount : BitField := ⟨63, 52⟩
def leFillBase : BitField := ⟨41, 0⟩
/- `LE_EXTENT` (R410) -/
def leExtentValid : BitField := ⟨63, 63⟩
def leExtentMirror : BitField := ⟨62, 62⟩
def leExtentPair : BitField := ⟨61, 61⟩
def leExtentLenM1 : BitField := ⟨60, 42⟩
def leExtentAddr : BitField := ⟨41, 10⟩
def leExtentSnap : BitField := ⟨9, 9⟩
/- `LE_MEMBER` (R437) -/
def leMemberValid : BitField := ⟨63, 63⟩
def leMemberPresent : BitField := ⟨62, 62⟩
def leMemberLogical : BitField := ⟨61, 47⟩
/- `SN_CONFIG` (R488) -/
def snConfigLevel : BitField := ⟨63, 61⟩
def snConfigStrict : BitField := ⟨60, 60⟩
def snConfigDue : BitField := ⟨59, 50⟩
def snConfigFsrCount : BitField := ⟨49, 39⟩
def snConfigSeed : BitField := ⟨31, 0⟩
/- `SN_LOG_NEXT` (R714) -/
def snLogNextNext : BitField := ⟨63, 0⟩
/- `SN_SUSPECT` (R473) -/
def snSuspectValid : BitField := ⟨63, 63⟩
def snSuspectFailed : BitField := ⟨62, 62⟩
def snSuspectClean : BitField := ⟨61, 55⟩
def snSuspectCause : BitField := ⟨54, 52⟩
def snSuspectUnit : BitField := ⟨31, 0⟩
/- `SN_LADDER` (R484) -/
def snLadderLast : BitField := ⟨63, 48⟩
def snLadderHold : BitField := ⟨47, 40⟩
def snLadderThresh : BitField := ⟨31, 16⟩
def snLadderEnable : BitField := ⟨0, 0⟩
/- `RV_CONFIG` (R523) -/
def rvConfigStallSamples : BitField := ⟨63, 56⟩
def rvConfigIsolateCourses : BitField := ⟨47, 32⟩
def rvConfigAutoL5 : BitField := ⟨0, 0⟩
/- `RV_STATUS` (R523) -/
def rvStatusJobState : BitField := ⟨63, 62⟩
def rvStatusLevel : BitField := ⟨61, 59⟩
def rvStatusDomains : BitField := ⟨58, 54⟩
def rvStatusCause : BitField := ⟨53, 48⟩
def rvStatusAbortSeq : BitField := ⟨47, 32⟩
def rvStatusAbortStep : BitField := ⟨31, 0⟩
/- `RV_RESET` (R523) -/
def rvResetLevel : BitField := ⟨7, 5⟩
def rvResetDomain : BitField := ⟨4, 0⟩
/- `RV_GEN` (R513) -/
def rvGenGenF : BitField := ⟨39, 32⟩
def rvGenGenP3 : BitField := ⟨31, 24⟩
def rvGenGenP2 : BitField := ⟨23, 16⟩
def rvGenGenP1 : BitField := ⟨15, 8⟩
def rvGenGenP0 : BitField := ⟨7, 0⟩
/- `RV_ISOLATE` (R518) -/
def rvIsolateSuspects : BitField := ⟨63, 48⟩
def rvIsolateGuilty : BitField := ⟨47, 32⟩
def rvIsolateNeedsReplay : BitField := ⟨31, 16⟩
def rvIsolateEngine : BitField := ⟨15, 8⟩
def rvIsolateState : BitField := ⟨3, 0⟩
/- `RT_DEBUG` (R628) -/
def rtDebugLevel : BitField := ⟨0, 0⟩
/- `RT_FLOOR` (R628) -/
def rtFloorBase : BitField := ⟨37, 32⟩
def rtFloorOverlay : BitField := ⟨5, 0⟩
/- `RT_ISOLATION` (R628) -/
def rtIsolationAllow : BitField := ⟨15, 0⟩
/- `RT_ENCRYPT` (R628) -/
def rtEncryptSameImage : BitField := ⟨1, 1⟩
def rtEncryptPlainGeneral : BitField := ⟨0, 0⟩
/- `RT_KEY` (R628) -/
def rtKeyKey : BitField := ⟨63, 0⟩
/- `PM_CONFIG` (R693) -/
def pmConfigEnvelope : BitField := ⟨63, 62⟩
def pmConfigTjThrottle : BitField := ⟨61, 54⟩
/- `PM_STATUS` (R694) -/
def pmStatusDuty : BitField := ⟨63, 59⟩
def pmStatusLimiter : BitField := ⟨58, 57⟩
def pmStatusPowerW : BitField := ⟨56, 40⟩
def pmStatusTjMax : BitField := ⟨39, 28⟩
def pmStatusThbmMax : BitField := ⟨27, 16⟩
/- `PM_RAIL` (R695) -/
def pmRailVoltage : BitField := ⟨63, 48⟩
def pmRailCurrent : BitField := ⟨47, 32⟩
def pmRailSetpoint : BitField := ⟨31, 16⟩
def pmRailLstep : BitField := ⟨3, 0⟩
/- `PM_VTABLE` (R721) -/
def pmVtableBand0 : BitField := ⟨63, 56⟩
def pmVtableBand1 : BitField := ⟨55, 48⟩
def pmVtableBand2 : BitField := ⟨47, 40⟩
def pmVtableBand3 : BitField := ⟨39, 32⟩

/- Every counter (R701) -/
def counterOvf : BitField := ⟨63, 63⟩
def counterCount : BitField := ⟨47, 0⟩

end Sys2Proof.Machine.Fld

namespace Sys2Proof.Machine

/-- One row of the register map: `count` registers `stride` apart, and `count2` such groups
`stride2` apart; the masks of the bits that are implemented, RW and W1C (R10, R11). -/
structure RegRow where
  name : String
  base : Nat
  stride : Nat
  count : Nat
  stride2 : Nat
  count2 : Nat
  impl : Nat
  rw : Nat
  w1c : Nat
  deriving DecidableEq, Repr

/-- A row of counters (R701): `COUNT` [47:0] read-only, `OVF` [63] write-1-to-clear. -/
def RegRow.counter (name : String) (base stride count stride2 count2 : Nat) : RegRow :=
  ⟨name, base, stride, count, stride2, count2, 0x8000ffffffffffff, 0, 0x8000000000000000⟩

/-- Whether the register at control-space offset `a` belongs to the row. -/
def RegRow.holds (r : RegRow) (a : Nat) : Bool :=
  (List.range r.count2).any (fun j =>
    let b := r.base + j * r.stride2
    decide (b ≤ a) && decide ((a - b) / r.stride < r.count) && decide ((a - b) % r.stride = 0))

end Sys2Proof.Machine

namespace Sys2Proof.Machine.Reg

/-- Registers, part 1 (R704, R706, R707). -/
def table1 : List RegRow := [
  .counter "MA_STREAM_CYCLES" 0x1200800 0x1000 160 0x0 1,
  .counter "MA_TENSION_CYCLES" 0x1200808 0x1000 160 0x0 1,
  .counter "MA_PACED_CYCLES" 0x1200810 0x1000 160 0x0 1,
  .counter "CS_CORRECTED" 0x3200800 0x1000 160 0x0 1,
  ⟨"GU_RECORDS", 0x4010000, 0x1000, 16, 0x0, 1, 0x3ffffffffffffff, 0x3ffffffffffffff, 0x0⟩,
  ⟨"GU_STEP", 0x4010008, 0x1000, 16, 0x0, 1, 0xffffffff, 0xffffffff, 0x0⟩,
  ⟨"GU_LOSS_SCALE", 0x4010010, 0x1000, 16, 0x0, 1, 0xffffffffe01fffff, 0x1fffffe01fffff, 0x8000000000000000⟩,
  .counter "GU_SATURATIONS" 0x4001800 0x1000 4 0x0 1,
  ⟨"CP_SPECS", 0x5010000, 0x1000, 16, 0x0, 1, 0x3ffffffffff, 0x3ffffffffff, 0x0⟩,
  ⟨"CP_LAYERS", 0x5010008, 0x1000, 16, 0x0, 1, 0x3fffffffffffff, 0x3fffffffffffff, 0x0⟩,
  .counter "CP_PIN_EVENTS" 0x5010800 0x1000 16 0x0 1,
  .counter "CP_FB_SATURATIONS" 0x5001800 0x1000 4 0x0 1,
  .counter "CP_FALLBACK_TILES" 0x5200800 0x1000 160 0x0 1,
  .counter "CP_VALUES" 0x5200808 0x1000 160 0x0 1,
  .counter "CP_BACKLOG_CYCLES" 0x5200810 0x1000 160 0x0 1,
  .counter "LRC_BACKLOG_CYCLES" 0x6200800 0x1000 160 0x0 1,
  ⟨"SCRUB_HOURS", 0x7000000, 0x8, 1, 0x0, 1, 0xff, 0xff, 0x0⟩,
  .counter "POISON_COPIED" 0x7001800 0x1000 4 0x0 1,
  .counter "SCRUB_PASSES" 0x7001808 0x1000 4 0x0 1,
  .counter "HBM_CORRECTED" 0x7020800 0x1000 16 0x0 1,
  .counter "HBM_UNCORRECTED" 0x7020808 0x1000 16 0x0 1,
  ⟨"DT_REGION_A", 0x8000000, 0x18, 16, 0x0, 1, 0xfc00ffffffffffff, 0xfc00ffffffffffff, 0x0⟩,
  ⟨"DT_REGION_B", 0x8000008, 0x18, 16, 0x0, 1, 0xffffffff, 0xffffffff, 0x0⟩,
  ⟨"DT_REGION_C", 0x8000010, 0x18, 16, 0x0, 1, 0xffffffffffffffff, 0xffffffffffffffff, 0x0⟩,
  .counter "DT_REGION_REFUSED" 0x8000800 0x8 1 0x0 1,
  .counter "DT_REMOTE_REFUSED" 0x8000808 0x8 1 0x0 1,
  ⟨"DT_POP", 0x8001000, 0x1000, 4, 0x0, 1, 0xc0000000ffffffff, 0x0, 0x0⟩,
  .counter "DT_CORRECTED" 0x8020800 0x1000 12 0x0 1,
  .counter "DT_UNCORRECTED" 0x8020808 0x1000 12 0x0 1,
  ⟨"PP_STATUS", 0x9020000, 0x1000, 8, 0x0, 1, 0xffffffff003ff10f, 0x0, 0x0⟩]

/-- Registers, part 2 (R704, R706, R707). -/
def table2 : List RegRow := [
  .counter "PP_FEC_CORRECTED" 0x9020800 0x1000 8 0x0 1,
  .counter "PP_FEC_UNCORRECTED" 0x9020808 0x1000 8 0x0 1,
  .counter "PP_CRC_ERRORS" 0x9020810 0x1000 8 0x0 1,
  .counter "PP_REPLAYS" 0x9020818 0x1000 8 0x0 1,
  .counter "PP_RETRAINS" 0x9020820 0x1000 8 0x0 1,
  .counter "PP_AUTH_FAIL" 0x9020828 0x1000 8 0x0 1,
  .counter "PP_STOMPED" 0x9020830 0x1000 8 0x0 1,
  ⟨"PR_TORUS", 0xa000000, 0x8, 1, 0x0, 1, 0xfffffffffffe0000, 0xfffffffffffe0000, 0x0⟩,
  ⟨"PR_ROUTE", 0xa000008, 0x8, 1, 0x0, 1, 0x30ffff, 0x30ffff, 0x0⟩,
  ⟨"PR_ALIAS", 0xa000100, 0x8, 16, 0x0, 1, 0xffffffff00000000, 0xffffffff00000000, 0x0⟩,
  .counter "PR_EXPIRED" 0xa000800 0x8 1 0x0 1,
  .counter "PR_UNREACHABLE" 0xa000808 0x8 1 0x0 1,
  .counter "PR_BAD_TYPE" 0xa000810 0x8 1 0x0 1,
  .counter "PR_READ_BUSY" 0xa000818 0x8 1 0x0 1,
  .counter "PR_E2E_RETX" 0xa000820 0x8 1 0x0 1,
  .counter "PR_E2E_DUP" 0xa000828 0x8 1 0x0 1,
  .counter "PR_E2E_ABANDONED" 0xa000830 0x8 1 0x0 1,
  .counter "PR_FAULTMAP_FULL" 0xa000838 0x8 1 0x0 1,
  .counter "PR_FLOW_WAIT_CYCLES" 0xa000840 0x8 1 0x0 1,
  .counter "PR_FLOW_FULL" 0xa000848 0x8 1 0x0 1,
  .counter "PR_PORT_FLUSHED" 0xa020800 0x1000 8 0x0 1,
  ⟨"CE_EPOCH", 0xb000000, 0x8, 1, 0x0, 1, 0x1ffff, 0x0, 0x0⟩,
  ⟨"CE_TIMEOUT", 0xb000008, 0x8, 1, 0x0, 1, 0xffff, 0xffff, 0x0⟩,
  .counter "CE_BYTES_SUMMED" 0xb000800 0x8 1 0x0 1,
  .counter "CE_EPOCH_STALE" 0xb000808 0x8 1 0x0 1,
  .counter "CE_UNMIRRORED" 0xb000810 0x8 1 0x0 1,
  .counter "CE_WINDOW_WAIT_CYCLES" 0xb000818 0x8 1 0x0 1,
  .counter "CE_ORPHAN_DROPPED" 0xb000820 0x8 1 0x0 1,
  ⟨"CE_QUEUE", 0xb010000, 0x1000, 16, 0x0, 1, 0x3ffffffffffffff, 0x3ffffffffffff, 0x0⟩,
  .counter "CE_LOST" 0xb010800 0x1000 16 0x0 1]

/-- Registers, part 3 (R704, R706, R707). -/
def table3 : List RegRow := [
  ⟨"HP_CONFIG", 0xc000000, 0x8, 1, 0x0, 1, 0xfffff00000000000, 0xfffff00000000000, 0x0⟩,
  ⟨"HP_STATUS", 0xc000008, 0x8, 1, 0x0, 1, 0xffc0000000000000, 0x0, 0x0⟩,
  ⟨"HP_MAC", 0xc000010, 0x8, 1, 0x0, 1, 0xffffffffffff, 0x0, 0x0⟩,
  ⟨"HP_IPV6_HI", 0xc000018, 0x8, 1, 0x0, 1, 0xffffffffffffffff, 0xffffffffffffffff, 0x0⟩,
  ⟨"HP_IPV6_LO", 0xc000020, 0x8, 1, 0x0, 1, 0xffffffffffffffff, 0xffffffffffffffff, 0x0⟩,
  ⟨"HP_IPV4", 0xc000028, 0x8, 1, 0x0, 1, 0xffffffff, 0xffffffff, 0x0⟩,
  ⟨"HP_WINDOW_A", 0xc000100, 0x10, 32, 0x0, 1, 0xe000fffffffff000, 0xe000fffffffff000, 0x0⟩,
  ⟨"HP_WINDOW_B", 0xc000108, 0x10, 32, 0x0, 1, 0xffffffffffffffff, 0xffffffff, 0x0⟩,
  .counter "HP_RX_DROPPED" 0xc000800 0x8 1 0x0 1,
  .counter "HP_MACSEC_DROPPED" 0xc000808 0x8 1 0x0 1,
  .counter "HP_FCP_BAD" 0xc000810 0x8 1 0x0 1,
  .counter "HP_RDMA_NAKS" 0xc000818 0x8 1 0x0 1,
  .counter "HP_POISON_READS" 0xc000820 0x8 1 0x0 1,
  .counter "HP_PFC_SENT" 0xc000828 0x8 1 0x0 1,
  .counter "HP_PAUSED_CYCLES" 0xc000830 0x8 1 0x0 1,
  .counter "HP_RDMA_BYTES" 0xc000838 0x8 1 0x0 1,
  ⟨"CASTON_STATUS", 0xd000100, 0x8, 1, 0x0, 1, 0xffffffffffffffff, 0x0, 0x0⟩,
  .counter "CMD_ACCEPTED" 0xd000800 0x8 1 0x0 1,
  .counter "CMD_DUPLICATES" 0xd000808 0x8 1 0x0 1,
  .counter "CMD_WINDOW" 0xd000810 0x8 1 0x0 1,
  .counter "CMD_BUSY" 0xd000818 0x8 1 0x0 1,
  .counter "CMD_NO_INTERPRETER" 0xd000820 0x8 1 0x0 1,
  .counter "RESULT_EXPIRED" 0xd000828 0x8 1 0x0 1,
  ⟨"CTX_CONTROL", 0xd010000, 0x1000, 16, 0x0, 1, 0xffff8f, 0xffff80, 0x0⟩,
  ⟨"CTX_FAULT", 0xd010008, 0x1000, 16, 0x0, 1, 0x80ffff00ffffffff, 0x0, 0x8000000000000000⟩,
  ⟨"CTX_PATTERN_BASE", 0xd010010, 0x1000, 16, 0x0, 1, 0xffffffffffff, 0x0, 0x0⟩,
  ⟨"CTX_CORE_MASK", 0xd010018, 0x1000, 16, 0x0, 1, 0xffffffffff, 0x0, 0x0⟩,
  ⟨"CTX_ALLOTMENT", 0xd010020, 0x1000, 16, 0x0, 1, 0xffffffffffffffff, 0x0, 0x0⟩,
  .counter "CTX_TOKEN_MISDIRECT" 0xd001800 0x1000 4 0x0 1,
  .counter "CTX_SWITCH_REFUSED" 0xd001808 0x1000 4 0x0 1]

/-- Registers, part 4 (R704, R706, R707). -/
def table4 : List RegRow := [
  .counter "CTX_TOKEN_LATE" 0xd001810 0x1000 4 0x0 1,
  .counter "CTX_TOKEN_RESIDUE" 0xd001818 0x1000 4 0x0 1,
  ⟨"TB_CONFIG", 0xe000000, 0x8, 1, 0x0, 1, 0xffffffff80000000, 0xffffffff80000000, 0x0⟩,
  ⟨"TB_STATUS", 0xe000008, 0x8, 1, 0x0, 1, 0xffffffffffffffff, 0x0, 0x0⟩,
  .counter "TB_STEPS" 0xe000800 0x8 1 0x0 1,
  .counter "TB_MISSED" 0xe000808 0x8 1 0x0 1,
  .counter "TB_LATE_WRITES" 0xe000810 0x8 1 0x0 1,
  .counter "TB_MASTER_CHANGES" 0xe000818 0x8 1 0x0 1,
  .counter "TB_HOLDOVER_COURSES" 0xe000820 0x8 1 0x0 1,
  .counter "TB_DEFERRED" 0xe001800 0x1000 4 0x0 1,
  ⟨"TB_PEVENT_A", 0xe400000, 0x10, 64, 0x800, 4, 0xefffffffffffffff, 0x8fffffffffffffff, 0x6000000000000000⟩,
  ⟨"TB_PEVENT_B", 0xe400008, 0x10, 64, 0x800, 4, 0xfff00000ffffffff, 0xfff00000ffffffff, 0x0⟩,
  ⟨"TB_FEVENT_A", 0xe402000, 0x10, 64, 0x0, 1, 0xefffffffffffffff, 0x8fffffffffffffff, 0x6000000000000000⟩,
  ⟨"TB_FEVENT_B", 0xe402008, 0x10, 64, 0x0, 1, 0xfff00000ffffffff, 0xfff00000ffffffff, 0x0⟩,
  ⟨"SK_CONFIG", 0xf000000, 0x8, 1, 0x0, 1, 0xffffffff000f, 0xffffffff000f, 0x0⟩,
  ⟨"SK_STATUS", 0xf000008, 0x8, 1, 0x0, 1, 0xfffff000ffffffff, 0x0, 0x0⟩,
  ⟨"SK_DIAG_RESULT", 0xf000010, 0x8, 1, 0x0, 1, 0xffffffffffffffff, 0x0, 0x0⟩,
  ⟨"SK_EXTENT", 0xf000100, 0x8, 16, 0x0, 1, 0xffffffffffffffff, 0xffffffffffffffff, 0x0⟩,
  .counter "SK_RECORDS" 0xf000800 0x8 1 0x0 1,
  .counter "SK_REFUSED_FULL" 0xf000808 0x8 1 0x0 1,
  .counter "SK_REPLAYS" 0xf000810 0x8 1 0x0 1,
  .counter "SK_DIAG_REPLAYS" 0xf000818 0x8 1 0x0 1,
  .counter "SK_PARTNER_READS" 0xf000820 0x8 1 0x0 1,
  .counter "SK_BAD_RECORDS" 0xf000828 0x8 1 0x0 1,
  ⟨"LE_CONFIG", 0x10000000, 0x8, 1, 0x0, 1, 0xffffffff00000001, 0xfff00000001, 0x0⟩,
  ⟨"LE_STATUS", 0x10000008, 0x8, 1, 0x0, 1, 0xff80ffffffffffff, 0x0, 0x0⟩,
  ⟨"LE_GEN", 0x10000010, 0x8, 1, 0x0, 1, 0xffffffffffffffff, 0x0, 0x0⟩,
  ⟨"LE_GROUP", 0x10000018, 0x8, 1, 0x0, 1, 0xffffff80ffffffff, 0xffffff80ffffffff, 0x0⟩,
  ⟨"LE_DOMAIN", 0x10000020, 0x8, 1, 0x0, 1, 0xffffffffffffffff, 0xffffffffffffffff, 0x0⟩,
  ⟨"LE_BASE", 0x10000028, 0x8, 1, 0x0, 1, 0xffffffff, 0xffffffff, 0x0⟩]

/-- Registers, part 5 (R704, R706, R707). -/
def table5 : List RegRow := [
  ⟨"LE_FILL", 0x10000030, 0x8, 1, 0x0, 1, 0xfff003ffffffffff, 0xfff003ffffffffff, 0x0⟩,
  ⟨"LE_EXTENT", 0x10000100, 0x8, 32, 0x0, 1, 0xfffffffffffffe00, 0xfffffffffffffe00, 0x0⟩,
  ⟨"LE_MEMBER", 0x10000200, 0x8, 16, 0x0, 1, 0xffff800000000000, 0xbfff800000000000, 0x0⟩,
  .counter "LE_CUTS" 0x10000800 0x8 1 0x0 1,
  .counter "LE_TORN" 0x10000808 0x8 1 0x0 1,
  .counter "LE_DELTA_BYTES" 0x10000810 0x8 1 0x0 1,
  .counter "LE_CHECK_FAIL" 0x10000818 0x8 1 0x0 1,
  .counter "LE_REBUILT_PAGES" 0x10000820 0x8 1 0x0 1,
  .counter "LE_RESTORES" 0x10000828 0x8 1 0x0 1,
  .counter "LE_FALLBACKS" 0x10000830 0x8 1 0x0 1,
  ⟨"SN_CONFIG", 0x11000000, 0x8, 1, 0x0, 1, 0xffffff80ffffffff, 0xffffffff, 0x0⟩,
  ⟨"SN_LOG_NEXT", 0x11000020, 0x8, 5, 0x0, 1, 0xffffffffffffffff, 0x0, 0x0⟩,
  ⟨"SN_SUSPECT", 0x11000100, 0x8, 32, 0x0, 1, 0xfff00000ffffffff, 0x0, 0x8000000000000000⟩,
  ⟨"SN_LADDER", 0x11000200, 0x8, 4, 0x0, 1, 0xffffff00ffff0001, 0xff00ffff0001, 0x0⟩,
  .counter "SN_SWATCHES" 0x11000800 0x8 1 0x0 1,
  .counter "SN_SWATCH_FAILS" 0x11000808 0x8 1 0x0 1,
  .counter "SN_LADDER_WARNINGS" 0x11000810 0x8 1 0x0 1,
  .counter "SN_SUSPECT_FULL" 0x11000818 0x8 1 0x0 1,
  .counter "SN_FSR_DROPPED" 0x11000820 0x8 1 0x0 1,
  .counter "SN_STRICT_RESETS" 0x11000828 0x8 1 0x0 1,
  .counter "SN_TILES_CHECKED" 0x11200800 0x1000 160 0x0 1,
  .counter "SN_CHECK_FAILS" 0x11200808 0x1000 160 0x0 1,
  .counter "SN_FOLDED" 0x11600000 0x8 256 0x1000 5,
  ⟨"RV_CONFIG", 0x12000000, 0x8, 1, 0x0, 1, 0xff00ffff00000001, 0xff00ffff00000001, 0x0⟩,
  ⟨"RV_STATUS", 0x12000008, 0x8, 1, 0x0, 1, 0xffffffffffffffff, 0x0, 0x0⟩,
  ⟨"RV_RESET", 0x12000010, 0x8, 1, 0x0, 1, 0x0, 0x0, 0x0⟩,
  ⟨"RV_GEN", 0x12000018, 0x8, 1, 0x0, 1, 0xffffffffff, 0x0, 0x0⟩,
  ⟨"RV_ISOLATE", 0x12000020, 0x8, 1, 0x0, 1, 0xffffffffffffff0f, 0x0, 0x0⟩,
  .counter "RV_ABORTS" 0x12000800 0x8 1 0x0 1,
  .counter "RV_RESETS_L0" 0x12000808 0x8 1 0x0 1]

/-- Registers, part 6 (R704, R706, R707). -/
def table6 : List RegRow := [
  .counter "RV_RESETS_L1" 0x12000810 0x8 1 0x0 1,
  .counter "RV_RESETS_L2" 0x12000818 0x8 1 0x0 1,
  .counter "RV_RESETS_L3" 0x12000820 0x8 1 0x0 1,
  .counter "RV_RESETS_L4" 0x12000828 0x8 1 0x0 1,
  .counter "GEN_STALE_F" 0x12000830 0x8 1 0x0 1,
  .counter "RV_E2E_DISCARDED" 0x12000838 0x8 1 0x0 1,
  .counter "RV_DUMP_UNREADABLE" 0x12000840 0x8 1 0x0 1,
  .counter "RV_DUMP_LOST" 0x12000848 0x8 1 0x0 1,
  .counter "RV_CYCLES" 0x12001800 0x1000 4 0x0 1,
  .counter "RV_STALLS" 0x12001808 0x1000 4 0x0 1,
  .counter "RV_ORPHANS" 0x12001810 0x1000 4 0x0 1,
  .counter "GEN_STALE_P" 0x12001818 0x1000 4 0x0 1,
  ⟨"RT_DEBUG", 0x13000000, 0x8, 1, 0x0, 1, 0x1, 0x1, 0x0⟩,
  ⟨"RT_FLOOR", 0x13000008, 0x8, 1, 0x0, 1, 0x3f0000003f, 0x3f0000003f, 0x0⟩,
  ⟨"RT_ISOLATION", 0x13000010, 0x8, 1, 0x0, 1, 0xffff, 0xffff, 0x0⟩,
  ⟨"RT_ENCRYPT", 0x13000018, 0x8, 1, 0x0, 1, 0x3, 0x3, 0x0⟩,
  ⟨"RT_KEY", 0x13000100, 0x8, 80, 0x0, 1, 0xffffffffffffffff, 0xffffffffffffffff, 0x0⟩,
  .counter "RT_SIG_FAILS" 0x13000800 0x8 1 0x0 1,
  .counter "RT_IMAGE_REFUSED" 0x13000808 0x8 1 0x0 1,
  .counter "RT_LINK_REJECTS" 0x13000810 0x8 1 0x0 1,
  .counter "RT_APPROVALS" 0x13000818 0x8 1 0x0 1,
  .counter "RT_APPROVALS_EXPIRED" 0x13000820 0x8 1 0x0 1,
  .counter "RT_SESSIONS" 0x13000828 0x8 1 0x0 1,
  ⟨"PM_CONFIG", 0x14000000, 0x8, 1, 0x0, 1, 0xffc0000000000000, 0x3fc0000000000000, 0x0⟩,
  ⟨"PM_STATUS", 0x14000008, 0x8, 1, 0x0, 1, 0xffffffffffff0000, 0x0, 0x0⟩,
  ⟨"PM_RAIL", 0x14000100, 0x8, 8, 0x0, 1, 0xffffffffffff000f, 0x0, 0x0⟩,
  ⟨"PM_VTABLE", 0x14001000, 0x1000, 4, 0x0, 1, 0xffffffff00000000, 0x0, 0x0⟩,
  .counter "PM_ENVELOPE_COURSES" 0x14000800 0x8 1 0x0 1,
  .counter "PM_THERMAL_COURSES" 0x14000808 0x8 1 0x0 1,
  .counter "PM_AVS_ERRORS" 0x14020800 0x1000 8 0x0 1]

/-- Registers, part 7 (R704, R706, R707). -/
def table7 : List RegRow := [
  .counter "PM_FOREWARNINGS" 0x14020808 0x1000 8 0x0 1,
  .counter "PM_WITHDRAWN" 0x14020810 0x1000 8 0x0 1]

/-- Every stored register of the control space (R704, R706, R707). -/
def table : List RegRow :=
  table1 ++ table2 ++ table3 ++ table4 ++ table5 ++ table6 ++ table7

/-- The row of the register at offset `a`, if a stored register lies there (R700). -/
def rowAt (a : Nat) : Option RegRow := table.find? (fun r => r.holds a)

end Sys2Proof.Machine.Reg
end

