-- ==== Sys2Proof/Machine/State.lean ====
section
/-! DEFINITION. The machine's state, its faults and refusals, and the state after reset.

Every piece of state the spec gives the device stands here as plain data. Control-space registers are
one table keyed by control-space offset (`Machine/Registers.lean` names the offsets); memory is one
table of bytes over the 48-bit device address space (R232). -/

namespace Sys2Proof.Machine

/-! ### Cores (02_core_execution.md, 03_matrix_arrays.md, 06_outliers_lowrank_fallback.md) -/

/-- The five instruction queues of a core (R39), in the order of R59. -/
inductive Queue
  | matrix | gauge | vector | move | control
  deriving DecidableEq, Repr

/-- A dispatched instruction: its place in the pattern's dispatch order, its pattern counter and its
word (R39, R45). -/
structure QEntry where
  seq : Nat
  pc : BitVec 32
  word : BitVec 128
  deriving DecidableEq, Repr

/-- A weight slot of an array: 16 KiB of tile bytes, 256 B16 scales, format code and valid columns
minus 1 (R38, R49, R80). -/
structure Slot where
  loaded : Bool
  fmt : Nat
  nvalidM1 : Nat
  tile : SMap Byte
  scales : SMap (BitVec 16)
  deriving DecidableEq, Repr

/-- An unloaded slot (R93). -/
def Slot.empty : Slot := ⟨false, 0, 0, [], []⟩

/-- One cable-path product waiting for its segment's promotion: row, column and the two B16 factors
(R106, R211). -/
structure CableTerm where
  row : Nat
  col : Nat
  x : BitVec 16
  w : BitVec 16
  deriving DecidableEq, Repr

/-- An accumulation run of one array (R98, R102–R106, R138): the buffer and format it names, whether
its next promotion overwrites, k-tiles in the open segment, the row and channel scales of the segment
(code + 1; 0 = not streamed), whether its segment is due for promotion, whether its last tile has
streamed, waiting cable terms, and the low-rank sums with their descriptor (R224). -/
structure Run where
  opened : Bool
  buf : Nat
  fmt : Nat
  init : Bool
  tiles : Nat
  rowScale : SMap Nat
  colScale : SMap Nat
  touched : NatSet
  due : Bool
  closing : Bool
  cable : List CableTerm
  lrcA : SMap (BitVec 36)
  lrcRank : Nat
  lrcV : Nat
  lrcRows : NatSet
  lrcCols : Nat
  deriving DecidableEq, Repr

/-- No run open (R93). -/
def Run.none : Run := ⟨false, 0, 0, false, 0, [], [], [], false, false, [], [], 0, 0, [], 0⟩

/-- A matrix array: its two weight slots, narrow file, two wide buffers and run (R38). -/
structure MArray where
  slot0 : Slot
  slot1 : Slot
  narrow : SMap (BitVec 20)
  wide0 : SMap (BitVec 36)
  wide1 : SMap (BitVec 36)
  run : Run
  deriving DecidableEq, Repr

/-- An array after a reset at L1 or above (R93). -/
def MArray.reset : MArray := ⟨Slot.empty, Slot.empty, [], [], [], Run.none⟩

/-- A tile in the cable path's queue (R221, R458): the `MA.MUL`'s order number, arrays selected, side
block, wide rows, compact flag, k-tile, rows, occupancy in cycles and whether its products go straight
to the buffer. -/
structure CableTile where
  seq : Nat
  arrays : List Nat
  sideBlock : Nat
  wrow : Nat
  compact : Bool
  ktile : Nat
  rows : Nat
  hasOutliers : Bool
  direct : Bool
  buf : Nat
  cols : List Nat
  cycles : Nat
  deriving DecidableEq, Repr

/-- Work of the low-rank unit (R224, R225): a tile's first stage, or a run's close. -/
inductive LrcWork
  | stage (seq : Nat) (arrays : List Nat) (factor rank rows kvalid fmt act scaleAt cycles : Nat)
  | close (seq : Nat) (arrays : List Nat) (cycles : Nat)
  deriving DecidableEq, Repr

/-- A move in a channel's list (R54, R55, R241): its instruction's order number, direction, core store
address, device address, coordinate (local when it is the device's own), bytes, bytes requested or
sent so far, bytes that have landed, and the end-to-end acknowledgements outstanding. -/
structure MoveOp where
  seq : Nat
  toGlobal : Bool
  coreAddr : Nat
  devAddr : Nat
  coord : Nat
  remote : Bool
  len : Nat
  sent : Nat
  landed : Nat
  acks : Nat
  deriving DecidableEq, Repr

/-- A request of a local move for one granule, queued at the controller of a partition in reset (R242, R532–R534): the core, its
move's order number, its partition's tag, where the granule lies in the core's store and in memory, and the bytes and poison of a
write; none of a read. -/
structure MemRequest where
  core : Nat
  seq : Nat
  tag : Nat
  coreAddr : Nat
  devAddr : Nat
  data : Option (List Byte × Bool)
  deriving DecidableEq, Repr

/-- An issued instruction that has not completed (R57). -/
structure Issued where
  queue : Queue
  entry : QEntry
  deriving DecidableEq, Repr

/-- A checked tile whose comparison has not closed (R455, R460): step, context, index, the `OPERATION` of its `MA.MUL` (R479),
arrays, the (array, row) pairs whose values disagree with those values (R487), by row × 4 + array, and whether it is a T4
tile. -/
structure OpenCheck where
  step : BitVec 32
  ctx : Nat
  index : Nat
  op : BitVec 64
  arrays : List Nat
  fails : List (Nat × Nat)
  values : SMap (List (Nat × Nat × Int))
  exact : Bool
  completed : Bool
  seq : Nat
  deriving DecidableEq, Repr

/-- Why a core is asked to switch (R72, R73): a command or event naming a context, a halt or a yield,
or an expired quantum. -/
inductive SwitchReq
  | named (ctx : Nat)
  | gaveUp (halted : Bool)
  | quantum
  | select
  deriving DecidableEq, Repr

/-- One core (R38), with the side units' queues, the order number of a `C.HALT` that has issued (R68), the `MA.MUL` that
holds the activation stream and the stream cycles it still has (R57, R61, R114), the stretches of streamed cycles of the
last four courses, each the first cycle and their number (R117), and the tension and ramp state of R117–R123: the cycle at
which the gap began and whether the resumption from it is announced. Cycles are those of `CastOn.elapsed`. -/
structure Core where
  resident : Option Nat
  residentSince : Course
  pc : BitVec 32
  halted : Bool
  nextSeq : Nat
  sregs : SMap (BitVec 64)
  vregs : SMap (BitVec 32)
  qMatrix : List QEntry
  qGauge : List QEntry
  qVector : List QEntry
  qMove : List QEntry
  qControl : List QEntry
  issued : List Issued
  arrays : List MArray
  cableQ : List CableTile
  lrcQ : List LrcWork
  moves0 : List MoveOp
  moves1 : List MoveOp
  moves2 : List MoveOp
  moves3 : List MoveOp
  checkIndex : Nat
  checks : List OpenCheck
  switch_ : Option SwitchReq
  waitingSwitch : Option SwitchReq
  stopped : Bool
  haltAt : Option Nat
  streamSeq : Nat
  streamLeft : Nat
  streamRow : Nat
  streamRuns : List (Nat × Nat)
  gapSince : Option Nat
  announced : Bool
  recentDuty : Nat
  tensionDuty : Nat
  tensionFalling : Bool
  tensionNext : Nat
  grantDuty : Nat
  grantNext : Nat
  forewarned : Bool
  fallDue : Nat
  inWindow : Bool
  deriving DecidableEq, Repr

/-- A core after reset (R93, R719): no resident context, registers 0, queues empty, slots unloaded. -/
def Core.reset : Core :=
  { resident := none, residentSince := 0, pc := 0, halted := false, nextSeq := 0, sregs := [], vregs := [],
    qMatrix := [], qGauge := [], qVector := [], qMove := [], qControl := [], issued := [],
    arrays := [MArray.reset, MArray.reset, MArray.reset, MArray.reset], cableQ := [], lrcQ := [],
    moves0 := [], moves1 := [], moves2 := [], moves3 := [], checkIndex := 0, checks := [],
    switch_ := none, waitingSwitch := none, stopped := false, haltAt := none, streamSeq := 0, streamLeft := 0, streamRow := 1,
    streamRuns := [], gapSince := none, announced := false, recentDuty := 0,
    tensionDuty := 0, tensionFalling := false, tensionNext := 0, grantDuty := 16, grantNext := 0,
    forewarned := false, fallDue := 0, inWindow := false }

/-- What a switched-out context keeps on a core beside its save image (R75, R77): the image has no
place for the dispatch order and pattern counters of queued instructions, nor for the segment scales,
waiting cable terms, low-rank sums and check index that R126 and the text of R75 require to survive. -/
structure SideState where
  resident : Bool
  halted : Bool
  haltAt : Option Nat
  pcOverride : Option (BitVec 32)
  tags : List (Nat × BitVec 32)
  runs : List Run
  checkIndex : Nat
  nextSeq : Nat
  deriving DecidableEq, Repr

/-- A context that has not been resident on the core (R719). -/
def SideState.none : SideState := ⟨false, false, Option.none, Option.none, [], [], 0, 0⟩
/-! ### Memory (07_memory.md) -/

/-- How a granule of the tier is stored (R258, R259): as its bytes stand (`key` empty), or encrypted under a key with a
tweak, the bytes then being the plaintext. -/
structure Seal where
  key : List Byte
  tweak : Nat
  deriving DecidableEq, Repr

/-- Stored bytes that no key of a region has sealed. -/
def Seal.raw : Seal := ⟨[], 0⟩

/-- A dirty bitmap (R254): page `n`'s bit is `base` unless `n` is listed in `flip`, so that the bitmap
of all ones that R257 asks for is as small as the empty one. -/
structure Bitmap where
  base : Bool
  flip : NatSet
  deriving DecidableEq, Repr

/-- The bitmap of zeros. -/
def Bitmap.zero : Bitmap := ⟨false, []⟩

/-- The dirty bitmaps of a partition: two for HBM, two for the tier, and which is active (R254). -/
structure Dirty where
  hbm0 : Bitmap
  hbm1 : Bitmap
  tier0 : Bitmap
  tier1 : Bitmap
  active : Nat
  deriving DecidableEq, Repr

/-- Bitmaps of zeros, bitmap 0 active. -/
def Dirty.zero : Dirty := ⟨Bitmap.zero, Bitmap.zero, Bitmap.zero, Bitmap.zero, 0⟩
/-! ### Sentinel (13_sentinel_silent_errors.md) -/

/-- A log entry (R479). -/
structure LogEntry where
  course : Course
  stitch : Nat
  unit_ : BitVec 32
  cls : Nat
  severity : Nat
  ctx : Nat
  operation : BitVec 64
  address : BitVec 64
  syndrome : BitVec 64
  temp : BitVec 16
  voltage : BitVec 16
  step : BitVec 32
  count : Nat
  seq : Nat
  deriving DecidableEq, Repr

/-- A fault signature record's payload (R487); `nonce` is the cast-on nonce at its writing. -/
structure Fsr where
  number : Nat
  course : Course
  step : BitVec 32
  kind : Nat
  cls : Nat
  unit_ : BitVec 32
  operation : BitVec 64
  syndrome : BitVec 64
  temp : BitVec 16
  voltage : BitVec 16
  counts : SMap Nat
  detail : List Byte
  tag : BitVec 32
  nonce : BitVec 64
  deriving DecidableEq, Repr

/-- A swatch window in progress (R469): its start, length in courses, unit set, core store region and
the contexts it took off the cores of its partition. -/
structure Window where
  start : Course
  length : Nat
  kinds : Nat
  region : Nat
  residents : List (Option Nat)
  deriving DecidableEq, Repr

/-- The sentinel: error logs, fault signature buffer, ladder counts, comparisons and swatches, and the stitch at which each
context's fault record arose (R708). -/
structure Sentinel where
  logs : SMap (Option LogEntry)
  fsr : List Fsr
  fsrNext : Nat
  hourCounts : SMap Nat
  ladderNow : SMap Nat
  ladderPrev : SMap Nat
  coreWindow : SMap Nat
  sinceWarned : SMap Nat
  ladderFlag : Bool
  checkFails : Nat
  failedSteps : List (BitVec 32)
  failedTiles : List (BitVec 32 × Nat × Nat × Nat × Nat)
  failStreak : SMap Nat
  lastSwatch : SMap (Option Course)
  windowCount : SMap Nat
  windows : SMap (Option Window)
  faultAt : SMap Nat
  deriving DecidableEq, Repr

/-- The sentinel after L5: empty logs and buffers (R482). -/
def Sentinel.reset : Sentinel :=
  { logs := [], fsr := [], fsrNext := 0, hourCounts := [], ladderNow := [], ladderPrev := [], coreWindow := [], sinceWarned := [],
    ladderFlag := false, checkFails := 0, failedSteps := [], failedTiles := [], failStreak := [],
    lastSwatch := [], windowCount := [], windows := [], faultAt := [] }
/-! ### Parium ports, router and end-to-end flows (08_parium_fabric.md) -/

/-- What a packet's tag shows its receiver (R289, R290). -/
inductive TagFate
  | good | stomp | wrong
  deriving DecidableEq, Repr

/-- A flit as a port sends it (R276, R291): what it stands for, its 64 bytes, and the key phase of the block in which it was
first sent. -/
structure TxFlit where
  flit : Flit
  bytes : List Byte
  phase : Bool
  deriving DecidableEq, Repr

/-- A Parium port (R270–R294, R303): training step and kind, the replay buffer from the peer's `ACK`
on, sequence numbers, credits, the input buffer by VC, the packet that is arriving, under which key index and count, and the
output port to which its head has been forwarded, the bytes of the packet that is leaving, key phases, indexes and counts,
whether the next packet begins under the next key, the last block and the levels it put on the lanes, and the output port's
arbitration state. The port's `STATE`, `DELAY` and peer fields stand in `PP_STATUS`. -/
structure Port where
  trainStep : Nat
  fast : Bool
  txSeq : BitVec 12
  acked : BitVec 12
  replayBuf : List TxFlit
  replayFrom : Option Nat
  sameAckReplays : Nat
  fastRetrains : List Course
  rxExpect : BitVec 12
  naking : Bool
  unackedSince : Nat
  lastHeard : Nat
  occ : SMap Nat
  crSeen : SMap (BitVec 10)
  freed : SMap Nat
  reported : SMap Nat
  resyncLeft : Nat
  rxPart : Option (Packet × Nat)
  rxKey : Nat × BitVec 64
  rxOut : Option Nat
  txArriving : Bool
  rxResync : Nat
  inBuf : SMap (List Packet)
  txQueue : List Packet
  txIndex : Nat
  txBytes : List Byte
  txStomp : Bool
  keyPending : Bool
  keyPhaseTx : Bool
  keyPhaseRx : Bool
  keyIndexTx : Nat
  keyIndexRx : Nat
  nonceTx : BitVec 64
  nonceRx : BitVec 64
  lastBlock : Option Block
  lanes : List (List Nat)
  recentFlits : List (Nat × Nat)
  deficit : SMap Nat
  lastInput : SMap Nat
  deriving DecidableEq, Repr

/-- A port out of reset: DOWN, nothing buffered, every counter 0, the round robin at its first input. -/
def Port.reset : Port :=
  { trainStep := 0, fast := false, txSeq := 0, acked := 0, replayBuf := [], replayFrom := none,
    sameAckReplays := 0, fastRetrains := [], rxExpect := 0, naking := false, unackedSince := 0, lastHeard := 0,
    occ := [], crSeen := [], freed := [], reported := [], resyncLeft := 0, rxPart := none, rxKey := (0, 0),
    rxOut := none, txArriving := false, rxResync := 0, inBuf := [], txQueue := [], txIndex := 0, txBytes := [],
    txStomp := false, keyPending := false, keyPhaseTx := false, keyPhaseRx := false, keyIndexTx := 0, keyIndexRx := 0,
    nonceTx := 0, nonceRx := 0, lastBlock := none, lanes := [], recentFlits := [], deficit := [], lastInput := [] }

/-- Where a reliable packet's payload is read from again (R307), and the operation it belongs to. -/
inductive Origin
  | literal
  | memory (addr : Nat)
  | record (addr : Nat) (first : Bool)
  deriving DecidableEq, Repr

/-- The operation a reliable packet belongs to, told of its acknowledgement (R55, R307, R389, R420). -/
inductive Owner
  | none
  | move (core seq : Nat)
  | rraise (core ctx seq : Nat)
  | journal (step : BitVec 32)
  | compare (step : BitVec 32)
  | buddy
  | read (tag : Nat)
  deriving DecidableEq, Repr

/-- An unacknowledged reliable packet of a sender flow (R307); `toward` is the logical coordinate it was
built for, if one (R297). -/
structure Unacked where
  seq : BitVec 32
  packet : Packet
  origin : Origin
  owner : Owner
  toward : Option (BitVec 15)
  sentAt : Course
  tries : Nat
  deriving DecidableEq, Repr

/-- A sender flow (R307, R309). -/
structure SendFlow where
  dest : Nat
  nextSeq : BitVec 32
  unacked : List Unacked
  lastActive : Course
  deriving DecidableEq, Repr

/-- A receiver flow (R308, R309): the sequence below which all have arrived, and which of the 256 above
it have. -/
structure RecvFlow where
  src : Nat
  low : BitVec 32
  seen : List (BitVec 32)
  gens : SMap (Option (BitVec 8))
  lastActive : Course
  deriving DecidableEq, Repr

/-- An entry of the read table (R302): the requester, its tag and the granules still to acknowledge. -/
structure ReadEntry where
  src : Nat
  tag : BitVec 16
  left : Nat
  deriving DecidableEq, Repr

/-- What awaits a read's responses (R308): a move of a core, the step keeper's read of a partner record,
or entry n of what a spare fill of the lifeline engine copies. -/
inductive ReadFor
  | move (core seq : Nat)
  | record
  | fill (n : Nat)
  deriving DecidableEq, Repr

/-- An outstanding read of this device (R302, R308). -/
structure ReadWait where
  tag : BitVec 16
  purpose : ReadFor
  left : Nat
  deriving DecidableEq, Repr

/-- A reliable packet that the flow limits hold back (R546), the torus port it is bound to leave by, and how often it has
been sent again (R310). -/
structure HeldPacket where
  packet : Packet
  origin : Origin
  owner : Owner
  toward : Option (BitVec 15)
  port : Option Nat
  tries : Nat
  deriving DecidableEq, Repr

/-- A packet for a unit at a link's own end (R282): the port, the packet, and the course and stitch at which the block
that carried its end began to arrive (R362). -/
structure LinkPacket where
  port : Nat
  packet : Packet
  course : Course
  stitch : Nat
  deriving DecidableEq, Repr

/-- The fabric side of the device: ports, local injection by VC (each packet with the port it must leave by, if one), packets
delivered to the local endpoints and to link-local units, flows, read tables, the fault map, the torus ports whose neighbours
are still to be asked for theirs (R305), and whether a packet for the partner's tier was given up (R310). -/
structure Fabric where
  ports : SMap Port
  inject : SMap (List (Packet × Option Nat))
  arrived : List (Nat × Packet)
  linkArrived : List LinkPacket
  sendFlows : List SendFlow
  recvFlows : List RecvFlow
  held : List HeldPacket
  readTable : List ReadEntry
  reads : List ReadWait
  nextTag : BitVec 16
  faultMap : List (BitVec 64)
  ownRecords : BitVec 16
  mapsDue : List Nat
  buddyLost : Bool
  deriving DecidableEq, Repr

/-- The fabric side out of reset. -/
def Fabric.reset : Fabric :=
  { ports := [], inject := [], arrived := [], linkArrived := [], sendFlows := [], recvFlows := [], held := [],
    readTable := [], reads := [], nextTag := 0, faultMap := [], ownRecords := 0, mapsDue := [], buddyLost := false }

/-! ### Collective engine and mapping (09_collectives_and_mapping.md) -/

/-- A collective descriptor as read from its queue slot (R315). -/
structure Descriptor where
  op : Nat
  axis : Nat
  inFmt : Nat
  wireFmt : Nat
  outFmt : Nat
  flags : Nat
  waitCore : Nat
  waitTok : Nat
  waitCnt : Nat
  raiseCore : Nat
  raiseTok : Nat
  granules : Nat
  src : Nat
  dst : Nat
  partnerDst : Nat
  scaleAddr : Nat
  rowLen : Nat
  resv : Nat
  deriving DecidableEq, Repr

/-- One direction of a running descriptor (R335–R337): buffers granted to this device as a sender, packets
sent and packets taken so far in the order of R337, buffers freed since the last return, and partial sums
and relayed blocks that wait to be sent on. -/
structure CollDir where
  granted : Nat
  sent : Nat
  taken : Nat
  freed : Nat
  waiting : List (Nat × Nat × List (Nat × Bool))
  deriving DecidableEq, Repr

/-- No grant, nothing sent or taken. -/
def CollDir.none : CollDir := ⟨0, 0, 0, 0, []⟩

/-- A running collective descriptor: its context, number, slot and description; whether it belongs to a
diagnosis context, which sends and receives nothing (R402); the axis extent, the positions of its present
members in ring or line order and this device's place among them; the three directions (+, −, partner); on
a line the partials of one side that wait for the other, with the packets finished; when a packet last
arrived; whether it is LOST; and whether it has completed and only passes on what its neighbours still await (R318). -/
structure Running where
  ctx : Nat
  seq : BitVec 13
  slot : Nat
  desc : Descriptor
  silent : Bool
  extent : Nat
  members : List Nat
  own : Nat
  line : Bool
  plus : CollDir
  minus : CollDir
  partner : CollDir
  halves : List (Nat × Bool × List (Nat × Bool))
  finals : Nat
  lastPacket : Course
  lost : Bool
  completed : Bool
  deriving DecidableEq, Repr

/-- The collective engine: running descriptors, per-context numbering, grants that arrived before their
descriptor started, descriptors that have granted their upstream neighbours but not started, with the
buffers they reserve, the plan of R348–R350, removed replicas, the reclaim hold of R531, whether a step abort holds the job's
descriptors back until the reclaim (R529) and the step-end reduction. -/
structure Collective where
  running : List Running
  nextSeq : SMap (BitVec 13)
  early : List (Nat × BitVec 13 × Nat × Nat)
  offered : List (Nat × BitVec 13 × Nat)
  buffersUsed : Nat
  plan : List Nat
  planStep : BitVec 32
  durations : List (BitVec 32)
  removed : NatSet
  lineEnds : SMap Nat
  reclaimed : SMap (Option Course)
  abortHold : Bool
  contributed : List (BitVec 32)
  vector : List Byte
  durationFixed : SMap Nat
  ownSwatch : Bool
  stepCourse : Course
  deriving DecidableEq, Repr

/-- The collective engine out of reset. -/
def Collective.reset : Collective :=
  { running := [], nextSeq := [], early := [], offered := [], buffersUsed := 0, plan := [], planStep := 0, durations := [],
    removed := [], lineEnds := [], reclaimed := [], abortHold := false, contributed := [], vector := [], durationFixed := [], ownSwatch := false, stepCourse := 0 }

/-! ### Timebase (10_course_time.md) -/

/-- A beacon's content as it was received on a port (R360), and when it was received. -/
structure Heard where
  term : BitVec 16
  master : BitVec 15
  holdover : Bool
  hops : Nat
  at_ : Course
  deriving DecidableEq, Repr

/-- An event that has fired and been handed to its unit (R373, R375): table, action, `CONTEXT`, `PARAM` and the
course at which it fired. -/
structure Handed where
  table : Nat
  action : Nat
  ctx : Nat
  param : Nat
  course : Course
  deriving DecidableEq, Repr

/-- An event that a unit arms, and whose entry it takes as the stitch ends (R702): table, action, `PARAM`, course, and whether it is
to fire in the next stitch whatever its course (R32). -/
structure UnitArm where
  table : Nat
  action : Nat
  param : Nat
  course : Course
  soon : Bool
  deriving DecidableEq, Repr

/-- The timebase: the course and stitch counters, the last beacon of each port, the runs of good and bad
beacons, when a beacon was last heard at all, the steering in parts per billion, whether the device has been LOCKED since its reset
(R355–R371), the events handed over and held back, and the entries that fire in the stitch after their
arming, each with the cycle of that (R32, R397), and the events that units arm in the stitch (R702). -/
structure Timebase where
  course : Course
  stitch : Nat
  heard : SMap (Option Heard)
  good : Nat
  bad : Nat
  parentAt : Option Course
  quietSince : Course
  steered : Int
  locked : Bool
  handed : List Handed
  deferred : List Handed
  soon : List (Nat × Nat × Nat)
  arming : List UnitArm
  deriving DecidableEq, Repr

/-- Course 0, stitch 0, nothing heard (R371). -/
def Timebase.reset : Timebase :=
  { course := 0, stitch := 0, heard := [], good := 0, bad := 0, parentAt := none, quietSince := 0, steered := 0, locked := false, handed := [], deferred := [], soon := [],
    arming := [] }

/-! ### Step keeper (11_step_keeper.md) -/

/-- What a held journal slot holds (R392): the step, its arm, and how far its record has come. -/
structure JournalEntry where
  step : BitVec 32
  startCourse : Course
  batchAddr : Nat
  batchGranules : Nat
  seeds : List Byte
  recorded : Bool
  localDone : Bool
  copyDone : Bool
  copyLeft : Nat
  durable : Bool
  unmirrored : Bool
  refused : Bool
  replay : Bool
  started : Bool
  decided : Bool
  captured : List (Nat × Nat × Nat)
  deriving DecidableEq, Repr

/-- The step keeper: own slots 0–7 and the partner copies 8–15 by their step, the reference step of
R392, the replay in progress and the entries it reserves, whether a lifeline has been restored since the abort (R594), whether a spare fill brought the boundary (R400), steps decided, whether an applied update is held (R33),
whether a replay waits for its record from the partner, the partner copy that is arriving (its step, the
bytes still to come and whether it is kept), and the contexts that have begun the step in progress (R351). -/
structure StepKeeper where
  own : SMap (Option JournalEntry)
  copies : SMap (Option (BitVec 32))
  reference : Option (BitVec 32)
  replaying : Option (BitVec 32)
  reserved : SMap (Option Nat)
  restored : Bool
  filled : Bool
  decidedThrough : Option (BitVec 32)
  lastApplied : Bool
  updateHeld : Bool
  boundary : Option (BitVec 32)
  prevBoundary : Option (BitVec 32)
  awaitingRecord : Bool
  incoming : Option (BitVec 32 × Nat × Bool)
  begun : List Nat
  deriving DecidableEq, Repr

/-- The step keeper out of reset. -/
def StepKeeper.reset : StepKeeper :=
  { own := [], copies := [], reference := none, replaying := none, reserved := [], restored := false, filled := false,
    decidedThrough := none, lastApplied := false, updateHeld := false, boundary := none, prevBoundary := none, awaitingRecord := false, incoming := none,
    begun := [] }

/-! ### Job and configuration (01_architecture.md R35, 09_collectives_and_mapping.md R345) -/

/-- The mode of the overlay in force (R35); `none` before any mode overlay is. -/
inductive Mode
  | none | train | serve | swatch | recover
  deriving DecidableEq, Repr

/-- The settings in force (R35): the overlays' choices and the 32-bit configuration tag of R22. -/
structure Settings where
  mode : Mode
  level : Nat
  compat : Bool
  cadence : Nat
  groupK : Nat
  capDefault : Nat
  envelope : Nat
  tag : BitVec 32
  deriving DecidableEq, Repr

/-- The loaded job (R345, R346): its mapping descriptor's 64 bytes and its context mask. -/
structure Job where
  loaded : Bool
  mapping : List Byte
  ctxMask : BitVec 16
  deriving DecidableEq, Repr

/-- No job loaded. -/
def Job.none : Job := ⟨false, [], 0⟩
/-! ### Recovery controller (14_hang_reset_recovery.md) -/

/-- A reset the recovery controller has decided on (R504): level, domain and cause. The domain is 0–3 a
partition, 4 the fabric domain, 5 the chip, 16 + x context x, 256 + c core c, 256 + 0xA0 to 0xA2 the
collective engine, the step keeper and the lifeline engine. -/
structure ResetDue where
  level : Nat
  domain : Nat
  cause : Nat
  deriving DecidableEq, Repr

/-- Where a domain stands in R510: free of resets, in a reset since a stitch, or watched after one. -/
inductive DomainState
  | normal
  | inReset (level cause since course : Nat)
  | watch (level cause releasedAt : Nat)
  deriving DecidableEq, Repr

/-- A reset released in a domain (R510): its level and the course. -/
structure PastReset where
  level : Nat
  at_ : Course
  deriving DecidableEq, Repr

/-- A section of a dump (R522): unit path, status, the course of the read and the unit's state. -/
structure DumpSection where
  unit_ : BitVec 32
  status : Nat
  state : List Byte
  at_ : Course
  deriving DecidableEq, Repr

/-- A dump (R521, R522). -/
structure Dump where
  level : Nat
  domains : Nat
  cause : Nat
  course : Course
  sections : List DumpSection
  unread : Bool
  deriving DecidableEq, Repr

/-- What a domain in reset shows of its read-only state: registers and tokens as they stood at its fence (R703). -/
structure Fence where
  regs : SMap Word
  tokens : SMap (BitVec 16)
  deriving DecidableEq, Repr

/-- A dump being taken (R519, R520): its domain, the units still to read, in order of unit path, and the course at which the
first of them had its turn. -/
structure Dumping where
  domain : Nat
  dump : Dump
  toRead : List (BitVec 32 × Nat)
  turn : Course
  deriving DecidableEq, Repr

/-- A recovery controller's message (R499). -/
structure RvMessage where
  msg : Nat
  cause : Nat
  originSeq : BitVec 16
  origin : BitVec 15
  newEpoch : BitVec 16
  step : BitVec 32
  mappingTag : BitVec 32
  recCount : Nat
  digest : List Byte
  removed : BitVec 32
  records : List (BitVec 64)
  deriving DecidableEq, Repr

/-- A wait state captured at a sample (R490): the node (the core and queue of a head, a descriptor, or work of the step keeper
or lifeline engine), its order number, the token it awaits and the token's value, and whether it waits for staging buffers. -/
structure WaitState where
  node : Nat
  seq : Nat
  token : Option Nat
  value : Nat
  staging : Bool
  deriving DecidableEq, Repr

/-- An isolation after an L1 (R518): the engine, the suspects still to run alone, the one that runs alone, since
when, every suspect, those whose diagnosis replay the host still owes, those that reproduced, the cores on which the
one that runs has yielded, and the cause. -/
structure Isolation where
  engine : Nat
  queue : List Nat
  current : Option Nat
  since : Course
  suspects : List Nat
  awaiting : List Nat
  reproduced : List Nat
  yielded : NatSet
  cause : Nat
  deriving DecidableEq, Repr

/-- The recovery controller; `fences` holds, by domain, what a domain in reset shows (R703), and `requests` the requests queued at
memory controllers of partitions in reset, in their order of arrival (R534). -/
structure Recovery where
  due : List ResetDue
  domains : SMap DomainState
  past : SMap (List PastReset)
  silent : SMap Nat
  stalls : List (WaitState × Nat)
  cycles : List (List Nat × Nat)
  recent : List (List (Nat × Nat))
  originSeq : BitVec 16
  remembered : List (BitVec 15 × BitVec 16 × Course)
  advance : Option (RvMessage × Course)
  dump0 : Option Dump
  dump1 : Option Dump
  newest : Nat
  dumping : Option Dumping
  dumpQueue : List Dumping
  isolation : Option Isolation
  held : NatSet
  heartbeat : BitVec 16
  tokenZeroed : SMap (Option Course)
  fences : SMap (Option Fence)
  requests : List MemRequest
  deriving DecidableEq, Repr

/-- The recovery controller out of L5. -/
def Recovery.reset : Recovery :=
  { due := [], domains := [], past := [], silent := [], stalls := [], cycles := [], recent := [],
    originSeq := 0, remembered := [], advance := none, dump0 := none, dump1 := none, newest := 0, dumping := none,
    dumpQueue := [], isolation := none, held := [], heartbeat := 0, tokenZeroed := [], fences := [], requests := [] }

/-! ### Lifeline engine (12_lifelines_spares_shrink.md) -/

/-- A cut in progress (R420): its generation, boundary and cut course, the buffer of pairs that holds the
boundary, its delta slot once chosen, how far it has come (0 begun, 4 written, 5 reported), what was written,
when its report and its manifest query were sent, and its outgoing bitmaps by partition, HBM and tier, once a later cut has
swapped the bitmaps again (R255, assumption 172). -/
structure Cut where
  gen : BitVec 32
  step : BitVec 32
  course : Course
  buf : Nat
  slot : Nat
  phase : Nat
  fromGen : BitVec 32
  len : Nat
  digest : List Byte
  reportAt : Option Course
  queriedAt : Option Course
  kept : Option (List (Bitmap × Bitmap))
  deriving DecidableEq, Repr

/-- A skein report held by the group leader (R425). -/
structure SkeinReport where
  index : Nat
  gen : BitVec 32
  step : BitVec 32
  fromGen : BitVec 32
  len : Nat
  digest : List Byte
  deriving DecidableEq, Repr

/-- Work that a commit leaves (R432, R435): its generation and the stripes whose parity chains have still to pass
this device. How far the bases are folded stands in the headers of the regions. -/
structure Fold where
  gen : BitVec 32
  stripes : NatSet
  deriving DecidableEq, Repr

/-- Running P and Q deltas of a stripe's parity chain that this device has passed on, and the members to whom (R435). -/
structure ChainPass where
  gen : BitVec 32
  stripe : Nat
  to_ : List Nat
  p : ChainDelta
  q : ChainDelta
  deriving DecidableEq, Repr

/-- An exchange of failure-domain tags on `ENABLE` (R439): who has still to answer. -/
structure TagExchange where
  since : Course
  awaiting : NatSet
  deriving DecidableEq, Repr

/-- A restore (R440, R443): its result slot, generation, the manifest once one that passes is held, and its start. -/
structure RestoreWork where
  slot : Nat
  gen : BitVec 32
  manifest : List Byte
  since : Course
  deriving DecidableEq, Repr

/-- A spare fill (R446): its result slot, the entries of its table and the bytes it copies. -/
structure FillWork where
  slot : Nat
  total : Nat
  bytes : Nat
  deriving DecidableEq, Repr

/-- A snapshot (R449): its region, its boundary once taken, and its state, 0 none, 1 copying, 2
complete, 3 failed. -/
structure Snapshot where
  region : Nat
  step : BitVec 32
  state : Nat
  deriving DecidableEq, Repr

/-- A snapshot that an event has asked for and that waits (R449): its region, whether an update that completes after the event
has been decided or was under way, and its boundary once that is fixed. -/
structure SnapshotDue where
  region : Nat
  armed : Bool
  boundary : Option (BitVec 32)
  deriving DecidableEq, Repr

/-- The lifeline engine: generations, armed, due and running cuts, the reports that a leader holds, the work after a
commit, adoption of the partner's shard (and whether it is new since the last commit), whether the base counts as
zero, since which course the partner's base stands as it does and whether the parity sets are a former job's, slots whose tear the
partner has not been told, the generation that fell back last, and restores, fills and snapshots. A due cut is its boundary,
generation, course and the buffer that holds the boundary. -/
structure Lifeline where
  lastGen : BitVec 32
  armed : List (BitVec 32)
  due : List (BitVec 32 × BitVec 32 × Course × Nat)
  carryCut : Bool
  cuts : List Cut
  reports : List SkeinReport
  fold : Option Fold
  passed : List ChainPass
  exchange : Option TagExchange
  adopted : Bool
  adoptedNew : Bool
  baseZero : Bool
  buddySince : Option Course
  parityZero : Bool
  untold : List Nat
  fellBack : Option (BitVec 32)
  restore : Option RestoreWork
  fill : Option FillWork
  snapshot : Snapshot
  snapshotDue : List SnapshotDue
  holdUpdate : Bool
  deriving DecidableEq, Repr

/-- The lifeline engine out of reset. -/
def Lifeline.reset : Lifeline :=
  { lastGen := 0, armed := [], due := [], carryCut := false, cuts := [], reports := [], fold := none, passed := [],
    exchange := none, adopted := false, adoptedNew := false, baseZero := false, buddySince := none, parityZero := false, untold := [], fellBack := none, restore := none, fill := none,
    snapshot := ⟨0, 0, 0⟩, snapshotDue := [], holdUpdate := false }
/-! ### Commands, results and serving (17_command_set.md) -/

/-- A sequence state (R582, R583): fresh, the highest number accepted, and the numbers accepted. -/
structure SeqState where
  fresh : Bool
  high : BitVec 32
  marks : NatSet
  deriving DecidableEq, Repr

/-- A sequence state before its first command. -/
def SeqState.reset : SeqState := ⟨true, 0, []⟩

/-- A command that holds a command slot (R537): where its reply goes, its number, opcode and body, whether the two halves of
the root of trust agree on its outcome (R607), and the sequence state before it was accepted, which stands again should it take
no result slot (R598); none where a read is carried out again (R584). -/
structure CmdSlot where
  from_ : Peer
  seq : BitVec 32
  opcode : BitVec 16
  body : List Byte
  agree : Bool
  prior : Option SeqState
  deriving DecidableEq, Repr

/-- A reply held in the cache (R584). -/
structure CachedReply where
  seq : BitVec 32
  opcode : BitVec 16
  status : Nat
  body : List Byte
  deriving DecidableEq, Repr

/-- A result slot (R598): its header and its body of up to 64 KiB. -/
structure ResultSlot where
  isPartial : Bool
  ring : Bool
  opcode : BitVec 16
  seq : BitVec 32
  status : Nat
  len : Nat
  done : Course
  leaseEnd : Course
  body : SMap Byte
  deriving DecidableEq, Repr

/-- An overlay that has been verified (R36, R37): its kind and its image, header first (R613). -/
structure Overlay where
  site : Bool
  image : List Byte
  deriving DecidableEq, Repr

/-- A staged overlay awaiting verification (R591): its result slot, kind and extent. -/
structure Staging where
  slot : Nat
  kind : Nat
  addr : Nat
  len : Nat
  deriving DecidableEq, Repr

/-- A request of a serving stream (R603) and the stitch at which it arrives (R124). -/
structure Request where
  ident : BitVec 64
  input : Nat
  len : Nat
  output : Nat
  arrives : Nat
  deriving DecidableEq, Repr

/-- A serving stream (R603, R605). -/
structure Stream where
  ctx : Nat
  deadline : Nat
  area : Nat
  granules : Nat
  table : Nat
  slot : Nat
  waiting : List Request
  closed : List (List Request)
  running : Option (List Request)
  faulted : Bool
  closing : Bool
  deriving DecidableEq, Repr

/-- Work a deferred command has begun whose outcome a context's halt brings (R404, R602). -/
structure Diagnosis where
  slot : Nat
  ctx : Nat
  step : BitVec 32
  deriving DecidableEq, Repr

/-- A `CS_READ` of more words than one stitch reads: the command, and the words read so far (R592). -/
structure Reading where
  cmd : CmdSlot
  words : List Byte
  deriving DecidableEq, Repr

/-- The command interpreter, its result slots and the serving streams; `reading` is the read that it is carrying out, and
`stitchRegs` the registers as they stood when the stitch began (R587), and `stepsWritten` the `GU_STEP` registers that the firmware has
written in the stitch (R710). -/
structure Commands where
  seqOpen : SeqState
  seqSession : SeqState
  queue : List CmdSlot
  reading : Option Reading
  stitchRegs : SMap Word
  stepsWritten : List Nat
  cache : List CachedReply
  results : SMap (Option ResultSlot)
  interpreter : Nat
  staging : List Staging
  stagedMode : Option Overlay
  stagedSite : Option Overlay
  modeOverlay : Option Overlay
  siteOverlay : Option Overlay
  streams : SMap (Option Stream)
  stepWords : SMap (BitVec 64)
  diagnosis : Option Diagnosis
  replaySlot : Option Nat
  bindOff : Option Nat
  lastDecided : BitVec 32
  deriving DecidableEq, Repr

/-- The interpreter out of L5: every slot free, sequence states fresh. -/
def Commands.reset : Commands :=
  { seqOpen := SeqState.reset, seqSession := SeqState.reset, queue := [], reading := none, stitchRegs := [], stepsWritten := [], cache := [], results := [],
    interpreter := 0, staging := [], stagedMode := none, stagedSite := none, modeOverlay := none,
    siteOverlay := none, streams := [], stepWords := [], diagnosis := none,
    replaySlot := none, bindOff := none, lastDecided := 0 }
/-! ### Host port (16_host_port.md) and sessions (18_security.md) -/

/-- A frame that the device sends on port H: an FCP datagram of its bytes (R567) with the association number
that protects it, or the frame of another protocol. -/
inductive Sent
  | fcp (to_ : Peer) (datagram : List Byte)
  | announce (datagram : List Byte)
  | pfc (bulk : Bool) (quanta : BitVec 16)
  | neighborAdvert (to_ : Peer) (target : BitVec 128)
  | arpReply (to_ : Peer) (ip : BitVec 32)
  | echoReply (to_ : Peer)
  | rdmaAck (to_ : Peer) (qp psn : Nat)
  | rdmaNak (to_ : Peer) (qp psn : Nat) (code : RdmaNak)
  | rdmaData (to_ : Peer) (qp psn : Nat) (data : List Byte)
  | cnp (to_ : Peer) (qp : Nat)
  | dadProbe (target : BitVec 128)
  deriving DecidableEq, Repr

/-- The SecTAG of a frame sent, with its SCI and the keys it is protected under (R562). -/
structure SecTag where
  sci : BitVec 64
  keys : SecureKeys
  an : Nat
  pn : BitVec 64
  deriving DecidableEq, Repr

/-- A frame that has left: its source address, its VLAN and its priority where one is stated (R552), whether its IP header is
marked ECT(0) (R570), its protection and what it carries. -/
structure SentFrame where
  source : BitVec 48
  vlan : Nat
  priority : Option Nat
  ect0 : Bool
  tag : Option SecTag
  body : Sent
  deriving DecidableEq, Repr

/-- A read in progress on a queue pair (R575): where its data go, the next address, bytes left and the PSN of the
next response. -/
structure RdmaReadJob where
  to_ : Peer
  addr : Nat
  left : Nat
  psn : Nat
  deriving DecidableEq, Repr

/-- A part of a WRITE that has been accepted and waits, because a partition whose memory it, or one before it on its queue pair,
reaches is in reset (R266): its queue pair, where its ACK goes, the host's number, its bytes, its PSN and whether it draws an
ACK. -/
structure HeldWrite where
  qp : Nat
  to_ : Peer
  hostQpn : Nat
  addr : Nat
  data : List Byte
  psn : BitVec 24
  ack : Bool
  deriving DecidableEq, Repr

/-- A queue pair (R570, R571): the host's number, the PSN expected, path MTU code, error state, the rate
in units of 1/1,024 GB/s, the course of the last CNP or rise of the rate, the stitch of the last CNP sent, the write
in progress (next address and bytes left), packets since the last ACK, the reads in progress, and the stitch from which its next
read response may leave. -/
structure QueuePair where
  hostQpn : Nat
  psn : BitVec 24
  psnOut : BitVec 24
  mtu : Nat
  error : Bool
  rate : Nat
  lastCnp : Course
  lastCnpSent : Option Nat
  message : Option (Nat × Nat)
  sinceAck : Nat
  reads : List RdmaReadJob
  nextAt : Nat
  deriving DecidableEq, Repr

/-- A host session (R618–R621): its identifier, the secret S_i, association number and packet number to send; the previous
association number, its secret and when it ceases to be accepted, replay windows by association number, and the course of the
last valid frame. -/
structure Session where
  ident : BitVec 32
  secret : List Byte
  an : Nat
  pn : BitVec 64
  before : List Byte
  previous : Option Nat
  previousUntil : Option Course
  seenNew : Bool
  highest : SMap (BitVec 64)
  lastFrame : Course
  deriving DecidableEq, Repr

/-- A session open that waits for its confirmation (R619). -/
structure PendingOpen where
  hostKey : List Byte
  transcript : List Byte
  secret : List Byte
  ident : BitVec 32
  at_ : Course
  deriving DecidableEq, Repr

/-- A frame that waits to leave: the session it is sent under where that is not the one in force when it leaves, and, of a reply to
an accepted command, the command, whose slot is held until the last such frame leaves (R537). -/
structure Outgoing where
  frame : Sent
  under : Option (Option Session)
  slot : Option CmdSlot
  last : Bool
  deriving DecidableEq, Repr

/-- Port H: pauses by class, receive buffers, address detection, queue pairs, sessions, the accepted parts of WRITEs that wait,
frames that a pause and the rate hold back, and the frames sent in their order. -/
structure HostPort where
  pausedUntil : SMap Nat
  freeCmd : Nat
  freeBulk : Nat
  xoffCmd : Bool
  xoffBulk : Bool
  lastXoff : SMap Nat
  announcedAt : Option Nat
  dadGlobal : Bool
  dadLocal : Bool
  localOk : Bool
  globalOk : Bool
  dadRetryAt : Option Course
  echoes : List Course
  qps : SMap (Option QueuePair)
  session : Option Session
  opening : Option PendingOpen
  linkUp : Bool
  txFree : Nat
  heldWrites : List HeldWrite
  waiting : List Outgoing
  out : List SentFrame
  deriving DecidableEq, Repr

/-- Port H out of L5. -/
def HostPort.reset : HostPort :=
  { pausedUntil := [], freeCmd := 0x40000, freeBulk := 0x300000, xoffCmd := false, xoffBulk := false, lastXoff := [],
    announcedAt := none, dadGlobal := false, dadLocal := false, localOk := false, globalOk := false, dadRetryAt := none, echoes := [],
    qps := [], session := none, opening := none, linkUp := false, txFree := 0, heldWrites := [], waiting := [], out := [] }

/-! ### Root of trust (18_security.md) and cast-on (19_cast_on.md) -/

/-- An installed job key (R609, R626). -/
structure JobKey where
  ident : BitVec 16
  key : List Byte
  deriving DecidableEq, Repr

/-- A pending approval (R634): the record, the role that has signed, when, and the result slot. -/
structure Approval where
  record : List Byte
  role : Nat
  at_ : Course
  slot : Nat
  deriving DecidableEq, Repr

/-- A grant (R635): the pairs and when it was made. -/
structure Grant where
  pairs : List (Nat × BitVec 64)
  at_ : Course
  deriving DecidableEq, Repr

/-- A link session of a port (R622–R624): own HELLO payload and share handle, the peer's HELLO payload,
whether the own FINISH has been sent, the stitch of the HELLO, and the link secret once agreed. -/
structure LinkSession where
  mine : List Byte
  share : Nat
  theirs : Option (List Byte)
  helloAt : Option Nat
  verified : Bool
  secret : List Byte
  low : Bool
  deriving DecidableEq, Repr

/-- An entry of the measurement log (R615). -/
structure Measurement where
  kind : Nat
  svn : Nat
  digest : List Byte
  deriving DecidableEq, Repr

/-- The root of trust. Key handles number the secrets drawn; a secret itself is what `Config` makes of
its handle. -/
structure Trust where
  provisioning : Nat
  tierKey : List Byte
  approvalNonce : List Byte
  castonNonce : BitVec 64
  jobKeys : List JobKey
  approval : Option Approval
  grant : Option Grant
  fuses : Nat
  floorFuses : Option (BitVec 64)
  links : SMap (Option LinkSession)
  log : List Measurement
  deriving DecidableEq, Repr

/-- The root of trust before cast-on. -/
def Trust.reset : Trust :=
  { provisioning := 0, tierKey := [], approvalNonce := [], castonNonce := 0, jobKeys := [], approval := none,
    grant := none, fuses := 0, floorFuses := none, links := [], log := [] }

/-- Cast-on (R637–R653): whether it runs, stitches since the rising edge of `PERST_N` and when the phase in progress
began, the two flash devices, the straps that set port H's lanes and the flash voltage, the base image that runs and the site overlay that
phase 1 accepted, whether HBM and the tier hold the pattern of pass 1 in place of what `mem` says, which no command reads before
pass 3 has zeroed them (R647, R648), the chip-domain repair list, the capacity of the first DIMM of each DDR5 channel, and whether the interpreter
answers. -/
structure CastOn where
  active : Bool
  elapsed : Nat
  phaseAt : Nat
  flash0 : Flash
  flash1 : Flash
  eightLane : Bool
  flash33 : Bool
  image : Option (List Byte)
  site : Option (List Byte)
  patterned : Bool
  repairs : List Nat
  dimm0 : SMap Nat
  commands : Bool
  deriving DecidableEq, Repr

/-! ### Power manager (20_package_power_electrical.md) -/

/-- The power manager and the management pins: the last 64 samples of each AVSBus (R670, R679) in units of 50 µW, newest
first, the two limits, the duty before the last change and the course of that change (R682), temperatures in 1/16 °C,
junction bands, whether the junction has read below 99 °C since the last excursion (R683), the array currents measured in
phase 6, when each rail's pins clear and the courses ahead from which the stream is granted in full,
whether a rail fault or trip stopped issue and which partitions a rail fault fenced (R673), and the pins: `FAULT_N`
asserted, pulsing and when it last changed, `THERMTRIP_N` asserted, `PWR_OK` and `PERST_N` high. -/
structure Power where
  samples0 : List Nat
  samples1 : List Nat
  envelopeLimit : Nat
  thermalLimit : Nat
  dutyBefore : Nat
  dutyChanged : Option Course
  dieTemp : SMap (BitVec 16)
  stackTemp : SMap (BitVec 16)
  band : SMap Nat
  cooled : Bool
  arrayCurrent : SMap Nat
  clearAt : SMap (Option Course)
  fullGrant : SMap (List Course)
  issueStopped : Bool
  fenced : NatSet
  faultN : Bool
  faultPulsing : Bool
  pulseAt : Nat
  thermtripN : Bool
  powerOk : Bool
  perstN : Bool
  deriving DecidableEq, Repr

/-- The power manager out of L5: both limits at 16 sixteenths, no pin asserted. -/
def Power.reset : Power :=
  { samples0 := [], samples1 := [], envelopeLimit := 16, thermalLimit := 16, dutyBefore := 16, dutyChanged := none,
    dieTemp := [], stackTemp := [], band := [], cooled := false, arrayCurrent := [],
    clearAt := [], fullGrant := [], issueStopped := false, fenced := [], faultN := false,
    faultPulsing := false, pulseAt := 0, thermtripN := false, powerOk := false, perstN := false }

/-- A flash device that holds nothing (assumption 221). -/
def erasedFlash : Flash :=
  { declares8D := true, gib := 1, volts33 := false, slot0 := [], slot1 := [], base := [], site := [], ok := true }

/-- Cast-on before the first rising edge of `PERST_N`: both flash devices erased. -/
def CastOn.reset : CastOn :=
  { active := false, elapsed := 0, phaseAt := 0, flash0 := erasedFlash, flash1 := erasedFlash,
    eightLane := false, flash33 := false, image := none, site := none, patterned := false, repairs := [], dimm0 := [], commands := false }
/-! ### The device -/

/-- No meaning of this model ends in a fault: what the manual calls a fault is an effect on the state
(a context fault of R70, a step abort, a reset), and a step whose condition does not hold changes
nothing. The constructor is raised by nothing; safe. -/
inductive Fault
  | neverRaised
  deriving DecidableEq, Repr

/-- Refusals: a command that has no meaning yet is refused by name, by `exec` alone; safe. -/
inductive Refusal
  | notModelled (mnemonic : String)
  deriving DecidableEq, Repr

/-- The state of the device. -/
structure State where
  pending : List Instr
  free : Nat
  tb : Timebase
  mem : List Host.Cell
  seals : SMap Seal
  poison : NatSet
  dirty : SMap Dirty
  regs : SMap Word
  residues : SMap Nat
  counted : SMap Nat
  tokens : SMap (BitVec 16)
  cores : SMap Core
  side : SMap SideState
  ctxCounts : SMap Nat
  sn : Sentinel
  fab : Fabric
  ce : Collective
  sk : StepKeeper
  le : Lifeline
  cmd : Commands
  hp : HostPort
  rt : Trust
  co : CastOn
  pm : Power
  job : Job
  cfg : Settings
  rv : Recovery
  timers : SMap Course
  alive : Bool
  tripped : Bool
  deriving DecidableEq, Repr

/-- No overlay in force (R35). -/
def Settings.reset : Settings :=
  { mode := .none, level := 0, compat := false, cadence := 0, groupK := 0, capDefault := 0, envelope := 0, tag := 0 }

/-- The device before its first cast-on: `PERST_N` low, so that it carries out no step but the edge of
`PERST_N` (R637, R638), every register at its reset value, every memory, queue, buffer and table empty. -/
def State.reset : State :=
  { pending := [], free := 0, tb := Timebase.reset, mem := [], seals := [], poison := [], dirty := [],
    regs := Reg.resetList.foldl (fun m p => SMap.set 0 m p.1 (BitVec.ofNat 64 p.2)) [],
    residues := [], counted := [], tokens := [], cores := [], side := [], ctxCounts := [], sn := Sentinel.reset, fab := Fabric.reset,
    ce := Collective.reset, sk := StepKeeper.reset, le := Lifeline.reset, cmd := Commands.reset, hp := HostPort.reset,
    rt := Trust.reset, co := CastOn.reset, pm := Power.reset, job := Job.none, cfg := Settings.reset,
    rv := Recovery.reset, timers := [], alive := false, tripped := false }

end Sys2Proof.Machine
end

