-- ==== Sys2Proof/Machine/Ops.lean ====
section
/-! DEFINITION. The named operations over registers, counters, memory, poison, dirty pages, tokens and
cores. Every meaning reads and writes the state through these. -/

namespace Sys2Proof.Machine

/-! ### The shape of every meaning -/

/-- The device carries out steps: `PERST_N` is high with `PWR_OK`, and the device is not tripped (R638,
R684). -/
def State.running (s : State) : Bool := s.alive && !s.tripped

/-- A step whose condition holds has its effect; one whose condition does not hold is not taken by the
device and changes nothing (assumption 3). -/
def act (s : State) (cond : Bool) (t : State) : Host.Outcome State Fault Refusal :=
  .next (if cond then t else s)

/-- A free value (assumption 2). -/
def State.freeNow (s : State) : BitVec 64 := Config.freeWord s.free

/-- The state after a free value was drawn. -/
def State.drawn (s : State) : State := { s with free := s.free + 1 }

/-- `n` bytes whose values are free (assumption 2). -/
def State.freeBytes (s : State) (n : Nat) : List Byte :=
  (List.range n).map (fun i => BitVec.ofNat 8 ((Config.freeWord (s.free + i / 8)).toNat / 256 ^ (i % 8)))

/-- The state after `n` free bytes were drawn. -/
def State.drewBytes (s : State) (n : Nat) : State := { s with free := s.free + (n + 7) / 8 }

/-! ### Registers and counters (R10, R697–R701) -/

/-- The stored word at a control-space offset. -/
def State.reg (s : State) (a : Nat) : Word := SMap.get 0 s.regs a

/-- Writes the stored word at a control-space offset. -/
def State.setReg (s : State) (a : Nat) (v : Word) : State := { s with regs := SMap.set 0 s.regs a v }

/-- A field of a register. -/
def State.fld (s : State) (a : Nat) (f : BitField) : Nat := f.get (s.reg a)

/-- Writes a field of a register. -/
def State.setFld (s : State) (a : Nat) (f : BitField) (v : Nat) : State := s.setReg a (f.put (s.reg a) v)

/-- Whether a one-bit field is 1. -/
def State.flag (s : State) (a : Nat) (f : BitField) : Bool := s.fld a f = 1

/-- A counter word after `n` more counts: it wraps at 2⁴⁸ and then sets `OVF` (R542, R701). -/
def counterAdd (w : Word) (n : Nat) : Word :=
  let c := Fld.counterCount.get w + n
  let v := Fld.counterCount.put w c
  if 2 ^ 48 ≤ c then Fld.counterOvf.put v 1 else v

/-- Events held in a counter's residue, and the counter word they may mark: at 65,535 the residue holds and `OVF` is
set (R541, R542). -/
def holdResidue (w : Word) (r : Nat) : Word := if 65535 ≤ r then Fld.counterOvf.put w 1 else w

/-- What `n` events of one cycle make of a counter word, where `b` is one more than its residue once the counter has
advanced in this cycle, and 0 while it has not: one count at once if none was made, the rest into the residue (R541). -/
def countIn (w : Word) (b n : Nat) : Word × Nat :=
  if n = 0 then (w, b)
  else if b = 0 then (holdResidue (counterAdd w 1) (n - 1), min n 65536)
  else (holdResidue w (b + n - 1), min (b + n) 65536)

/-- Counts `n` events of this cycle (R541, R542). -/
def State.count (s : State) (a n : Nat) : State :=
  let p := countIn (s.reg a) (SMap.get 0 s.counted a) n
  { s.setReg a p.1 with counted := SMap.set 0 s.counted a p.2 }

/-- A cycle has passed for every counter that advanced in it: one with a residue advances by one of it in the cycle that
begins (R541). -/
def State.drainResidues (s : State) : State :=
  s.counted.foldl (fun t p =>
    if p.2 ≤ 1 then { t with counted := SMap.set 0 t.counted p.1 0 }
    else { t.setReg p.1 (counterAdd (t.reg p.1) 1) with counted := SMap.set 0 t.counted p.1 (p.2 - 1) }) s

/-- Advances a counter kept in units of `u` events, the remainder carried (R540). -/
def State.countUnits (s : State) (a n u : Nat) : State :=
  let t := SMap.get 0 s.residues a + n
  ({ s with residues := SMap.set 0 s.residues a (t % u) }).count a (t / u)

/-- Counts work of `n` events, in units of `u`, that in the device passes over more cycles than it has units: none is held back or
lost in a residue (R540–R542, assumption 244). -/
def State.countWork (s : State) (a n u : Nat) : State :=
  let t := SMap.get 0 s.residues a + n
  { s.setReg a (counterAdd (s.reg a) (t / u)) with residues := SMap.set 0 s.residues a (t % u) }

/-! ### Time (R5, R356) -/

/-- The course. -/
def State.course (s : State) : Course := s.tb.course

/-- The stitch within the course. -/
def State.stitch (s : State) : Nat := s.tb.stitch

/-- Course time in stitches, as a number. -/
def State.now (s : State) : Nat := s.tb.course.toNat * 2560 + s.tb.stitch

/-- The cycle, counted from the rising edge of `PERST_N`: no step of course time moves it (R375). -/
def State.cycleNo (s : State) : Nat := s.co.elapsed

/-- The course at which a periodic work last ran. -/
def State.timer (s : State) (id : Nat) : Course := SMap.get 0 s.timers id

/-- A work done at each course that is a multiple of `period` is due: this is such a course, and the work
has not run in it. -/
def State.periodic (s : State) (id period : Nat) : Bool :=
  decide (s.tb.course.toNat % period = 0) && decide (s.timer id ≠ s.tb.course)

/-- A periodic work has run in this course. -/
def State.ran (s : State) (id : Nat) : State := { s with timers := SMap.set 0 s.timers id s.tb.course }

/-! ### Memory (R232, R236) -/

/-- A byte of the 48-bit device address space. -/
def State.byte (s : State) (a : Nat) : Byte := SMap.get 0 s.mem a

/-- `n` bytes from address `a`. -/
def State.bytes (s : State) (a n : Nat) : List Byte := SMap.getList 0 s.mem a n

/-- A little-endian number of `n` bytes at address `a` (R9). -/
def State.leAt (s : State) (a n : Nat) : Nat := leNat (s.bytes a n)

/-- Writes bytes, without a view to poison or dirty pages. -/
def State.putBytes (s : State) (a : Nat) (bs : List Byte) : State := { s with mem := SMap.setList 0 s.mem a bs }

/-- Granule of an address (R236). -/
def granuleOf (a : Nat) : Nat := a / 64

/-- The granules that the `n` bytes from `a` touch. -/
def granulesOf (a n : Nat) : List Nat :=
  if n = 0 then [] else (List.range ((a + n - 1) / 64 + 1 - a / 64)).map (fun i => a / 64 + i)

/-- Whether any granule of an extent is poisoned. -/
def State.poisoned (s : State) (a n : Nat) : Bool := (granulesOf a n).any (fun g => NatSet.has s.poison g)

/-- Marks or clears a granule's poison. -/
def State.setPoison (s : State) (g : Nat) (b : Bool) : State := { s with poison := NatSet.put s.poison g b }

/-- HBM of partition p starts here (R232). -/
def hbmBase (p : Nat) : Nat := p * 0x40_0000_0000

/-- The tier of partition p starts here (R232). -/
def tierBase (p : Nat) : Nat := 0x1000_0000_0000 + p * 0x180_0000_0000

/-- The core store window of core c starts here (R232). -/
def coreBase (c : Nat) : Nat := 0x2000_0000_0000 + c * 0x100_0000

/-- Whether an address lies in HBM. -/
def inHbm (a : Nat) : Bool := decide (a < 0x100_0000_0000)

/-- Whether an address lies in the tier's range. -/
def inTier (a : Nat) : Bool := decide (0x1000_0000_0000 ≤ a) && decide (a < 0x1600_0000_0000)

/-- Whether an address lies in a core store window. -/
def inCoreStore (a : Nat) : Bool := decide (0x2000_0000_0000 ≤ a) && decide (a < 0x2000_A000_0000)

/-- The partition an HBM or tier address belongs to. -/
def partitionOf (a : Nat) : Nat :=
  if inHbm a then a / 0x40_0000_0000
  else if inTier a then (a - 0x1000_0000_0000) / 0x180_0000_0000
  else (a - 0x2000_0000_0000) / 0x100_0000 / 40

/-- A bit of a dirty bitmap. -/
def Bitmap.has (b : Bitmap) (n : Nat) : Bool := b.base ^^ NatSet.has b.flip n

/-- Sets a bit of a dirty bitmap. -/
def Bitmap.mark (b : Bitmap) (n : Nat) : Bitmap := { b with flip := NatSet.put b.flip n (!b.base) }

/-- The union of two dirty bitmaps (R256). -/
def Bitmap.or (a b : Bitmap) : Bitmap :=
  let pages := a.flip.map Prod.fst ++ b.flip.map Prod.fst
  pages.foldl (fun m n => if (Bitmap.has a n || Bitmap.has b n) = m.base then m else { m with flip := NatSet.put m.flip n true })
    ⟨a.base || b.base, []⟩

/-- The dirty bitmaps of a partition. -/
def State.dirtyOf (s : State) (p : Nat) : Dirty := SMap.get Dirty.zero s.dirty p

/-- The tier region that holds an address, if a valid one does (R262). -/
def State.regionAt (s : State) (a : Nat) : Option Nat :=
  (List.range 16).find? (fun n =>
    let lo := s.fld (Reg.dtRegionA n) Fld.dtRegionABase * 0x1_0000
    s.flag (Reg.dtRegionA n) Fld.dtRegionAValid && decide (lo ≤ a) &&
      decide (a < lo + s.fld (Reg.dtRegionB n) Fld.dtRegionBSize * 0x1_0000))

/-- Records a write at an address in the active dirty bitmap (R254). -/
def State.markDirty (s : State) (a : Nat) : State :=
  if inHbm a then
    let p := partitionOf a
    let d := s.dirtyOf p
    let n := (a - hbmBase p) / 0x1_0000
    let d' := if d.active = 0 then { d with hbm0 := d.hbm0.mark n } else { d with hbm1 := d.hbm1.mark n }
    { s with dirty := SMap.set Dirty.zero s.dirty p d' }
  else if inTier a then
    match s.regionAt a with
    | none => s
    | some r =>
      if s.flag (Reg.dtRegionA r) Fld.dtRegionADirty then
        let p := partitionOf a
        let d := s.dirtyOf p
        let n := (a - tierBase p) / 0x1_0000
        let d' := if d.active = 0 then { d with tier0 := d.tier0.mark n } else { d with tier1 := d.tier1.mark n }
        { s with dirty := SMap.set Dirty.zero s.dirty p d' }
      else s
  else s

/-- Whether the bytes `a` to `a + n − 1` cover the whole of granule `g`. -/
def coversGranule (a n g : Nat) : Bool := decide (a ≤ g * 64) && decide (g * 64 + 64 ≤ a + n)

/-- The key of a valid region: the ephemeral tier key, or the XTS key of an installed job key; none while
that job key is not installed, and the region is then inaccessible (R260). -/
def State.regionKey (s : State) (r : Nat) : Option (List Byte) :=
  if s.flag (Reg.dtRegionA r) Fld.dtRegionAKeySel then
    match s.rt.jobKeys.find? (fun k => decide (k.ident.toNat = s.fld (Reg.dtRegionA r) Fld.dtRegionAKeyId)) with
    | none => none
    | some k => some (jobXtsKey k.key)
  else some s.rt.tierKey

/-- The seal under which a region stores granule `g` (R259). -/
def State.sealIn (s : State) (r g : Nat) (key : List Byte) : Seal :=
  ⟨key, (s.reg (Reg.dtRegionC r)).toNat * 2 ^ 64 + (g - s.fld (Reg.dtRegionA r) Fld.dtRegionABase * 0x400)⟩

/-- The seal under which granule `g` of the tier is stored. -/
def State.sealOf (s : State) (g : Nat) : Seal := SMap.get Seal.raw s.seals g

/-- Granule `g` as the DIMMs hold it: ciphertext where it is sealed (R258). -/
def State.storedGranule (s : State) (g : Nat) : List Byte :=
  let e := s.sealOf g
  let bs := s.bytes (g * 64) 64
  if e = Seal.raw then bs else fitTo 64 (Config.xtsSeal e.key e.tweak bs)

/-- Granule `g` as an access through the region that holds it sees it: deciphered under that region's
key and tweak, which gives back what was written under the same ones (R258–R260). -/
def State.viewGranule (s : State) (g : Nat) : List Byte :=
  if inTier (g * 64) then
    match s.regionAt (g * 64) with
    | none => s.storedGranule g
    | some r => match s.regionKey r with
      | none => s.storedGranule g
      | some key =>
        if s.sealOf g = s.sealIn r g key then s.bytes (g * 64) 64
        else fitTo 64 (Config.xtsOpen key (s.sealIn r g key).tweak (s.storedGranule g))
  else s.bytes (g * 64) 64

/-- Reads `n` bytes from `a` as the device's engines see them. -/
def State.load (s : State) (a n : Nat) : List Byte :=
  if inTier a then (((granulesOf a n).flatMap s.viewGranule).drop (a % 64)).take n else s.bytes a n

/-- Reads `n` bytes as stored, ciphertext in the tier (R265). -/
def State.loadStored (s : State) (a n : Nat) : List Byte :=
  if inTier a then (((granulesOf a n).flatMap s.storedGranule).drop (a % 64)).take n else s.bytes a n

/-- Makes granule `g` one that its region's key and tweak seal, its visible bytes unchanged, so that a
write can be merged into it (R236, R258). -/
def State.sealGranule (s : State) (g : Nat) : State :=
  if inTier (g * 64) then
    match s.regionAt (g * 64) with
    | none => s
    | some r => match s.regionKey r with
      | none => s
      | some key =>
        let t := s.putBytes (g * 64) (s.viewGranule g)
        { t with seals := SMap.set Seal.raw t.seals g (s.sealIn r g key) }
  else s

/-- Makes granule `g` one whose bytes are held as stored. -/
def State.unsealGranule (s : State) (g : Nat) : State :=
  let t := s.putBytes (g * 64) (s.storedGranule g)
  { t with seals := SMap.set Seal.raw t.seals g Seal.raw }

/-- What every accepted write does beside its bytes: a whole-granule write clears the poison marker, a
partial one leaves it (R236, R252), and the page is marked dirty (R254). -/
def State.touched (s : State) (a n : Nat) : State :=
  (granulesOf a n).foldl
    (fun t g => (if coversGranule a n g then t.setPoison g false else t).markDirty (g * 64)) s

/-- A write accepted at a memory. In the tier it is sealed under its region. -/
def State.store (s : State) (a : Nat) (bs : List Byte) : State :=
  let t := if inTier a then (granulesOf a bs.length).foldl (fun u g => u.sealGranule g) s else s
  (t.putBytes a bs).touched a bs.length

/-- A write of bytes as stored, ciphertext in the tier (R265, R575). -/
def State.storeStored (s : State) (a : Nat) (bs : List Byte) : State :=
  let t := if inTier a then (granulesOf a bs.length).foldl (fun u g => u.unsealGranule g) s else s
  (t.putBytes a bs).touched a bs.length

/-- A write of whole granules, of which those flagged are written poisoned (R252, R285); `poison` lists
the flags granule by granule. -/
def State.storePoison (s : State) (a : Nat) (bs : List Byte) (poison : List Bool) : State :=
  (poison.zipIdx).foldl
    (fun t p => if p.1 then t.setPoison (a / 64 + p.2) true else t)
    (s.store a bs)

/-- The poison flags of an extent, granule by granule. -/
def State.poisonFlags (s : State) (a n : Nat) : List Bool := (granulesOf a n).map (fun g => NatSet.has s.poison g)

/-- The 64 poison flags of a packet's payload read from an extent (R285). -/
def State.poisonWord (s : State) (a n : Nat) : BitVec 64 :=
  BitVec.ofNat 64 ((s.poisonFlags a n).zipIdx.foldl (fun v p => v + bit p.1 * 2 ^ p.2) 0)

/-- A write of copied granules, poison with them, counting those that it poisons in `POISON_COPIED` of the destination's
partition (R252, R269). -/
def State.storeCopied (s : State) (a : Nat) (bs : List Byte) (flags : List Bool) : State :=
  (s.storePoison a bs flags).count (Reg.poisonCopied (partitionOf a)) (flags.countP id)

/-- Copies `n` bytes within the device, poison with them. -/
def State.copyBytes (s : State) (src dst n : Nat) : State := s.storeCopied dst (s.load src n) (s.poisonFlags src n)

/-! ### Cores, contexts and tokens (R38, R67) -/

/-- Core c. -/
def State.core (s : State) (c : Nat) : Core := SMap.get Core.reset s.cores c

/-- Writes core c. -/
def State.setCore (s : State) (c : Nat) (k : Core) : State := { s with cores := SMap.set Core.reset s.cores c k }

/-- Applies a function to core c. -/
def State.modCore (s : State) (c : Nat) (f : Core → Core) : State := s.setCore c (f (s.core c))

/-- The partition of a core (R3). -/
def corePartition (c : Nat) : Nat := c / 40

/-- The partition of a context (R3). -/
def ctxPartition (x : Nat) : Nat := x / 4

/-- Context states (R69). -/
def ctxFree : Nat := 0
/-- READY. -/
def ctxReady : Nat := 1
/-- HALTED. -/
def ctxHalted : Nat := 2
/-- FAULTED. -/
def ctxFaulted : Nat := 3

/-- `CTX_CONTROL.STATE` of a context. -/
def State.ctxState (s : State) (x : Nat) : Nat := s.fld (Reg.ctxControl x) Fld.ctxControlState

/-- Sets `CTX_CONTROL.STATE`. -/
def State.setCtxState (s : State) (x v : Nat) : State := s.setFld (Reg.ctxControl x) Fld.ctxControlState v

/-- Whether a context's core mask names a core of its partition (R65, R709). -/
def State.inMask (s : State) (x c : Nat) : Bool :=
  decide (corePartition c = ctxPartition x) && bitOf (s.reg (Reg.ctxCoreMask x)) (c % 40)

/-- Whether a context is a diagnosis context (R69). -/
def State.isDiag (s : State) (x : Nat) : Bool := s.flag (Reg.ctxControl x) Fld.ctxControlDiag

/-- Whether a context belongs to the loaded job (R322). -/
def State.inJob (s : State) (x : Nat) : Bool := s.job.loaded && bitOf s.job.ctxMask x

/-- The cores of a context's mask. -/
def State.coresOf (s : State) (x : Nat) : List Nat :=
  ((List.range 40).map (fun i => 40 * ctxPartition x + i)).filter (fun c => s.inMask x c)

/-- The key of a token in the token table. -/
def tokenKey (c x tok : Nat) : Nat := (c * 4 + x % 4) * 64 + tok

/-- Token `tok` of context x's bank on core c (R62). -/
def State.token (s : State) (c x tok : Nat) : Nat := (SMap.get 0 s.tokens (tokenKey c x tok)).toNat

/-- Writes a token. -/
def State.setToken (s : State) (c x tok v : Nat) : State :=
  { s with tokens := SMap.set 0 s.tokens (tokenKey c x tok) (BitVec.ofNat 16 v) }

/-- The key of a (core, context) pair. -/
def sideKey (c x : Nat) : Nat := c * 16 + x

/-- What a switched-out context keeps on a core. -/
def State.sideOf (s : State) (c x : Nat) : SideState := SMap.get SideState.none s.side (sideKey c x)

/-- Writes it. -/
def State.setSide (s : State) (c x : Nat) (v : SideState) : State :=
  { s with side := SMap.set SideState.none s.side (sideKey c x) v }

/-- Adds to the non-finite count of a context; a diagnosis context counts none (R108, R146, R402). -/
def State.addNonFinite (s : State) (x n : Nat) : State :=
  if s.isDiag x then s else { s with ctxCounts := SMap.set 0 s.ctxCounts x (SMap.get 0 s.ctxCounts x + n) }

/-- Whether `n` bytes at core store offset `off` lie in the context's allotment (R71, R234). -/
def State.inAllotment (s : State) (x off n : Nat) : Bool :=
  let lo := s.fld (Reg.ctxAllotment x) Fld.ctxAllotmentBase * 0x1_0000
  let hi := lo + s.fld (Reg.ctxAllotment x) Fld.ctxAllotmentSize * 0x1_0000
  decide (lo ≤ off) && decide (off + n ≤ hi) && decide (off + n ≤ 0xC0_0000)

/-- A scalar register of a core (R38). -/
def Core.sreg (k : Core) (i : Nat) : BitVec 64 := SMap.get 0 k.sregs i

/-- Writes a scalar register. -/
def Core.setSreg (k : Core) (i : Nat) (v : BitVec 64) : Core := { k with sregs := SMap.set 0 k.sregs i v }

/-- Lane `l` of vector register `r` (R38). -/
def Core.lane (k : Core) (r l : Nat) : BitVec 32 := SMap.get 0 k.vregs (r * 512 + l)

/-- Writes a lane. -/
def Core.setLane (k : Core) (r l : Nat) (v : BitVec 32) : Core := { k with vregs := SMap.set 0 k.vregs (r * 512 + l) v }

/-- The queue of a core. -/
def Core.queue (k : Core) : Queue → List QEntry
  | .matrix => k.qMatrix
  | .gauge => k.qGauge
  | .vector => k.qVector
  | .move => k.qMove
  | .control => k.qControl

/-- Writes a queue of a core. -/
def Core.setQueue (k : Core) (q : Queue) (es : List QEntry) : Core :=
  match q with
  | .matrix => { k with qMatrix := es }
  | .gauge => { k with qGauge := es }
  | .vector => { k with qVector := es }
  | .move => { k with qMove := es }
  | .control => { k with qControl := es }

/-- The moves of a channel. -/
def Core.channel (k : Core) : Nat → List MoveOp
  | 0 => k.moves0
  | 1 => k.moves1
  | 2 => k.moves2
  | _ => k.moves3

/-- Writes a channel's list. -/
def Core.setChannel (k : Core) (n : Nat) (ms : List MoveOp) : Core :=
  match n with
  | 0 => { k with moves0 := ms }
  | 1 => { k with moves1 := ms }
  | 2 => { k with moves2 := ms }
  | _ => { k with moves3 := ms }

/-- Array `a` of a core. -/
def Core.array (k : Core) (a : Nat) : MArray := k.arrays.getD a MArray.reset

/-- Writes array `a`. -/
def Core.setArray (k : Core) (a : Nat) (m : MArray) : Core := { k with arrays := k.arrays.set a m }

/-- A weight slot of an array. -/
def MArray.slot (m : MArray) (w : Nat) : Slot := if w = 0 then m.slot0 else m.slot1

/-- Writes a weight slot. -/
def MArray.setSlot (m : MArray) (w : Nat) (v : Slot) : MArray := if w = 0 then { m with slot0 := v } else { m with slot1 := v }

/-- A wide buffer of an array. -/
def MArray.wide (m : MArray) (b : Nat) : SMap (BitVec 36) := if b = 0 then m.wide0 else m.wide1

/-- Writes a wide buffer. -/
def MArray.setWide (m : MArray) (b : Nat) (v : SMap (BitVec 36)) : MArray :=
  if b = 0 then { m with wide0 := v } else { m with wide1 := v }

end Sys2Proof.Machine
end

