-- ==== Sys2Proof/Machine/Events.lean ====
section
/-! DEFINITION. The scheduled-event tables: partition tables 0 to 3 and the fabric table, here number 4
(R372–R374). -/

namespace Sys2Proof.Machine

/-- Register A of entry n of table t. -/
def evA (t n : Nat) : Nat := if t < 4 then Reg.tbPeventA t n else Reg.tbFeventA n

/-- Register B of entry n of table t. -/
def evB (t n : Nat) : Nat := if t < 4 then Reg.tbPeventB t n else Reg.tbFeventB n

/-- Actions (R373). -/
def actResetRelease : Nat := 1
/-- `OVERLAY_SWITCH`. -/
def actOverlaySwitch : Nat := 2
/-- `LIFELINE_CUT`. -/
def actLifelineCut : Nat := 3
/-- `SNAPSHOT`. -/
def actSnapshot : Nat := 4
/-- `SWATCH_WINDOW`. -/
def actSwatchWindow : Nat := 5
/-- `CONTEXT_SWITCH`. -/
def actContextSwitch : Nat := 6
/-- `STEP_START`. -/
def actStepStart : Nat := 7

/-- An entry is armed. -/
def State.evArmed (s : State) (t n : Nat) : Bool := s.flag (evA t n) Fld.tbPeventAArmed

/-- The course of an entry. -/
def State.evCourse (s : State) (t n : Nat) : Course := BitVec.ofNat 48 (s.fld (evA t n) Fld.tbPeventACourse)

/-- The stitch of an entry. -/
def State.evStitch (s : State) (t n : Nat) : Nat := s.fld (evA t n) Fld.tbPeventAStitch

/-- The action of an entry. -/
def State.evAction (s : State) (t n : Nat) : Nat := s.fld (evB t n) Fld.tbPeventBAction

/-- `CONTEXT` of an entry. -/
def State.evContext (s : State) (t n : Nat) : Nat := s.fld (evB t n) Fld.tbPeventBContext

/-- `PARAM` of an entry. -/
def State.evParam (s : State) (t n : Nat) : Nat := s.fld (evB t n) Fld.tbPeventBParam

/-- Actions that a table admits (R373). -/
def actionAdmitted (t action : Nat) : Bool :=
  if t < 4 then decide (action = 1) || decide (action = 5) || decide (action = 6) || decide (action = 7)
  else decide (1 ≤ action) && decide (action ≤ 5)

/-- Courses that each kind of swatch needs (R468). -/
def swatchCourses : List Nat := [600, 150, 200, 150, 150, 60, 100, 50, 200, 100]

/-- The unit set and length of a `SWATCH_WINDOW` are ones that a table admits: bits 0 to 7 for a partition, 8 and 9
for the fabric, and no shorter than the kinds need (R468, R469). -/
def windowAdmitted (t param : Nat) : Bool :=
  let kinds := param / 0x1_0000
  let need := ((List.range 10).map (fun i => if kinds.testBit i then swatchCourses.getD i 0 else 0)).foldl (· + ·) 0
  if t < 4 then decide (kinds < 0x100) && decide (need + 64 ≤ param % 0x1_0000)
  else decide (kinds % 0x100 = 0) && decide (kinds < 0x400) && decide (need ≤ param % 0x1_0000)

/-- A time lies at least 17 courses ahead, as arming asks of most writers (R374). -/
def State.farEnough (s : State) (course : Course) (stitch : Nat) : Bool :=
  let d := (course - s.course).toNat
  decide (d < 2 ^ 47) && decide (s.stitch + 17 * 2560 ≤ d * 2560 + stitch)

/-- The lowest entry of a table that is neither armed nor reserved by a replay (R397, R595). -/
def State.freeEntry (s : State) (t : Nat) : Option Nat :=
  (List.range 64).find? (fun n => !s.evArmed t n && decide (SMap.get none s.sk.reserved t ≠ some n))

/-- Arms an entry, its event and its earlier flags written with it. -/
def State.armEntry (s : State) (t n action ctx param : Nat) (course : Course) (stitch : Nat) : State :=
  (s.setReg (evA t n) (BitVec.ofNat 64 (2 ^ 63 + stitch % 4096 * 2 ^ 48 + course.toNat))).setReg (evB t n)
    (BitVec.ofNat 64 (action % 256 * 2 ^ 56 + ctx % 16 * 2 ^ 52 + param % 2 ^ 32))

/-- Arms an entry that fires in the stitch after it is armed, whatever its time (R32, R397). -/
def State.armSoon (s : State) (t n action ctx param : Nat) (course : Course) (stitch : Nat) : State :=
  let u := s.armEntry t n action ctx param course stitch
  { u with tb := { u.tb with soon := u.tb.soon ++ [(t, n, u.cycleNo)] } }

/-- A unit arms an event: it takes the lowest entry of its table that is free after every command of the stitch (R702). -/
def State.armByUnit (s : State) (a : UnitArm) : State := { s with tb := { s.tb with arming := s.tb.arming ++ [a] } }

/-- The entry that a unit takes as the stitch ends; with none free the event is handed over at once (assumptions 96, 134). -/
def State.takeEntry (s : State) (a : UnitArm) : State :=
  match s.freeEntry a.table with
  | none => { s with tb := { s.tb with handed := s.tb.handed ++ [(⟨a.table, a.action, 0, a.param, s.tb.course⟩ : Handed)] } }
  | some n =>
    if a.soon then s.armSoon a.table n a.action 0 a.param a.course 0 else s.armEntry a.table n a.action 0 a.param a.course 0

/-- The units take their entries as the stitch ends, in the order of their arming. -/
def State.takeEntries (s : State) : State :=
  s.tb.arming.foldl State.takeEntry { s with tb := { s.tb with arming := [] } }

/-- An entry that fires in the stitch after it is armed, and the stitch of its arming. -/
def State.soonEntry (s : State) (t n : Nat) : Option Nat :=
  (s.tb.soon.find? (fun e => decide (e.1 = t ∧ e.2.1 = n))).map (fun e => e.2.2)

/-- Cancels an entry, or takes it as it fires. -/
def State.disarm (s : State) (t n : Nat) : State :=
  { s.setFld (evA t n) Fld.tbPeventAArmed 0 with
    tb := { s.tb with soon := s.tb.soon.filter (fun e => !decide (e.1 = t ∧ e.2.1 = n)) } }

/-- An overlay switch of boundary u that is still due (R37). -/
def State.switchPending (s : State) (u : BitVec 32) : Bool :=
  (List.range 64).any (fun n => s.evArmed 4 n && decide (s.evAction 4 n = actOverlaySwitch) && decide (s.evParam 4 n = u.toNat)) ||
    s.tb.handed.any (fun h => decide (h.action = actOverlaySwitch) && decide (h.param = u.toNat))

/-- Whether an event is one that the power manager forewarns (R123). -/
def forewarnedAction (t action : Nat) : Bool :=
  if t < 4 then decide (action = actResetRelease) || decide (action = actSwatchWindow) || decide (action = actStepStart)
  else decide (action = actOverlaySwitch)

/-- The courses of the armed events of R123 that concern partition p's rail and lie `n` courses ahead or fewer. -/
def State.eventsWithin (s : State) (p n : Nat) : List Course :=
  [p, 4].flatMap (fun t => ((List.range 64).filter (fun i =>
      s.evArmed t i && forewarnedAction t (s.evAction t i) && decide ((s.evCourse t i - s.course).toNat ≤ n))).map (s.evCourse t))

/-- The first of them. -/
def State.eventWithin (s : State) (p n : Nat) : Option Course := (s.eventsWithin p n).head?

end Sys2Proof.Machine
end

