-- ==== Sys2Proof/Machine/Access.lean ====
section
/-! DEFINITION. Who may reach what: the address map, the uses of the tier's regions and the partition
isolation policy (R76, R232–R235, R265, R629). -/

namespace Sys2Proof.Machine

/-- Where the context save area of partition p begins (R76). -/
def saveBase (p : Nat) : Nat := hbmBase p + 0x3F_D800_0000

/-- Whether two extents share a byte. -/
def overlap (a n b m : Nat) : Bool := decide (a < b + m) && decide (b < a + n) && decide (0 < n) && decide (0 < m)

/-- Whether an extent touches a context save area (R76). -/
def inSaveArea (a n : Nat) : Bool := (List.range 4).any (fun p => overlap a n (saveBase p) 0x2800_0000)

/-- An extent of HBM that R232 allows. -/
def hbmRange (a n : Nat) : Bool := decide (a + n ≤ 0x100_0000_0000) && !inSaveArea a n

/-- An extent of one core's populated store (R232). -/
def coreRange (a n : Nat) : Bool :=
  inCoreStore a && decide ((a - 0x2000_0000_0000) % 0x100_0000 + n ≤ 0xC0_0000)

/-- The tier windows, whatever is populated (R232). -/
def tierRange (a n : Nat) : Bool := decide (0x1000_0000_0000 ≤ a) && decide (a + n ≤ 0x1600_0000_0000)

/-- What a remote device's address must meet (R233): R232's map, with its whole tier window since its
population is not known here (assumption 41). -/
def remoteRange (a n : Nat) : Bool := hbmRange a n || coreRange a n || tierRange a n

/-- Uses of a region (R262). -/
def useGeneral : Nat := 0
/-- JOURNAL. -/
def useJournal : Nat := 1
/-- SKEIN. -/
def useSkein : Nat := 2
/-- BUDDY. -/
def useBuddy : Nat := 3
/-- PARITY. -/
def useParity : Nat := 4
/-- OFFLOAD. -/
def useOffload : Nat := 5
/-- SNAPSHOT. -/
def useSnapshot : Nat := 6

/-- The use of region r. -/
def State.useOf (s : State) (r : Nat) : Nat := s.fld (Reg.dtRegionA r) Fld.dtRegionAUse

/-- First byte of region r. -/
def State.regionBase (s : State) (r : Nat) : Nat := s.fld (Reg.dtRegionA r) Fld.dtRegionABase * 0x1_0000

/-- Bytes of region r. -/
def State.regionBytes (s : State) (r : Nat) : Nat := s.fld (Reg.dtRegionB r) Fld.dtRegionBSize * 0x1_0000

/-- Region r is valid, and its key is installed (R260). -/
def State.regionOpen (s : State) (r : Nat) : Bool :=
  s.flag (Reg.dtRegionA r) Fld.dtRegionAValid && (s.regionKey r).isSome

/-- Whether every byte of a tier extent lies in open regions whose use `fits` names; an extent may run
from one region into the next (R265). -/
def State.tierAdmits (s : State) (fits : Nat → Bool) : Nat → Nat → Nat → Bool
  | 0, _, n => decide (n = 0)
  | fuel + 1, a, n =>
    if n = 0 then true
    else match s.regionAt a with
      | none => false
      | some r =>
        let room := s.regionBase r + s.regionBytes r - a
        s.regionOpen r && fits (s.useOf r) &&
          (if n ≤ room then true else s.tierAdmits fits fuel (a + room) (n - room))

/-- Moves and collective contributions and deliveries reach GENERAL and OFFLOAD (R265). -/
def moveUse (u : Nat) : Bool := decide (u = useGeneral) || decide (u = useOffload)

/-- Whether an extent on this device is one that moves and collectives may reach (R232, R265). -/
def State.reachable (s : State) (a n : Nat) : Bool :=
  hbmRange a n || coreRange a n || (tierRange a n && s.tierAdmits moveUse 17 a n)

/-- The control firmware and the step keeper's extents reach HBM and GENERAL regions, the extents core store too (R265,
R384). -/
def State.generalRange (s : State) (a n : Nat) : Bool :=
  hbmRange a n || (tierRange a n && s.tierAdmits (fun u => decide (u = useGeneral)) 17 a n)

/-- The control firmware copies bytes from and to HBM and GENERAL regions; a copy that reaches elsewhere touches no memory
(R232, R265, assumption 219). -/
def State.firmwareCopy (s : State) (src dst n : Nat) : State :=
  if s.generalRange src n && s.generalRange dst n then s.copyBytes src dst n else s

/-- What the control firmware reads (R265, assumption 219). -/
def State.firmwareLoad (s : State) (a n : Nat) : List Byte :=
  if s.generalRange a n then s.load a n else (List.range n).map (fun i => Config.unreadByte (a + i))

/-- What it writes. -/
def State.firmwareStore (s : State) (a : Nat) (bs : List Byte) : State := if s.generalRange a bs.length then s.store a bs else s

/-- The isolation policy: contexts of partition `p` may reach memory of partition `q` (R629). -/
def State.isolationAllows (s : State) (p q : Nat) : Bool :=
  decide (p = q) || bitOf (s.reg Reg.rtIsolation) (4 * p + q)

/-- The partitions whose memory an extent touches. -/
def partitionsOf (a n : Nat) : List Nat :=
  (List.range 4).filter (fun p => decide (partitionOf a ≤ p) && decide (p ≤ partitionOf (a + n - 1)))

/-- What R233 asks of a local extent of a context's move. -/
def State.localMoveOk (s : State) (x a n : Nat) : Bool :=
  s.reachable a n && (partitionsOf a n).all (fun q => s.isolationAllows (ctxPartition x) q)

/-- What R71 and R235 ask of the global side of a move on core c where it lies in a core store window: that the context's
allotment, the same on every core of its mask (R709), holds it, and, for a move into another core's window, that the mask
names that core. -/
def State.storeSideOk (s : State) (x c : Nat) (into : Bool) (a n : Nat) : Bool :=
  if inCoreStore a then
    let t := (a - 0x2000_0000_0000) / 0x100_0000
    s.inAllotment x ((a - 0x2000_0000_0000) % 0x100_0000) n && (decide (t = c) || !into || s.inMask x t)
  else true

/-- HBM of one partition outside its save area, where host tables lie. -/
def inPartitionHbm (p a n : Nat) : Bool :=
  decide (hbmBase p ≤ a) && decide (a + n ≤ hbmBase p + 0x40_0000_0000)

end Sys2Proof.Machine
end

