-- ==== Sys2Proof/Machine/Errors.lean ====
section
/-! DEFINITION. Error reports: log entries with their coalescing and folding, ladder counts, fault
signature records and the strict state (R474–R489). -/

namespace Sys2Proof.Machine

/-- A unit path (R480). -/
def unitPath (die subsystem core inst sub : Nat) : BitVec 32 :=
  BitVec.ofNat 32 (die * 2 ^ 29 + subsystem % 32 * 2 ^ 24 + core % 256 * 2 ^ 16 + inst % 256 * 2 ^ 8 + sub % 256)

/-- The path of a unit of a core. -/
def corePath (subsystem c inst sub : Nat) : BitVec 32 := unitPath (corePartition c) subsystem c inst sub

/-- The I/O die of a Parium port (R270). -/
def portDie (n : Nat) : Nat := if n = 4 ∨ n = 5 ∨ n = 7 then 5 else 4

/-- The path of a Parium port. -/
def portPath (n : Nat) : BitVec 32 := unitPath (portDie n) 9 0xFF n 0

/-- The path of a device-wide engine of the I/O dies, by subsystem number: die 4 for all, also for one that lies on both I/O dies
and for the timebase (assumption 81). -/
def enginePath (subsystem : Nat) : BitVec 32 := unitPath 4 subsystem 0xFF 0 0

/-- Die of a unit path. -/
def pathDie (u : BitVec 32) : Nat := bitsOf u 31 29

/-- The partition whose domain a unit belongs to: that of its compute die, or of its DDR5 channel, whose controller lies on an
I/O die (R13, R15). -/
def pathPartition (u : BitVec 32) : Option Nat :=
  if pathDie u < 4 then some (pathDie u)
  else if bitsOf u 28 24 = 8 then some (bitsOf u 15 8 / 3)
  else none

/-- The log that takes the errors of a unit: its partition's, or log 4, which takes those of the fabric domain and the chip
domain (R479). -/
def logOf (u : BitVec 32) : Nat := (pathPartition u).getD 4

/-- The rail that feeds a die (R664, R668): `VCORE` of a compute die, `VIODIE` of an I/O die, which has no
partition (assumption 40). -/
def railOf (die : Nat) : Nat :=
  match die with
  | 0 => 0
  | 1 => 1
  | 2 => 4
  | 3 => 5
  | _ => 2

/-- Error classes (R481). -/
def clsMemCorrected : Nat := 0x0001
/-- `MEM_UNCORRECTED`. -/
def clsMemUncorrected : Nat := 0x0002
/-- `POISON_CONSUMED`. -/
def clsPoisonConsumed : Nat := 0x0003
/-- `STATE_PARITY`. -/
def clsStateParity : Nat := 0x0004
/-- `MEM_TRAINING`. -/
def clsMemTraining : Nat := 0x0005
/-- `CHECK_EXACT`. -/
def clsCheckExact : Nat := 0x0010
/-- `CHECK_BOUND`. -/
def clsCheckBound : Nat := 0x0011
/-- `CHECK_DUP`. -/
def clsCheckDup : Nat := 0x0012
/-- `SWATCH_FAIL`. -/
def clsSwatchFail : Nat := 0x0018
/-- `SWATCH_SHORT`. -/
def clsSwatchShort : Nat := 0x0019
/-- `IMAGE_FALLBACK`. -/
def clsImageFallback : Nat := 0x001A
/-- `LINK_REPLAY`. -/
def clsLinkReplay : Nat := 0x0020
/-- `LINK_RETRAIN`. -/
def clsLinkRetrain : Nat := 0x0021
/-- `LINK_FAILED`. -/
def clsLinkFailed : Nat := 0x0022
/-- `LINK_AUTH`. -/
def clsLinkAuth : Nat := 0x0023
/-- `HOST_ADDRESS_CONFLICT`. -/
def clsHostAddressConflict : Nat := 0x0024
/-- `TIME_STEP`. -/
def clsTimeStep : Nat := 0x0028
/-- `EVENT_MISSED`. -/
def clsEventMissed : Nat := 0x0029
/-- `THERMAL_EXCURSION`. -/
def clsThermal : Nat := 0x0030
/-- `RAIL_FAULT`. -/
def clsRailFault : Nat := 0x0031
/-- `CONTEXT_FAULT`. -/
def clsContextFault : Nat := 0x0038
/-- `HANG`. -/
def clsHang : Nat := 0x0039
/-- `LADDER_WARNING`. -/
def clsLadder : Nat := 0x003A
/-- `UNIT_FAILED`. -/
def clsUnitFailed : Nat := 0x003B

/-- Severity of a class (R481): 0 CORRECTED, 1 WARNING, 2 CONTAINED, 3 FATAL; 0x0002 to 0x0004 are FATAL
while strict. -/
def severityOf (cls : Nat) (strict : Bool) : Nat :=
  if cls = 0x0001 ∨ cls = 0x0020 then 0
  else if cls = 0x0002 ∨ cls = 0x0003 ∨ cls = 0x0004 then (if strict then 3 else 2)
  else if cls = 0x0031 ∨ cls = 0x003B then 3
  else if cls = 0x0005 ∨ cls = 0x0019 ∨ cls = 0x001A ∨ cls = 0x0021 ∨ cls = 0x0024 ∨ cls = 0x0028 ∨
      cls = 0x0029 ∨ cls = 0x0030 ∨ cls = 0x003A then 1
  else 2

/-- The ladder source that a class feeds (R483). -/
def ladderOf (cls : Nat) : Option Nat :=
  if cls = 0x0001 then some 0
  else if cls = 0x0020 then some 1
  else if cls = 0x0021 then some 2
  else if cls = 0x0030 then some 3
  else none

/-- The strict state (R474). -/
def State.strict (s : State) : Bool := s.flag Reg.snConfig Fld.snConfigStrict

/-- The device is ready (R654). -/
def State.ready (s : State) : Bool := decide (s.fld Reg.castonStatus Fld.castonStatusPhase = 7)

/-- What an error is reported with (R479). -/
structure Report where
  cls : Nat
  unit_ : BitVec 32
  ctx : Nat
  operation : BitVec 64
  address : BitVec 64
  syndrome : BitVec 64
  detail : List Byte
  deriving DecidableEq, Repr

/-- `OPERATION` of an error that concerns none (R479). -/
def opNone : BitVec 64 := BitVec.ofNat 64 (4 * 2 ^ 56)

/-- `OPERATION` of an instruction: word bits [127:118] and pattern counter (R479). -/
def opInstruction (w : BitVec 128) (pc : BitVec 32) : BitVec 64 :=
  BitVec.ofNat 64 (bitsOf w 127 118 * 2 ^ 32 + pc.toNat)

/-- `OPERATION` of a descriptor slot. -/
def opDescriptor (slot : Nat) : BitVec 64 := BitVec.ofNat 64 (1 * 2 ^ 56 + slot)

/-- A report of a class and unit with nothing further. -/
def Report.bare (cls : Nat) (u : BitVec 32) : Report := ⟨cls, u, 0xFF, opNone, 0, 0, []⟩

/-- `STEP` of a log entry: `GU_STEP` of the context, or of context 4p (R479). -/
def State.logStep (s : State) (r : Report) : BitVec 32 :=
  let x := if r.ctx < 16 then r.ctx else 4 * (pathPartition r.unit_).getD 0
  BitVec.ofNat 32 (s.fld (Reg.guStep x) Fld.guStepStep)

/-- The temperature of a unit's die and the rail voltage of its partition (R479). -/
def State.dieReading (s : State) (u : BitVec 32) : BitVec 16 × BitVec 16 :=
  (SMap.get 0 s.pm.dieTemp (pathDie u),
    BitVec.ofNat 16 (s.fld (Reg.pmRail (railOf ((pathPartition u).getD 4))) Fld.pmRailVoltage))

/-- Adds a fault signature record, or counts it as dropped while the buffer is full (R485, R488). -/
def State.addFsr (s : State) (kind cls : Nat) (u : BitVec 32) (op syn : BitVec 64) (step : BitVec 32)
    (counts : SMap Nat) (detail : List Byte) : State :=
  if 1024 ≤ s.sn.fsr.length then s.count Reg.snFsrDropped 1
  else
    let (t, v) := s.dieReading u
    let r : Fsr := {
      number := s.sn.fsrNext, course := s.course, step := step, kind := kind, cls := cls, unit_ := u,
      operation := op, syndrome := syn, temp := t, voltage := v, counts := counts, detail := detail.take 64,
      tag := s.cfg.tag, nonce := s.rt.castonNonce }
    let s1 := { s with sn := { s.sn with fsr := s.sn.fsr ++ [r], fsrNext := s.sn.fsrNext + 1 } }
    s1.setFld Reg.snConfig Fld.snConfigFsrCount s1.sn.fsr.length

/-- The recovery controller is told of a reset to be carried out (R504). A request for a domain that
already has the same one merges with it. -/
def State.dueReset (s : State) (level domain cause : Nat) : State :=
  let d : ResetDue := ⟨level, domain, cause⟩
  if d ∈ s.rv.due then s else { s with rv := { s.rv with due := s.rv.due ++ [d] } }

/-- The log table's key of entry `e` of log `l`. -/
def logKey (l e : Nat) : Nat := l * 4096 + e

/-- The newest entry of a log, if it holds one. -/
def State.newestEntry (s : State) (l : Nat) : Option LogEntry :=
  let n := (s.reg (Reg.snLogNext l)).toNat
  if n = 0 then none else SMap.get none s.sn.logs (logKey l ((n - 1) % 4096))

/-- Writes an entry into a log, or coalesces it into the newest (R482). The flag tells whether an entry
was written. -/
def State.writeLog (s : State) (r : Report) : State × Bool :=
  let l := logOf r.unit_
  let n := (s.reg (Reg.snLogNext l)).toNat
  let fresh : State × Bool :=
    let (t, v) := s.dieReading r.unit_
    let e : LogEntry := {
      course := s.course, stitch := s.stitch, unit_ := r.unit_, cls := r.cls,
      severity := severityOf r.cls s.strict, ctx := r.ctx, operation := r.operation, address := r.address,
      syndrome := r.syndrome, temp := t, voltage := v, step := s.logStep r, count := 1, seq := n }
    let s1 := match SMap.get none s.sn.logs (logKey l (n % 4096)) with
      | none => s
      | some old => s.count (Reg.snFolded l old.cls) old.count
    let s2 := { s1 with sn := { s1.sn with logs := SMap.set none s1.sn.logs (logKey l (n % 4096)) (some e) } }
    (s2.setReg (Reg.snLogNext l) (BitVec.ofNat 64 (n + 1)), true)
  match s.newestEntry l with
  | none => fresh
  | some e =>
    if e.cls = r.cls ∧ e.unit_ = r.unit_ ∧ e.syndrome = r.syndrome ∧ coursesSince s.course e.course ≤ 1024 then
      ({ s with sn := { s.sn with
          logs := SMap.set none s.sn.logs (logKey l ((n - 1) % 4096)) (some { e with count := min (e.count + 1) (2 ^ 32 - 1) }) } },
        false)
    else fresh

/-- Counts an error in the hour's summary (R485) and in its ladder source (R483); correctable memory
errors of cast-on feed no source before ready (R650). -/
def State.tally (s : State) (cls : Nat) : State :=
  let s1 := { s with sn := { s.sn with hourCounts := SMap.update 0 s.sn.hourCounts cls (· + 1) } }
  match ladderOf cls with
  | none => s1
  | some n =>
    if n = 0 ∧ s.ready = false then s1
    else { s1 with sn := { s1.sn with ladderNow := SMap.update 0 s1.sn.ladderNow n (· + 1) } }

/-- A strict error causes an L4 (R475), counted once for the errors that fall before it (R489). -/
def State.strictReset (s : State) : State :=
  (if s.rv.due.any (fun d => decide (d.level = 4)) then s else s.count Reg.snStrictResets 1).dueReset 4 5 0x0C

/-- Reports an error: the log (R479, R482), the ladder and hour counts, the fault signature record of a
new entry of severity CONTAINED or FATAL (R485), and the L4 that a strict memory, poison or parity error
causes (R475). -/
def State.report (s : State) (r : Report) : State :=
  let (s1, written) := s.writeLog r
  let s2 := s1.tally r.cls
  let s3 :=
    if written && decide (2 ≤ severityOf r.cls s.strict) then
      s2.addFsr 1 r.cls r.unit_ r.operation r.syndrome (s.logStep r) [] r.detail
    else s2
  if s.strict && (r.cls = 0x0002 || r.cls = 0x0003 || r.cls = 0x0004) then
    s3.strictReset
  else s3

/-- The root of trust's path. -/
def trustPath : BitVec 32 := enginePath 19

/-- The primary and the standby root of trust disagree: an error of class `UNIT_FAILED`, and an L4 is due (R607). -/
def State.trustDisagrees (s : State) : State := (s.report (Report.bare clsUnitFailed trustPath)).dueReset 4 5 0x0A

end Sys2Proof.Machine
end

