-- ==== Sys2Proof/Machine/Fabric.lean ====
section
/-! DEFINITION. Building, sending and flooding packets: coordinates and aliases, the fault map, routes,
sender flows (R281–R310). -/

namespace Sys2Proof.Machine

/-! ### Coordinates -/

/-- A coordinate's component in dimension d: 0 x, 1 y, 2 z (R281). -/
def coordAt (c : BitVec 15) (d : Nat) : Nat :=
  match d with
  | 0 => bitsOf c 14 10
  | 1 => bitsOf c 9 5
  | _ => bitsOf c 4 0

/-- A coordinate with one component replaced. -/
def coordWith (c : BitVec 15) (d v : Nat) : BitVec 15 :=
  let x := if d = 0 then v else coordAt c 0
  let y := if d = 1 then v else coordAt c 1
  let z := if d = 0 ∨ d = 1 then coordAt c 2 else v
  BitVec.ofNat 15 (x % 32 * 1024 + y % 32 * 32 + z % 32)

/-- The torus extent in dimension d (R295). -/
def State.extent (s : State) (d : Nat) : Nat :=
  1 + s.fld Reg.prTorus (match d with
    | 0 => Fld.prTorusXnM1
    | 1 => Fld.prTorusYnM1
    | _ => Fld.prTorusZnM1)

/-- Whether a coordinate lies inside the extents. -/
def State.inExtents (s : State) (c : BitVec 15) : Bool :=
  (List.range 3).all (fun d => decide (coordAt c d < s.extent d))

/-- This device's physical coordinate, or its host's (R295). -/
def State.phys (s : State) : BitVec 15 := BitVec.ofNat 15 (s.fld Reg.prTorus Fld.prTorusPhys)

/-- This device's logical coordinate. -/
def State.logical (s : State) : BitVec 15 := BitVec.ofNat 15 (s.fld Reg.prTorus Fld.prTorusLogical)

/-- This device hangs from the SB port of `phys`. -/
def State.onSide (s : State) : Bool := s.flag Reg.prTorus Fld.prTorusSide

/-- The physical place of a logical coordinate: from the valid alias entry that names it, or itself
(R297). -/
def State.physOf (s : State) (l : BitVec 15) : BitVec 15 × Bool :=
  match (List.range 16).find? (fun n =>
      s.flag (Reg.prAlias n) Fld.prAliasValid && decide (s.fld (Reg.prAlias n) Fld.prAliasLogical = l.toNat)) with
  | none => (l, false)
  | some n => (BitVec.ofNat 15 (s.fld (Reg.prAlias n) Fld.prAliasPhys), s.flag (Reg.prAlias n) Fld.prAliasSide)

/-- The neighbour of a coordinate through a torus port: 0 X+, 1 X−, and so on (R270). -/
def State.neighbour (s : State) (c : BitVec 15) (port : Nat) : BitVec 15 :=
  let d := port / 2
  let n := s.extent d
  let v := coordAt c d
  coordWith c d (if port % 2 = 0 then (v + 1) % n else (v + n - 1) % n)

/-! ### Ports and the fault map (R305, R312) -/

/-- `PP_STATUS.STATE` of a port. -/
def State.portState (s : State) (n : Nat) : Nat := s.fld (Reg.ppStatus n) Fld.ppStatusState

/-- The port is UP. -/
def State.portUp (s : State) (n : Nat) : Bool := decide (s.portState n = 3)

/-- Port n. -/
def State.port (s : State) (n : Nat) : Port := SMap.get Port.reset s.fab.ports n

/-- Writes port n. -/
def State.setPort (s : State) (n : Nat) (p : Port) : State :=
  { s with fab := { s.fab with ports := SMap.set Port.reset s.fab.ports n p } }

/-- The torus ports that are UP. -/
def State.livePorts (s : State) : List Nat := (List.range 6).filter s.portUp

/-- Fields of a fault record (R305). -/
def frKind (r : BitVec 64) : Nat := bitsOf r 63 62
/-- `COORD`. -/
def frCoord (r : BitVec 64) : BitVec 15 := BitVec.ofNat 15 (bitsOf r 61 47)
/-- `PORT`. -/
def frPort (r : BitVec 64) : Nat := bitsOf r 46 44

/-- A fault record (R305). -/
def faultRecord (kind : Nat) (coord : BitVec 15) (port : Nat) (reporter : BitVec 15) (rseq : BitVec 16) : BitVec 64 :=
  BitVec.ofNat 64 (kind * 2 ^ 62 + coord.toNat * 2 ^ 47 + port * 2 ^ 44 + reporter.toNat * 2 ^ 29 + rseq.toNat * 2 ^ 13)

/-- Whether two records name the same fault (R305). -/
def sameFault (a b : BitVec 64) : Bool :=
  decide (frKind a = frKind b) && decide (frCoord a = frCoord b) && decide (frPort a = frPort b)

/-- Whether the link on the + port of `c` in dimension d is in the fault map. -/
def State.linkFailed (s : State) (c : BitVec 15) (d : Nat) : Bool :=
  s.fab.faultMap.any (fun r => decide (frKind r = 0) && decide (frCoord r = c) && decide (frPort r = 2 * d))

/-- Whether the link through a torus port of `c` is in the fault map. -/
def State.portLinkFailed (s : State) (c : BitVec 15) (port : Nat) : Bool :=
  if port % 2 = 0 then s.linkFailed c (port / 2) else s.linkFailed (s.neighbour c port) (port / 2)

/-- A device is failed when a device record names it or all six of its torus links are failed (R305). -/
def State.deviceFailed (s : State) (c : BitVec 15) : Bool :=
  s.fab.faultMap.any (fun r => decide (frKind r = 1) && decide (frCoord r = c)) ||
    (List.range 6).all (fun p => s.portLinkFailed c p)

/-- Whether a port's state counts as a failed link at its own router: DOWN, FAILED, TOO_LONG or
PEER_REJECTED (R726). -/
def State.portDead (s : State) (n : Nat) : Bool :=
  decide (s.portState n = 0) || decide (s.portState n = 4) || decide (s.portState n = 5) || decide (s.portState n = 6)

/-- Whether `k` hops from `c` through a torus port cross no failed link and no failed device; at this
device's own router, which a spare's is not, its port states count (R300, R726). -/
def State.arcClear (s : State) (port : Nat) : Nat → BitVec 15 → Bool
  | 0, _ => true
  | k + 1, c =>
    let c' := s.neighbour c port
    !s.portLinkFailed c port && !(decide (c = s.phys) && !s.onSide && s.portDead port) && !s.deviceFailed c' && s.arcClear port k c'

/-- The port by which a router at `c` corrects the first dimension in which it differs from `target`,
the shorter arc first, + on a tie; `some none` when they are equal, `none` when both arcs are cut
(R300 step 4). -/
def State.nextPort (s : State) (c target : BitVec 15) : Option (Option Nat) :=
  match (List.range 3).find? (fun d => decide (coordAt c d ≠ coordAt target d)) with
  | none => some none
  | some d =>
    let n := s.extent d
    let up := (coordAt target d + n - coordAt c d) % n
    let first := if 2 * up ≤ n then 2 * d else 2 * d + 1
    let hops := fun (p : Nat) => if p % 2 = 0 then up else n - up
    let other := if first % 2 = 0 then first + 1 else first - 1
    if s.arcClear first (hops first) c then some (some first)
    else if s.arcClear other (hops other) c then some (some other)
    else none

/-- Whether a route leads from `c` to `target` under this device's fault map. -/
def State.routeExists (s : State) : Nat → BitVec 15 → BitVec 15 → Bool
  | 0, _, _ => false
  | k + 1, c, target =>
    match s.nextPort c target with
    | none => false
    | some none => true
    | some (some p) => s.routeExists k (s.neighbour c p) target

/-! ### Intermediates (R299) -/

/-- A coordinate drawn from the minimal arc between `a` and `b` on a ring of `n`, both ends included,
the + arc where the two are equal. -/
def drawOnArc (n a b r : Nat) : Nat :=
  let up := (b + n - a) % n
  if 2 * up ≤ n then (a + r % (up + 1)) % n else (a + n - r % (n - up + 1)) % n

/-- One draw of an intermediate. -/
def State.drawMid (s : State) (src dst : BitVec 15) : BitVec 15 :=
  let w := s.freeNow.toNat
  let x := drawOnArc (s.extent 0) (coordAt src 0) (coordAt dst 0) (w % 2 ^ 20)
  let y := drawOnArc (s.extent 1) (coordAt src 1) (coordAt dst 1) (w / 2 ^ 20 % 2 ^ 20)
  let z := drawOnArc (s.extent 2) (coordAt src 2) (coordAt dst 2) (w / 2 ^ 40)
  BitVec.ofNat 15 (x % 32 * 1024 + y % 32 * 32 + z % 32)

/-- A packet for a device leaves this one by SA (R300 step 3). -/
def State.leavesBySA (s : State) (dst : BitVec 15) (side : Bool) : Bool :=
  !s.onSide && decide (dst.toNat = s.fld Reg.prRoute Fld.prRouteSaPeer) && !side && s.flag Reg.prRoute Fld.prRouteSaValid && s.portUp 6

/-- Up to `k` draws of an intermediate through which a route leads. -/
def State.chooseMid (s : State) (src dst : BitVec 15) (side : Bool) : Nat → State × Option (BitVec 15)
  | 0 => (s, none)
  | k + 1 =>
    let m := s.drawMid src dst
    let t := s.drawn
    if s.leavesBySA dst side || (s.routeExists 96 src m && s.routeExists 96 m dst) then (t, some m) else t.chooseMid src dst side k

/-! ### Building packets -/

/-- Traffic classes (R281). -/
def tcCT : BitVec 2 := 0
/-- CL. -/
def tcCL : BitVec 2 := 1
/-- PT. -/
def tcPT : BitVec 2 := 2
/-- LL. -/
def tcLL : BitVec 2 := 3

/-- Packet types (R282). -/
def tyWrite : BitVec 4 := 1
/-- `READ_REQ`. -/
def tyReadReq : BitVec 4 := 2
/-- `READ_RESP`. -/
def tyReadResp : BitVec 4 := 3
/-- `RAISE`. -/
def tyRaise : BitVec 4 := 4
/-- `E2E_ACK`. -/
def tyE2eAck : BitVec 4 := 5
/-- `COLL`. -/
def tyColl : BitVec 4 := 6
/-- `BEACON`. -/
def tyBeacon : BitVec 4 := 7
/-- `FAULT`. -/
def tyFault : BitVec 4 := 8
/-- `CTRL`. -/
def tyCtrl : BitVec 4 := 9
/-- `SESSION`. -/
def tySession : BitVec 4 := 10

/-- The endpoint of an address on the device that holds it (R283). -/
def endpointOf (a : Nat) : BitVec 8 :=
  if inHbm a then BitVec.ofNat 8 (0xA0 + a / 0x40_0000_0000)
  else if inTier a then BitVec.ofNat 8 (0xA4 + (a - 0x1000_0000_0000) / 0x180_0000_0000)
  else BitVec.ofNat 8 ((a - 0x2000_0000_0000) / 0x100_0000)

/-- Endpoints of the fabric domain (R283). -/
def epCollective : BitVec 8 := 0xB0
/-- Lifeline engine. -/
def epLifeline : BitVec 8 := 0xB1
/-- Step keeper. -/
def epStepKeeper : BitVec 8 := 0xB2
/-- Timebase. -/
def epTimebase : BitVec 8 := 0xB3
/-- Recovery controller. -/
def epRecovery : BitVec 8 := 0xB4
/-- Control cluster. -/
def epControl : BitVec 8 := 0xB5
/-- Root of trust. -/
def epTrust : BitVec 8 := 0xB6
/-- Router. -/
def epRouter : BitVec 8 := 0xB7

/-- The domain that builds packets of an endpoint: a partition, or 4 the fabric domain (R515). -/
def domainOfEp (e : BitVec 8) : Nat :=
  if e.toNat < 160 then e.toNat / 40
  else if e.toNat < 0xA8 then (e.toNat - 0xA0) % 4
  else 4

/-- The generation tag of a domain (R513). -/
def State.gen (s : State) (d : Nat) : BitVec 8 :=
  BitVec.ofNat 8 (s.fld Reg.rvGen (match d with
    | 0 => Fld.rvGenGenP0
    | 1 => Fld.rvGenGenP1
    | 2 => Fld.rvGenGenP2
    | 3 => Fld.rvGenGenP3
    | _ => Fld.rvGenGenF))

/-- The packet's stamp at this course (R281). -/
def State.stampNow (s : State) : BitVec 8 := BitVec.ofNat 8 s.course.toNat

/-- A packet addressed to a physical place, phase 1, no intermediate (R281, R299, R515). -/
def State.packetTo (s : State) (ty : BitVec 4) (tc : BitVec 2) (dst : BitVec 15 × Bool) (dstEp srcEp : BitVec 8)
    (addr : BitVec 42) (poison : BitVec 64) (payload : List Byte) : Packet where
  ty := ty
  tc := tc
  phase := true
  retx := false
  dst := dst.1
  dstSide := dst.2
  dstEp := dstEp
  src := s.phys
  srcSide := s.onSide
  srcEp := srcEp
  mid := s.phys
  stamp := s.stampNow
  gen := s.gen (domainOfEp srcEp)
  epoch := 0
  e2eSeq := 0
  start := false
  addr := addr
  poison := poison
  payload := payload

/-- Gives a PT or LL packet its intermediate where `PR_ROUTE` asks for one (R299). -/
def State.withMid (s : State) (p : Packet) : State × Packet :=
  let random := (decide (p.tc = tcPT) && s.flag Reg.prRoute Fld.prRouteRandomPt) ||
    (decide (p.tc = tcLL) && s.flag Reg.prRoute Fld.prRouteRandomLl)
  if random then
    match s.chooseMid p.src p.dst p.dstSide 4 with
    | (t, some m) => (t, { p with mid := m, phase := false })
    | (t, none) => (t, p)
  else (s, p)

/-- The virtual channel of a packet. -/
def vcOf (p : Packet) : Nat := 2 * p.tc.toNat + bit p.phase

/-- Flits of a packet (R280). -/
def flitsOf (p : Packet) : Nat := (48 + p.payload.length + 63) / 64

/-- A packet takes its place at the local port of the router, stamped, bound to leave by a port if one is named (R281). -/
def State.injectBy (s : State) (p : Packet) (port : Option Nat) : State :=
  { s with fab := { s.fab with inject := SMap.update [] s.fab.inject (vcOf p) (· ++ [({ p with stamp := s.stampNow }, port)]) } }

/-- A packet takes its place at the local port of the router. -/
def State.inject (s : State) (p : Packet) : State := s.injectBy p none

/-- The place of the peer on a port's own link: a torus neighbour; on SB the spare that hangs there, on a spare's SB its host;
on SA what `PR_ROUTE` names, else what the peer gave at training (R281, R295, R298, R312, assumption 243). -/
def State.linkPeer (s : State) (n : Nat) : BitVec 15 × Bool :=
  if n < 6 then (s.neighbour s.phys n, false)
  else if n = 7 then (s.phys, !s.onSide)
  else if s.flag Reg.prRoute Fld.prRouteSaValid then (BitVec.ofNat 15 (s.fld Reg.prRoute Fld.prRouteSaPeer), false)
  else (BitVec.ofNat 15 (s.fld (Reg.ppStatus n) Fld.ppStatusPeerCoord), s.flag (Reg.ppStatus n) Fld.ppStatusPeerSide)

/-- A packet of a link's own takes its place at an output port. -/
def State.queueOn (s : State) (n : Nat) (p : Packet) : State :=
  s.setPort n { s.port n with txQueue := (s.port n).txQueue ++ [p] }

/-! ### Sender flows (R307, R546) -/

/-- The key of a destination device. -/
def destKey (c : BitVec 15) (side : Bool) : Nat := c.toNat * 2 + bit side

/-- Unacknowledged reliable packets of the device. -/
def State.unackedTotal (s : State) : Nat := (s.fab.sendFlows.map (fun f => f.unacked.length)).foldl (· + ·) 0

/-- The sender flow to a destination. -/
def State.flowTo (s : State) (key : Nat) : Option SendFlow := s.fab.sendFlows.find? (fun f => decide (f.dest = key))

/-- Whether a reliable packet to a destination may be sent now: a flow entry, 256 per flow, 16,384 per
device (R307, R309, R546). -/
def State.maySend (s : State) (key : Nat) : Bool :=
  decide (s.unackedTotal < 16384) &&
    (match s.flowTo key with
      | some f => decide (f.unacked.length < 256)
      | none => decide (s.fab.sendFlows.length < 4096))

/-- Numbers a reliable packet in its flow and records it as unacknowledged and sent again so many times; the flow's first
packet carries `START` (R307, R310). -/
def State.numbered (s : State) (p : Packet) (origin : Origin) (owner : Owner) (toward : Option (BitVec 15)) (tries : Nat) : State × Packet :=
  let key := destKey p.dst p.dstSide
  match s.flowTo key with
  | some f =>
    let q := { p with e2eSeq := f.nextSeq, start := false }
    let f' := { f with
      nextSeq := f.nextSeq + 1, lastActive := s.course
      unacked := f.unacked ++ [⟨f.nextSeq, q, origin, owner, toward, s.course, tries⟩] }
    ({ s with fab := { s.fab with sendFlows := s.fab.sendFlows.map (fun g => if g.dest = key then f' else g) } }, q)
  | none =>
    let q := { p with e2eSeq := 0, start := true }
    ({ s with fab := { s.fab with
      sendFlows := s.fab.sendFlows ++ [⟨key, 1, [⟨0, q, origin, owner, toward, s.course, tries⟩], s.course⟩] } }, q)

/-- A packet leaves its source: by the torus port named, or with its intermediate by the router. -/
def State.launch (s : State) (p : Packet) (port : Option Nat) : State :=
  match port with
  | some n => s.injectBy p (some n)
  | none => let (u, r) := s.withMid p; u.inject r

/-- Sends what would be held: numbered, given its intermediate, and injected. A packet that the flow limits hold back waits
in `fab.held` (R546). -/
def State.sendHeld (s : State) (h : HeldPacket) : State :=
  if s.maySend (destKey h.packet.dst h.packet.dstSide) then
    let (t, q) := s.numbered h.packet h.origin h.owner h.toward h.tries
    t.launch q h.port
  else { s with fab := { s.fab with held := s.fab.held ++ [h] } }

/-- Sends a reliable packet for the first time, by the torus port named or by the router. `toward` is the logical coordinate
it is built for (R297). -/
def State.sendReliable (s : State) (p : Packet) (origin : Origin) (owner : Owner) (toward : Option (BitVec 15))
    (port : Option Nat) : State :=
  s.sendHeld ⟨p, origin, owner, toward, port, 0⟩

/-- Sends, oldest first, what the flow limits held back and now allow. -/
def State.releaseHeld (s : State) : State := s.fab.held.foldl State.sendHeld { s with fab := { s.fab with held := [] } }

/-- The first packet that has arrived for the links' own units and passes a test, and what is left. -/
def State.takeLink (s : State) (test : Packet → Bool) : Option (LinkPacket × State) :=
  match s.fab.linkArrived.find? (fun a => test a.packet) with
  | none => none
  | some a => some (a, { s with fab := { s.fab with linkArrived := s.fab.linkArrived.erase a } })

/-! ### Flooding (R305, R306, R500) -/

/-- Stores a fault record if its fault is new and floods it on the live torus ports but `except`; the
flag tells whether it was new (R305, R306, R717). -/
def State.floodFault (s : State) (r : BitVec 64) (except : Option Nat) : State × Bool :=
  if s.fab.faultMap.any (sameFault r) then (s, false)
  else
    let t := if 1024 ≤ s.fab.faultMap.length then s.count Reg.prFaultmapFull 1
      else { s with fab := { s.fab with faultMap := s.fab.faultMap ++ [r] } }
    let ports := s.livePorts.filter (fun n => decide (some n ≠ except))
    (ports.foldl (fun u n => u.injectBy
      (u.packetTo tyFault tcCT (u.neighbour u.phys n, false) epRouter epRouter 0 0 (beBytes 8 r.toNat)) (some n)) t, true)

/-- A record that this device itself reports (R305). -/
def State.ownFault (s : State) (kind : Nat) (coord : BitVec 15) (port : Nat) : State :=
  let r := faultRecord kind coord port s.phys s.fab.ownRecords
  ({ s with fab := { s.fab with ownRecords := s.fab.ownRecords + 1 } }.floodFault r none).1

/-- A `CTRL` message to the neighbours on the live torus ports but `except` (R498, R500). -/
def State.floodCtrl (s : State) (payload : List Byte) (except : Option Nat) : State :=
  (s.livePorts.filter (fun n => decide (some n ≠ except))).foldl (fun u n =>
    u.sendReliable (u.packetTo tyCtrl tcCT (u.neighbour u.phys n, false) epRecovery epRecovery 0 0 payload)
      .literal .none none (some n)) s

/-- A `CTRL` message to a logical coordinate. -/
def State.sendCtrl (s : State) (dst : BitVec 15) (dstEp srcEp : BitVec 8) (payload : List Byte) : State :=
  s.sendReliable (s.packetTo tyCtrl tcCT (s.physOf dst) dstEp srcEp 0 0 payload) .literal .none (some dst) none

end Sys2Proof.Machine
end

