-- ==== Sys2Proof/Machine/Mapping.lean ====
section
/-! DEFINITION. The job's mapping: axes, positions, members, partner and replicas (R322, R329, R330,
R345), and the step in progress. -/

namespace Sys2Proof.Machine

/-- An axis of a mapping: 0 data, 1 tensor rows, 2 tensor columns, 3 sequence, 4 pipeline (R315, R345). -/
structure Axis where
  dim : Nat
  inner : Bool
  extent : Nat
  deriving DecidableEq, Repr

/-- A byte of a mapping descriptor. -/
def mapByte (m : List Byte) (o : Nat) : Nat := (m.getD o 0).toNat

/-- A little-endian field of a mapping descriptor. -/
def mapNat (m : List Byte) (o n : Nat) : Nat := leNat ((m.drop o).take n)

/-- Axis k of a mapping (R345). -/
def mapAxis (m : List Byte) (k : Nat) : Axis :=
  ⟨mapByte m (2 + 2 * k) % 4, decide (mapByte m (2 + 2 * k) / 4 % 2 = 1), mapByte m (3 + 2 * k) + 1⟩

/-- Axis k of the loaded job; extent 1 with no job. -/
def State.axis (s : State) (k : Nat) : Axis := if s.job.loaded then mapAxis s.job.mapping k else ⟨3, false, 1⟩

/-- The extent of the `INNER` axis that shares a dimension, 1 where none does (R346). -/
def State.innerExtent (s : State) (d : Nat) : Nat :=
  match (List.range 5).find? (fun k => decide ((s.axis k).dim = d) && (s.axis k).inner) with
  | none => 1
  | some k => (s.axis k).extent

/-- Position of a logical coordinate on axis k: an `INNER` axis counts along runs of consecutive
coordinates, the axis it shares a dimension with strides across the runs (R322, R346). -/
def State.positionOf (s : State) (c : BitVec 15) (k : Nat) : Nat :=
  let a := s.axis k
  if a.dim = 3 then 0
  else if a.inner then coordAt c a.dim % a.extent
  else coordAt c a.dim / s.innerExtent a.dim % a.extent

/-- This device's position on axis k. -/
def State.position (s : State) (k : Nat) : Nat := s.positionOf s.logical k

/-- The logical coordinate that differs from this device's only in its position on axis k. -/
def State.memberAt (s : State) (k q : Nat) : BitVec 15 :=
  let a := s.axis k
  let v := coordAt s.logical a.dim
  if a.dim = 3 then s.logical
  else if a.inner then coordWith s.logical a.dim (v / a.extent * a.extent + q)
  else let i := s.innerExtent a.dim; coordWith s.logical a.dim (q * i + v % i)

/-- Present positions of axis k: a data position removed by a shrink is absent (R322). -/
def State.presentOn (s : State) (k : Nat) : List Nat :=
  (List.range (s.axis k).extent).filter (fun q => !(decide (k = 0) && NatSet.has s.ce.removed q))

/-- Present replicas of the job. -/
def State.replicas (s : State) : List Nat := s.presentOn 0

/-- Devices of one data replica: the product of the extents of every axis other than data (R349). -/
def State.replicaSize (s : State) : Nat := ((List.range 4).map (fun k => (s.axis (k + 1)).extent)).foldl (· * ·) 1

/-- Expected members N of the job (R23). -/
def State.memberCount (s : State) : Nat := s.replicas.length * s.replicaSize

/-- The data position of this device's partner (R330). -/
def State.partnerPosition (s : State) : Nat :=
  let n := (s.axis 0).extent
  (s.position 0 + n / 2) % n

/-- The partner's logical coordinate. -/
def State.partner (s : State) : BitVec 15 := s.memberAt 0 s.partnerPosition

/-- A partner is present: the data axis has at least two positions and the partner's is not removed
(R330, R332). -/
def State.partnerPresent (s : State) : Bool :=
  s.job.loaded && decide (2 ≤ (s.axis 0).extent) && !NatSet.has s.ce.removed s.partnerPosition

/-- This device is of a data replica that a shrink has removed (R447). -/
def State.removedHere (s : State) : Bool := s.job.loaded && NatSet.has s.ce.removed (s.position 0)

/-- The mapping tag: the first 32 bits of the digest of the mapping descriptor (R385, assumption 42). -/
def State.mappingTag (s : State) : BitVec 32 := BitVec.ofNat 32 (leNat (shake 4 s.job.mapping))

/-- Contexts of the loaded job. -/
def State.jobContexts (s : State) : List Nat := (List.range 16).filter s.inJob

/-- The step that the job's contexts are in: `GU_STEP` of the first of them (R498). -/
def State.jobStep (s : State) : BitVec 32 :=
  BitVec.ofNat 32 (s.fld (Reg.guStep (s.jobContexts.headD 0)) Fld.guStepStep)

/-- Job states (R504). -/
def jobIdle : Nat := 0
/-- RUNNING. -/
def jobRunning : Nat := 1
/-- ABORTED. -/
def jobAborted : Nat := 2
/-- RETIRED. -/
def jobRetired : Nat := 3

/-- `RV_STATUS.JOB_STATE`. -/
def State.jobState (s : State) : Nat := s.fld Reg.rvStatus Fld.rvStatusJobState

/-- Dispatch of the job's contexts is stopped: by a step abort (R498), or because the device is RETIRED and takes no further
part in the job (R512). -/
def State.aborted (s : State) : Bool := decide (s.jobState = jobAborted) || decide (s.jobState = jobRetired)

/-! ### Step status words (R596) -/

/-- States of a step status word. -/
def stepArmed : Nat := 1
/-- JOURNALLED. -/
def stepJournalled : Nat := 2
/-- RUNNING. -/
def stepRunning : Nat := 3
/-- ENDED. -/
def stepEnded : Nat := 4
/-- APPLIED. -/
def stepApplied : Nat := 5
/-- SKIPPED. -/
def stepSkipped : Nat := 6
/-- WITHHELD. -/
def stepWithheld : Nat := 7
/-- CHECKED. -/
def stepChecked : Nat := 8
/-- REFUSED. -/
def stepRefused : Nat := 9
/-- ABORTED. -/
def stepAborted : Nat := 10

/-- Fields of a step status word. -/
def fldStepNumber : BitField := ⟨63, 32⟩
/-- `STATE`. -/
def fldStepState : BitField := ⟨31, 28⟩
/-- `STATUS`. -/
def fldStepStatus : BitField := ⟨27, 12⟩
/-- `REPLAY`. -/
def fldStepReplay : BitField := ⟨5, 5⟩
/-- `CUT`. -/
def fldStepCut : BitField := ⟨4, 4⟩
/-- `LOSS_HALVED`. -/
def fldStepHalved : BitField := ⟨3, 3⟩
/-- `LOSS_DOUBLED`. -/
def fldStepDoubled : BitField := ⟨2, 2⟩
/-- `LADDER`. -/
def fldStepLadder : BitField := ⟨1, 1⟩
/-- `UNMIRRORED`. -/
def fldStepUnmirrored : BitField := ⟨0, 0⟩

/-- The step status word of slot j. -/
def State.stepWord (s : State) (j : Nat) : Word := SMap.get 0 s.cmd.stepWords j

/-- Writes a step status word. -/
def State.setStepWord (s : State) (j : Nat) (w : Word) : State :=
  { s with cmd := { s.cmd with stepWords := SMap.set 0 s.cmd.stepWords j w } }

/-- Writes a field of the status word of a step, where its slot's latest arm is of that step. -/
def State.setStepField (s : State) (u : BitVec 32) (f : BitField) (v : Nat) : State :=
  let j := u.toNat % 8
  if fldStepNumber.get (s.stepWord j) = u.toNat then s.setStepWord j (f.put (s.stepWord j) v) else s

/-- The state a step's status word shows, 0 where its slot's latest arm is of another step. -/
def State.stepStateOf (s : State) (u : BitVec 32) : Nat :=
  let w := s.stepWord (u.toNat % 8)
  if fldStepNumber.get w = u.toNat then fldStepState.get w else 0

end Sys2Proof.Machine
end

