-- ==== Sys2Proof/Machine/Results.lean ====
section
/-! DEFINITION. Status codes and result slots (R590, R595, R598–R602). -/

namespace Sys2Proof.Machine

/-! ### Status codes (17_command_set.md, Status codes) -/

/-- `OK`. -/
def stOk : Nat := 0x0000
/-- `PENDING`. -/
def stPending : Nat := 0x0001
/-- `BUSY`. -/
def stBusy : Nat := 0x0002
/-- `SEQ_WINDOW`. -/
def stSeqWindow : Nat := 0x0003
/-- `BAD_OPCODE`. -/
def stBadOpcode : Nat := 0x0004
/-- `BAD_PARAM`. -/
def stBadParam : Nat := 0x0005
/-- `ADDRESS`. -/
def stAddress : Nat := 0x0006
/-- `STATE`. -/
def stState : Nat := 0x0007
/-- `NO_RESULT_SLOT`. -/
def stNoResultSlot : Nat := 0x0008
/-- `RESULT_GONE`. -/
def stResultGone : Nat := 0x0009
/-- `ABORTED_BY_RESET`. -/
def stAbortedByReset : Nat := 0x000A
/-- `MAP_REFUSED`. -/
def stMapRefused : Nat := 0x000B
/-- `NO_QP`. -/
def stNoQp : Nat := 0x000C
/-- `SK_NO_REGION`. -/
def stSkNoRegion : Nat := 0x0100
/-- `SK_STEP_LIMIT`. -/
def stSkStepLimit : Nat := 0x0101
/-- `SK_ORDER`. -/
def stSkOrder : Nat := 0x0102
/-- `SK_FULL`. -/
def stSkFull : Nat := 0x0103
/-- `SK_TOO_LARGE`. -/
def stSkTooLarge : Nat := 0x0104
/-- `SK_NOT_HELD`. -/
def stSkNotHeld : Nat := 0x0105
/-- `SK_BAD_RECORD`. -/
def stSkBadRecord : Nat := 0x0106
/-- `LE_BAD_MANIFEST`. -/
def stLeBadManifest : Nat := 0x0200
/-- `LE_FALLBACK`. -/
def stLeFallback : Nat := 0x0201
/-- `LE_NONE`. -/
def stLeNone : Nat := 0x0202
/-- `LE_DISABLED`. -/
def stLeDisabled : Nat := 0x0203
/-- `LE_LATE`. -/
def stLeLate : Nat := 0x0204
/-- `LE_BUSY`. -/
def stLeBusy : Nat := 0x0205
/-- `TB_LATE`. -/
def stTbLate : Nat := 0x0300
/-- `TB_TABLE_FULL`. -/
def stTbTableFull : Nat := 0x0301
/-- `TB_BAD_ACTION`. -/
def stTbBadAction : Nat := 0x0302
/-- `RV_NOT_ABORTED`. -/
def stRvNotAborted : Nat := 0x0400
/-- `RV_EPOCH_EXHAUSTED`. -/
def stRvEpochExhausted : Nat := 0x0401
/-- `RT_BAD_SIGNATURE`. -/
def stRtBadSignature : Nat := 0x0500
/-- `RT_NOT_APPROVED`. -/
def stRtNotApproved : Nat := 0x0501
/-- `RT_APPROVAL_EXPIRED`. -/
def stRtApprovalExpired : Nat := 0x0502
/-- `RT_ROLLBACK`. -/
def stRtRollback : Nat := 0x0503
/-- `RT_NO_KEY`. -/
def stRtNoKey : Nat := 0x0504

/-! ### Result slots (R598–R601) -/

/-- Result slot n, none when it is FREE. -/
def State.resultSlot (s : State) (n : Nat) : Option ResultSlot := SMap.get none s.cmd.results n

/-- Writes result slot n. -/
def State.setResult (s : State) (n : Nat) (r : Option ResultSlot) : State :=
  { s with cmd := { s.cmd with results := SMap.set none s.cmd.results n r } }

/-- The lowest FREE result slot. -/
def State.freeResult (s : State) : Option Nat := (List.range 64).find? (fun n => (s.resultSlot n).isNone)

/-- A command takes a result slot: `PARTIAL`, `PENDING`, empty. -/
def State.takeResult (s : State) (n : Nat) (opcode : BitVec 16) (seq : BitVec 32) (ring : Bool) : State :=
  s.setResult n (some {
    isPartial := true, ring := ring, opcode := opcode, seq := seq, status := stPending, len := 0, done := 0,
    leaseEnd := 0, body := [] })

/-- A deferred command's outcome completes its slot, which takes its lease (R590, R598). -/
def State.completeResult (s : State) (n status : Nat) (body : List Byte) : State :=
  match s.resultSlot n with
  | none => s
  | some r => s.setResult n (some { r with
      isPartial := false, status := status, len := body.length, done := s.course, leaseEnd := s.course + 65536
      body := SMap.ofList 0 body })

/-- Rewrites the body of a slot that is still `PARTIAL`. -/
def State.updateResult (s : State) (n : Nat) (body : List Byte) : State :=
  match s.resultSlot n with
  | none => s
  | some r => s.setResult n (some { r with len := body.length, body := SMap.ofList 0 body })

/-- The 32-byte header of a result slot (R598). -/
def resultHeader (n : Nat) (r : ResultSlot) : List Byte :=
  beBytes 1 n ++ beBytes 1 (bit r.isPartial + 2 * bit r.ring) ++ beBytes 2 r.opcode.toNat ++ beBytes 4 r.seq.toNat ++
    beBytes 2 r.status ++ zeroBytes 2 ++ beBytes 4 r.len ++ beBytes 8 r.done.toNat ++ beBytes 8 r.leaseEnd.toNat

end Sys2Proof.Machine
end

