-- ==== Sys2Proof/Machine/Skein.lean ====
section
/-! DEFINITION. What the lifeline engine's rows share: the regions and delta slots, the base image's
pages, buddy writes, the dirty bitmaps of a cut, and a tear (R254–R257, R411–R415, R430, R431). -/

namespace Sys2Proof.Machine

/-- Bytes of a page (R414). -/
def pageBytes : Nat := 0x1_0000

/-- A region named by a field of `LE_CONFIG`. -/
def State.leRegion (s : State) (f : BitField) : Nat := s.fld Reg.leConfig f

/-- First byte of the SKEIN region. -/
def State.skeinBase (s : State) : Nat := s.regionBase (s.leRegion Fld.leConfigSkein)

/-- First byte of the BUDDY region. -/
def State.buddyBase (s : State) : Nat := s.regionBase (s.leRegion Fld.leConfigBuddy)

/-- First byte of the PARITY region. -/
def State.parityBase (s : State) : Nat := s.regionBase (s.leRegion Fld.leConfigParity)

/-- Lifelines are enabled. -/
def State.leEnabled (s : State) : Bool :=
  s.flag Reg.leConfig Fld.leConfigEnable && decide (s.fld Reg.leStatus Fld.leStatusRefuse ≠ 6)

/-- The device takes part in cuts: lifelines are enabled, and no shrink has removed it (R413, R447). -/
def State.cutsHere (s : State) : Bool := s.leEnabled && !s.removedHere

/-- P: pages of the base image (R437). -/
def State.basePages (s : State) : Nat := s.fld Reg.leGroup Fld.leGroupBasePages

/-- J: pages of the sections of a slot (R414). -/
def State.sectionPages (s : State) : Nat := s.fld Reg.skConfig Fld.skConfigSlotSize

/-- X: pages of a slot's index (R414). -/
def State.indexPages (s : State) : Nat := (s.basePages + 4095) / 4096

/-- Pages of a delta slot (R414). -/
def State.slotPages (s : State) : Nat := 1 + s.sectionPages + s.indexPages + s.basePages

/-- Members of the group and k_g (R434). -/
def State.groupSize (s : State) : Nat := s.fld Reg.leGroup Fld.leGroupSizeM1 + 1

/-- F: pages of a parity fragment (R414). -/
def State.fragmentPages (s : State) : Nat :=
  let k := s.groupSize - 2
  (s.basePages + k - 1) / k

/-- Byte address of delta slot j of the SKEIN region (R414). -/
def State.slotAddr (s : State) (j : Nat) : Nat := s.skeinBase + (1 + j * s.slotPages) * pageBytes

/-- Byte address of buddy delta slot j of the BUDDY region (R414). -/
def State.buddySlotAddr (s : State) (j : Nat) : Nat :=
  s.buddyBase + (1 + s.basePages + j * s.slotPages) * pageBytes

/-- Manifest slot g mod 2 of a region (R414, R427). -/
def manifestAddr (base g : Nat) : Nat := base + 0x1000 * (1 + g % 2)

/-- The HBM base area's first byte (R412). -/
def State.hbmBaseArea (s : State) : Nat := s.fld Reg.leBase Fld.leBaseAddr * pageBytes

/-- Delta slot states (R415). -/
def slotFree : Nat := 0
/-- WRITING. -/
def slotWriting : Nat := 1
/-- WRITTEN. -/
def slotWritten : Nat := 2
/-- COMMITTED. -/
def slotCommitted : Nat := 3

/-- A delta slot's header (R415). The spec orders its fields; their widths are assumption 43: `MAGIC`,
`STATE`, `GEN`, `STEP`, `FROM_GEN` and the count of index entries of 4 bytes each, `LEN` of 8. -/
def slotHeader (state gen step fromGen entries len : Nat) : List Byte :=
  leBytes 4 0x4C46_444C ++ leBytes 4 state ++ leBytes 4 gen ++ leBytes 4 step ++ leBytes 4 fromGen ++
    leBytes 4 entries ++ leBytes 8 len

/-- A field of a slot header. -/
def State.slotField (s : State) (addr off n : Nat) : Nat := leNat (s.load (addr + off) n)

/-- Sets `STATE` of the slot at an address. -/
def State.setSlotState (s : State) (addr v : Nat) : State := s.store (addr + 4) (leBytes 4 v)

/-- Writes bytes into the partner's BUDDY region at the offset that this device's own BUDDY region gives
(assumption 44), as LL `WRITE` packets of at most 4 KiB whose payload is read again from `origin`. -/
def State.buddyWrite (s : State) (addr : Nat) (bs : List Byte) (origin : Nat) : State :=
  ((List.range ((bs.length + 4095) / 4096)).foldl (fun t i =>
    t.sendReliable
      (t.packetTo tyWrite tcLL (t.physOf t.partner) (endpointOf addr) epLifeline
        (BitVec.ofNat 42 ((addr + 4096 * i) / 64)) (t.poisonWord (origin + 4096 * i) ((bs.drop (4096 * i)).take 4096).length)
        ((bs.drop (4096 * i)).take 4096))
      (.memory (origin + 4096 * i)) .buddy (some t.partner) none) s)

/-- The outgoing bitmaps of a partition, HBM and tier (R254, R255). -/
def Dirty.outgoing (d : Dirty) : Bitmap × Bitmap := if d.active = 0 then (d.hbm1, d.tier1) else (d.hbm0, d.tier0)

/-- Other outgoing bitmaps. -/
def Dirty.withOutgoing (d : Dirty) (m : Bitmap × Bitmap) : Dirty :=
  if d.active = 0 then { d with hbm1 := m.1, tier1 := m.2 } else { d with hbm0 := m.1, tier0 := m.2 }

/-- Marks joined to the active bitmaps (R256). -/
def Dirty.joinActive (d : Dirty) (m : Bitmap × Bitmap) : Dirty :=
  if d.active = 0 then { d with hbm0 := d.hbm0.or m.1, tier0 := d.tier0.or m.2 } else { d with hbm1 := d.hbm1.or m.1, tier1 := d.tier1.or m.2 }

/-- The bitmaps of every partition change. -/
def State.mapDirty (s : State) (f : Nat → Dirty → Dirty) : State :=
  (List.range 4).foldl (fun t p => { t with dirty := SMap.set Dirty.zero t.dirty p (f p (t.dirtyOf p)) }) s

/-- The outgoing bitmaps of every partition. -/
def State.outgoing (s : State) : List (Bitmap × Bitmap) := (List.range 4).map (fun p => (s.dirtyOf p).outgoing)

/-- The marks of partition p in a list by partition. -/
def marksAt (ms : List (Bitmap × Bitmap)) (p : Nat) : Bitmap × Bitmap := ms.getD p (Bitmap.zero, Bitmap.zero)

/-- The outgoing bitmaps are cleared (R255, R429). -/
def State.clearOutgoing (s : State) : State := s.mapDirty (fun _ d => d.withOutgoing (Bitmap.zero, Bitmap.zero))

/-- The bitmaps of every partition are swapped (R255). -/
def State.swapBitmaps (s : State) : State := s.mapDirty (fun _ d => { d with active := 1 - d.active })

/-- The marks of a cut: its outgoing bitmaps (R255). -/
def State.marksOf (s : State) (c : Cut) : List (Bitmap × Bitmap) := c.kept.getD s.outgoing

/-- The cuts that began after the cut of a generation. -/
def State.cutsAfter (s : State) (g : BitVec 32) : List Cut := (s.le.cuts.dropWhile (fun d => decide (d.gen ≠ g))).drop 1

/-- A cut that ends without a manifest leaves its marks to the cut after it, so that the next delta carries its pages: to the
active bitmaps, or where a later cut has begun, to that one's own (R256, R431). -/
def State.passMarks (s : State) (c : Cut) : State :=
  let ms := s.marksOf c
  let t := if c.kept.isNone then s.clearOutgoing else s
  match s.cutsAfter c.gen with
  | [] => t.mapDirty (fun p d => d.joinActive (marksAt ms p))
  | n :: _ =>
    let joined := (List.range 4).map (fun p =>
      let a := marksAt ms p
      let b := marksAt (s.marksOf n) p
      (a.1.or b.1, a.2.or b.2))
    match n.kept with
    | none => t.mapDirty (fun p d => d.withOutgoing (marksAt joined p))
    | some _ => { t with le := { t.le with cuts := t.le.cuts.map (fun (x : Cut) => if x.gen = n.gen then { x with kept := some joined } else x) } }

/-- The marks of the cut before are kept with it when another cut swaps the bitmaps that hold them (assumption 172). -/
def State.keepMarks (s : State) : State :=
  if s.le.cuts.any (fun c => c.kept.isNone) then
    { s with le := { s.le with cuts := s.le.cuts.map (fun (x : Cut) => if x.kept.isNone then { x with kept := some s.outgoing } else x) } }.clearOutgoing
  else s

/-- Every bit of a partition's active bitmaps is set (R257). -/
def State.fillActive (s : State) (p : Nat) : State :=
  let d := s.dirtyOf p
  let all : Bitmap := ⟨true, []⟩
  let d' := if d.active = 0 then { d with hbm0 := all, tier0 := all } else { d with hbm1 := all, tier1 := all }
  { s with dirty := SMap.set Dirty.zero s.dirty p d' }

/-- Every bit of every bitmap is set (R419, R443). -/
def State.fillBitmaps (s : State) : State :=
  let all : Bitmap := ⟨true, []⟩
  (List.range 4).foldl (fun t p =>
    { t with dirty := SMap.set Dirty.zero t.dirty p { t.dirtyOf p with hbm0 := all, hbm1 := all, tier0 := all, tier1 := all } }) s

/-! ### Headers and slots (R414, R415, R432) -/

/-- A field of the header of a region. -/
def State.headerField (s : State) (base off : Nat) : Nat :=
  if leNat (s.load base 4) = 0x4C46_534B then leNat (s.load (base + off) 4) else 0

/-- Base generation of a region's header. -/
def State.baseGen (s : State) (base : Nat) : Nat := s.headerField base 4

/-- Fold generation. -/
def State.foldGen (s : State) (base : Nat) : Nat := s.headerField base 8

/-- Fold pointer. -/
def State.foldPointer (s : State) (base : Nat) : Nat := s.headerField base 12

/-- Writes a region's header (R414; the widths of its fields are assumption 43). -/
def State.putHeader (s : State) (base gen fold pointer : Nat) : State :=
  s.store base (leBytes 4 0x4C46_534B ++ leBytes 4 gen ++ leBytes 4 fold ++ leBytes 4 pointer)

/-- The delta slot, of two whose addresses are given, that holds a generation in a state. -/
def State.slotWith (s : State) (addr : Nat → Nat) (gen state : Nat) : Option Nat :=
  (List.range 2).find? (fun j => decide (s.slotField (addr j) 0 4 = 0x4C46_444C) && decide (s.slotField (addr j) 8 4 = gen) &&
    decide (s.slotField (addr j) 4 4 = state))

/-- The SKEIN region can be read. -/
def State.skeinOpen (s : State) : Bool :=
  s.regionOpen (s.leRegion Fld.leConfigSkein) && decide (s.useOf (s.leRegion Fld.leConfigSkein) = useSkein)

/-- The BUDDY region can be read. -/
def State.buddyOpen (s : State) : Bool :=
  s.regionOpen (s.leRegion Fld.leConfigBuddy) && decide (s.useOf (s.leRegion Fld.leConfigBuddy) = useBuddy)

/-- The own base is still to be folded: its generation and its fold's are not one (R414, R432). -/
def State.ownFoldDue (s : State) : Bool := s.skeinOpen && decide (s.baseGen s.skeinBase ≠ s.foldGen s.skeinBase)

/-- A manifest's length for a group of n (R426). -/
def manifestLength (n : Nat) : Nat := 0x40 + 64 * n + 114

/-- The manifest that a region holds for a generation. -/
def State.manifestIn (s : State) (base gen : Nat) : List Byte :=
  let a := manifestAddr base gen
  s.load a (manifestLength (leNat (s.load (a + 0x10) 1)))

/-- Fields of a manifest. -/
def manifestGen (m : List Byte) : Nat := leNat ((m.drop 8).take 4)
/-- Boundary step. -/
def manifestStep (m : List Byte) : Nat := leNat ((m.drop 12).take 4)
/-- `GROUP_ID`. -/
def manifestGroup (m : List Byte) : Nat := leNat ((m.drop 6).take 2)

/-- `CUT_COURSE`. -/
def manifestCourse (m : List Byte) : Nat := leNat ((m.drop 0x20).take 8)

/-- A committed generation that the BUDDY region holds and that its base has not got, with its cut course: its manifest is
held, and is later than what the base stands for: the course since which it does, or else the manifest of its own generation where
that is held still (R432, assumption 231). -/
def State.buddyNews (s : State) (j : Nat) : Option (Nat × Nat) :=
  let a := s.buddySlotAddr j
  let g := s.slotField a 8 4
  let b := s.baseGen s.buddyBase
  let m := s.manifestIn s.buddyBase g
  let old := s.manifestIn s.buddyBase b
  let later : Bool := match s.le.buddySince with
    | some c => decide (c.toNat < manifestCourse m)
    | none => decide (g ≠ b) && (decide (manifestGen old ≠ b) || decide (manifestCourse old < manifestCourse m))
  if s.slotField a 0 4 = 0x4C46_444C ∧ s.slotField a 4 4 = slotCommitted ∧ leNat (m.take 4) = 0x4C46_4D4E ∧ manifestGen m = g ∧ later then
    some (manifestCourse m, g)
  else none

/-- The generation of the partner's skein that is to be folded into the buddy base next (R432). -/
def State.buddyFoldDue (s : State) : Option Nat :=
  if s.buddyOpen then
    match s.buddyNews 0, s.buddyNews 1 with
    | some (c0, g0), some (c1, g1) => if c0 ≤ c1 then some g0 else some g1
    | some (_, g), none => some g
    | none, some (_, g) => some g
    | none, none => none
  else none

/-- `PHASE` as the engine's work leaves it (R450). -/
def State.lePhase (s : State) : Nat :=
  if s.le.restore.isSome then 3
  else if s.le.fill.isSome then 4
  else if s.le.cuts ≠ [] then 1
  else if s.le.fold.isSome || s.ownFoldDue || s.buddyFoldDue.isSome then 2
  else 0

/-- `FOLD_PAGE`: the fold pointer of the HBM base, 0 while the SKEIN region cannot be read (R450). -/
def State.foldPage (s : State) : Nat := if s.skeinOpen then s.foldPointer s.skeinBase else 0

/-- The cut of generation g tears: its slot becomes FREE at the device and at the partner, its outgoing
bitmap joins the active one, and `LE_GEN`, the base and the parity sets stand as they are (R431). -/
def State.tear (s : State) (g : BitVec 32) : State :=
  match s.le.cuts.find? (fun c => decide (c.gen = g)) with
  | none => s
  | some c =>
    let t := { s.passMarks c with le := { (s.passMarks c).le with cuts := (s.passMarks c).le.cuts.filter (fun d => decide (d.gen ≠ g)) } }
    let u := if c.phase < 2 then t
      else
        let v := t.setSlotState (t.slotAddr c.slot) slotFree
        if v.partnerPresent then v.buddyWrite (v.buddySlotAddr c.slot) (v.load (v.slotAddr c.slot) 64) (v.slotAddr c.slot) else v
    u.count Reg.leTorn 1

/-- The partner is told of the slots that tore at a fabric reset, which lost the writes that said so (R431, R538). -/
def State.tellTears (s : State) : State :=
  if s.skeinOpen && s.partnerPresent then
    let t := s.le.untold.foldl (fun u j => u.buddyWrite (u.buddySlotAddr j) (u.load (u.slotAddr j) 64) (u.slotAddr j)) s
    { t with le := { t.le with untold := [] } }
  else s

/-- Cuts that are scheduled and have not begun are given up, their entries with them (assumption 168). -/
def State.dropDue (s : State) : State :=
  let t := (List.range 64).foldl (fun u n =>
    if u.evArmed 4 n && decide (u.evAction 4 n = actLifelineCut) then u.disarm 4 n else u) s
  ({ t with
    le := { t.le with due := [] }
    tb := { t.tb with
      handed := t.tb.handed.filter (fun h => decide (h.action ≠ actLifelineCut))
      arming := t.tb.arming.filter (fun a => decide (a.action ≠ actLifelineCut)) } }).count Reg.leTorn s.le.due.length

/-- Every cut of the device tears (R430). -/
def State.tearAll (s : State) : State := ((s.le.cuts.map Cut.gen).foldl State.tear s).dropDue

end Sys2Proof.Machine
end

