-- ==== Sys2Proof/Machine/Abort.lean ====
section
/-! DEFINITION. Step aborts (R498–R501) and context faults (R70, R477, R708). -/

namespace Sys2Proof.Machine

/-- The bytes of a recovery message (R499). -/
def rvMessageBytes (m : RvMessage) : List Byte :=
  beBytes 1 m.msg ++ beBytes 1 m.cause ++ beBytes 2 m.originSeq.toNat ++ beBytes 2 m.origin.toNat ++
    beBytes 2 m.newEpoch.toNat ++ beBytes 4 m.step.toNat ++ beBytes 4 m.mappingTag.toNat ++ beBytes 4 m.recCount ++
    fitTo 32 m.digest ++ beBytes 4 m.removed.toNat ++ zeroBytes 8 ++ m.records.flatMap (fun r => beBytes 8 r.toNat)

/-- A recovery message that arrived (R499). -/
def rvMessageOf (b : List Byte) : RvMessage where
  msg := beNat (b.take 1)
  cause := beNat ((b.drop 1).take 1)
  originSeq := BitVec.ofNat 16 (beNat ((b.drop 2).take 2))
  origin := BitVec.ofNat 15 (beNat ((b.drop 4).take 2))
  newEpoch := BitVec.ofNat 16 (beNat ((b.drop 6).take 2))
  step := BitVec.ofNat 32 (beNat ((b.drop 8).take 4))
  mappingTag := BitVec.ofNat 32 (beNat ((b.drop 12).take 4))
  recCount := beNat ((b.drop 16).take 4)
  digest := (b.drop 20).take 32
  removed := BitVec.ofNat 32 (beNat ((b.drop 52).take 4))
  records := (List.range ((b.length - 64) / 8)).map (fun i => BitVec.ofNat 64 (beNat ((b.drop (64 + 8 * i)).take 8)))

/-- A message of this device's recovery controller, numbered, with no records. -/
def State.ownMessage (s : State) (msg cause : Nat) (step : BitVec 32) : RvMessage where
  msg := msg
  cause := cause
  originSeq := s.rv.originSeq
  origin := s.phys
  newEpoch := 0
  step := step
  mappingTag := s.mappingTag
  recCount := 0
  digest := []
  removed := 0
  records := []

/-- A pair of R500 is remembered. -/
def State.rememberOrigin (s : State) (origin : BitVec 15) (seq : BitVec 16) : State :=
  { s with rv := { s.rv with remembered := s.rv.remembered ++ [(origin, seq, s.course)] } }

/-- The pair is held (R500). -/
def State.knowsOrigin (s : State) (origin : BitVec 15) (seq : BitVec 16) : Bool :=
  s.rv.remembered.any (fun p => decide (p.1 = origin) && decide (p.2.1 = seq))

/-- What an abort does on a device: `JOB_STATE` ABORTED with its cause, sequence and step; dispatch of
every job context stops with that state; cuts in progress tear (R430); the step's status word shows
ABORTED if it was not yet decided (R596). -/
def State.enterAborted (s : State) (cause : Nat) (seq : BitVec 16) (step : BitVec 32) : State :=
  let w := s.reg Reg.rvStatus
  let w1 := Fld.rvStatusJobState.put w jobAborted
  let w2 := Fld.rvStatusCause.put w1 cause
  let w3 := Fld.rvStatusAbortSeq.put w2 seq.toNat
  let t := { s with sk := { s.sk with restored := false }, ce := { s.ce with abortHold := true } }.setReg Reg.rvStatus (Fld.rvStatusAbortStep.put w3 step.toNat)
  let u := if 1 ≤ t.stepStateOf step ∧ t.stepStateOf step ≤ 4 then t.setStepField step fldStepState stepAborted else t
  u.tearAll

/-- A device that finds a cause while RUNNING originates an abort: it floods an ABORT message and enters
ABORTED (R498); in any other state it changes nothing (R501). -/
def State.abortStep (s : State) (cause : Nat) (step : BitVec 32) : State :=
  if s.jobState = jobRunning then
    let m := s.ownMessage 1 cause step
    let t := (s.rememberOrigin s.phys s.rv.originSeq).count Reg.rvAborts 1
    let u := { t with rv := { t.rv with originSeq := t.rv.originSeq + 1 } }
    (u.floodCtrl (rvMessageBytes m) none).enterAborted cause m.originSeq step
  else s

/-! ### Context faults -/

/-- Context fault classes (R708). -/
inductive CtxFaultClass
  | illegalInstruction | formatMismatch | tokenOverflow | address | saveCheck | poisonConsumed
  deriving DecidableEq, Repr

/-- Code of a class in `CTX_FAULT` (R708). -/
def CtxFaultClass.code : CtxFaultClass → Nat
  | .illegalInstruction => 1
  | .formatMismatch => 2
  | .tokenOverflow => 3
  | .address => 4
  | .saveCheck => 5
  | .poisonConsumed => 6

/-- Where a context fault arose: a core's instruction, or a descriptor slot (R708). -/
inductive FaultSite
  | core (c : Nat) (pc : BitVec 32) (word : BitVec 128)
  | descriptor (slot : Nat)
  deriving DecidableEq, Repr

/-- The word that `CTX_FAULT` takes (R708). -/
def faultWord (cls : CtxFaultClass) (site : FaultSite) : Word :=
  let (core, pc) := match site with
    | .core c pc _ => (c, pc.toNat)
    | .descriptor slot => (0xFF, slot % 256)
  BitVec.ofNat 64 (2 ^ 63 + cls.code * 2 ^ 48 + core % 256 * 2 ^ 40 + pc)

/-- The log report of a context fault: class `CONTEXT_FAULT`, or `POISON_CONSUMED` with the granule's
address (R481). The syndrome of a `CONTEXT_FAULT` is its class code (assumption 45). -/
def faultReport (x : Nat) (cls : CtxFaultClass) (site : FaultSite) (addr : Nat) : Report where
  cls := if cls = .poisonConsumed then clsPoisonConsumed else clsContextFault
  unit_ := match site with
    | .core c _ _ => corePath 3 c 0 0
    | .descriptor _ => enginePath 11
  ctx := x
  operation := match site with
    | .core _ pc w => opInstruction w pc
    | .descriptor slot => opDescriptor slot
  address := BitVec.ofNat 64 addr
  syndrome := if cls = .poisonConsumed then 0 else BitVec.ofNat 64 cls.code
  detail := if cls = .poisonConsumed then leBytes 8 addr else []

/-- The fault record of context x is to be this one: none stands, or the one that stands arose in this stitch on a core of a
higher number (R708). -/
def State.recordsFault (s : State) (x : Nat) (w : Word) : Bool :=
  !s.flag (Reg.ctxFault x) Fld.ctxFaultValid ||
    (decide (SMap.get 0 s.sn.faultAt x = s.now) && decide (Fld.ctxFaultCore.get w < s.fld (Reg.ctxFault x) Fld.ctxFaultCore))

/-- `CTX_FAULT` records a fault (R708). -/
def State.putFault (s : State) (x : Nat) (w : Word) : State :=
  { s.setReg (Reg.ctxFault x) w with sn := { s.sn with faultAt := SMap.set 0 s.sn.faultAt x s.now } }

/-- A context becomes FAULTED, which stops its dispatch on every core; `CTX_FAULT` records the first fault
after its last clearing (R708); the fault is logged (R481); and a consumed poison, or a parity error that
acts as one, in a job context of a `train` job aborts the step (R476, R477). -/
def State.faultContext (s : State) (x : Nat) (cls : CtxFaultClass) (site : FaultSite) (r : Report) : State :=
  let t := s.setCtxState x ctxFaulted
  let u := if t.recordsFault x (faultWord cls site) then t.putFault x (faultWord cls site) else t
  let v := u.report r
  if cls = .poisonConsumed ∧ s.inJob x = true ∧ s.cfg.mode = .train ∧ s.strict = false then v.abortStep 5 v.jobStep else v

/-- A context fault (R70). -/
def State.contextFault (s : State) (x : Nat) (cls : CtxFaultClass) (site : FaultSite) (addr : Nat) : State :=
  s.faultContext x cls site (faultReport x cls site addr)

/-- A parity error of internal state that an instruction of context x meets on core c: logged as
`STATE_PARITY`, it acts as a consumed poison (R476, R477). -/
def State.stateParity (s : State) (x c : Nat) (pc : BitVec 32) (w : BitVec 128) : State :=
  s.faultContext x .poisonConsumed (.core c pc w)
    { faultReport x .poisonConsumed (.core c pc w) 0 with cls := clsStateParity, detail := [] }

end Sys2Proof.Machine
end

