-- ==== Sys2Proof/Machine/Operands.lean ====
section
/-! DEFINITION. The fields of the 128-bit instruction word, and which words are legal
(02_core_execution.md, R45–R56). -/

namespace Sys2Proof.Machine

/-- An instruction word (R45). -/
abbrev IWord := BitVec 128

/-- `CLASS` and `OP` (R45). -/
def opOf (w : IWord) : Nat × Nat := (bitsOf w 127 124, bitsOf w 123 118)

/-- `WAIT_TOK`. -/
def waitTok (w : IWord) : Nat := bitsOf w 117 112
/-- `WAIT_CNT`. -/
def waitCnt (w : IWord) : Nat := bitsOf w 111 106
/-- `RAISE_TOK`. -/
def raiseTok (w : IWord) : Nat := bitsOf w 105 100
/-- `RAISE_AT`. -/
def raiseAt (w : IWord) : Nat := bitsOf w 99 98
/-- `FENCE`. -/
def fenced (w : IWord) : Bool := bitOf w 96

/-- Operations of the control class (R56). -/
def opNop : Nat × Nat := (0, 0)
/-- `C.RAISE`. -/
def opRaise : Nat × Nat := (0, 1)
/-- `C.RRAISE`. -/
def opRraise : Nat × Nat := (0, 2)
/-- `C.SETI`. -/
def opSeti : Nat × Nat := (0, 3)
/-- `C.ADDI`. -/
def opAddi : Nat × Nat := (0, 4)
/-- `C.LOOP`. -/
def opLoop : Nat × Nat := (0, 5)
/-- `C.JUMP`. -/
def opJump : Nat × Nat := (0, 6)
/-- `C.YIELD`. -/
def opYield : Nat × Nat := (0, 7)
/-- `C.HALT`. -/
def opHalt : Nat × Nat := (0, 8)
/-- `MA.LOADW` (R48). -/
def opLoadw : Nat × Nat := (1, 0)
/-- `MA.MUL`. -/
def opMul : Nat × Nat := (1, 1)
/-- `MA.DRAIN`. -/
def opDrain : Nat × Nat := (1, 2)
/-- `G.QUANT` (R53). -/
def opQuant : Nat × Nat := (3, 0)
/-- `G.PREPASS`. -/
def opPrepass : Nat × Nat := (3, 1)
/-- `M.COPY` (R54). -/
def opCopy : Nat × Nat := (4, 0)

/-- The front end executes these at dispatch (R41). -/
def frontEnd (w : IWord) : Bool :=
  let o := opOf w
  decide (o = opSeti) || decide (o = opAddi) || decide (o = opLoop) || decide (o = opJump)

/-- A field that must be zero (R47). -/
def zeroAt (w : IWord) (hi lo : Nat) : Bool := decide (bitsOf w hi lo = 0)

/-- A format field holds a code of R46 that is not reserved. -/
def fmtAt (w : IWord) (hi lo : Nat) : Bool := decide (bitsOf w hi lo ≤ 5)

/-- Control class fields (R56): unnamed bits are zero, `CORE` is a core. -/
def legalControl (w : IWord) : Nat → Bool
  | 0 => zeroAt w 95 0
  | 1 => zeroAt w 73 0
  | 2 => zeroAt w 46 0 && decide (bitsOf w 80 73 < 160)
  | 3 => zeroAt w 91 64
  | 4 => zeroAt w 91 64
  | 5 => zeroAt w 91 64 && zeroAt w 31 0
  | 6 => zeroAt w 95 64 && zeroAt w 31 0
  | 7 => zeroAt w 95 0
  | 8 => zeroAt w 95 0
  | _ => false

/-- Matrix class fields (R48). -/
def legalMatrix (w : IWord) : Nat → Bool
  | 0 => fmtAt w 91 88 && zeroAt w 86 77 && zeroAt w 68 64 && zeroAt w 15 0
  | 1 => fmtAt w 91 88 && zeroAt w 66 64 && zeroAt w 15 0
  | 2 => fmtAt w 91 88 && zeroAt w 85 84 && zeroAt w 68 64
  | _ => false

/-- `MOD` of a vector operation (R51). -/
def legalMod (w : IWord) (op : Nat) : Bool :=
  if op = 1 ∨ op = 11 then zeroAt w 71 68 && fmtAt w 67 64
  else if op = 5 ∨ op = 6 ∨ op = 10 then zeroAt w 71 65
  else zeroAt w 71 64

/-- Vector class fields (R51): `SA` is looked at by `V.SCALE` alone. -/
def legalVector (w : IWord) (op : Nat) : Bool :=
  decide (op ≤ 11) && fmtAt w 75 72 && legalMod w op && zeroAt w 25 0 &&
    (decide (op ≠ 7) || decide (bitsOf w 39 35 < 16))

/-- Gauge class fields (R53). -/
def legalGauge (w : IWord) : Nat → Bool
  | 0 => fmtAt w 95 92 && decide (bitsOf w 89 88 ≠ 3)
  | 1 => zeroAt w 95 92 && zeroAt w 89 88 && zeroAt w 71 64 && zeroAt w 39 16
  | _ => false

/-- Whether the front end accepts a word (R47). -/
def legalWord (w : IWord) : Bool :=
  let op := bitsOf w 123 118
  !bitOf w 97 && decide (raiseAt w ≠ 3) &&
    (match bitsOf w 127 124 with
      | 0 => legalControl w op
      | 1 => legalMatrix w op
      | 2 => legalVector w op
      | 3 => legalGauge w op
      | 4 => decide (op = 0)
      | _ => false) &&
    (!frontEnd w || (decide (waitCnt w = 0) && decide (raiseAt w = 0) && !fenced w))

/-! ### Matrix fields (R48) -/

/-- `ARRAY_MASK`. -/
def arrayMask (w : IWord) : Nat := bitsOf w 95 92
/-- The arrays selected, in increasing number. -/
def selected (w : IWord) : List Nat := (List.range 4).filter (fun a => bitOf w (92 + a))
/-- `FMT_W`, `FMT_X` or `FMT_OUT`. -/
def matrixFmt (w : IWord) : Nat := bitsOf w 91 88
/-- `WSLOT`. -/
def wslot (w : IWord) : Nat := bitsOf w 87 87
/-- `ACC_BUF` of an `MA.MUL`. -/
def mulBuf (w : IWord) : Nat := bitsOf w 86 86
/-- `ACC_BUF` of an `MA.DRAIN`. -/
def drainBuf (w : IWord) : Nat := bitsOf w 87 87
/-- `ACC_CLEAR`. -/
def accClear (w : IWord) : Bool := bitOf w 86
/-- `RUN`. -/
def runCode (w : IWord) : Nat := bitsOf w 85 84
/-- Rows. -/
def rowsOf (w : IWord) : Nat := bitsOf w 83 77 + 1
/-- Valid k. -/
def kvalid (w : IWord) : Nat := bitsOf w 76 70 + 1
/-- `CP_EN`. -/
def cpEn (w : IWord) : Bool := bitOf w 69
/-- `LRC_EN`. -/
def lrcEn (w : IWord) : Bool := bitOf w 68
/-- `ACC_INIT`. -/
def accInit (w : IWord) : Bool := bitOf w 67
/-- `NVALID_M1` of an `MA.LOADW`, `NCOLS_M1` of an `MA.DRAIN`. -/
def ncolsM1 (w : IWord) : Nat := bitsOf w 76 69
/-- `W_ADDR`, `X_ADDR` or `DST_ADDR`. -/
def matrixAddr (w : IWord) : Nat := bitsOf w 63 40
/-- `S_ADDR`, `LAYER_DESC` or `SCALE_ADDR`. -/
def matrixAddr2 (w : IWord) : Nat := bitsOf w 39 16
/-- `GREC`. -/
def grecOf (w : IWord) : Nat := bitsOf w 15 0

/-! ### Vector fields (R51) -/

/-- `VD`. -/
def vd (w : IWord) : Nat := bitsOf w 95 91
/-- `VA`. -/
def va (w : IWord) : Nat := bitsOf w 90 86
/-- `VB`. -/
def vb (w : IWord) : Nat := bitsOf w 85 81
/-- `VC`. -/
def vc (w : IWord) : Nat := bitsOf w 80 76
/-- `FMT`. -/
def vfmt (w : IWord) : Nat := bitsOf w 75 72
/-- Target format of `V.ST` and `V.CVT`. -/
def vtarget (w : IWord) : Nat := bitsOf w 67 64
/-- `MOD` bit 0. -/
def vmag (w : IWord) : Bool := bitOf w 64
/-- `ADDR`. -/
def vaddr (w : IWord) : Nat := bitsOf w 63 40
/-- `SA`. -/
def vsa (w : IWord) : Nat := bitsOf w 39 35
/-- Lanes. -/
def vlanes (w : IWord) : Nat := bitsOf w 34 26 + 1

/-! ### Gauge fields (R53) -/

/-- `FMT_OUT`. -/
def gfmt (w : IWord) : Nat := bitsOf w 95 92
/-- `ROT`. -/
def grot (w : IWord) : Nat := bitsOf w 91 90
/-- `SCALE_MODE`. -/
def gmode (w : IWord) : Nat := bitsOf w 89 88
/-- `OUTLIER_EN`. -/
def goutlier (w : IWord) : Bool := bitOf w 87
/-- Rows. -/
def grows (w : IWord) : Nat := bitsOf w 86 80 + 1
/-- k-tiles. -/
def gtiles (w : IWord) : Nat := bitsOf w 79 72 + 1
/-- `CBLOCK`. -/
def gcblock (w : IWord) : Nat := bitsOf w 71 68
/-- `CBLOCKS_M1`. -/
def gcblocksM1 (w : IWord) : Nat := bitsOf w 67 64
/-- `SRC_ADDR`. -/
def gsrc (w : IWord) : Nat := bitsOf w 63 40
/-- `DST_ADDR`. -/
def gdst (w : IWord) : Nat := bitsOf w 39 16

/-! ### Move fields (R54) -/

/-- `CHAN`. -/
def mchan (w : IWord) : Nat := bitsOf w 95 94
/-- `DIR`: core store to global address. -/
def mdir (w : IWord) : Bool := bitOf w 93
/-- Core store byte offset. -/
def mcore (w : IWord) : Nat := bitsOf w 92 75 * 64
/-- Device byte address. -/
def mdev (w : IWord) : Nat := bitsOf w 74 33 * 64
/-- `COORD`. -/
def mcoord (w : IWord) : BitVec 15 := BitVec.ofNat 15 (bitsOf w 32 18)
/-- Bytes. -/
def mlen (w : IWord) : Nat := (bitsOf w 17 0 + 1) * 64

end Sys2Proof.Machine
end

