-- ==== Sys2Proof/Machine/Issue.lean ====
section
/-! DEFINITION. How an instruction issues: the conditions of R57, the token wait and its order (R58,
R59), raising a token (R62), and the checks of core store extents and poison (R71, R253). -/

namespace Sys2Proof.Machine

/-! ### Whether a core works -/

/-- A reset domain is in reset (R510). -/
def State.inReset (s : State) (d : Nat) : Bool :=
  match SMap.get .normal s.rv.domains d with
  | .inReset _ _ _ _ => true
  | _ => false

/-- A request for `n` bytes at a device address waits: a partition whose HBM, tier or core stores hold some of them is in reset
(R266, R534). -/
def State.memWaits (s : State) (a n : Nat) : Bool :=
  s.inReset 5 || (partitionsOf a (max n 1)).any (fun p => decide (p < 4) && s.inReset p)

/-- Core c is in no reset: not its own, its partition's or the chip's (R15). -/
def State.coreClear (s : State) (c : Nat) : Bool :=
  !s.inReset (corePartition c) && !s.inReset 5 && !s.inReset (256 + c)

/-- The context resident on core c whose instructions the core may dispatch and issue: READY, not stopped
by an abort or an isolation (R70, R498, R518), on a core that is not stopping for a switch, in a window,
in reset or without its rail (R75, R469, R673, R684). -/
def State.activeCtx (s : State) (c : Nat) : Option Nat :=
  let k := s.core c
  match k.resident with
  | none => none
  | some x =>
    if s.running && s.coreClear c && !s.pm.issueStopped && !k.stopped && decide (k.switch_ = none) && !k.inWindow &&
        decide (s.ctxState x = ctxReady) && !(s.inJob x && s.aborted) && !NatSet.has s.rv.held x &&
        !s.inReset (16 + x) then some x else none

/-! ### Tokens (R62, R64) -/

/-- Raises a token of a context's bank by `n`. Beyond 65,535 the token holds there and the context that
owns it faults (R62). -/
def State.raiseToken (s : State) (c x tok n : Nat) (site : FaultSite) : State :=
  let v := s.token c x tok + n
  if v ≤ 65535 then s.setToken c x tok v
  else (s.setToken c x tok 65535).contextFault x .tokenOverflow site 0

/-! ### Conditions of R57 -/

/-- Whether two array masks share an array. -/
def maskMeets (a b : Nat) : Bool := decide (a &&& b ≠ 0)

/-- An issued, incomplete instruction of a kind whose field names a value, on one of the arrays of a
mask. -/
def Core.busyWith (k : Core) (op : Nat × Nat) (fieldOf : IWord → Nat) (v mask : Nat) : Bool :=
  k.issued.any (fun i => decide (opOf i.entry.word = op) && decide (fieldOf i.entry.word = v) &&
    maskMeets (arrayMask i.entry.word) mask)

/-- An issued, incomplete instruction is of the kind named. -/
def Core.inProgress (k : Core) (op : Nat × Nat) : Bool := k.issued.any (fun i => decide (opOf i.entry.word = op))

/-- Vector registers that a vector instruction reads (R51, R52). -/
def vectorSources (w : IWord) : List Nat :=
  match (opOf w).2 with
  | 0 => []
  | 1 => [va w]
  | 2 => [va w, vb w, vc w]
  | 3 => [va w, vb w]
  | 4 => [va w, vb w]
  | 5 => [va w, vb w]
  | 6 => [va w, vb w]
  | 7 => [va w, vc w]
  | _ => [va w]

/-- The sources of a vector instruction are written: no earlier vector instruction that has not completed names one of
them as its destination (R57). -/
def Core.sourcesWritten (k : Core) (w : IWord) : Bool :=
  k.issued.all (fun i => decide ((opOf i.entry.word).1 ≠ 2) || decide (opOf i.entry.word = (2, 1)) ||
    !(vectorSources w).contains (vd i.entry.word))

/-- Cycles of work outstanding on the cable path (R222). -/
def Core.cableWork (k : Core) : Nat := (k.cableQ.map CableTile.cycles).foldl (· + ·) 0

/-- Cycles of a low-rank work. -/
def LrcWork.cycles : LrcWork → Nat
  | .stage _ _ _ _ _ _ _ _ _ n => n
  | .close _ _ n => n

/-- Cycles of work outstanding on the low-rank unit (R225). -/
def Core.lrcWorkLeft (k : Core) : Nat := (k.lrcQ.map LrcWork.cycles).foldl (· + ·) 0

/-- Every earlier instruction of the pattern, in every queue, has completed (R45 `FENCE`). -/
def Core.fenceMet (k : Core) (seq : Nat) : Bool :=
  [Queue.matrix, .gauge, .vector, .move, .control].all (fun q => (k.queue q).all (fun e => decide (seq ≤ e.seq))) &&
    k.issued.all (fun i => decide (seq ≤ i.entry.seq))

/-- The credits and reservations of R57 that a word needs on its core, `FENCE` included, its token apart: the read slots
are those of one `MA.LOADW` at a time (R87), the drain input credit that of one `MA.DRAIN`, the credit at the router entry
that of one `C.RRAISE` that has not left (assumption 208). An `MA.MUL` needs the stream, which the one before it holds for
its stream cycles (R115). -/
def Core.holds (k : Core) (e : QEntry) : Bool :=
  let w := e.word
  let o := opOf w
  (!fenced w || k.fenceMet e.seq) &&
    (if o.1 = 1 ∧ arrayMask w = 0 then true
    else if o = opLoadw then !k.busyWith opMul wslot (wslot w) (arrayMask w) && !k.inProgress opLoadw
    else if o = opMul then
      decide (k.streamLeft = 0) && !k.busyWith opLoadw wslot (wslot w) (arrayMask w) && !k.busyWith opDrain drainBuf (mulBuf w) (arrayMask w) &&
        (!cpEn w || decide (k.cableWork ≤ 128)) && (!lrcEn w || decide (k.lrcWorkLeft ≤ 1024))
    else if o = opDrain then !k.busyWith opMul mulBuf (drainBuf w) (arrayMask w) && !k.inProgress opDrain
    else if o.1 = 2 then k.sourcesWritten w
    else if o = opRraise then !k.inProgress opRraise
    else if o.1 = 3 then !k.issued.any (fun i => decide ((opOf i.entry.word).1 = 3))
    else if o = opCopy then decide ((k.channel (mchan w)).length < 4)
    else true)

/-- The throttle duty grants this cycle (R682): in the course of a change the cycles of its slot go over one by one in
periods of 16. -/
def State.dutyGrants (s : State) : Bool :=
  let m := s.stitch % 16
  let k := s.stitch / 16
  let new := s.fld Reg.pmStatus Fld.pmStatusDuty
  let old := s.pm.dutyBefore
  if s.pm.dutyChanged = some s.course ∧ m = min old new ∧ k / 10 < k % 16 then decide (m < old) else decide (m < new)

/-- The gap of core c has reached n courses. -/
def State.gapReached (s : State) (c n : Nat) : Bool :=
  match (s.core c).gapSince with
  | none => false
  | some g => decide (g + 2560 * n ≤ s.cycleNo)

/-- The core's tension duty has fallen to 0 in its gap (R120, R122). -/
def State.tensionFallen (s : State) (c : Nat) : Bool :=
  s.gapReached c 32 && decide ((s.core c).tensionDuty = 0) && !(s.core c).tensionFalling

/-- The duty at which core c grants its stream: 1/16 after its tension has fallen, unless the resumption is announced, and
then the ramp (R122, R123). -/
def State.streamDuty (s : State) (c : Nat) : Nat :=
  if s.tensionFallen c then (if (s.core c).announced then 16 else 1) else (s.core c).grantDuty

/-- The stream of core c is granted in this cycle (R122, R682). -/
def State.streamGranted (s : State) (c : Nat) : Bool := s.dutyGrants && decide (s.stitch % 16 < s.streamDuty c)

/-- The cycle is granted to an instruction of core c: a vector instruction needs the throttle duty, an `MA.MUL` that
streams that of its core's stream (R122, R682). -/
def State.cycleGranted (s : State) (c : Nat) (w : IWord) : Bool :=
  if (opOf w).1 = 2 then s.dutyGrants
  else if opOf w = opMul ∧ arrayMask w ≠ 0 then s.streamGranted c
  else true

/-- Queues tested before `q` in a stitch (R59). -/
def Queue.before : Queue → List Queue
  | .matrix => []
  | .gauge => [.matrix]
  | .vector => [.matrix, .gauge]
  | .move => [.matrix, .gauge, .vector]
  | .control => [.matrix, .gauge, .vector, .move]

/-- What the heads of the queues tested before `q` take of token `tok`, which holds `have_`: a head takes
its count if it holds all else it needs and the token covers it (R59). -/
def State.takenBefore (s : State) (c : Nat) (q : Queue) (tok have_ : Nat) : Nat :=
  q.before.foldl (fun taken p =>
    match (s.core c).queue p with
    | [] => taken
    | e :: _ =>
      let n := waitCnt e.word
      if decide (0 < n) && decide (waitTok e.word = tok) && decide (n + taken ≤ have_) && (s.core c).holds e && s.cycleGranted c e.word then taken + n
      else taken) 0

/-- The token wait of a head is met (R57, R59). -/
def State.tokenReady (s : State) (c x : Nat) (q : Queue) (w : IWord) : Bool :=
  let n := waitCnt w
  let t := s.token c x (waitTok w)
  decide (n = 0) || decide (n + s.takenBefore c q (waitTok w) t ≤ t)

/-- The head of queue `q` of core c, with the context it runs in, when it is the operation named and may
issue in this stitch (R57). -/
def State.issuable (s : State) (c : Nat) (q : Queue) (op : Nat × Nat) : Option (Nat × QEntry) :=
  match s.activeCtx c, (s.core c).queue q with
  | some x, e :: _ =>
    if decide (opOf e.word = op) && (s.core c).holds e && s.cycleGranted c e.word && s.tokenReady c x q e.word then some (x, e) else none
  | _, _ => none

/-- What an instruction does at its issue: a context fault before anything else, or its effect. -/
inductive AtIssue
  | fault (cls : CtxFaultClass) (addr : Nat)
  | done (t : State)
  deriving DecidableEq, Repr

/-- An instruction that completes at its issue: a matrix instruction that selects no array (R91). -/
def atOnce (w : IWord) : Bool := decide ((opOf w).1 = 1) && decide (arrayMask w = 0)

/-- The state in which the effect of an issuing instruction is formed: the entry has left its queue and is issued, unless it
completes at once, and its wait is subtracted (R57, R58, R91). -/
def State.issuing (s : State) (c x : Nat) (q : Queue) (e : QEntry) : State :=
  let k := s.core c
  let k1 := (k.setQueue q (k.queue q).tail)
  let t := s.setCore c { k1 with issued := if atOnce e.word then k1.issued else k1.issued ++ [⟨q, e⟩] }
  if waitCnt e.word = 0 then t else t.setToken c x (waitTok e.word) (s.token c x (waitTok e.word) - waitCnt e.word)

/-- Whether an instruction raises its token in the row of its issue: at issue, or at a completion that is its issue (R45,
R91). -/
def raisesAtIssue (w : IWord) : Bool := decide (raiseAt w = 1) || (atOnce w && decide (raiseAt w = 2))

/-! ### Halting (R68) -/

/-- Context x has halted on core c (R68). -/
def State.haltedOn (s : State) (c x : Nat) : Bool :=
  if (s.core c).resident = some x then (s.core c).halted else (s.sideOf c x).halted

/-- Context x has halted on every core of its mask (R68). -/
def State.haltedEverywhere (s : State) (x : Nat) : Bool := (s.coresOf x).all (fun c => s.haltedOn c x)

/-- Context x halts on core c; once it has halted on every core of its mask it is HALTED. -/
def State.haltOn (s : State) (c x : Nat) : State :=
  let t := s.modCore c (fun k => { k with halted := true, haltAt := none })
  if t.haltedEverywhere x && decide (t.ctxState x = ctxReady) then t.setCtxState x ctxHalted else t

/-- The context halts on the core once its `C.HALT` has issued and every instruction before it has completed (R68). -/
def State.haltIfDry (s : State) (c x : Nat) : State :=
  match (s.core c).haltAt with
  | none => s
  | some q => if (s.core c).fenceMet q then s.haltOn c x else s

/-- What follows an instruction's effect at its issue: its raise, if it raises there, and the halt of a context that waited for
one that completes at once (R45, R68, R91). -/
def State.raisedAtIssue (t : State) (c x : Nat) (e : QEntry) : State :=
  let u := if raisesAtIssue e.word then t.raiseToken c x (raiseTok e.word) 1 (.core c e.pc e.word) else t
  if atOnce e.word then u.haltIfDry c x else u

/-- Issues the head: its effect, and its raise if it raises at issue (R45). A head that faults at issue
leaves its queue, consumes and raises no token and does nothing else (R70, assumption 46). -/
def State.issue (s : State) (c x : Nat) (q : Queue) (e : QEntry) (effect : State → AtIssue) : State :=
  match effect (s.issuing c x q e) with
  | .fault cls addr =>
    (s.modCore c (fun k => k.setQueue q (k.queue q).tail)).contextFault x cls (.core c e.pc e.word) addr
  | .done t => t.raisedAtIssue c x e

/-- The meaning of every queued instruction: it issues if it is the issuable head of its queue. -/
def execIssue (q : Queue) (op : Nat × Nat) (effect : Nat → Nat → QEntry → State → AtIssue) (c : Nat) (s : State) :
    Host.Outcome State Fault Refusal :=
  match s.issuable c q op with
  | none => .next s
  | some (x, e) => .next (s.issue c x q e (effect c x e))

/-! ### Core store operands (R71, R253) -/

/-- Device address of a core store offset. -/
def storeAt (c off : Nat) : Nat := coreBase c + off

/-- The first extent, of core store offset and length, that leaves the context's allotment (R71). -/
def State.outside (s : State) (x : Nat) (es : List (Nat × Nat)) : Bool :=
  es.any (fun e => !s.inAllotment x e.1 e.2)

/-- The address of the first poisoned granule that some extents, of device address and length, touch. -/
def State.firstPoison (s : State) (es : List (Nat × Nat)) : Option Nat :=
  (es.flatMap (fun e => granulesOf e.1 e.2)).find? (fun g => NatSet.has s.poison g) |>.map (· * 64)

/-- What R71 and R253 ask of an instruction's operands before its effect: `reads` and `writes` are core
store extents, `others` device extents it reads. -/
def State.checked (s : State) (c x : Nat) (reads writes others : List (Nat × Nat)) (t : State) : AtIssue :=
  if s.outside x (reads ++ writes) then .fault .address 0
  else match s.firstPoison (reads.map (fun e => (storeAt c e.1, e.2)) ++ others) with
    | some a => .fault .poisonConsumed a
    | none => .done t

/-- The first of some faults whose case holds, or what follows where none does. -/
def firstFault (cases : List (Bool × CtxFaultClass × Nat)) (rest : AtIssue) : AtIssue :=
  match cases.find? (fun p => p.1) with
  | some p => .fault p.2.1 p.2.2
  | none => rest

end Sys2Proof.Machine
end

