-- ==== Sys2Proof/Machine/Gap.lean ====
section
/-! DEFINITION. Gaps of a core's matrix stream: tension, the load-step forewarning and the resumption ramp
(R117–R123, R674–R678). -/

namespace Sys2Proof.Machine

/-- The rail of partition p among the rails of `PM_RAIL` (R668, R695). -/
def coreRail (p : Nat) : Nat := railOf p

/-- The code on the `LSTEP` pins of partition p. -/
def State.lstep (s : State) (p : Nat) : Nat := s.fld (Reg.pmRail (coreRail p)) Fld.pmRailLstep

/-- Drives the `LSTEP` pins of partition p. -/
def State.setLstep (s : State) (p v : Nat) : State := s.setFld (Reg.pmRail (coreRail p)) Fld.pmRailLstep v

/-- Class of an expected change of current, in amperes (R674). -/
def lstepClass (amps : Nat) : Nat :=
  if amps < 256 then 0 else if amps < 768 then 1 else if amps < 1536 then 2 else 3

/-- Expected change on partition p's rail for a change of array duty of `d` sixteenths (R676). -/
def State.expectedChange (s : State) (p d : Nat) : Nat := SMap.get 0 s.pm.arrayCurrent p * d / 16

/-- The pins of partition p return to 0b0000 at the start of the second course after course `e`, in which the step ends, if no
step that they announce ends later (R675). -/
def State.keepForewarning (s : State) (p : Nat) (e : Course) : State :=
  let later := match SMap.get none s.pm.clearAt p with
    | none => true
    | some a => !reached a (e + 2)
  if later then { s with pm := { s.pm with clearAt := SMap.set none s.pm.clearAt p (some (e + 2)) } } else s

/-- Shows a forewarning on partition p's pins (R674, R675), of a step that ends in course `e`. -/
def State.showForewarning (s : State) (p : Nat) (rise : Bool) (d : Nat) (e : Course) : State :=
  let code := 8 + bit rise * 4 + lstepClass (s.expectedChange p d)
  let t := (s.setLstep p code).count (Reg.pmForewarnings (coreRail p)) 1
  { t with pm := { t.pm with clearAt := SMap.set none t.pm.clearAt p (some (e + 2)) } }

/-- The pins of partition p return to 0b0000. -/
def State.clearLstep (s : State) (p : Nat) : State :=
  let t := s.setLstep p 0
  { t with pm := { t.pm with clearAt := SMap.set none t.pm.clearAt p none } }

/-- A fall is forewarned on partition p. -/
def State.fallShown (s : State) (p : Nat) : Bool := decide (8 ≤ s.lstep p) && decide (s.lstep p < 12)

/-- Cores of partition p. -/
def coresOfPartition (p : Nat) : List Nat := (List.range 40).map (· + 40 * p)

/-- Other cores of partition p than c whose fall the forewarning still announces: forewarned, and not yet at duty 0. -/
def State.fallPending (s : State) (p c : Nat) : Bool :=
  (coresOfPartition p).any (fun d => decide (d ≠ c) && (s.core d).forewarned && decide (0 < (s.core d).tensionDuty))

/-- A gap of core c ends with an `MA.MUL` (R118, R121, R122): a fall that was forewarned and has not begun is withdrawn once
no other core of the partition still needs it (assumption 50); after a fall the stream grant ramps up from 1/16 unless the
resumption was announced. A fall that has begun and not ended stops where it is, with neither (assumption 209). -/
def State.gapEnds (s : State) (c : Nat) : State :=
  let k := s.core c
  match k.gapSince with
  | none => s
  | some _ =>
    let p := corePartition c
    let slow := s.tensionFallen c && !k.announced
    let t := s.setCore c { k with
      gapSince := none, tensionDuty := 0, tensionFalling := false, forewarned := false, announced := false,
      grantDuty := if slow then 1 else k.grantDuty,
      grantNext := if slow then s.cycleNo + 768 else k.grantNext }
    if k.forewarned && !k.tensionFalling && !s.tensionFallen c && s.fallShown p && !t.fallPending p c then
      (t.clearLstep p).count (Reg.pmWithdrawn (coreRail p)) 1
    else t

/-- Streamed cycles among the `n` before cycle `now`. -/
def streamedSince (runs : List (Nat × Nat)) (now n : Nat) : Nat :=
  runs.foldl (fun v r => v + (r.1 + r.2 - max r.1 (now - n))) 0

/-- A stretch of streamed cycles with cycle `now` added, those older than four courses dropped. -/
def addStreamed (runs : List (Nat × Nat)) (now : Nat) : List (Nat × Nat) :=
  let live := runs.filter (fun r => decide (now < r.1 + r.2 + 10240))
  match live.reverse with
  | (a, n) :: rest => if a + n = now then rest.reverse ++ [(a, n + 1)] else live ++ [(now, 1)]
  | [] => [(now, 1)]

/-- A core whose stream is free from cycle `now`: its gap begins, with the tension duty of R117, the fraction of stream
cycles in the four courses before it, rounded down to a sixteenth. -/
def Core.gapFrom (k : Core) (now : Nat) : Core :=
  let d := streamedSince k.streamRuns now 10240 * 16 / 10240
  { k with
    streamLeft := 0, gapSince := some now, announced := false, recentDuty := d, tensionDuty := d, tensionFalling := false,
    forewarned := false }

/-- The stream of a core whose instructions are ended at once is free. -/
def State.freeStream (s : State) (c : Nat) : State :=
  if (s.core c).streamLeft = 0 then s else s.modCore c (fun k => k.gapFrom s.cycleNo)

/-- Core c streams a row in this cycle; after the last one its gap begins (R114, R117). -/
def State.streamCycle (s : State) (c : Nat) : State :=
  let j := { s.core c with streamLeft := (s.core c).streamLeft - 1, streamRuns := addStreamed (s.core c).streamRuns s.cycleNo }
  (s.count (Reg.maStreamCycles c) 1).setCore c (if j.streamLeft = 0 then j.gapFrom (s.cycleNo + 1) else j)

/-- The stream of the core stands within a row that has begun: it is paused only between rows (R61, R122, R682). -/
def Core.midRow (k : Core) : Bool := decide (k.streamLeft % k.streamRow ≠ 0)

/-- What the cycle is to the stream of core c: a started `MA.MUL` streams a cycle of a row, or is withheld between two rows
(R61, R122, R127, R682). -/
def State.passStream (s : State) (c : Nat) : State :=
  if (s.core c).streamLeft = 0 then s
  else if s.streamGranted c || (s.core c).midRow then s.streamCycle c
  else s.count (Reg.maPacedCycles c) 1

/-- From the course of an event of R123 the stream of its partition's cores is granted in full: a ramp ends, and a
resumption from a gap is announced. -/
def State.grantInFull (s : State) (p : Nat) : State :=
  (coresOfPartition p).foldl (fun t c => t.modCore c (fun k => { k with grantDuty := 16, announced := k.gapSince.isSome })) s

/-- Rails whose stream an event of table t concerns, by partition: those of the fabric table's overlay switch are all four
(R123). -/
def eventRails (t : Nat) : List Nat := if t < 4 then [t] else List.range 4

/-- Events of R123 whose course has come take effect on the grants, whether the pins showed a forewarning of them or not. -/
def State.eventCourses (s : State) : State :=
  (List.range 4).foldl (fun t p =>
    let ahead := SMap.get [] t.pm.fullGrant p
    if ahead.any (fun e => reached t.course e) || (t.eventWithin p 0).isSome then
      ({ t with pm := { t.pm with fullGrant := SMap.set [] t.pm.fullGrant p (ahead.filter (fun e => !reached t.course e)) } }).grantInFull p
    else t) s

end Sys2Proof.Machine
end

