-- ==== Sys2Proof/Machine/Gauge.lean ====
section
/-! DEFINITION. Gauge records, their roll and observation, rotation, scales, outlier extraction, and the
two gauge instructions (R155–R190, R191–R201, R227). -/

namespace Sys2Proof.Machine

/-! ### Gauge records (R170–R178) -/

/-- A gauge record (R172). -/
structure GaugeRecord where
  config : Nat
  count : Nat
  head : Nat
  seed : Nat
  step : Nat
  clean : Nat
  histL : Nat
  flags : Nat
  sat : Nat
  stepMax : Nat
  preMax : Nat
  satTotal : Nat
  resv : Nat
  hist : List Nat
  deriving DecidableEq, Repr

/-- A record from its 64 bytes. Its `resv` fields have no effect and are written back (R172, R173, assumption 215). -/
def recordOf (b : List Byte) : GaugeRecord :=
  let f := fun o n => leNat ((b.drop o).take n)
  { config := f 0 2, count := f 2 1, head := f 3 1, seed := f 4 4, step := f 8 4, clean := f 12 2, histL := f 14 1,
    flags := f 15 1, sat := f 16 4, stepMax := f 20 2, preMax := f 22 2, satTotal := f 24 4, resv := f 28 4,
    hist := (List.range 16).map (fun i => f (32 + 2 * i) 2) }

/-- The 64 bytes of a record. -/
def recordBytes (r : GaugeRecord) : List Byte :=
  leBytes 2 r.config ++ leBytes 1 r.count ++ leBytes 1 r.head ++ leBytes 4 r.seed ++ leBytes 4 r.step ++
    leBytes 2 r.clean ++ leBytes 1 r.histL ++ leBytes 1 r.flags ++ leBytes 4 r.sat ++ leBytes 2 r.stepMax ++
    leBytes 2 r.preMax ++ leBytes 4 r.satTotal ++ leBytes 4 r.resv ++ r.hist.flatMap (leBytes 2)

/-- Address of record r of a context (R170). -/
def State.recordAddr (s : State) (x r : Nat) : Nat := s.fld (Reg.guRecords x) Fld.guRecordsBase * 64 + (r - 1) * 64

/-- `LAYOUT` of a record (R173). -/
def GaugeRecord.layout (r : GaugeRecord) : Nat := r.config % 4
/-- `SRC_FMT` is F32. -/
def GaugeRecord.wide (r : GaugeRecord) : Bool := decide (r.config / 32 % 2 = 1)
/-- `H`. -/
def GaugeRecord.room (r : GaugeRecord) : Nat := r.config / 64 % 4
/-- `H_BASE`. -/
def GaugeRecord.roomBase (r : GaugeRecord) : Nat := r.config / 256 % 4
/-- `ROT_ODD`. -/
def GaugeRecord.odd (r : GaugeRecord) : Bool := decide (r.config / 1024 % 2 = 1)
/-- `LOSS_SCALED`. -/
def GaugeRecord.lossScaled (r : GaugeRecord) : Bool := decide (r.config / 2048 % 2 = 1)
/-- `PREPASS_DONE`. -/
def GaugeRecord.prepassDone (r : GaugeRecord) : Bool := decide (r.flags % 2 = 1)

/-- A B16 value times a power of two (R178). -/
def rescaleB16 (code : Nat) (k : Int) : Nat :=
  match Fmt.b16.decode code with
  | .nan => 0x7fc0
  | .inf n => if n then 0 else 0x7f7f
  | .fin n m e =>
    let v := Num.fin n m (e + k)
    if n || Num.lt v (.fin false 1 (-126)) then 0
    else if Num.lt (.fin false 255 120) v then 0x7f7f
    else Fmt.b16.encode v

/-- The roll of R177. -/
def rollRecord (r : GaugeRecord) (step l : Nat) : GaugeRecord :=
  let head := r.head % 16
  let count := min r.count 16
  let pushed := decide (0 < r.stepMax)
  let hist1 := if pushed then r.hist.set head r.stepMax else r.hist
  let head1 := if pushed then (head + 1) % 16 else head
  let count1 := if pushed then min (count + 1) 16 else count
  let clean1 := if 0 < r.sat then 0 else r.clean + 1
  let h1 := if 0 < r.sat then min (r.room + 1) 3 else if clean1 = 64 then max (r.room - 1) r.roomBase else r.room
  let h2 := max h1 r.roomBase
  let k : Int := signedOf 8 l - signedOf 8 r.histL
  let hist2 := if r.lossScaled && decide (l ≠ r.histL) then
      (List.range count1).foldl (fun h j =>
        let i := (head1 + 16 - (j + 1)) % 16
        h.set i (rescaleB16 (h.getD i 0) k)) hist1
    else hist1
  { r with
    config := r.config - r.room * 64 + h2 * 64
    count := count1
    head := head1
    step := step
    clean := if clean1 = 64 then 0 else clean1
    histL := l
    flags := r.flags - r.flags % 2
    sat := 0
    stepMax := 0
    preMax := 0
    hist := hist2 }

/-- `GU_LOSS_SCALE.EXP` of a context, as stored. -/
def State.lossExp (s : State) (x : Nat) : Nat := s.fld (Reg.guLossScale x) Fld.guLossScaleExp

/-- The record as an instruction finds it: rolled at its first use in a step (R176, R177). -/
def State.touchRecord (s : State) (x r : Nat) : GaugeRecord :=
  let g := recordOf (s.load (s.recordAddr x r) 64)
  let step := s.fld (Reg.guStep x) Fld.guStepStep
  if g.step = step then g else rollRecord g step (s.lossExp x)

/-- Observation (R175). -/
def observe (g : GaugeRecord) (top : Num) (sat : Nat) (prepass : Bool) : GaugeRecord :=
  let m := maxToB16 top
  { g with
    stepMax := max g.stepMax m
    sat := min (g.sat + sat) (2 ^ 32 - 1)
    satTotal := min (g.satTotal + sat) (2 ^ 32 - 1)
    preMax := if prepass then max g.preMax m else g.preMax
    flags := if prepass then g.flags - g.flags % 2 + 1 else g.flags }

/-- Writes a record back. -/
def State.putRecord (s : State) (x r : Nat) (g : GaugeRecord) : State := s.store (s.recordAddr x r) (recordBytes g)

/-- The running estimate E (R167); a history without a finite entry counts as 0 (assumption 47). -/
def estimate (g : GaugeRecord) (own : Num) : Num :=
  let n := min g.count 16
  let e := if 0 < n then
      let best := maxMagOf ((List.range n).map (fun j =>
        match Fmt.b16.decode (g.hist.getD ((g.head % 16 + 16 - (j + 1)) % 16) 0) with
        | .fin false m e => Num.fin false m e
        | _ => Num.zero))
      Num.mul best (.fin false (2 ^ g.room) 0)
    else if g.prepassDone then Fmt.b16.decode g.preMax
    else own
  if Num.lt (.fin false 255 120) e then .fin false 255 120 else e

/-! ### Rotation (R161–R164) -/

/-- The sign of index j under a seed: true for −1 (R163). -/
def signAt (seed j : Nat) : Bool :=
  let h := (seed ^^^ (j % 256)) * 0x9E3779B1 % 2 ^ 32
  let h := h ^^^ (h >>> 16)
  let h := h * 0x85EBCA6B % 2 ^ 32
  let h := h ^^^ (h >>> 13)
  decide (h / 2 ^ 31 % 2 = 1)

/-- Whether the number of ones of `i` is odd. -/
def oddOnes (i : Nat) : Bool := ((List.range 9).countP (fun b => i.testBit b)) % 2 = 1

/-- Rotation size of `ROT`; 0 for none. -/
def rotSize (rot : Nat) : Nat :=
  match rot with
  | 0 => 0
  | 1 => 64
  | 2 => 128
  | _ => 256

/-- The shift a (R162). -/
def rotShift (rot : Nat) (odd : Bool) : Nat :=
  match rot with
  | 1 => 3
  | 2 => if odd then 4 else 3
  | _ => 4

/-- Element i of a rotated block that starts at index j0 (R161). -/
def rotatedAt (seed j0 a : Nat) (block : List Num) (i : Nat) : Num :=
  let t := block.zipIdx.foldl (fun acc p =>
    let v := if signAt seed (j0 + p.2) ^^ oddOnes (i &&& p.2) then p.1.neg else p.1
    match acc with
    | none => some v
    | some u => some (Num.add u v)) (none : Option Num)
  Num.mul (t.getD Num.zero) (.fin false 1 (-(a : Int)))

/-- A line of values rotated block by block (R161, R164). -/
def rotateLine (seed rot : Nat) (odd : Bool) (line : List Num) : List Num :=
  let b := rotSize rot
  if b = 0 then line
  else (List.range (line.length / b)).flatMap (fun k =>
    let block := (line.drop (k * b)).take b
    (List.range b).map (rotatedAt seed (k * b) (rotShift rot odd) block))

/-- Columns of a matrix given by rows. -/
def columnsOf (n : Nat) (rows : List (List Num)) : List (List Num) :=
  (List.range n).map (fun j => rows.map (fun r => r.getD j Num.zero))

/-! ### Outlier specifications (R191–R201) -/

/-- An outlier specification (R193); its `resv` field at 0x10 is not looked at (assumption 215). -/
structure OutlierSpec where
  list : Nat
  thresh : Nat
  flags : Nat
  cap : Nat
  resOff : Nat
  deriving DecidableEq, Repr

/-- Address of specification r (R191). -/
def State.specAddr (s : State) (x r : Nat) : Nat := s.fld (Reg.cpSpecs x) Fld.cpSpecsBase * 64 + (r - 1) * 32

/-- Specification r of a context; none of its features where the instruction names no record
(assumption 48). -/
def State.spec (s : State) (x r : Nat) : OutlierSpec :=
  if r = 0 then ⟨0, 0, 0, 0, 0⟩
  else
    let b := s.load (s.specAddr x r) 32
    let f := fun o n => leNat ((b.drop o).take n)
    ⟨f 0 8, f 8 2, f 10 1, f 11 1, f 12 4 % 2 ^ 24⟩

/-- `DYN_EN`. -/
def OutlierSpec.dyn (p : OutlierSpec) : Bool := p.flags.testBit 0
/-- `FB_EN`. -/
def OutlierSpec.fb (p : OutlierSpec) : Bool := p.flags.testBit 1
/-- `THRESH_LOSS`. -/
def OutlierSpec.threshLoss (p : OutlierSpec) : Bool := p.flags.testBit 2
/-- `RES_EN`. -/
def OutlierSpec.res (p : OutlierSpec) : Bool := p.flags.testBit 3

/-- θ (R194). -/
def State.theta (s : State) (x : Nat) (p : OutlierSpec) : Num :=
  let t := Fmt.b16.decode p.thresh
  if p.threshLoss then
    let u := roundTo 8 (Num.mul t (.fin false 1 (signedOf 8 (s.lossExp x))))
    if Num.lt (.fin false 255 120) u then .fin false 255 120 else u
  else t

/-- The static channels of k-tile t: the bytes of the list that name a channel (R193). -/
def State.staticChannels (s : State) (p : OutlierSpec) (t : Nat) : List Nat :=
  ((s.load (p.list + 4 * t) 4).map BitVec.toNat).filter (fun c => decide (c < 128))

/-- Whether the element at channel i of a k-tile, of value v, is a static or a dynamic outlier (R194). -/
def isOutlier (static : List Nat) (dyn : Bool) (theta : Num) (i : Nat) (v : Num) : Bool :=
  v.isFinite && (static.contains i || (dyn && Num.lt theta v.abs))

/-! ### What the two instructions share -/

/-- Everything a gauge instruction knows before it acts. -/
structure GaugeJob where
  prepass : Bool
  grec : Nat
  rec_ : GaugeRecord
  spec : OutlierSpec
  layout : Nat
  fmt : Fmt
  rot : Nat
  mode : Nat
  outlier : Bool
  rows : Nat
  tiles : Nat
  src : Nat
  dst : Nat
  cblock : Nat
  cblocks : Nat
  deriving DecidableEq, Repr

/-- The job of an instruction word. -/
def State.gaugeJob (s : State) (x : Nat) (w : IWord) (prepass : Bool) : GaugeJob :=
  let r := grecOf w
  let rec_ := if r = 0 then recordOf (zeroBytes 64) else s.touchRecord x r
  { prepass := prepass, grec := r, rec_ := rec_, spec := s.spec x r, layout := rec_.layout,
    fmt := (Fmt.ofCode (gfmt w)).getD .t4, rot := grot w, mode := gmode w,
    outlier := goutlier w && decide (r ≠ 0), rows := grows w, tiles := gtiles w, src := gsrc w, dst := gdst w,
    cblock := gcblock w, cblocks := gcblocksM1 w + 1 }

/-- Elements of a source row. -/
def GaugeJob.width (j : GaugeJob) : Nat := 128 * j.tiles

/-- Bytes of a source element. -/
def GaugeJob.elem (j : GaugeJob) : Nat := if j.rec_.wide then 4 else 2

/-- Format of the source. -/
def GaugeJob.srcFmt (j : GaugeJob) : Fmt := if j.rec_.wide then .f32 else .b16

/-- Row bytes B of a streaming block (R84). -/
def rowBytes (f : Fmt) : Nat :=
  match f with
  | .t4 => 64
  | .b16 => 256
  | _ => 128

/-- Columns of a tile (R80). -/
def tileWidth (f : Fmt) : Nat :=
  match f with
  | .t4 => 256
  | .b16 => 64
  | _ => 128

/-- Bits of an element. -/
def elemBits (f : Fmt) : Nat := if f = .t4 then 4 else 8

/-- Stride Z of streaming blocks (R196). -/
def GaugeJob.stride (j : GaugeJob) : Nat := 0x200 + 128 * rowBytes j.fmt

/-- The side area S (R196). -/
def GaugeJob.sideBase (j : GaugeJob) : Nat := j.dst + j.tiles * j.stride

/-- Rows of fallback block t (R200, assumption 49: its scales lie 0x200 below, as R84 and R158 place
them). -/
def GaugeJob.fallbackAt (j : GaugeJob) (t : Nat) : Nat := j.sideBase + j.tiles * 0x800 + t * 0x4200

/-- c0 of R159. -/
def GaugeJob.col0 (j : GaugeJob) : Nat := j.dst % 128 * 8 / elemBits j.fmt

/-- A of R159. -/
def GaugeJob.tileA (j : GaugeJob) : Nat := j.dst - j.dst % 128

/-- Q of R160. -/
def GaugeJob.kblocks (j : GaugeJob) : Nat := (j.width + tileWidth j.fmt - 1) / tileWidth j.fmt

/-- Faults of R130, R170, R189, R190 and R229 that need no memory operand. Where several hold, the first of this list is raised
(assumption 216). -/
def State.gaugeCases (s : State) (x : Nat) (w : IWord) (j : GaugeJob) : List (Bool × CtxFaultClass × Nat) :=
  let q := !j.prepass
  let b := rotSize j.rot
  [(q && decide (j.fmt ≠ .t4) && decide (j.fmt ≠ .t8) && decide (j.fmt ≠ .t8w), .formatMismatch, 0),
   (decide (j.grec = 0) && (j.prepass || decide (j.rot ≠ 0) || decide (j.mode = 1)), .formatMismatch, 0),
   (decide (s.fld (Reg.guRecords x) Fld.guRecordsCount < j.grec), .address, 0),
   (decide (j.grec ≠ 0) && s.poisoned (s.recordAddr x j.grec) 64, .poisonConsumed, s.recordAddr x j.grec),
   (decide (j.grec ≠ 0) && s.poisoned (s.specAddr x j.grec) 32, .poisonConsumed, s.specAddr x j.grec / 64 * 64),
   (decide (j.layout = 3), .formatMismatch, 0),
   (q && decide (j.layout = 2) && (decide (j.mode = 0) || decide (j.rot = 3)), .formatMismatch, 0),
   (decide (j.layout = 2) && decide (j.rot ≠ 0) && decide (j.rows % b ≠ 0), .formatMismatch, 0),
   (decide (j.rot = 3) && decide (j.layout ≠ 2) && decide (j.tiles % 2 = 1), .formatMismatch, 0),
   (q && decide (j.layout = 1) && decide (j.dst % 128 ≠ 0) && !(decide (j.fmt = .t4) && decide (j.dst % 128 = 64)),
     .formatMismatch, 0),
   (q && decide (j.layout = 1) && decide (j.cblocks ≤ j.cblock), .formatMismatch, 0),
   (q && decide (j.layout ≠ 1) && (decide (gcblock w ≠ 0) || decide (gcblocksM1 w ≠ 0)), .formatMismatch, 0),
   (j.outlier && decide (j.layout ≠ 0), .formatMismatch, 0),
   (q && j.outlier && j.spec.dyn && (decide (j.fmt ≠ .t4) || !j.spec.fb), .formatMismatch, 0),
   (q && j.spec.res && (decide (j.layout = 0) || decide (j.fmt ≠ .t4)), .formatMismatch, 0)]

/-- Where the given or written scales lie: core store extents (R158–R160). -/
def GaugeJob.scaleExtents (j : GaugeJob) : List (Nat × Nat) :=
  if j.layout = 0 then (List.range j.tiles).map (fun t => (j.dst + t * j.stride - 0x200, 2 * j.rows))
  else if j.layout = 1 then
    [(j.tileA + 2 * j.col0 - (j.cblock * 0x4000 + (j.cblocks - j.cblock) * 0x200), 2 * j.rows)]
  else (List.range j.kblocks).map (fun q =>
    (j.dst - (j.kblocks - q) * 0x200, 2 * min (tileWidth j.fmt) (j.width - q * tileWidth j.fmt)))

/-- Whether every scale address lies at or above offset 0 of the store. -/
def GaugeJob.scalesAbove (j : GaugeJob) : Bool :=
  if j.layout = 0 then decide (0x200 ≤ j.dst)
  else if j.layout = 1 then decide (j.cblock * 0x4000 + (j.cblocks - j.cblock) * 0x200 ≤ j.tileA + 2 * j.col0)
  else decide (j.kblocks * 0x200 ≤ j.dst)

/-- Core store extents of the output tiles or blocks (R158–R160). -/
def GaugeJob.outExtents (j : GaugeJob) : List (Nat × Nat) :=
  let bits := elemBits j.fmt
  if j.layout = 0 then (List.range j.tiles).map (fun t => (j.dst + t * j.stride, j.rows * rowBytes j.fmt))
  else if j.layout = 1 then
    let lo := j.col0 * bits / 8
    let hi := ((j.col0 + j.rows) * bits + 7) / 8
    (List.range j.tiles).map (fun t => (j.tileA + t * j.cblocks * 0x4000 + lo, 127 * 128 + hi - lo))
  else (List.range j.kblocks).map (fun q =>
    (j.dst + q * 0x4000, (j.rows - 1) * 128 + (min (tileWidth j.fmt) (j.width - q * tileWidth j.fmt) * bits + 7) / 8))

/-- Further core store extents that the cable path's outputs take (R196, R200, R227). -/
def GaugeJob.cableExtents (j : GaugeJob) : List (Nat × Nat) :=
  (if j.outlier then [(j.sideBase, j.tiles * 0x800)] else []) ++
    (if j.outlier && j.spec.fb then
      (List.range j.tiles).flatMap (fun t => [(j.fallbackAt t - 0x200, 2 * j.rows), (j.fallbackAt t, j.rows * 128)])
    else []) ++
    (if j.spec.res then [(j.spec.resOff, 2 * j.rows * j.width)] else [])

/-- The source matrix, row by row. -/
def State.gaugeSource (s : State) (c : Nat) (j : GaugeJob) : List (List Num) :=
  (List.range j.rows).map (fun m =>
    let bs := s.load (storeAt c (j.src + m * j.width * j.elem)) (j.width * j.elem)
    (List.range j.width).map (fun i => j.srcFmt.decode (leNat ((bs.drop (i * j.elem)).take j.elem))))

/-- The source with its outliers replaced by zero (R155, R194). -/
def State.withoutOutliers (s : State) (x : Nat) (j : GaugeJob) (src : List (List Num)) : List (List Num) :=
  if j.outlier then
    let th := s.theta x j.spec
    src.map (fun row => row.zipIdx.map (fun p =>
      if isOutlier (s.staticChannels j.spec (p.2 / 128)) j.spec.dyn th (p.2 % 128) p.1 then Num.zero else p.1))
  else src

/-- The rotated matrix, by source rows: along each row, or down each column in KROW (R164). -/
def GaugeJob.rotated (j : GaugeJob) (src : List (List Num)) : List (List Num) :=
  if j.layout = 2 then
    columnsOf j.rows ((columnsOf j.width src).map (rotateLine j.rec_.seed j.rot j.rec_.odd))
  else src.map (rotateLine j.rec_.seed j.rot j.rec_.odd)

/-- The scale code of each source row (ROW, CHANNEL) or of each column (KROW) (R166). -/
def State.gaugeScales (s : State) (c : Nat) (j : GaugeJob) (rot : List (List Num)) : List Nat :=
  match j.mode with
  | 0 => rot.map (fun row => chooseScale j.fmt (maxMagOf row))
  | 1 =>
    let e := chooseScale j.fmt (estimate j.rec_ (maxMagOf (rot.map maxMagOf)))
    List.replicate (if j.layout = 2 then j.width else j.rows) e
  | _ =>
    let bs := (if j.layout = 0 then j.scaleExtents.take 1 else j.scaleExtents).flatMap
      (fun e => s.load (storeAt c e.1) e.2)
    (List.range (bs.length / 2)).map (fun i => leNat ((bs.drop (2 * i)).take 2))

/-- The element at source row m, column i: its value and its scale. -/
def GaugeJob.scaleAt (j : GaugeJob) (scales : List Nat) (m i : Nat) : Num :=
  Fmt.b16.decode (scales.getD (if j.layout = 2 then i else m) 0)

/-- Every element converted (R144). -/
def GaugeJob.convertAll (j : GaugeJob) (f : Fmt) (scales : List Nat) (rot : List (List Num)) : List (List Converted) :=
  rot.zipIdx.map (fun r => r.1.zipIdx.map (fun p => convertNarrow f p.1 (j.scaleAt scales r.2 p.2)))

/-- Writes one narrow element of a row of packed elements at a core store byte offset (R82). Each is a write of its own, so that
a poisoned granule stays poisoned however many of its elements are written (R252, assumption 218). -/
def State.putElem (s : State) (c base : Nat) (f : Fmt) (i code : Nat) : State :=
  if f = .t4 then
    let a := storeAt c (base + i / 2)
    let old := (s.byte a).toNat
    s.store a [BitVec.ofNat 8 (if i % 2 = 0 then old / 16 * 16 + code % 16 else old % 16 + code % 16 * 16)]
  else s.store (storeAt c (base + i)) [BitVec.ofNat 8 code]

/-- Packs the codes of a whole row. -/
def packRow (f : Fmt) (codes : List Nat) : List Byte :=
  if f = .t4 then
    (List.range (codes.length / 2)).map (fun i => BitVec.ofNat 8 (codes.getD (2 * i) 0 % 16 + codes.getD (2 * i + 1) 0 % 16 * 16))
  else codes.map (BitVec.ofNat 8)

/-- Where element (m, i) of the output lies: the core store offset of its packed row and its index in it
(R158–R160). -/
def GaugeJob.place (j : GaugeJob) (m i : Nat) : Nat × Nat :=
  if j.layout = 1 then (j.tileA + i / 128 * j.cblocks * 0x4000 + i % 128 * 128, j.col0 + m)
  else (j.dst + i / tileWidth j.fmt * 0x4000 + m * 128, i % tileWidth j.fmt)

/-- Writes the converted elements and the scales (R157–R160). -/
def State.gaugeWrite (s : State) (c : Nat) (j : GaugeJob) (scales : List Nat) (out : List (List Converted)) : State :=
  let scaleBytes := scales.flatMap (leBytes 2)
  let t := if j.mode = 2 then
      -- a given scale stands where it was read; ROW repeats it in the header of every block
      (if j.layout = 0 then (j.scaleExtents.drop 1).foldl (fun u e => u.store (storeAt c e.1) scaleBytes) s else s)
    else if j.layout = 2 then
      j.scaleExtents.zipIdx.foldl (fun u e =>
        u.store (storeAt c e.1.1) ((scaleBytes.drop (2 * e.2 * tileWidth j.fmt)).take e.1.2)) s
    else j.scaleExtents.foldl (fun u e => u.store (storeAt c e.1) scaleBytes) s
  if j.layout = 0 then
    out.zipIdx.foldl (fun u r => (List.range j.tiles).foldl (fun v k =>
      v.store (storeAt c (j.dst + k * j.stride + r.2 * rowBytes j.fmt))
        (packRow j.fmt (((r.1.drop (128 * k)).take 128).map Converted.code))) u) t
  else
    out.zipIdx.foldl (fun u r => r.1.zipIdx.foldl (fun v p =>
      let at_ := j.place r.2 p.2
      v.putElem c at_.1 j.fmt at_.2 p.1.code) u) t

/-- Writes side block t from the unextracted source, all of its 2,048 bytes (R197–R199): rows and slots that the instruction
does not name, and a static channel's element that is not finite and so no outlier, hold 0 (assumption 56). -/
def State.writeSide (s : State) (c x : Nat) (j : GaugeJob) (src : List (List Num)) (t : Nat) : State :=
  let static := s.staticChannels j.spec t
  let th := s.theta x j.spec
  let tile := src.map (fun row => (row.drop (128 * t)).take 128)
  let dyn := tile.zipIdx.flatMap (fun r => (r.1.zipIdx.filter (fun p =>
      j.spec.dyn && !static.contains p.2 && isOutlier [] true th p.2 p.1)).map (fun p => (r.2, p.2, p.1)))
  let entries := (dyn.take 32).map (fun d => Fmt.b16.encode d.2.2 * 65536 + d.1 * 512 + d.2.1 * 4)
  let vals := static.flatMap (fun ch => (List.range 128).flatMap (fun m =>
    let e := (tile.getD m []).getD ch Num.zero
    leBytes 2 (if e.isFinite then Fmt.b16.encode e else 0)))
  s.store (storeAt c (j.sideBase + t * 0x800))
    (leBytes 2 (min dyn.length 65535) ++ leBytes 1 static.length ++ leBytes 1 (bit j.spec.fb) ++
      s.load (j.spec.list + 4 * t) 4 ++ zeroBytes 120 ++ fitTo 128 (entries.flatMap (leBytes 4)) ++ fitTo 0x700 vals)

/-- Writes fallback block t: every rotated value, none removed, at T8 with the scales of the T4 block
(R200). -/
def State.writeFallback (s : State) (c : Nat) (j : GaugeJob) (scales : List Nat) (out : List (List Converted)) (t : Nat) :
    State :=
  let u := s.store (storeAt c (j.fallbackAt t - 0x200)) (scales.flatMap (leBytes 2))
  out.zipIdx.foldl (fun v r => v.store (storeAt c (j.fallbackAt t + r.2 * 128))
    (((r.1.drop (128 * t)).take 128).map (fun d => BitVec.ofNat 8 d.code))) u

/-- Writes the weight residual (R227). -/
def State.writeResidual (s : State) (c : Nat) (j : GaugeJob) (scales : List Nat) (rot : List (List Num))
    (out : List (List Converted)) : State :=
  (rot.zip out).zipIdx.foldl (fun u r => (r.1.1.zip r.1.2).zipIdx.foldl (fun v p =>
    let q := Num.mul (j.scaleAt scales r.2 p.2) (Fmt.t4.decode p.1.2.code)
    v.store (storeAt c (j.spec.resOff + 2 * (r.2 * j.width + p.2))) (leBytes 2 (Fmt.b16.encode (Num.add p.1.1 q.neg)))) u) s

/-- Finds the outlier channels of a pre-pass: maxima kept by channel, and the lists rewritten (R201). -/
def State.findOutliers (s : State) (j : GaugeJob) (src : List (List Num)) : State :=
  let maxima := j.spec.list + 4 * j.tiles
  let t := (columnsOf j.width src).zipIdx.foldl (fun u col =>
    let m := maxMagOf col.1
    let a := maxima + 2 * col.2
    let old := if j.rec_.prepassDone then Fmt.b16.decode (u.leAt a 2) else Num.zero
    u.store a (leBytes 2 (Fmt.b16.encode (maxFiniteMag m old)))) s
  (List.range j.tiles).foldl (fun u k =>
    let ms := (List.range 128).map (fun i => Fmt.b16.decode (u.leAt (maxima + 2 * (128 * k + i)) 2))
    let rank := fun i => (List.range 128).countP (fun l =>
      Num.lt (ms.getD i Num.zero) (ms.getD l Num.zero) ||
        (decide (l < i) && !Num.lt (ms.getD l Num.zero) (ms.getD i Num.zero)))
    let chosen := (List.range 128).filter (fun i => decide (rank i < min j.spec.cap 4))
    u.store (j.spec.list + 4 * k) ((chosen.map (BitVec.ofNat 8) ++ List.replicate 4 0xFF).take 4)) t

/-- Adds the device's counts of an instruction's conversion. -/
def State.gaugeCounts (s : State) (x nonFinite sat fbSat : Nat) : State :=
  let t := (s.addNonFinite x nonFinite).count (Reg.guSaturations (ctxPartition x)) sat
  t.count (Reg.cpFbSaturations (ctxPartition x)) fbSat

/-- Non-finite source elements, and finite rotated values that a zero or non-finite scale made non-finite
(R146, R147). -/
def nonFiniteOf (src rot : List (List Num)) (out : List (List Converted)) : Nat :=
  (src.map (fun r => r.countP (fun v => !v.isFinite))).foldl (· + ·) 0 +
    ((rot.zip out).map (fun r => (r.1.zip r.2).countP (fun p => p.1.isFinite && p.2.nonFinite))).foldl (· + ·) 0

/-- Saturated elements. -/
def saturatedOf (out : List (List Converted)) : Nat :=
  (out.map (fun r => r.countP Converted.saturated)).foldl (· + ·) 0

/-- What `G.QUANT` writes (R155). -/
def State.quantEffect (s : State) (c x : Nat) (j : GaugeJob) : State :=
  let src := s.gaugeSource c j
  let rot := j.rotated (s.withoutOutliers x j src)
  let scales := s.gaugeScales c j rot
  let out := j.convertAll j.fmt scales rot
  let t1 := s.gaugeWrite c j scales out
  let t2 := if j.outlier then (List.range j.tiles).foldl (fun u k => u.writeSide c x j src k) t1 else t1
  let fb := if j.outlier && j.spec.fb then j.convertAll .t8 scales (j.rotated src) else []
  let t3 := if j.outlier && j.spec.fb then (List.range j.tiles).foldl (fun u k => u.writeFallback c j scales fb k) t2 else t2
  let t4 := if j.spec.res then t3.writeResidual c j scales rot out else t3
  let sat := saturatedOf out
  let t5 := if j.grec = 0 then t4
    else t4.putRecord x j.grec (observe j.rec_ (maxMagOf (rot.map maxMagOf)) sat false)
  t5.gaugeCounts x (nonFiniteOf src rot out) sat (saturatedOf fb)

/-- What `G.PREPASS` does (R185, R201). -/
def State.prepassEffect (s : State) (c x : Nat) (j : GaugeJob) : State :=
  let src := s.gaugeSource c j
  let rot := j.rotated (s.withoutOutliers x j src)
  let t := if j.outlier then s.findOutliers j src else s
  t.putRecord x j.grec (observe j.rec_ (maxMagOf (rot.map maxMagOf)) 0 true)

/-- HBM extents that a gauge instruction with outliers reads: the static lists and, for a pre-pass that
goes on, the channel maxima. -/
def GaugeJob.listExtents (j : GaugeJob) : List (Nat × Nat) :=
  if j.outlier then
    (j.spec.list, 4 * j.tiles) ::
      (if j.prepass && j.rec_.prepassDone then [(j.spec.list + 4 * j.tiles, 2 * j.width)] else [])
  else []

/-- `G.QUANT` at its issue. -/
def gQuant (c x : Nat) (e : QEntry) (s : State) : AtIssue :=
  let j := s.gaugeJob x e.word false
  let given := if j.mode = 2 then (if j.layout = 0 then j.scaleExtents.take 1 else j.scaleExtents) else []
  firstFault (s.gaugeCases x e.word j ++ [(!j.scalesAbove, .address, 0)])
    (s.checked c x ((j.src, j.rows * j.width * j.elem) :: given) (j.outExtents ++ j.scaleExtents ++ j.cableExtents)
      j.listExtents (s.quantEffect c x j))

/-- `G.PREPASS` at its issue. -/
def gPrepass (c x : Nat) (e : QEntry) (s : State) : AtIssue :=
  let j := s.gaugeJob x e.word true
  firstFault (s.gaugeCases x e.word j)
    (s.checked c x [(j.src, j.rows * j.width * j.elem)] [] j.listExtents (s.prepassEffect c x j))

/-- `G.QUANT` (R155). -/
def execGQuant (core : Fin 160) (s : State) : Host.Outcome State Fault Refusal :=
  execIssue .gauge opQuant gQuant core.val s

/-- `G.PREPASS` (R185). -/
def execGPrepass (core : Fin 160) (s : State) : Host.Outcome State Fault Refusal :=
  execIssue .gauge opPrepass gPrepass core.val s

end Sys2Proof.Machine
end

