-- ==== Sys2Proof/Machine/Arrays.lean ====
section
/-! DEFINITION. The matrix arrays: groups, promotion, runs, and the work of the cable path and the low-rank
unit (R80–R109, R138, R191–R225). -/

namespace Sys2Proof.Machine

/-! ### Operands -/

/-- Element (k, n) of a weight slot (R82, R86): an expanded I4 tile holds T8 codes. -/
def Slot.elem (w : Slot) (k n : Nat) : Num :=
  let byte := fun i => (SMap.get 0 w.tile i).toNat
  match Fmt.ofCode w.fmt with
  | some .t4 => Fmt.t4.decode (byte (k * 128 + n / 2) / (if n % 2 = 0 then 1 else 16))
  | some .b16 => Fmt.b16.decode (byte (k * 128 + 2 * n) + 256 * byte (k * 128 + 2 * n + 1))
  | some .t8w => Fmt.t8w.decode (byte (k * 128 + n))
  | _ => Fmt.t8.decode (byte (k * 128 + n))

/-- Element (k, n) as a tile streams it: a T4 element that meets T8 rows is the T8 element of its value, with that element's
significand and exponent (R86, R215). -/
def Slot.elemFor (w : Slot) (t8 : Bool) (k n : Nat) : Num :=
  if t8 && decide (w.fmt = 0) then Fmt.t8.decode (convertNarrow .t8 (w.elem k n) Num.one).code else w.elem k n

/-- Valid columns of a slot. -/
def Slot.ncols (w : Slot) : Nat := w.nvalidM1 + 1

/-- The scale of column n; 1.0 for B16 (R83, R85). -/
def Slot.scale (w : Slot) (n : Nat) : Num :=
  if w.fmt = 4 then Num.one else Fmt.b16.decode (SMap.get 0 w.scales n).toNat

/-- Whether a slot's weight format pairs with an activation format (R49). -/
def pairs (w x : Nat) : Bool :=
  (decide (w = 0) && decide (x = 0)) || (decide (w = 1) && decide (x = 2)) ||
    ((decide (w = 2) || decide (w = 3)) && (decide (x = 2) || decide (x = 3))) || (decide (w = 4) && decide (x = 4))

/-- Row m of an activation block: its first `kv` elements (R84, R89). -/
def State.actRow (s : State) (c base : Nat) (f : Fmt) (m kv : Nat) : List Num :=
  let bs := s.load (storeAt c (base + m * rowBytes f)) (rowBytes f)
  (List.range kv).map (fun i =>
    match f with
    | .t4 => Fmt.t4.decode ((bs.getD (i / 2) 0).toNat / (if i % 2 = 0 then 1 else 16))
    | .b16 => Fmt.b16.decode ((bs.getD (2 * i) 0).toNat + 256 * (bs.getD (2 * i + 1) 0).toNat)
    | _ => f.decode (bs.getD i 0).toNat)

/-- The scale code of row m of an activation block; that of 1.0 for B16 (R84, R85). -/
def State.rowScaleCode (s : State) (c base : Nat) (f : Fmt) (m : Nat) : Nat :=
  if f = .b16 then 0x3f80 else s.leAt (storeAt c (base - 0x200 + 2 * m)) 2

/-! ### Groups (R94–R97, R107) -/

/-- Exponent of a product that is finite and not zero. -/
def liveExp : Num → Option Int
  | .fin _ m e => if m = 0 then none else some e
  | _ => none

/-- Q of a group (R97). -/
def groupTop (ps : List Num) : Option Int :=
  ps.foldl (fun a p =>
    match a, liveExp p with
    | some q, some e => some (max q e)
    | none, some e => some e
    | a, none => a) none

/-- The exact integer of a group in units of 2^t, magnitudes truncated (R97). -/
def groupInt (t : Int) (ps : List Num) : Int :=
  ps.foldl (fun a p =>
    match p with
    | .fin n m e =>
      let v : Nat := if t ≤ e then m * 2 ^ (e - t).toNat else m / 2 ^ (t - e).toNat
      if n then a - v else a + v
    | _ => a) 0

/-- The non-finite value of a group, if it has one (R107). -/
def groupSpecial (ps : List Num) : Option Num :=
  if ps.contains .nan || (ps.contains (.inf false) && ps.contains (.inf true)) then some .nan
  else if ps.contains (.inf false) then some (.inf false)
  else if ps.contains (.inf true) then some (.inf true)
  else none

/-- An integer in units of 2^t. -/
def numOfInt (i t : Int) : Num := .fin (decide (i < 0)) i.natAbs t

/-- The value S × 2^t of a group of products (R97); a group of zeros is +0. -/
def groupValue (t4 : Bool) (ps : List Num) : Num :=
  match groupSpecial ps with
  | some v => v
  | none =>
    if t4 then numOfInt (groupInt (-2) ps) (-2)
    else match groupTop ps with
      | none => Num.zero
      | some q => numOfInt (groupInt (q - 3) ps) (q - 3)

/-- The halves of a B16 operand (R95). -/
def halves : Num → Num × Num
  | .fin n m e => (.fin n (m / 16) (e + 4), .fin n (m % 16) e)
  | v => (v, v)

/-- A product of one half of each operand; where an operand is not finite the product is that of the
operands themselves (R107, assumption 52). -/
def halfProduct (x w : Num) (xHigh wHigh : Bool) : Num :=
  if x.isFinite && w.isFinite then
    Num.mul (if xHigh then (halves x).1 else (halves x).2) (if wHigh then (halves w).1 else (halves w).2)
  else Num.mul x w

/-- The groups of products of one row and one column (R96). -/
def groupsOf (b16 : Bool) (xs ws : List Num) : List (List Num) :=
  let ps := xs.zip ws
  if b16 then
    [ps.map (fun p => halfProduct p.1 p.2 true true), ps.map (fun p => halfProduct p.1 p.2 true false),
     ps.map (fun p => halfProduct p.1 p.2 false true), ps.map (fun p => halfProduct p.1 p.2 false false)]
  else [ps.map (fun p => Num.mul p.1 p.2)]

/-- Column n of a slot, `kv` elements. -/
def Slot.column (w : Slot) (t8 : Bool) (kv n : Nat) : List Num := (List.range kv).map (fun k => w.elemFor t8 k n)

/-! ### Wide and narrow entries -/

/-- Key of entry (m, n). -/
def accKey (m n : Nat) : Nat := m * 256 + n

/-- The W36 value of an entry. -/
def MArray.wideAt (a : MArray) (buf m n : Nat) : Num := Fmt.w36.decode (SMap.get 0 (a.wide buf) (accKey m n)).toNat

/-- Writes a W36 entry, rounding once. -/
def MArray.putWide (a : MArray) (buf m n : Nat) (v : Num) : MArray :=
  a.setWide buf (SMap.set 0 (a.wide buf) (accKey m n) (BitVec.ofNat 36 (Fmt.w36.encode v)))

/-- Adds to a W36 entry, or overwrites it, with one rounding (R99). -/
def MArray.addWide (a : MArray) (buf m n : Nat) (over_ : Bool) (v : Num) : MArray :=
  a.putWide buf m n (if over_ then v else Num.add (a.wideAt buf m n) v)

/-- The narrow sum of entry (m, n). -/
def MArray.narrowAt (a : MArray) (m n : Nat) : Int := signedOf 20 (SMap.get 0 a.narrow (accKey m n)).toNat

/-- Adds to a narrow sum (R98). -/
def MArray.addNarrow (a : MArray) (m n : Nat) (i : Int) : MArray :=
  { a with narrow := SMap.set 0 a.narrow (accKey m n) (BitVec.ofInt 20 (a.narrowAt m n + i)) }

/-- One cable-path contribution (R211). -/
def MArray.addTerm (a : MArray) (buf : Nat) (t : CableTerm) : MArray :=
  a.addWide buf t.row t.col false (Num.mul (Fmt.b16.decode t.x.toNat) (Fmt.b16.decode t.w.toNat))

/-! ### Promotion (R99, R104–R106, R138) -/

/-- Promotes the open T4 segment: every row and column that a tile of it streamed, by the last scales,
then the cable contributions of its tiles. A segment without tiles promotes nothing. -/
def MArray.promoteSegment (a : MArray) : MArray :=
  let r := a.run
  if r.tiles = 0 then a
  else
    let b := r.rowScale.foldl (fun a1 row => r.colScale.foldl (fun a2 col =>
      let v := Num.mul (Num.mul (numOfInt (a.narrowAt row.1 col.1) (-2)) (Fmt.b16.decode (row.2 - 1))) (Fmt.b16.decode (col.2 - 1))
      a2.addWide r.buf row.1 col.1 r.init v) a1) a
    let d := r.cable.foldl (fun a1 t => a1.addTerm r.buf t) b
    { d with narrow := [], run := { r with init := false, tiles := 0, rowScale := [], colScale := [], cable := [], due := false } }

/-- Promotes where the segment is due, and closes the run after its last tile (R105). The low-rank sums
stay until the run's close is worked off. -/
def MArray.promoteDue (a : MArray) : MArray :=
  let b := if a.run.due then a.promoteSegment else a
  if b.run.closing then { b with run := { b.run with opened := false, due := false, closing := false, touched := [] } } else b

/-! ### The cable path (R197, R205, R211) -/

/-- The outliers of a tile by row: row, k-channel, B16 value and core store offset of the wide row, in
order of row and channel (R197, R205, R211). -/
def State.tileOutliers (s : State) (c : Nat) (t : CableTile) : List (Nat × Nat × Nat × Nat) :=
  let a := storeAt c t.sideBlock
  let nDyn := min (s.leAt a 2) 32
  let nStat := min (s.leAt (a + 2) 1) 4
  let wide := fun i => t.wrow + (128 * t.ktile + i) * 0x800
  let static := (List.range nStat).flatMap (fun q =>
    let ch := s.leAt (a + 4 + q) 1
    (List.range t.rows).map (fun m =>
      (m, ch, s.leAt (a + 0x100 + (q * 128 + m) * 2) 2, if t.compact then t.wrow + (4 * t.ktile + q) * 0x800 else wide ch)))
  let dyn := (List.range nDyn).map (fun e =>
    let w := s.leAt (a + 0x80 + 4 * e) 4
    (w / 512 % 128, w / 4 % 128, w / 65536, wide (w / 4 % 128)))
  let all := static ++ dyn.filter (fun d => decide (d.1 < t.rows))
  (List.range t.rows).flatMap (fun m => (List.range 128).flatMap (fun i =>
    all.filter (fun d => decide (d.1 = m) && decide (d.2.1 = i))))

/-- The contributions of a tile to array `a`. -/
def State.cableTerms (s : State) (c : Nat) (t : CableTile) (a ncols : Nat) : List CableTerm :=
  (s.tileOutliers c t).flatMap (fun d =>
    (List.range ncols).map (fun n =>
      ⟨d.1, n, BitVec.ofNat 16 d.2.2.1, BitVec.ofNat 16 (s.leAt (storeAt c (d.2.2.2 + 2 * (256 * a + n))) 2)⟩))

/-- Works off the contributions of a tile: into the waiting list of its segment, or straight into the
buffer; the values multiplied are counted in `CP_VALUES` (R230). -/
def State.workCable (s : State) (c : Nat) (t : CableTile) : State :=
  if t.hasOutliers then
    let k := s.core c
    let k' := (t.arrays.zip t.cols).foldl (fun j p =>
      let a := j.array p.1
      let terms := s.cableTerms c t p.1 p.2
      j.setArray p.1 (if t.direct then terms.foldl (fun b u => b.addTerm t.buf u) a
        else { a with run := { a.run with cable := a.run.cable ++ terms } })) k
    (s.setCore c k').count (Reg.cpValues c) (s.tileOutliers c t).length
  else s

/-! ### The low-rank unit (R223, R224) -/

/-- Key of the sum A of row m and factor column q. -/
def lrcKey (m q : Nat) : Nat := m * 64 + q

/-- A tile's first stage: every sum A of its rows, in increasing channel (R224). -/
def State.lrcStage (s : State) (c : Nat) (arrays : List Nat) (factor rank rows kv : Nat) (f : Fmt) (act scaleAt : Nat) : State :=
  let u := fun (i q : Nat) => Fmt.b16.decode (s.leAt (storeAt c (factor + 2 * (i * rank + q))) 2)
  let k := s.core c
  let k' := arrays.foldl (fun j a =>
    let m := j.array a
    let sums := (List.range rows).foldl (fun acc row =>
      let xs := s.actRow c act f row kv
      let sx := Fmt.b16.decode (s.leAt (storeAt c (scaleAt + 2 * row)) 2)
      (List.range rank).foldl (fun acc2 q =>
        let old := Fmt.w36.decode (SMap.get 0 acc2 (lrcKey row q)).toNat
        let new := xs.zipIdx.foldl (fun v p => rneW36 (Num.add v (Num.mul (Num.mul p.1 sx) (u p.2 q)))) old
        SMap.set 0 acc2 (lrcKey row q) (BitVec.ofNat 36 (Fmt.w36.encode new))) acc) m.run.lrcA
    j.setArray a { m with run := { m.run with
      lrcA := sums
      lrcRows := (List.range rows).foldl (fun r i => NatSet.put r i true) m.run.lrcRows } }) k
  s.setCore c k'

/-- The close of a run on array `a`: the correction of every entry (R224); the sums are cleared. -/
def State.lrcClose (s : State) (c a : Nat) : State :=
  let k := s.core c
  let m := k.array a
  let r := m.run
  if r.lrcRank = 0 then s
  else
    let v := fun (n q : Nat) => Fmt.b16.decode (s.leAt (storeAt c (r.lrcV + a * 512 * r.lrcRank + 2 * (n * r.lrcRank + q))) 2)
    let m' := r.lrcRows.foldl (fun b row => (List.range r.lrcCols).foldl (fun d n =>
      let corr := (List.range r.lrcRank).foldl (fun x q =>
        rneW36 (Num.add x (Num.mul (Fmt.w36.decode (SMap.get 0 r.lrcA (lrcKey row.1 q)).toNat) (v n q)))) Num.zero
      d.addWide r.buf row.1 n false corr) b) m
    s.setCore c (k.setArray a { m' with run := { m'.run with lrcA := [], lrcRank := 0, lrcV := 0, lrcRows := [], lrcCols := 0 } })

/-- Works off one item of the low-rank unit. -/
def State.workLrc (s : State) (c : Nat) : LrcWork → State
  | .stage _ arrays factor rank rows kv f act scaleAt _ =>
    if rank = 0 then s else s.lrcStage c arrays factor rank rows kv ((Fmt.ofCode f).getD .t4) act scaleAt
  | .close _ arrays _ => arrays.foldl (fun t a => t.lrcClose c a) s

/-- The item with its contribution taken: only its time is left. -/
def LrcWork.spent : LrcWork → LrcWork
  | .stage q a f _ rows kv fmt act sc n => .stage q a f 0 rows kv fmt act sc n
  | .close q _ n => .close q [] n

/-- Works off, in the order of R106, everything that earlier tiles of core c still owe their entries: the
cable path's contributions, the segments that are due, the low-rank sums and closes. Nothing of what is
added depends on when (R126, R231). -/
def State.settle (s : State) (c : Nat) : State :=
  let t1 := (s.core c).cableQ.foldl (fun t q => t.workCable c q) s
  let t2 := t1.modCore c (fun k => { k with
    cableQ := k.cableQ.map (fun q => { q with hasOutliers := false })
    arrays := k.arrays.map MArray.promoteDue })
  let t3 := (t2.core c).lrcQ.foldl (fun t w => t.workLrc c w) t2
  t3.modCore c (fun k => { k with lrcQ := k.lrcQ.map LrcWork.spent })

/-- Promotes the open segment of array `a`, after what is owed to it. -/
def State.promoteArray (s : State) (c a : Nat) : State :=
  s.modCore c (fun k => k.setArray a (k.array a).promoteSegment)

/-- Ends an open run of array `a` that the next tile does not continue (R50, R103): its segment is promoted
and its low-rank correction added at once (assumption 217). -/
def State.endRun (s : State) (c a : Nat) : State :=
  if ((s.core c).array a).run.opened then
    let t := (s.promoteArray c a).lrcClose c a
    t.modCore c (fun k => let m := k.array a; k.setArray a { m with run := Run.none })
  else s

/-- Opens or continues the run of array `a` for a tile (R50, R102, R103). -/
def State.enterRun (s : State) (c a : Nat) (w : IWord) : State :=
  let r := ((s.core c).array a).run
  let code := runCode w
  let first := decide (code = 1) || decide (code = 3)
  if !first && r.opened && decide (r.buf = mulBuf w) && decide (r.fmt = matrixFmt w) then s
  else
    (s.endRun c a).modCore c (fun k =>
      let m := k.array a
      k.setArray a { m with narrow := [], run := { Run.none with opened := true, buf := mulBuf w, fmt := matrixFmt w, init := first && accInit w } })

/-! ### A tile on one array -/

/-- The tile of a T4 segment: exact narrow sums, with the scales that promotion will use (R97, R98,
R138). -/
def MArray.tileT4 (a : MArray) (w : Slot) (rows : List (List Num)) (scales : List Nat) (kv : Nat) (last : Bool) : MArray :=
  let b := rows.zipIdx.foldl (fun a1 row => (List.range w.ncols).foldl (fun a2 n =>
    a2.addNarrow row.2 n (groupInt (-2) ((row.1.zip (w.column false kv n)).map (fun p => Num.mul p.1 p.2)))) a1) a
  let r := b.run
  { b with run := { r with
      tiles := r.tiles + 1
      rowScale := scales.zipIdx.foldl (fun m p => SMap.set 0 m p.2 (p.1 + 1)) r.rowScale
      colScale := (List.range w.ncols).foldl (fun m n => SMap.set 0 m n ((SMap.get 0 w.scales n).toNat + 1)) r.colScale
      due := decide (8 ≤ r.tiles + 1) || last } }

/-- A tile whose groups are promoted as they are formed (R97–R99). -/
def MArray.tileGroups (a : MArray) (w : Slot) (t8 b16 : Bool) (rows : List (List Num)) (scales : List Nat) (kv : Nat) : MArray :=
  let init := a.run.init
  let b := rows.zipIdx.foldl (fun a1 row => (List.range w.ncols).foldl (fun a2 n =>
    (groupsOf b16 row.1 (w.column t8 kv n)).zipIdx.foldl (fun a3 g =>
      let v := Num.mul (Num.mul (groupValue false g.1) (Fmt.b16.decode (scales.getD row.2 0x3f80))) (w.scale n)
      a3.addWide a.run.buf row.2 n (init && decide (g.2 = 0)) v) a2) a1) a
  { b with run := { b.run with init := false } }

/-- A tile in compatibility mode (R109). -/
def MArray.tileCompat (a : MArray) (w : Slot) (rows : List (List Num)) (scales : List Nat) (kv : Nat) : MArray :=
  rows.zipIdx.foldl (fun a1 row => (List.range w.ncols).foldl (fun a2 n =>
    let fresh := a2.run.init && !NatSet.has a2.run.touched (accKey row.2 n)
    let start := if fresh then Num.zero else a2.wideAt a2.run.buf row.2 n
    let v := (row.1.zip (w.column false kv n)).foldl (fun acc p =>
      rneW36 (Num.add acc (rneW36 (Num.mul (Num.mul (Num.mul p.1 p.2) (Fmt.b16.decode (scales.getD row.2 0x3f80))) (w.scale n))))) start
    let a3 := a2.putWide a2.run.buf row.2 n v
    { a3 with run := { a3.run with touched := NatSet.put a3.run.touched (accKey row.2 n) true } }) a1) a

/-! ### The side units' work -/

/-- The cable path of core c does the work of its oldest tile (R211, R221). -/
def State.cableStep (s : State) (c : Nat) : State :=
  (match (s.core c).cableQ with
    | [] => s
    | t :: _ => s.workCable c t).modCore c (fun k => { k with cableQ := k.cableQ.tail })

/-- The low-rank unit of core c does its oldest work (R224, R225). A close follows the promotion and the cable-path
contributions of its run (R106). -/
def State.lrcStep (s : State) (c : Nat) : State :=
  (match (s.core c).lrcQ with
    | .close _ _ _ :: _ => s.settle c
    | w :: _ => s.workLrc c w
    | [] => s).modCore c (fun k => { k with lrcQ := k.lrcQ.tail })

/-- All the work of a core's side units is done. -/
def State.endSideWork (s : State) (c : Nat) : State :=
  (s.core c).lrcQ.foldl (fun u _ => u.lrcStep c) ((s.core c).cableQ.foldl (fun u _ => u.cableStep c) s)

/-! ### Checked tiles (R452–R457) -/

/-- The selection of R452. -/
def checkSelected (seed step core index level : Nat) : Bool :=
  if level = 0 then false
  else if level = 4 then true
  else
    let h := ((seed ^^^ step) * 0x9E3779B1 + core * 0x85EBCA6B + index) % 2 ^ 32
    let h := h ^^^ (h >>> 15)
    let h := h * 0xC2B2AE35 % 2 ^ 32
    let h := h ^^^ (h >>> 13)
    decide (h % 64 < (match level with
      | 1 => 1
      | 2 => 4
      | _ => 16))

/-- A value in absolute terms below or at another, both finite. -/
def absLe (a b : Num) : Bool := !Num.absLt b a

/-- The groups of one row's products over all valid columns (R97). -/
def rowGroups (t8 b16 : Bool) (w : Slot) (row : List Num) (kv : Nat) : List (List Num) :=
  (List.range w.ncols).flatMap (fun n => groupsOf b16 row (w.column t8 kv n))

/-- A of R455: the exact sum of the group values. -/
def rowSum (t4 : Bool) (groups : List (List Num)) : Num :=
  groups.foldl (fun x g => Num.add x (groupValue t4 g)) Num.zero

/-- C of R455, or with `mag` D: the cable path's sum of the row's operands times the checksum weights. -/
def rowCheck (t8 mag : Bool) (w : Slot) (row : List Num) : Num :=
  let sumW := fun (k : Nat) => (List.range w.ncols).foldl (fun x n =>
    rneW36 (Num.add x (if mag then (w.elemFor t8 k n).abs else w.elemFor t8 k n))) Num.zero
  row.zipIdx.foldl (fun x p => rneW36 (Num.add x (rneW36 (Num.mul (if mag then p.1.abs else p.1) (sumW p.2))))) Num.zero

/-- The values that a comparison shows: A, A′ and C (R455, R487). -/
def rowValues (t4 t8 b16 : Bool) (w : Slot) (row : List Num) (kv : Nat) : List Num :=
  let a := rowSum t4 (rowGroups t8 b16 w row kv)
  [a, a, rowCheck t8 false w row]

/-- Whether one row of one array passes its comparison (R456, R457): both passes see the same operands, so
A and A′ are one value here, and faults of the hardware come in with the comparison's close. -/
def rowAgrees (t4 t8 b16 compat : Bool) (w : Slot) (row : List Num) (kv : Nat) : Bool :=
  let groups := rowGroups t8 b16 w row kv
  let a := rowSum t4 groups
  if compat then true
  else
    let cm := rowCheck t8 false w row
    if !a.isFinite || !cm.isFinite then decide (a = cm)
    else if t4 then (Num.add a cm.neg).isZero
    else
      let dm := rowCheck t8 true w row
      if !dm.isFinite then true
      else
        let live := (groups.map (fun g => g.countP (fun p => (liveExp p).isSome))).foldl (· + ·) 0
        let top := (groups.filterMap groupTop).foldl (fun q e => max q e) (-1000)
        let bound := Num.add (.fin false live (top - 3)) (Num.mul dm (.fin false 1 (-19)))
        absLe (Num.add a cm.neg) bound

end Sys2Proof.Machine
end

