-- ==== Sys2Proof/Machine/Switching.lean ====
section
/-! DEFINITION. Halting and switching: which context a core takes next, requests to switch, and the save
image (R68, R72–R79, R719). -/

namespace Sys2Proof.Machine

/-- A context that core c may select: READY, named by its mask, not halted on it (R72). -/
def State.qualifies (s : State) (c x : Nat) : Bool :=
  decide (s.ctxState x = ctxReady) && s.inMask x c && !s.haltedOn c x

/-- The contexts of core c's partition in the cyclic order in which it looks for the next (R72, R719). -/
def State.searchOrder (s : State) (c : Nat) : List Nat :=
  let p := corePartition c
  match (s.core c).resident with
  | none => (List.range 4).map (fun i => 4 * p + i)
  | some x => (List.range 3).map (fun i => 4 * p + (x % 4 + 1 + i) % 4)

/-- The context that core c would take next. -/
def State.nextContext (s : State) (c : Nat) : Option Nat := (s.searchOrder c).find? (s.qualifies c)

/-- Rank of a reason to switch when several arise together (R73). -/
def SwitchReq.rank : SwitchReq → Nat
  | .named _ => 3
  | .gaveUp _ => 2
  | .quantum => 1
  | .select => 0

/-- The request that stands when another arises (R73). -/
def replaceRequest : Option SwitchReq → SwitchReq → Option SwitchReq
  | none, r => some r
  | some q, r => if q.rank ≤ r.rank then some r else some q

/-- A reason to switch arises on core c (R73): before the core has stopped dispatch it replaces a pending
one of no higher rank; later it waits until the switch is complete, by the same rule among those that wait (assumption 211). -/
def State.requestSwitch (s : State) (c : Nat) (r : SwitchReq) : State :=
  s.modCore c (fun k =>
    if k.stopped then { k with waitingSwitch := replaceRequest k.waitingSwitch r }
    else { k with switch_ := replaceRequest k.switch_ r })

/-- A `C.HALT` has been dispatched and its pattern goes no further (R68). -/
def Core.haltDispatched (k : Core) : Bool :=
  k.halted || k.haltAt.isSome || k.qControl.any (fun e => decide (opOf e.word = opHalt)) ||
    k.issued.any (fun i => decide (opOf i.entry.word = opHalt))

/-! ### The save image (R76–R79) -/

/-- Address of the save slot of context x on core c (R76). -/
def saveSlot (c x : Nat) : Nat := saveBase (corePartition c) + (x % 4 * 40 + c % 40) * 0x40_0000

/-- The 8 bytes of an array: slot formats, a nibble each, 15 for an unloaded slot; valid columns; the open run's buffer in bit 24
and `ACC_INIT` in bit 25; its tiles from bit 32 (R77, assumption 53). -/
def arrayWord (m : MArray) : List Byte :=
  let f := fun (w : Slot) => if w.loaded then w.fmt else 15
  [BitVec.ofNat 8 (f m.slot0 + 16 * f m.slot1), BitVec.ofNat 8 m.slot0.nvalidM1, BitVec.ofNat 8 m.slot1.nvalidM1,
   BitVec.ofNat 8 (m.run.buf + 2 * bit m.run.init), BitVec.ofNat 8 m.run.tiles, 0, 0, 0]

/-- An array's block of the image (R77, R78). -/
def arrayBlock (m : MArray) : List Byte :=
  SMap.getList 0 m.slot0.tile 0 0x4000 ++ SMap.getList 0 m.slot1.tile 0 0x4000 ++
    (SMap.getList 0 m.slot0.scales 0 256).flatMap (fun v => leBytes 2 v.toNat) ++
    (SMap.getList 0 m.slot1.scales 0 256).flatMap (fun v => leBytes 2 v.toNat) ++ zeroBytes 0xC00 ++
    (SMap.getList 0 m.narrow 0 0x8000).flatMap (fun v => leBytes 4 (v.signExtend 32).toNat) ++
    (SMap.getList 0 m.wide0 0 0x8000).flatMap (fun v => leBytes 8 v.toNat) ++
    (SMap.getList 0 m.wide1 0 0x8000).flatMap (fun v => leBytes 8 v.toNat)

/-- A queue's 256 bytes. -/
def queueBlock (es : List QEntry) : List Byte := fitTo 256 (es.flatMap (fun e => leBytes 16 e.word.toNat))

/-- The queues in the order of the image. -/
def imageQueues : List Queue := [.matrix, .vector, .gauge, .move, .control]

/-- The save image of a core's context, its check given (R77). -/
def imageWith (k : Core) (x c : Nat) (course : Course) (gen : BitVec 8) (check : List Byte) : List Byte :=
  leBytes 4 0x5356_4358 ++ leBytes 2 1 ++ leBytes 1 x ++ leBytes 1 c ++ leBytes 8 k.pc.toNat ++
    leBytes 8 course.toNat ++ leBytes 1 gen.toNat ++
    leBytes 1 ((List.range 4).foldl (fun v a => v + bit (k.array a).run.opened * 2 ^ a) 0) ++ zeroBytes 6 ++
    (List.range 4).flatMap (fun a => arrayWord (k.array a)) ++
    imageQueues.map (fun q => BitVec.ofNat 8 (k.queue q).length) ++ zeroBytes 59 ++
    (List.range 16).flatMap (fun i => leBytes 8 (k.sreg i).toNat) ++
    imageQueues.flatMap (fun q => queueBlock (k.queue q)) ++ zeroBytes 2552 ++ check ++
    (SMap.getList 0 k.vregs 0 0x4000).flatMap (fun v => leBytes 4 v.toNat) ++
    (List.range 4).flatMap (fun a => arrayBlock (k.array a))

/-- The save image with its check (R77). -/
def imageOf (k : Core) (x c : Nat) (course : Course) (gen : BitVec 8) : List Byte :=
  imageWith k x c course gen (check64 (imageWith k x c course gen (zeroBytes 8)))

/-- Bytes of an image (R77). -/
def imageBytes : Nat := 0x2B_5000

/-- A core without what belongs to its resident context. -/
def Core.cleared (k : Core) : Core :=
  { k with
    resident := none, pc := 0, halted := false, nextSeq := 0, sregs := [], vregs := [], qMatrix := [], qGauge := [],
    qVector := [], qMove := [], qControl := [], issued := [],
    arrays := [MArray.reset, MArray.reset, MArray.reset, MArray.reset], moves0 := [], moves1 := [], moves2 := [],
    moves3 := [], checkIndex := 0, switch_ := none, stopped := false, haltAt := none }

/-- What the image has no place for. -/
def sideOfCore (k : Core) : SideState where
  resident := true
  halted := k.halted
  haltAt := k.haltAt
  pcOverride := none
  tags := imageQueues.flatMap (fun q => (k.queue q).map (fun e => (e.seq, e.pc)))
  runs := k.arrays.map MArray.run
  checkIndex := k.checkIndex
  nextSeq := k.nextSeq

/-- The outgoing context's state is written to its slot (R75). -/
def State.saveContext (s : State) (c : Nat) : State :=
  let k := s.core c
  match k.resident with
  | none => s
  | some x =>
    let t := s.store (saveSlot c x) (imageOf k x c s.course (s.gen (corePartition c)))
    (t.setSide c x (sideOfCore k)).setCore c { k.cleared with switch_ := k.switch_, stopped := k.stopped }

/-- Whether a stored image passes the checks of R79; its `resv` fields (R77) are none of them (assumption 215). -/
def State.imageGood (s : State) (c x : Nat) : Bool :=
  let b := s.load (saveSlot c x) imageBytes
  let zeroed := b.take 0xFF8 ++ zeroBytes 8 ++ b.drop 0x1000
  decide ((b.drop 0xFF8).take 8 = check64 zeroed) && decide (leNat (b.take 4) = 0x5356_4358) &&
    decide (leNat ((b.drop 6).take 1) = x) && decide (leNat ((b.drop 7).take 1) = c) &&
    !s.poisoned (saveSlot c x) imageBytes

/-- An array as an image and the side state hold it. -/
def arrayFrom (word block : List Byte) (opened : Bool) (run : Run) : MArray :=
  let f := fun o n => leNat ((word.drop o).take n)
  let slot := fun (fmt nv at_ sc : Nat) => (⟨decide (fmt ≠ 15), if fmt = 15 then 0 else fmt, nv, SMap.ofList 0 ((block.drop at_).take 0x4000),
    SMap.ofList 0 ((List.range 256).map (fun n => BitVec.ofNat 16 (leNat ((block.drop (sc + 2 * n)).take 2))))⟩ : Slot)
  let wide := fun (at_ : Nat) => SMap.ofList 0 ((List.range 0x8000).map (fun i => BitVec.ofNat 36 (leNat ((block.drop (at_ + 8 * i)).take 8))))
  { slot0 := slot (f 0 1 % 16) (f 1 1) 0 0x8000
    slot1 := slot (f 0 1 / 16) (f 2 1) 0x4000 0x8200
    narrow := SMap.ofList 0 ((List.range 0x8000).map (fun i => BitVec.ofNat 20 (leNat ((block.drop (0x9000 + 4 * i)).take 4))))
    wide0 := wide 0x2_9000
    wide1 := wide 0x6_9000
    run := { run with opened := opened, buf := f 3 1 % 2, init := decide (f 3 1 / 2 % 2 = 1), tiles := f 4 1 } }

/-- The queued instructions of an image, in the order of the image, with their tags. -/
def queuesFrom (b : List Byte) (tags : List (Nat × BitVec 32)) : List (List QEntry) :=
  (imageQueues.zipIdx.foldl (fun (acc : List (List QEntry) × List (Nat × BitVec 32)) q =>
    let n := min (leNat ((b.drop (0x40 + q.2)).take 1)) 16
    let es := (List.range n).map (fun i =>
      let tag := acc.2.getD i (0, 0)
      (⟨tag.1, tag.2, BitVec.ofNat 128 (leNat ((b.drop (0x100 + 256 * q.2 + 16 * i)).take 16))⟩ : QEntry))
    (acc.1 ++ [es], acc.2.drop n)) ([], tags)).1

/-- The incoming context resumes from its image (R75, R77, R719). -/
def State.restoreContext (s : State) (c x : Nat) : State :=
  let b := s.load (saveSlot c x) imageBytes
  let d := s.sideOf c x
  let qs := queuesFrom b d.tags
  let flags := leNat ((b.drop 0x19).take 1)
  let k := s.core c
  let arrays := (List.range 4).map (fun a =>
    arrayFrom ((b.drop (0x20 + 8 * a)).take 8) ((b.drop (0x1_1000 + a * 0xA_9000)).take 0xA_9000) (flags.testBit a)
      (d.runs.getD a Run.none))
  s.setCore c { k with
    resident := some x
    residentSince := s.course
    pc := d.pcOverride.getD (BitVec.ofNat 32 (leNat ((b.drop 8).take 4)))
    halted := d.halted
    haltAt := d.haltAt
    nextSeq := d.nextSeq
    sregs := SMap.ofList 0 ((List.range 16).map (fun i => BitVec.ofNat 64 (leNat ((b.drop (0x80 + 8 * i)).take 8))))
    vregs := SMap.ofList 0 ((List.range 0x4000).map (fun i => BitVec.ofNat 32 (leNat ((b.drop (0x1000 + 4 * i)).take 4))))
    qMatrix := qs.getD 0 []
    qVector := qs.getD 1 []
    qGauge := qs.getD 2 []
    qMove := qs.getD 3 []
    qControl := qs.getD 4 []
    arrays := arrays
    checkIndex := d.checkIndex }

/-- A context that has not been resident since it was loaded starts with no image read (R719). -/
def State.startFresh (s : State) (c x : Nat) : State :=
  s.modCore c (fun k => { k.cleared with
    resident := some x, residentSince := s.course, pc := (s.sideOf c x).pcOverride.getD 0 })

/-- Context x comes onto core c: fresh, or from its image; a bad image faults it and the core chooses
again without it (R75, R79). The pattern counter of the fault is 0: the context's own was not restored (assumption 213). -/
def State.bringIn (s : State) (c x : Nat) : State :=
  if (s.sideOf c x).resident = false then s.startFresh c x
  else if s.imageGood c x then s.restoreContext c x
  else s.contextFault x .saveCheck (.core c 0 0) 0

/-- The request that waited becomes the pending one once a switch is complete (R73). -/
def State.nextRequest (s : State) (c : Nat) : State :=
  s.modCore c (fun k => { k with switch_ := k.waitingSwitch, waitingSwitch := none, stopped := false })

/-- The context that a pending request brings in: the one it names, if that is still READY and of the core's mask, or the
next that qualifies (R72, assumption 212). -/
def State.switchTarget (s : State) (c : Nat) (r : SwitchReq) : Option Nat :=
  match r with
  | .named x => if (decide (s.ctxState x = ctxReady) && s.inMask x c) || decide ((s.core c).resident = some x) then some x else none
  | _ => s.nextContext c

/-- Carries out a pending switch on a core whose issued instructions have completed (R75). -/
def State.doSwitch (s : State) (c : Nat) (r : SwitchReq) : State :=
  match s.switchTarget c r with
  | none => s.nextRequest c
  | some x => if (s.core c).resident = some x then s.nextRequest c else ((s.saveContext c).bringIn c x).nextRequest c

end Sys2Proof.Machine
end

