-- ==== Sys2Proof/Machine/Front.lean ====
section
/-! DEFINITION. The front end: dispatch and the instructions it executes itself (R39–R41, R47, R56). -/

namespace Sys2Proof.Machine

/-- Address of instruction n of a context's pattern. -/
def State.patternAddr (s : State) (x : Nat) (pc : BitVec 32) : Nat :=
  s.fld (Reg.ctxPatternBase x) Fld.ctxPatternBaseBase + 16 * pc.toNat

/-- Instruction n of a context's pattern. -/
def State.patternWord (s : State) (x : Nat) (pc : BitVec 32) : IWord :=
  BitVec.ofNat 128 (leNat (s.load (s.patternAddr x pc) 16))

/-- Whether the front end may dispatch: an active context, and no `C.HALT` dispatched yet (R68). -/
def State.dispatching (s : State) (c : Nat) : Option Nat :=
  match s.activeCtx c with
  | none => none
  | some x => if (s.core c).haltDispatched then none else some x

/-- The queue of a class (R39). -/
def queueOf (w : IWord) : Queue :=
  match bitsOf w 127 124 with
  | 1 => .matrix
  | 2 => .vector
  | 3 => .gauge
  | 4 => .move
  | _ => .control

/-- A pattern granule that is poisoned faults when its instruction is fetched (R253). -/
def State.fetchPoisoned (s : State) (x : Nat) (pc : BitVec 32) : Bool := s.poisoned (s.patternAddr x pc) 16

/-- What dispatch does with a legal word of a queue that has room. -/
def State.enqueue (s : State) (c : Nat) (w : IWord) : State :=
  s.modCore c (fun k =>
    let q := queueOf w
    let k1 := k.setQueue q (k.queue q ++ [⟨k.nextSeq, k.pc, w⟩])
    { k1 with nextSeq := k1.nextSeq + 1, pc := k1.pc + 1 })

/-- `DISPATCH`: the next instruction enters its queue if that holds fewer than 16, or faults (R39, R40,
R47). Words of the front end are dispatched by their own rows. -/
def execDispatch (core : Fin 160) (s : State) : Host.Outcome State Fault Refusal :=
  let c := core.val
  match s.dispatching c with
  | none => .next s
  | some x =>
    let pc := (s.core c).pc
    let w := s.patternWord x pc
    if s.fetchPoisoned x pc then
      .next (s.contextFault x .poisonConsumed (.core c pc w) (s.patternAddr x pc / 64 * 64))
    else if legalWord w = false then .next (s.contextFault x .illegalInstruction (.core c pc w) 0)
    else act s (!frontEnd w && decide (((s.core c).queue (queueOf w)).length < 16)) (s.enqueue c w)

/-- A front-end instruction at the pattern counter: what it does to the core (R41). -/
def execFront (op : Nat × Nat) (effect : IWord → Core → Core) (c : Nat) (s : State) : Host.Outcome State Fault Refusal :=
  match s.dispatching c with
  | none => .next s
  | some x =>
    let pc := (s.core c).pc
    let w := s.patternWord x pc
    act s (!s.fetchPoisoned x pc && legalWord w && decide (opOf w = op)) (s.modCore c (effect w))

/-- `SREG`. -/
def sregOf (w : IWord) : Nat := bitsOf w 95 92
/-- `IMM`. -/
def immOf (w : IWord) : BitVec 64 := BitVec.ofNat 64 (bitsOf w 63 0)
/-- `TARGET`. -/
def targetOf (w : IWord) : BitVec 32 := BitVec.ofNat 32 (bitsOf w 63 32)

/-- `C.SETI`. -/
def execCSeti (core : Fin 160) (s : State) : Host.Outcome State Fault Refusal :=
  execFront opSeti (fun w k => { k.setSreg (sregOf w) (immOf w) with pc := k.pc + 1 }) core.val s

/-- `C.ADDI`. -/
def execCAddi (core : Fin 160) (s : State) : Host.Outcome State Fault Refusal :=
  execFront opAddi (fun w k => { k.setSreg (sregOf w) (k.sreg (sregOf w) + immOf w) with pc := k.pc + 1 }) core.val s

/-- `C.LOOP`. -/
def execCLoop (core : Fin 160) (s : State) : Host.Outcome State Fault Refusal :=
  execFront opLoop (fun w k =>
    let v := k.sreg (sregOf w) - 1
    { k.setSreg (sregOf w) v with pc := if v = 0 then k.pc + 1 else targetOf w }) core.val s

/-- `C.JUMP`. -/
def execCJump (core : Fin 160) (s : State) : Host.Outcome State Fault Refusal :=
  execFront opJump (fun w k => { k with pc := targetOf w }) core.val s

end Sys2Proof.Machine
end

