-- ==== Sys2Proof/Machine/Control.lean ====
section
/-! DEFINITION. Queued control instructions, completion, and the rows by which cores change context
(R55, R56, R63, R68, R72–R75, R719). -/

namespace Sys2Proof.Machine

/-- `C.NOP`. -/
def execCNop (core : Fin 160) (s : State) : Host.Outcome State Fault Refusal :=
  execIssue .control opNop (fun _ _ _ t => .done t) core.val s

/-- `TOKEN` and `AMOUNT` of `C.RAISE` (R56). -/
def execCRaise (core : Fin 160) (s : State) : Host.Outcome State Fault Refusal :=
  execIssue .control opRaise
    (fun c x e t => .done (t.raiseToken c x (bitsOf e.word 95 90) (bitsOf e.word 89 74) (.core c e.pc e.word))) core.val s

/-- A suspect that runs alone has yielded on a core (R518). -/
def State.noteYield (s : State) (c x : Nat) : State :=
  match s.rv.isolation with
  | none => s
  | some i => if i.current = some x then { s with rv := { s.rv with isolation := some { i with yielded := NatSet.put i.yielded c true } } } else s

/-- `C.YIELD`: the core is offered to the next context that qualifies; with none, the resident goes on
(R72). -/
def execCYield (core : Fin 160) (s : State) : Host.Outcome State Fault Refusal :=
  execIssue .control opYield
    (fun c x _ t =>
      let u := t.noteYield c x
      .done (if (u.nextContext c).isSome then u.requestSwitch c (.gaveUp false) else u)) core.val s

/-- `C.HALT`: it issues like any control instruction; the context halts on the core once it has issued and everything before
it has completed (R68). -/
def execCHalt (core : Fin 160) (s : State) : Host.Outcome State Fault Refusal :=
  execIssue .control opHalt (fun _ _ _ t => .done t) core.val s

/-! ### Completion -/

/-- The move that an issued `M.COPY` put into its channel. -/
def Core.moveOf (k : Core) (e : QEntry) : Option MoveOp := (k.channel (mchan e.word)).find? (fun m => decide (m.seq = e.seq))

/-- An issued instruction may complete: a move when its last byte is written and acknowledged (R55), an
`MA.MUL` when its rows have streamed and its side work is done (R114, R226). -/
def Core.mayComplete (k : Core) (i : Issued) : Bool :=
  let w := i.entry.word
  if opOf w = opCopy then
    match k.moveOf i.entry with
    | none => true
    | some m => decide (m.sent = m.len) && decide (m.landed = m.len) && decide (m.acks = 0)
  else if opOf w = opMul then
    !(decide (0 < k.streamLeft) && decide (k.streamSeq = i.entry.seq)) &&
      (!cpEn w || !k.cableQ.any (fun t => decide (t.seq = i.entry.seq))) &&
      !k.lrcQ.any (fun t => match t with
        | .close q _ _ => decide (q = i.entry.seq)
        | .stage _ _ _ _ _ _ _ _ _ _ => false)
  else true

/-- The core after an issued instruction has left: its move's entry is freed and its comparison may close
(R241, R460). -/
def Core.retire (k : Core) (n : Nat) (i : Issued) : Core :=
  let k1 := { k with issued := k.issued.eraseIdx n }
  let k2 := if opOf i.entry.word = opCopy then
      k1.setChannel (mchan i.entry.word) ((k1.channel (mchan i.entry.word)).filter (fun m => decide (m.seq ≠ i.entry.seq)))
    else k1
  { k2 with checks := k2.checks.map (fun d => if d.seq = i.entry.seq ∧ i.queue = .matrix then { d with completed := true } else d) }

/-- The effect of a completion (R63, R68, R105). -/
def State.complete (s : State) (c n : Nat) (i : Issued) : State :=
  let w := i.entry.word
  let isMul := decide (opOf w = opMul) && decide (arrayMask w ≠ 0)
  let s1 := if isMul then s.settle c else s
  let s2 := s1.modCore c (fun k => k.retire n i)
  let s3 := if opOf w = opHalt then s2.modCore c (fun k => { k with haltAt := some i.entry.seq }) else s2
  match (s.core c).resident with
  | none => s3
  | some x =>
    (if raiseAt w = 2 then s3.raiseToken c x (raiseTok w) 1 (.core c i.entry.pc w) else s3).haltIfDry c x

/-- `INSTRUCTION_COMPLETE`: the n-th issued instruction of a core completes. `parity` tells that it met a
parity error of the core's state, which faults its context as a consumed poison does (R476). -/
def execInstructionComplete (core : Fin 160) (n : Nat) (parity : Bool) (s : State) : Host.Outcome State Fault Refusal :=
  let c := core.val
  match (s.core c).issued[n]? with
  | none => .next s
  | some i => act s (s.running && s.coreClear c && (s.core c).mayComplete i)
      (match parity, (s.core c).resident with
        | true, some x => (s.complete c n i).stateParity x c i.entry.pc i.entry.word
        | _, _ => s.complete c n i)

/-! ### Changing context -/

/-- `CONTEXT_SELECT`: a core with no resident, a halted or a faulted one selects a context (R719). -/
def execContextSelect (core : Fin 160) (s : State) : Host.Outcome State Fault Refusal :=
  let c := core.val
  let k := s.core c
  let idle := match k.resident with
    | none => true
    | some x => k.halted || decide (s.ctxState x = ctxFaulted)
  act s (s.running && s.coreClear c && decide (k.switch_ = none) && !k.inWindow && idle && (s.nextContext c).isSome)
    (s.requestSwitch c .select)

/-- `QUANTUM_EXPIRY`: the resident has run for its quantum; a switch is offered if a context qualifies
(R69, R72). -/
def execQuantumExpiry (core : Fin 160) (s : State) : Host.Outcome State Fault Refusal :=
  let c := core.val
  let k := s.core c
  match k.resident with
  | none => .next s
  | some x =>
    let q := s.fld (Reg.ctxControl x) Fld.ctxControlQuantum
    act s (s.running && s.coreClear c && decide (0 < q) && decide (q ≤ coursesSince s.course k.residentSince) &&
        decide (s.ctxState x = ctxReady) && !k.halted && (s.nextContext c).isSome)
      (s.requestSwitch c .quantum)

/-- `CONTEXT_SAVE_RESTORE`: with dispatch stopped and every issued instruction complete, the outgoing
context is saved and the incoming one is read and checked (R75, R79). -/
def execContextSaveRestore (core : Fin 160) (s : State) : Host.Outcome State Fault Refusal :=
  let c := core.val
  let k := s.core c
  match k.switch_ with
  | none => .next s
  | some r => act s (s.running && s.coreClear c && !k.inWindow && decide (k.issued = [])) (s.doSwitch c r)

/-! ### Gaps and the resumption ramp (R120–R123, R675, R678) -/

/-- The array duty that core c draws now: the throttle duty while it streams, its tension duty in a gap. -/
def State.drawnDuty (s : State) (c : Nat) : Nat :=
  if (s.core c).gapSince.isSome then (s.core c).tensionDuty else s.fld Reg.pmStatus Fld.pmStatusDuty

/-- The mean array duty of a partition's cores, in sixteenths. -/
def State.meanDuty (s : State) (p : Nat) : Nat := ((coresOfPartition p).map s.drawnDuty).foldl (· + ·) 0 / 40

/-- The course in which a fall of duty `d` of core c ends that begins 16 courses from now (R120). -/
def State.fallEnd (s : State) (d : Nat) : Course := s.course + 16 + BitVec.ofNat 48 ((s.stitch + (d - 1) * (2560 / d)) / 2560)

/-- The duty from which core c's tension falls (R120, R682). -/
def State.fallFrom (s : State) (c : Nat) : Nat := min (s.core c).tensionDuty (s.fld Reg.pmStatus Fld.pmStatusDuty)

/-- `GAP_FOREWARNING`: the gap of a core has reached 16 courses; the fall of its partition's rail is
forewarned unless an event of R123 lies 33 courses ahead or fewer (R120, R678). A gap whose tension has fallen, or never ran,
by its 32nd course has no step to come. A second core's gap under a fall code prolongs it to the end of its own fall; under a
rise code it waits for the pins, and its fall with it (assumption 210). -/
def execGapForewarning (core : Fin 160) (s : State) : Host.Outcome State Fault Refusal :=
  let c := core.val
  let p := corePartition c
  let k := s.core c
  let t := s.setCore c { k with forewarned := true, fallDue := s.cycleNo + 16 * 2560 }
  let e := s.fallEnd (s.fallFrom c)
  act s (s.running && s.gapReached c 16 && !k.forewarned && !k.tensionFalling && !s.tensionFallen c &&
      decide (s.eventWithin p 33 = none) && (decide (s.lstep p = 0) || s.fallShown p))
    (if s.fallShown p then t.keepForewarning p e else t.showForewarning p false (s.meanDuty p) e)

/-- `TENSION_FALL`: at 32 courses of a forewarned gap the tension duty makes its first step down (R120). -/
def execTensionFall (core : Fin 160) (s : State) : Host.Outcome State Fault Refusal :=
  let c := core.val
  let k := s.core c
  let d := s.fallFrom c
  act s (s.running && s.gapReached c 32 && k.forewarned && decide (k.fallDue ≤ s.cycleNo) && !k.tensionFalling && decide (0 < d))
    (s.setCore c { k with
      recentDuty := d, tensionDuty := d - 1, tensionFalling := decide (1 < d), tensionNext := s.cycleNo + 2560 / d })

/-- `TENSION_STEP_DOWN`: each later step of the fall (R120). -/
def execTensionStepDown (core : Fin 160) (s : State) : Host.Outcome State Fault Refusal :=
  let c := core.val
  let k := s.core c
  act s (s.running && k.tensionFalling && decide (k.tensionNext ≤ s.cycleNo))
    (s.setCore c { k with
      tensionDuty := k.tensionDuty - 1, tensionFalling := decide (1 < k.tensionDuty),
      tensionNext := k.tensionNext + 2560 / k.recentDuty })

/-- `STREAM_RAMP_STEP`: the grant of a core rises by one sixteenth every 768 stitches (R122). -/
def execStreamRampStep (core : Fin 160) (s : State) : Host.Outcome State Fault Refusal :=
  let c := core.val
  let k := s.core c
  act s (s.running && decide (k.grantDuty < 16) && decide (k.grantNext ≤ s.cycleNo))
    (s.setCore c { k with grantDuty := k.grantDuty + 1, grantNext := k.grantNext + 768 })

/-- The course of an event of R123 on partition p, 16 courses ahead or fewer, that is not forewarned yet. -/
def State.unwarnedEvent (s : State) (p : Nat) : Option Course :=
  (s.eventsWithin p 16).find? (fun e => !reached s.course e && !(SMap.get [] s.pm.fullGrant p).contains e)

/-- A rise is forewarned on partition p. -/
def State.riseShown (s : State) (p : Nat) : Bool := decide (12 ≤ s.lstep p)

/-- The falls of partition p's cores that are forewarned and have not begun are withdrawn, for an event that is armed under
their code (R121, R678, assumption 210). -/
def State.withdrawFalls (s : State) (p : Nat) : State :=
  let held := (coresOfPartition p).filter (fun c =>
    (s.core c).forewarned && !(s.core c).tensionFalling && decide (0 < (s.core c).tensionDuty))
  if s.fallShown p && !held.isEmpty then
    (held.foldl (fun t c => t.modCore c (fun k => { k with forewarned := false })) s).count (Reg.pmWithdrawn (coreRail p)) 1
  else s

/-- `EVENT_FOREWARNING`: 16 courses before an event of R123 the rise of a partition's rail is forewarned,
and the stream is granted in full from the event's course (R123, R675). A rise code already shown for an event just before
stands until after this one, and a fall code gives way to the rise code, with the falls that have not begun (assumption 210). -/
def execEventForewarning (p : Fin 4) (s : State) : Host.Outcome State Fault Refusal :=
  match s.unwarnedEvent p.val with
  | none => .next s
  | some e =>
    let t := if s.riseShown p.val then s.keepForewarning p.val e
      else (s.withdrawFalls p.val).showForewarning p.val true (s.fld Reg.pmStatus Fld.pmStatusDuty - s.meanDuty p.val) e
    act s s.running
      { t with pm := { t.pm with fullGrant := SMap.set [] t.pm.fullGrant p.val (SMap.get [] t.pm.fullGrant p.val ++ [e]) } }

/-- `LSTEP_CLEAR`: the pins return to 0b0000 at the start of the second course after the step (R675). -/
def execLstepClear (p : Fin 4) (s : State) : Host.Outcome State Fault Refusal :=
  match SMap.get none s.pm.clearAt p.val with
  | none => .next s
  | some a => act s (s.running && reached s.course a) (s.clearLstep p.val)

end Sys2Proof.Machine
end

