-- ==== Sys2Proof/Machine/Moves.lean ====
section
/-! DEFINITION. Moves and remote raises (R54–R56, R64, R233–R235, R241, R285, R302, R307, R726). -/

namespace Sys2Proof.Machine

/-- An extent that a move of context x on core c may name on this device: R232, R265 and the isolation
policy; and, in a core store window, R71 and R235. -/
def State.localExtentOk (s : State) (x c : Nat) (w : IWord) : Bool :=
  s.localMoveOk x (mdev w) (mlen w) && s.storeSideOk x c (mdir w) (mdev w) (mlen w)

/-- Whether every address that a move names is admitted (R71, R233, R235, R726). -/
def State.moveAdmitted (s : State) (x c : Nat) (w : IWord) : Bool :=
  s.inAllotment x (mcore w) (mlen w) && s.inExtents (mcoord w) &&
    (if mcoord w = s.logical then s.localExtentOk x c w else remoteRange (mdev w) (mlen w))

/-- The entry that a move takes in its channel's list (R57, R241). -/
def moveEntry (s : State) (c : Nat) (e : QEntry) : MoveOp where
  seq := e.seq
  toGlobal := mdir e.word
  coreAddr := storeAt c (mcore e.word)
  devAddr := mdev e.word
  coord := (mcoord e.word).toNat
  remote := decide (mcoord e.word ≠ s.logical)
  len := mlen e.word
  sent := 0
  landed := 0
  acks := 0

/-- `M.COPY` (R54): the move's addresses are tested and it enters its channel's list; a diagnosis context
moves nothing to or from another device (R402). -/
def execMCopy (core : Fin 160) (s : State) : Host.Outcome State Fault Refusal :=
  execIssue .move opCopy
    (fun c x e t =>
      if !t.moveAdmitted x c e.word then .fault .address (mdev e.word)
      else if t.isDiag x && decide (mcoord e.word ≠ t.logical) then .done t
      else .done (t.modCore c (fun k =>
        k.setChannel (mchan e.word) (k.channel (mchan e.word) ++ [moveEntry t c e])))) core.val s

/-! ### The transfer -/

/-- The place of the move of a channel's list that goes on: the first that has not sent all, all before it having sent
all (R241). -/
def nextMove (ms : List MoveOp) : Option Nat := ms.findIdx? (fun m => decide (m.sent < m.len))

/-- Bytes that the channel of a move has asked for or sent and that have not come or been acknowledged, of other devices or of
controllers that hold the requests (R242, R302, R534). -/
def Core.bytesOut (k : Core) (seq : Nat) (writes : Bool) : Nat :=
  (((List.range 4).map k.channel).filter (fun ms => ms.any (fun d => decide (d.seq = seq)))).flatten.foldl
    (fun n d => if d.toGlobal == writes then n + (d.sent - d.landed) else n) 0

/-- Sends the `n` bytes at a device address of this device as `WRITE` packets of at most 4 KiB to an
address of another device (R54, R285, R307). -/
def State.sendWrites (s : State) (tc : BitVec 2) (coord : BitVec 15) (dstEp srcEp : BitVec 8) (src dst n : Nat)
    (owner : Owner) : State :=
  (List.range ((n + 4095) / 4096)).foldl (fun t i =>
    let len := min 4096 (n - 4096 * i)
    t.sendReliable
      (t.packetTo tyWrite tc (t.physOf coord) dstEp srcEp (BitVec.ofNat 42 ((dst + 4096 * i) / 64))
        (t.poisonWord (src + 4096 * i) len) (t.load (src + 4096 * i) len))
      (.memory (src + 4096 * i)) owner (some coord) none) s

/-- The payload of a `READ_REQ` (R282): tag, granules − 1 and return address bits [47:6]. -/
def readReqPayload (tag : BitVec 16) (granules ret : Nat) : List Byte :=
  beBytes 8 (tag.toNat * 2 ^ 48 + (granules - 1) % 64 * 2 ^ 42 + ret / 64 % 2 ^ 42)

/-- Asks another device for `n` bytes, in requests of at most 64 granules (R282, R302). -/
def State.sendReads (s : State) (coord : BitVec 15) (srcEp : BitVec 8) (src ret n : Nat) (purpose : ReadFor) : State :=
  (List.range ((n + 4095) / 4096)).foldl (fun t i =>
    let len := min 4096 (n - 4096 * i)
    let tag := t.fab.nextTag
    let u := { t with fab := { t.fab with
      nextTag := tag + 1, reads := t.fab.reads ++ [(⟨tag, purpose, len / 64⟩ : ReadWait)] } }
    u.sendReliable
      (u.packetTo tyReadReq tcCT (u.physOf coord) (endpointOf (src + 4096 * i)) srcEp
        (BitVec.ofNat 42 ((src + 4096 * i) / 64)) 0 (readReqPayload tag (len / 64) (ret + 4096 * i)))
      .literal (.read tag.toNat) (some coord) none) s

/-- Changes a move of a channel, found by its order number. -/
def Core.modMove (k : Core) (seq : Nat) (f : MoveOp → MoveOp) : Core :=
  (List.range 4).foldl (fun q n =>
    q.setChannel n ((q.channel n).map (fun m => if m.seq = seq then f m else m))) k

/-! ### Request credits (R242, R525, R532–R534) -/

/-- The pool of a device address: an HBM pseudo-channel, or a DDR5 channel from 1,024 on (R244, R248). -/
def memPool (a : Nat) : Option Nat :=
  if a < 0x100_0000_0000 then some (a / 0x40_0000_0000 * 256 + a / 256 % 256)
  else if inTier a then
    let o := a - 0x1000_0000_0000
    some (1024 + o / 0x180_0000_0000 * 3 + o % 0x180_0000_0000 / 256 % 3)
  else none

/-- Credits of a pool, for reads and for writes each. -/
def poolSize (pool : Nat) : Nat := if pool < 1024 then 64 else 128

/-- Requests of one direction that are outstanding at a pool's controller from a source: the link of a partition's compute die. -/
def State.outstanding (s : State) (pool : Nat) (writes : Bool) (source : Nat) : Nat :=
  s.rv.requests.countP (fun r => decide (memPool r.devAddr = some pool) && (r.data.isSome == writes) &&
    decide (corePartition r.core = source))

/-- Credits of a pool that no request holds: with those outstanding they make up the pool (R525). -/
def State.poolFree (s : State) (pool : Nat) (writes : Bool) : Nat :=
  poolSize pool - ((List.range 4).map (s.outstanding pool writes)).foldl (· + ·) 0

/-- A source may issue a request: its share, a sixth of the pool for each of the four links and the two I/O dies, is not used up,
or the shares of sources that have none outstanding are lent to it (assumption 247). -/
def State.hasCredit (s : State) (pool : Nat) (writes : Bool) (source : Nat) : Bool :=
  let kept := ((List.range 4).filter (· ≠ source)).map (fun j =>
    let n := s.outstanding pool writes j
    if n = 0 then 0 else max n (poolSize pool / 6))
  decide (s.outstanding pool writes source + kept.foldl (· + ·) 0 < poolSize pool)

/-- The next granule of a local move whose memory is in part in reset: it is copied where its own controller works, and otherwise
asked of the controller that holds it, with a credit of the channel and one of the pool (R242, R534). -/
def State.requestGranule (s : State) (c seq : Nat) : Option State :=
  match ((List.range 4).flatMap (s.core c).channel).find? (fun m => decide (m.seq = seq)) with
  | none => none
  | some m =>
    let near := m.coreAddr + m.sent
    let far := m.devAddr + m.sent
    if m.len ≤ m.sent then none
    else if !s.memWaits far 64 then
      let t := if m.toGlobal then s.copyBytes near far 64 else s.copyBytes far near 64
      some (t.modCore c (fun k => k.modMove seq (fun d => { d with sent := d.sent + 64, landed := d.landed + 64 })))
    else match memPool far with
      | none => none
      | some pool =>
        if (s.core c).bytesOut seq m.toGlobal < 2048 ∧ s.hasCredit pool m.toGlobal (corePartition c) = true then
          let r : MemRequest := {
            core := c, seq := seq, tag := (s.gen (corePartition c)).toNat, coreAddr := near, devAddr := far
            data := if m.toGlobal then some (s.load near 64, s.poisoned near 64) else none }
          some ({ s with rv := { s.rv with requests := s.rv.requests ++ [r] } }.modCore c
            (fun k => k.modMove seq (fun d => { d with sent := d.sent + 64 })))
        else none

/-- A local move goes on granule by granule as far as it may. -/
def State.requestAll (s : State) (c seq : Nat) : Nat → State
  | 0 => s
  | n + 1 => match s.requestGranule c seq with
    | none => s
    | some t => t.requestAll c seq n

/-- A queued request is performed once its controller has left reset: a write with its data; a read whose requester has been
reset is answered in vain (R508, R516, R532, R534). -/
def State.performRequest (s : State) (r : MemRequest) : State :=
  let landed := fun (t : State) => t.modCore r.core (fun k => k.modMove r.seq (fun d => { d with landed := d.landed + 64 }))
  let p := corePartition r.core
  if s.memWaits r.devAddr 64 then { s with rv := { s.rv with requests := s.rv.requests ++ [r] } }
  else match r.data with
    | some (bs, bad) => landed (s.storeCopied r.devAddr bs [bad])
    | none =>
      if (s.gen p).toNat ≠ r.tag then s.count (Reg.genStaleP p) 1
      else if ((List.range 4).flatMap (s.core r.core).channel).any (fun m => decide (m.seq = r.seq)) then
        landed (s.copyBytes r.devAddr r.coreAddr 64)
      else s

/-- The requests queued at controllers that work are performed, in their order of arrival. -/
def State.performRequests (s : State) : State :=
  s.rv.requests.foldl State.performRequest { s with rv := { s.rv with requests := [] } }

/-- Transfers a move: on this device it copies its bytes, poison with them (R252), as far as no controller in reset holds its
requests (R534); to another device it
sends `WRITE` packets of class PT, and from another device it asks for reads, as far as the channel has credits, 32
granules' worth of each (R54, R241, R242, R302). -/
def State.transfer (s : State) (c : Nat) (m : MoveOp) : State :=
  let ep := BitVec.ofNat 8 c
  let coord := BitVec.ofNat 15 m.coord
  if !m.remote then
    if s.memWaits m.devAddr m.len then s.requestAll c m.seq (m.len / 64)
    else
      let n := m.len - m.sent
      let near := m.coreAddr + m.sent
      let far := m.devAddr + m.sent
      let t := if m.toGlobal then s.copyBytes near far n else s.copyBytes far near n
      t.modCore c (fun k => k.modMove m.seq (fun d => { d with sent := d.sent + n, landed := d.landed + n }))
  else if m.toGlobal then
    let n := min (m.len - m.sent) (2048 - (s.core c).bytesOut m.seq true)
    (s.modCore c (fun k => k.modMove m.seq (fun d =>
      { d with sent := d.sent + n, acks := d.acks + (n + 4095) / 4096 }))).sendWrites
        tcPT coord (endpointOf m.devAddr) ep (m.coreAddr + m.sent) (m.devAddr + m.sent) n (.move c m.seq)
  else
    let n := min (m.len - m.sent) (2048 - (s.core c).bytesOut m.seq false)
    (s.modCore c (fun k => k.modMove m.seq (fun d => { d with sent := d.sent + n }))).sendReads
      coord ep (m.devAddr + m.sent) (m.coreAddr + m.sent) n (.move c m.seq)

/-- `MOVE_TRANSFER`: a channel goes on with its next move once the one before it has sent its last request or
byte (R241); none begins in a partition that a rail fault has fenced (R673). -/
def execMoveTransfer (core : Fin 160) (channel : Fin 4) (s : State) : Host.Outcome State Fault Refusal :=
  let c := core.val
  let ms := (s.core c).channel channel.val
  match nextMove ms with
  | none => .next s
  | some i =>
    match ms[i]? with
    | none => .next s
    | some m => act s (s.running && s.coreClear c && !NatSet.has s.pm.fenced (corePartition c)) (s.transfer c m)

/-! ### Stopping a core (R402, R506) -/

/-- An issued instruction completes at a stop: a move within the device lands what is left of it, and one to or
from another device is abandoned (R506). -/
def State.finishIssued (s : State) (c : Nat) (i : Issued) : State :=
  match (s.core c).moveOf i.entry with
  | none => s
  | some m => if !m.remote && decide (m.sent < m.len) then s.transfer c m else s

/-- Issued instructions of core c complete, with the work that they left the side units, and queued ones are discarded (R506).
Each completion raises its token and settles its run as at any time; the token is set to 0 after it. -/
def State.drainCore (s : State) (c : Nat) : State :=
  let t := ((s.core c).issued.foldl (fun u i => u.finishIssued c i) (s.freeStream c)).endSideWork c
  let u := (List.range (t.core c).issued.length).foldl (fun v _ =>
    match (v.core c).issued[0]? with
    | none => v
    | some i => v.complete c 0 i) t
  u.modCore c (fun k => { k with
    qMatrix := [], qGauge := [], qVector := [], qMove := [], qControl := [], moves0 := [], moves1 := [], moves2 := [],
    moves3 := [], issued := [], cableQ := [], lrcQ := [], haltAt := none })

/-- Context x halts on one core, with what it queued there discarded. -/
def State.stopOn (s : State) (c x : Nat) : State :=
  if (s.core c).resident = some x then (s.drainCore c).modCore c (fun k => { k with halted := true })
  else s.setSide c x { s.sideOf c x with halted := true, haltAt := none, tags := [] }

/-! ### Remote raises -/

/-- `ADDR` of a `RAISE` packet (R282). -/
def raiseAddr (ctx tok amount : Nat) : BitVec 42 :=
  BitVec.ofNat 42 (ctx % 16 * 2 ^ 38 + tok % 64 * 2 ^ 32 + amount % 2 ^ 16 * 2 ^ 16)

/-- Sends a CT `RAISE` to a core of the device at a logical coordinate. -/
def State.sendRaise (s : State) (coord : BitVec 15) (core ctx tok amount : Nat) (srcEp : BitVec 8) (owner : Owner) : State :=
  s.sendReliable (s.packetTo tyRaise tcCT (s.physOf coord) (BitVec.ofNat 8 core) srcEp (raiseAddr ctx tok amount) 0 [])
    .literal owner (some coord) none

/-- `C.RRAISE` (R56): a CT packet to the core named; a coordinate outside the torus extents faults
(R726); a diagnosis context sends nothing (R402). -/
def execCRraise (core : Fin 160) (s : State) : Host.Outcome State Fault Refusal :=
  execIssue .control opRraise
    (fun c x e t =>
      let w := e.word
      let coord := BitVec.ofNat 15 (bitsOf w 95 81)
      if !t.inExtents coord then .fault .address 0
      else if t.isDiag x && decide (coord ≠ t.logical) then .done t
      else .done (t.sendRaise coord (bitsOf w 80 73) (bitsOf w 72 69) (bitsOf w 68 63) (bitsOf w 62 47)
        (BitVec.ofNat 8 c) (.rraise c x e.seq))) core.val s

end Sys2Proof.Machine
end

