-- ==== Sys2Proof/Machine/Notice.lean ====
section
/-! DEFINITION. What a new fault record means for the job: the descriptors it loses and the abort it causes
(R305, R323, R337, R338, R498). -/

namespace Sys2Proof.Machine

/-- Every link and device that minimal dimension-order routing crosses from `c` to `target` is free of the
fault map. -/
def State.minimalClear (s : State) : Nat → BitVec 15 → BitVec 15 → Bool
  | 0, _, _ => true
  | k + 1, c, target =>
    match (List.range 3).find? (fun d => decide (coordAt c d ≠ coordAt target d)) with
    | none => true
    | some d =>
      let n := s.extent d
      let up := (coordAt target d + n - coordAt c d) % n
      let port := if 2 * up ≤ n then 2 * d else 2 * d + 1
      let c' := s.neighbour c port
      !s.portLinkFailed c port && !s.deviceFailed c' && s.minimalClear k c' target

/-- The path between two members of axis k, from where they stand (R297, R323). -/
def State.pathClear (s : State) (k p q : Nat) : Bool :=
  let a := (s.physOf (s.memberAt k p)).1
  let b := (s.physOf (s.memberAt k q)).1
  !s.deviceFailed a && s.minimalClear 96 a b

/-- The links that a path from `c` to `target` crosses, each as the coordinate and torus port by which it leaves: minimal
dimension-order, or by the routes of R300. -/
def State.hops (s : State) (routed : Bool) : Nat → BitVec 15 → BitVec 15 → List (BitVec 15 × Nat)
  | 0, _, _ => []
  | k + 1, c, target =>
    match (List.range 3).find? (fun d => decide (coordAt c d ≠ coordAt target d)) with
    | none => []
    | some d =>
      let n := s.extent d
      let up := (coordAt target d + n - coordAt c d) % n
      let direct := if 2 * up ≤ n then 2 * d else 2 * d + 1
      let port := if routed then ((s.nextPort c target).getD none).getD direct else direct
      (c, port) :: s.hops routed k (s.neighbour c port) target

/-- A fault record names a link of a path, or a device on it. -/
def State.namedOn (s : State) (r : BitVec 64) (path : List (BitVec 15 × Nat)) : Bool :=
  path.any (fun h =>
    let n := s.neighbour h.1 h.2
    if frKind r = 1 then decide (frCoord r = h.1) || decide (frCoord r = n)
    else decide (frCoord r = if h.2 % 2 = 0 then h.1 else n) && decide (frPort r = h.2 / 2 * 2))

/-- A record names a link or device on the path between two members of axis k: the direct path, and where that crosses a
failure the route that R300 finds (R323, R337). -/
def State.namedBetween (s : State) (r : BitVec 64) (k p q : Nat) : Bool :=
  let a := (s.physOf (s.memberAt k p)).1
  let b := (s.physOf (s.memberAt k q)).1
  s.namedOn r (s.hops false 96 a b) || (!s.pathClear k p q && s.namedOn r (s.hops true 96 a b))

/-- Consecutive members of a running descriptor: neighbours in its order, and the last with the first on a
ring. -/
def Running.pairs (r : Running) : List (Nat × Nat) :=
  r.members.zip (r.members.drop 1 ++ (if r.line then [] else r.members.take 1))

/-- A running descriptor is LOST: it is counted, and the step aborts (R337, R338). -/
def State.loseAt (s : State) (i : Nat) : State :=
  match s.ce.running[i]? with
  | none => s
  | some r =>
    if r.lost || r.completed then s
    else
      let t := { s with ce := { s.ce with running := s.ce.running.set i { r with lost := true } } }
      (t.count (Reg.ceLost r.ctx) 1).abortStep 6 t.jobStep

/-- The logical coordinates of the torus. -/
def State.coordinates (s : State) : List (BitVec 15) :=
  (List.range (s.extent 0)).flatMap (fun x => (List.range (s.extent 1)).flatMap (fun y =>
    (List.range (s.extent 2)).map (fun z => BitVec.ofNat 15 (x * 1024 + y * 32 + z))))

/-- A device record names a device of the job: the place of one of its logical coordinates. -/
def State.namesJobDevice (s : State) (c : BitVec 15) : Bool :=
  s.coordinates.any (fun l => decide (s.physOf l = (c, false)))

/-- A link lies on a ring of the job: its dimension carries an axis of more than one member, and a run of an
`INNER` axis alone has no wrap link (R323, R346). -/
def State.onJobRing (s : State) (c : BitVec 15) (d : Nat) : Bool :=
  (List.range 5).any (fun k =>
    decide ((s.axis k).dim = d) && decide (2 ≤ (s.axis k).extent) &&
      (!(s.axis k).inner || decide ((s.axis k).extent ≠ s.extent d) || decide (coordAt c d + 1 ≠ s.extent d)))

/-- What follows when a record is new: the step aborts if it names a device of the job or a link on one of its
rings (R498), and descriptors are LOST whose path between consecutive members it breaks (R337). `before` is
the state without the record. -/
def State.noticeFault (s before : State) (r : BitVec 64) : State :=
  let hits := s.job.loaded &&
    (if frKind r = 1 then s.namesJobDevice (frCoord r) else s.onJobRing (frCoord r) (frPort r / 2))
  let t := if hits then s.abortStep 8 s.jobStep else s
  (List.range t.ce.running.length).foldl (fun u i =>
    match u.ce.running[i]? with
    | none => u
    | some d =>
      if !d.silent && d.pairs.any (fun p => before.namedBetween r d.desc.axis p.1 p.2) then u.loseAt i
      else u) t

/-- Stores, floods and acts on a fault record, if its fault is new. -/
def State.takeFault (s : State) (r : BitVec 64) (except : Option Nat) : State :=
  match s.floodFault r except with
  | (t, true) => t.noticeFault s r
  | (t, false) => t

/-- A fault that this device finds itself: recorded, flooded and acted on if it is new (R305). -/
def State.findFault (s : State) (kind : Nat) (coord : BitVec 15) (port : Nat) : State :=
  let r := faultRecord kind coord port s.phys s.fab.ownRecords
  let t := s.ownFault kind coord port
  if s.fab.faultMap.any (sameFault r) then t else t.noticeFault s r

end Sys2Proof.Machine
end

