-- ==== Sys2Proof/Machine/Wire.lean ====
section
/-! DEFINITION. What stands on the wire of a Parium link: header bytes, sealed packets, flits, block tags, code words and
lanes (R9, R272, R273, R280, R281, R287–R289, R624). -/

namespace Sys2Proof.Machine

/-! ### Packets (R280, R281) -/

/-- The 256 bits of a packet's header; the `resv` bit is 0 (R281). -/
def headerNumber (p : Packet) : Nat :=
  p.ty.toNat * 2 ^ 252 + p.tc.toNat * 2 ^ 250 + bit p.phase * 2 ^ 249 + bit p.retx * 2 ^ 248 + p.dst.toNat * 2 ^ 233 +
    bit p.dstSide * 2 ^ 232 + p.dstEp.toNat * 2 ^ 224 + p.src.toNat * 2 ^ 209 + bit p.srcSide * 2 ^ 208 + p.srcEp.toNat * 2 ^ 200 +
    p.mid.toNat * 2 ^ 185 + p.payload.length % 2 ^ 13 * 2 ^ 172 + p.stamp.toNat * 2 ^ 164 + p.gen.toNat * 2 ^ 156 +
    p.epoch.toNat * 2 ^ 140 + p.e2eSeq.toNat * 2 ^ 108 + bit p.start * 2 ^ 107 + p.addr.toNat * 2 ^ 64 + p.poison.toNat

/-- The header's bytes, big-endian (R9, R281). -/
def headerBytes (p : Packet) : List Byte := beBytes 32 (headerNumber p)

/-! ### Sealing (R287–R289, R624) -/

/-- L_i of a link secret L (R624). -/
def linkSecretAt (secret : List Byte) : Nat → List Byte
  | 0 => secret
  | i + 1 => derive (linkSecretAt secret i) "LINK NEXT" 64 []

/-- The key of index i in the direction that the end with the lower identity key sends (`low`), or in the other. -/
def linkKey (secret : List Byte) (low : Bool) (i : Nat) : List Byte :=
  derive (linkSecretAt secret i) (if low then "LINK LO" else "LINK HI") 32 []

/-- Its salt. -/
def linkSalt (secret : List Byte) (low : Bool) (i : Nat) : List Byte :=
  derive (linkSecretAt secret i) (if low then "SALT LO" else "SALT HI") 4 []

/-- A packet as it travels: header bytes 0–3 in clear, the rest of the header and the payload encrypted, and the tag
(R287, R288). -/
def sealPacket (key salt : List Byte) (count : BitVec 64) (p : Packet) : List Byte :=
  let h := headerBytes p
  h.take 4 ++ fitTo (44 + p.payload.length)
    (Config.gcmSeal key (salt ++ beBytes 8 count.toNat) (h.take 4) (h.drop 4 ++ p.payload))

/-- A `SESSION` packet travels before a key is agreed: in clear, its tag bytes 0 (assumption 67). -/
def clearPacket (p : Packet) : List Byte := headerBytes p ++ p.payload ++ zeroBytes 16

/-- The 16 tag bytes of a travelling packet. -/
def packetTag (p : Packet) (bytes : List Byte) : List Byte := (bytes.drop (32 + p.payload.length)).take 16

/-- The mask of a stomp (R289). -/
def stompMask : List Byte := (List.replicate 4 [0x53, 0x54, 0x4F, 0x4D]).flatten

/-- A stomped tag. -/
def stomped (tag : List Byte) : List Byte := xorBytes tag stompMask

/-- A travelling packet with its tag stomped. -/
def stompPacket (p : Packet) (bytes : List Byte) : List Byte := bytes.take (32 + p.payload.length) ++ stomped (packetTag p bytes)

/-- Flit i of a travelling packet; what its last flit leaves free is 0 (R280). -/
def flitBytes (bytes : List Byte) (i : Nat) : List Byte := fitTo 64 (bytes.drop (64 * i))

/-! ### The block tag (R273) -/

/-- One bit of CRC-32, least significant bit first. -/
def crcBit (c : BitVec 32) : BitVec 32 := if c.getLsbD 0 then (c >>> 1) ^^^ 0xEDB8_8320 else c >>> 1

/-- CRC-32 of IEEE 802.3 over bytes, polynomial 0x04C1_1DB7 (assumption 225). -/
def crc32 (bs : List Byte) : BitVec 32 :=
  ~~~ (bs.foldl (fun c b => Nat.repeat crcBit 8 (c ^^^ b.zeroExtend 32)) (0xFFFF_FFFF : BitVec 32))

/-- Tag bits [79:32] of a block; `resv` is 0. -/
def tagNumber (b : Block) : Nat :=
  b.seq.toNat * 2 ^ 36 + b.ack.toNat * 2 ^ 24 + bit b.nak * 2 ^ 23 + bit b.resync * 2 ^ 22 + b.crVc.toNat * 2 ^ 19 +
    b.crTotal.toNat * 2 ^ 9 + bit b.keyPhase * 2 ^ 8

/-- The ten tag bytes of a block that carries these flits, `CRC` last. -/
def tagBytes (b : Block) (flits : List Byte) : List Byte :=
  let t := beBytes 6 (tagNumber b)
  t ++ beBytes 4 (crc32 (flits ++ t)).toNat

/-! ### RS(544,514) over GF(2^10) (R272, assumption 226) -/

/-- Multiplication by α in GF(2^10) of x^10 + x^3 + 1. -/
def rsTwice (x : BitVec 10) : BitVec 10 := if x.getLsbD 9 then (x <<< 1) ^^^ 0x009 else x <<< 1

/-- The product in GF(2^10). -/
def rsMul (a b : BitVec 10) : BitVec 10 :=
  (List.range 10).foldl (fun v i => rsTwice v ^^^ (if b.getLsbD (9 - i) then a else 0)) 0

/-- The generator polynomial: the product of x − α^j for j from 0 to 29, highest coefficient first. -/
def rsGenerator : List (BitVec 10) :=
  (List.range 30).foldl (fun g j =>
    List.zipWith (· ^^^ ·) (g ++ [0]) (0 :: g.map (rsMul (Nat.repeat rsTwice j 1)))) [1]

/-- The 30 parity symbols of 514 data symbols. -/
def rsParity (data : List (BitVec 10)) : List (BitVec 10) :=
  data.foldl (fun r m =>
    let f := m ^^^ r.headD 0
    List.zipWith (· ^^^ ·) (r.drop 1 ++ [0]) ((rsGenerator.drop 1).map (rsMul f))) (List.replicate 30 0)

/-! ### A block on its lanes (R272) -/

/-- The bits of bytes, each from bit 7. -/
def bitsOfBytes (bs : List Byte) : List Bool := bs.flatMap (fun b => (List.range 8).map (fun i => b.getLsbD (7 - i)))

/-- Data symbol t of a block's 20,560 data bits. -/
def dataSymbol (bits : List Bool) (t : Nat) : BitVec 10 :=
  BitVec.ofNat 10 (((bits.drop (10 * t)).take 10).foldl (fun v b => 2 * v + bit b) 0)

/-- Code word c of a block. -/
def codeword (bits : List Bool) (c : Nat) : List (BitVec 10) :=
  let data := (List.range 514).map (fun k => dataSymbol bits (4 * k + c))
  data ++ rsParity data

/-- A pair of bits as a Gray-coded PAM4 level. -/
def pam4 (v : Nat) : Nat :=
  match v with
  | 0 => 0
  | 1 => 1
  | 3 => 2
  | _ => 3

/-- The five levels of a line symbol, most significant bits first. -/
def symbolLevels (s : BitVec 10) : List Nat := (List.range 5).map (fun i => pam4 (bitsOf s (9 - 2 * i) (8 - 2 * i)))

/-- The levels of each lane: symbol s = 4j + c, for symbol j of code word c, on lane s mod 16. -/
def laneLevels (bits : List Bool) : List (List Nat) :=
  let words := (List.range 4).map (codeword bits)
  (List.range 16).map (fun l => (List.range 136).flatMap (fun i =>
    let s := 16 * i + l
    symbolLevels ((words.getD (s % 4) []).getD (s / 4) 0)))

/-- What a block sends on the sixteen lanes. -/
def blockLanes (b : Block) (flits : List (List Byte)) : List (List Nat) :=
  laneLevels (bitsOfBytes (flits.flatten ++ tagBytes b flits.flatten))

end Sys2Proof.Machine
end

