-- ==== Sys2Proof/Machine/Ports.lean ====
section
/-! DEFINITION. Parium ports: blocks, link retry, credits and retraining (R272–R279, R286–R294, R526,
R527). A received flit stands for its packet and its place in it, with the tag that ends the packet; a sent one has its
bytes as well. -/

namespace Sys2Proof.Machine

/-! ### Credits (R292) -/

/-- The test of R292 for a packet of `n` flits on VC v, given the occupancy of the receiver. -/
def maySendFlits (occ : SMap Nat) (v n : Nat) : Bool :=
  let used := ((List.range 8).map (fun w => SMap.get 0 occ w - 195)).foldl (· + ·) 0
  decide (n ≤ (195 - SMap.get 0 occ v) + (2536 - used))

/-- The test of R301: credit, and for entry into a ring a free reserve of two packet buffers. -/
def mayAdvance (occ : SMap Nat) (v n : Nat) (entering : Bool) : Bool :=
  !(entering && decide (195 - SMap.get 0 occ v < 130)) && maySendFlits occ v n

/-- Flits that VC v of a port's input buffer holds, those of the arriving packet included. -/
def Port.held (p : Port) (v : Nat) : Nat :=
  ((SMap.get [] p.inBuf v).map flitsOf).foldl (· + ·) 0 +
    (match p.rxPart with
      | some (q, n) => if vcOf q = v then n else 0
      | none => 0)

/-- `n` flits of VC v leave the input buffer. -/
def Port.free (p : Port) (v n : Nat) : Port := { p with freed := SMap.update 0 p.freed v (· + n) }

/-! ### Leaving UP and retraining (R277, R290, R527) -/

/-- Sets `PP_STATUS.STATE`. -/
def State.setPortState (s : State) (n v : Nat) : State := s.setFld (Reg.ppStatus n) Fld.ppStatusState v

/-- The packets in a port's input buffer are dropped and counted (R527); a packet whose head was forwarded
ends stomped at the output port that has it. -/
def State.flushPort (s : State) (n : Nat) : State :=
  let p := s.port n
  let held := ((List.range 8).map (fun v => (SMap.get [] p.inBuf v).length)).foldl (· + ·) 0 + bit p.rxPart.isSome
  let t := s.setPort n { p with inBuf := [], rxPart := none, rxOut := none }
  let u := match p.rxOut with
    | some o => t.setPort o { t.port o with txArriving := false, txStomp := true }
    | none => t
  u.count (Reg.prPortFlushed n) held

/-- A port leaves UP, or ends a fast retrain, for anything but a fast retrain: its input buffer is emptied (R527). -/
def State.dropBuffer (s : State) (n : Nat) : State := if s.portUp n || (s.port n).fast then s.flushPort n else s

/-- The link of port n begins its training: fast from step 3 with its buffers kept, to replay from the peer's `ACK` once the
peer's credits are known (R294, R526, assumption 66), else from step 1 with its sequence, its replay buffer, its link session and its key phase gone (R278,
R312, R624). -/
def State.beginTraining (s : State) (n : Nat) (fast : Bool) : State :=
  let p := s.port n
  let q : Port :=
    if fast then
      { p with
        trainStep := 3, fast := true, sameAckReplays := 0, fastRetrains := p.fastRetrains ++ [s.course], naking := false
        replayFrom := none, resyncLeft := 0, rxResync := 0 }
    else
      { Port.reset with
        trainStep := 1, txQueue := p.txQueue, deficit := p.deficit, lastInput := p.lastInput
        recentFlits := p.recentFlits, txStomp := p.txStomp, txArriving := p.txArriving, lastHeard := s.now }
  let t := (s.setPort n q).setPortState n 1
  if fast then t
  else
    let u := (t.setFld (Reg.ppStatus n) Fld.ppStatusLanesOk 0).setFld (Reg.ppStatus n) Fld.ppStatusKeyPhase 0
    { u with rt := { u.rt with links := SMap.set none u.rt.links n none } }

/-- A report of port n. -/
def portReport (cls n : Nat) : Report := Report.bare cls (portPath n)

/-- The port retrains fully (R277, R290). -/
def State.retrainFull (s : State) (n : Nat) : State :=
  let t := s.dropBuffer n
  ((t.beginTraining n false).count (Reg.ppRetrains n) 1).report (portReport clsLinkRetrain n)

/-- The port retrains fast; the third fast retrain within 1,024 courses is a full one (R277). -/
def State.retrainFast (s : State) (n : Nat) : State :=
  let recent := (s.port n).fastRetrains.filter (fun c => coursesSince s.course c ≤ 1024)
  if 2 ≤ recent.length then s.retrainFull n
  else
    let t := s.setPort n { s.port n with fastRetrains := recent }
    ((t.beginTraining n true).count (Reg.ppRetrains n) 1).report (portReport clsLinkRetrain n)

/-- A torus port is marked FAILED: the failed link is recorded by its end on the − side and flooded
(R277, R305). -/
def State.failPort (s : State) (n : Nat) : State :=
  let t := ((s.setPort n { s.port n with trainStep := 0 }).setPortState n 4).report (portReport clsLinkFailed n)
  if n < 6 then
    if n % 2 = 0 then t.findFault 0 t.phys n else t.findFault 0 (t.neighbour t.phys n) (n - 1)
  else t

/-! ### Replays (R276) -/

/-- The sender of port n replays from its peer's `ACK`; eight without an advance retrain the port fast. -/
def State.replay (s : State) (n : Nat) : State :=
  let p := s.port n
  let t := ((s.setPort n { p with replayFrom := some 0, sameAckReplays := p.sameAckReplays + 1, unackedSince := s.now }).count
    (Reg.ppReplays n) 1).report (portReport clsLinkReplay n)
  if 8 ≤ p.sameAckReplays + 1 then t.retrainFast n else t

/-! ### Sending blocks -/

/-- Blocks flow on a port: it is UP, or it has reached the sequence start of its training. -/
def State.linked (s : State) (n : Nat) : Bool := s.portUp n || decide (4 ≤ (s.port n).trainStep)

/-- The packet at the head of an output port may begin: a `SESSION` packet while the port keys; any other
once the port is UP, its credits are in balance and its coordinates are set (R292, R295, R526), and no
packet whose end has yet to arrive. -/
def State.mayBegin (s : State) (n : Nat) (p : Port) (q : Packet) : Bool :=
  if q.ty = tySession then decide (p.trainStep = 5)
  else s.portUp n && decide (p.rxResync = 8) && s.flag Reg.prTorus Fld.prTorusValid && !p.txArriving &&
    maySendFlits p.occ (vcOf q) (flitsOf q)

/-- The link secret of port n and whether this end has the lower identity key (R624). -/
def State.linkSecret (s : State) (n : Nat) : List Byte × Bool :=
  match SMap.get none s.rt.links n with
  | none => ([], false)
  | some l => (l.secret, l.low)

/-- A packet sealed on port n's link under key index i, count c, in the direction that this end sends (`tx`) or the other. -/
def State.sealed (s : State) (n : Nat) (tx : Bool) (i : Nat) (c : BitVec 64) (p : Packet) : List Byte :=
  let (l, low) := s.linkSecret n
  sealPacket (linkKey l (low == tx) i) (linkSalt l (low == tx) i) c p

/-- A beacon tells the course and stitch at which its block departs (R360, R361). -/
def State.departing (s : State) (p : Packet) : Packet :=
  if p.ty = tyBeacon then
    { p with payload := p.payload.take 6 ++ beBytes 2 s.stitch ++ beBytes 6 s.course.toNat ++ p.payload.drop 14 }
  else p

/-- A packet begins on port n: a pending key change takes place, the packet is counted under the key and sealed, and its
flits occupy the receiver (R287, R291, R293). `SESSION` packets take no part in either. -/
def State.beginPacket (s : State) (n : Nat) (p : Port) (pk : Packet) : Port :=
  if pk.ty = tySession then { p with txBytes := clearPacket pk }
  else
    let q := if p.keyPending then
        { p with keyPending := false, keyPhaseTx := !p.keyPhaseTx, keyIndexTx := p.keyIndexTx + 1, nonceTx := 0 }
      else p
    { q with
      occ := SMap.update 0 q.occ (vcOf pk) (· + flitsOf pk), txBytes := s.sealed n true q.keyIndexTx q.nonceTx pk
      nonceTx := q.nonceTx + 1 }

/-- The next flit of the packet that is leaving; its last one carries the tag, stomped where the packet's end was (R288,
R289). -/
def Port.nextFlit (p : Port) (pk : Packet) : TxFlit :=
  let bytes := if p.txStomp then stompPacket pk p.txBytes else p.txBytes
  let whole := decide (p.txIndex + 1 = flitsOf pk)
  ⟨.part pk p.txIndex (if whole then packetTag pk bytes else []), flitBytes bytes p.txIndex, p.keyPhaseTx⟩

/-- An idle flit. -/
def Port.idleFlit (p : Port) : TxFlit := ⟨.idle, zeroBytes 64, p.keyPhaseTx⟩

/-- Fills `k` flit slots of a block from the output port's packets. -/
def State.fillFlits (s : State) (n : Nat) : Nat → Port → Port × List TxFlit
  | 0, p => (p, [])
  | k + 1, p =>
    match p.txQueue with
    | [] => let (q, fs) := s.fillFlits n k p; (q, p.idleFlit :: fs)
    | head :: rest =>
      if p.txIndex = 0 ∧ s.mayBegin n p head = false then
        let (q, fs) := s.fillFlits n k p; (q, p.idleFlit :: fs)
      else
        let pk := if p.txIndex = 0 then s.departing head else head
        let p1 := if p.txIndex = 0 then s.beginPacket n p pk else p
        let p2 := if p1.txIndex + 1 = flitsOf pk then { p1 with txQueue := rest, txIndex := 0, txStomp := false }
          else { p1 with txQueue := pk :: rest, txIndex := p1.txIndex + 1 }
        let (q, fs) := s.fillFlits n k p2
        (q, p1.nextFlit pk :: fs)

/-- A fast retrain holds back every packet, replays included, until the peer's eighth `RESYNC` block has come (R526). -/
def Port.holds (p : Port) : Bool := p.fast && decide (p.rxResync < 8)

/-- The VC with the most freed, unreported flits, the lower winning ties (R293). -/
def Port.creditVc (p : Port) : Nat :=
  (List.range 8).foldl (fun b v =>
    if SMap.get 0 p.freed b - SMap.get 0 p.reported b < SMap.get 0 p.freed v - SMap.get 0 p.reported v then v else b) 0

/-- The tag fields of the block that port p sends with sequence number `seq`, and the port after it; a replayed block
carries the key phase with which it was first sent. A `RESYNC` block tells what its VC holds now, and the VC's count begins
again from it (R273, R291, R293, R294). -/
def Port.tagged (p : Port) (seq : BitVec 12) (sent : List TxFlit) : Port × Block :=
  let fs := sent.map TxFlit.flit
  let phase := match sent.getLast? with
    | none => p.keyPhaseTx
    | some f => f.phase
  if 0 < p.resyncLeft then
    let v := 8 - p.resyncLeft
    ({ p with resyncLeft := p.resyncLeft - 1, freed := SMap.set 0 p.freed v 0, reported := SMap.set 0 p.reported v 0 },
      ⟨fs, seq, p.rxExpect, p.naking, true, BitVec.ofNat 3 v, BitVec.ofNat 10 (p.held v), phase⟩)
  else
    let v := p.creditVc
    ({ p with reported := SMap.set 0 p.reported v (SMap.get 0 p.freed v) },
      ⟨fs, seq, p.rxExpect, p.naking, false, BitVec.ofNat 3 v, BitVec.ofNat 10 (SMap.get 0 p.freed v), phase⟩)

/-- Port n sends a block: 40 flits of a replay, or 40 new ones when at most 2,040 stay unacknowledged
(R274, R276), and shows the key phase in force (R312). While a fast retrain holds packets back it sends idle flits under numbers
that the peer has acknowledged, of which only the tag counts (R526, assumption 66). -/
def State.sendBlock (s : State) (n : Nat) : State :=
  let p := s.port n
  if p.holds then
    let fs := List.replicate 40 p.idleFlit
    let (q, b) := Port.tagged p (p.acked - 40) fs
    s.setPort n { q with lastBlock := some b, lanes := blockLanes b (fs.map TxFlit.bytes) }
  else match p.replayFrom with
  | some i =>
    let fs := (p.replayBuf.drop i).take 40
    let next := if i + 40 < p.replayBuf.length then some (i + 40) else none
    let (q, b) := Port.tagged { p with replayFrom := next } (p.acked + BitVec.ofNat 12 i) fs
    s.setPort n { q with lastBlock := some b, lanes := blockLanes b (fs.map TxFlit.bytes) }
  | none =>
    let (p1, fs) := s.fillFlits n 40 p
    let (q, b) := Port.tagged p1 p1.txSeq fs
    (s.setPort n { q with
      lastBlock := some b, lanes := blockLanes b (fs.map TxFlit.bytes), txSeq := q.txSeq + 40, replayBuf := q.replayBuf ++ fs
      unackedSince := if p.replayBuf = [] then s.now else q.unackedSince }).setFld (Reg.ppStatus n) Fld.ppStatusKeyPhase
        (bit q.keyPhaseTx)

/-- `BLOCK_SEND`: a port sends its next block (R274). -/
def execBlockSend (port : Fin 8) (s : State) : Host.Outcome State Fault Refusal :=
  let n := port.val
  let p := s.port n
  act s (s.running && !s.inReset 4 && !s.inReset 5 && s.linked n &&
      (p.holds || p.replayFrom.isSome || decide (p.replayBuf.length + 40 ≤ 2040)))
    (s.sendBlock n)

/-! ### Receiving blocks -/

/-- Types that a link hands to the units at its end and routes nowhere: `BEACON`, `FAULT`, `SESSION`
(R282, R305, R360). -/
def linkLocal (ty : BitVec 4) : Bool := decide (ty = tyBeacon) || decide (ty = tyFault) || decide (ty = tySession)

/-- Why a packet for a unit at the link's end is dropped: its endpoint is reserved (R283), or a fault record has expired
(R286; beacons and `SESSION` packets, which set the clocks right and come before them, are not aged, assumption 227). -/
def State.linkFault (s : State) (pk : Packet) : Option Nat :=
  if (decide (pk.dstEp.toNat < 0xA8) || (decide (0xB0 ≤ pk.dstEp.toNat) && decide (pk.dstEp.toNat ≤ 0xB7))) = false then some Reg.prBadType
  else if pk.ty = tyFault ∧ 64 < (s.stampNow - pk.stamp).toNat then some Reg.prExpired
  else none

/-- A whole packet has arrived with a good tag: it stands in the input buffer, its copy at an output port
may go, or a unit at the link's end has it. -/
def State.packetArrived (s : State) (n : Nat) (p : Port) (pk : Packet) : State :=
  let v := vcOf pk
  let len := flitsOf pk
  let q := { p with rxPart := none, rxOut := none }
  if linkLocal pk.ty then
    let t := s.setPort n (if pk.ty = tySession then q else q.free v len)
    match s.linkFault pk with
    | some counter => t.count counter 1
    | none => { t with fab := { t.fab with linkArrived := t.fab.linkArrived ++ [⟨n, pk, s.course, s.stitch⟩] } }
  else match p.rxOut with
    | some o =>
      let t := s.setPort n (q.free v len)
      t.setPort o { t.port o with txArriving := false }
    | none => s.setPort n { q with inBuf := SMap.update [] q.inBuf v (· ++ [pk]) }

/-- A packet ended stomped: nothing of it is delivered or forwarded, and a copy under way ends stomped
(R289). -/
def State.packetStomped (s : State) (n : Nat) (p : Port) (pk : Packet) : State :=
  let t := (s.setPort n (Port.free { p with rxPart := none, rxOut := none } (vcOf pk) (flitsOf pk))).count (Reg.ppStomped n) 1
  match p.rxOut with
  | some o => t.setPort o { t.port o with txArriving := false, txStomp := true }
  | none => t

/-- A wrong tag: counted, reported, and the port retrains fully with a new key agreement (R290). -/
def State.packetForged (s : State) (n : Nat) : State :=
  ((s.count (Reg.ppAuthFail n) 1).report (portReport clsLinkAuth n)).retrainFull n

/-- A packet begins to arrive: it is counted under the key in force (R287). -/
def Port.beginArrival (p : Port) (pk : Packet) : Port :=
  if pk.ty = tySession then p else { p with rxKey := (p.keyIndexRx, p.nonceRx), nonceRx := p.nonceRx + 1 }

/-- What the tag of a packet that has arrived shows: the tag of the packet under the key and count with which it began, that
tag stomped, or neither (R288–R290). -/
def State.tagFate (s : State) (n : Nat) (p : Port) (pk : Packet) (tag : List Byte) : TagFate :=
  let right := packetTag pk (s.sealed n false p.rxKey.1 p.rxKey.2 pk)
  if pk.ty = tySession ∨ tag = right then .good else if tag = stomped right then .stomp else .wrong

/-- The flits of an accepted block, in order; a wrong tag ends them. -/
def State.takeFlits (s : State) (n : Nat) : List Flit → State
  | [] => s
  | f :: fs =>
    let p := s.port n
    match f with
    | .idle => s.takeFlits n fs
    | .part pk i tag =>
      let whole := decide (i + 1 = flitsOf pk)
      let continues := match p.rxPart with
        | some (q, j) => decide (q = pk) && decide (j = i)
        | none => decide (i = 0)
      let p1 := if i = 0 then p.beginArrival pk else p
      if !continues then s.takeFlits n fs
      else if !whole then (s.setPort n { p1 with rxPart := some (pk, i + 1) }).takeFlits n fs
      else match s.tagFate n p1 pk tag with
        | .good => (s.packetArrived n p1 pk).takeFlits n fs
        | .stomp => (s.packetStomped n p1 pk).takeFlits n fs
        | .wrong => s.packetForged n

/-- Flits of packets that a port's replay will send, by VC. -/
def replayFlits (fs : List TxFlit) (v : Nat) : Nat :=
  fs.countP (fun f => match f.flit with
    | .idle => false
    | .part pk _ _ => decide (vcOf pk = v) && decide (pk.ty ≠ tySession))

/-- The acknowledgement of a good block: what it passes leaves the replay buffer (R276). -/
def Port.takeAck (p : Port) (ack : BitVec 12) (now : Nat) : Port :=
  let a := (ack - p.acked).toNat
  if a = 0 ∨ p.replayBuf.length < a then p
  else { p with
    acked := ack, replayBuf := p.replayBuf.drop a, sameAckReplays := 0, unackedSince := now
    replayFrom := p.replayFrom.bind (fun i => if i < a then (if a < p.replayBuf.length then some 0 else none) else some (i - a)) }

/-- Flits on VC v of a packet that a port has begun and not sent to its end. -/
def Port.unsent (p : Port) (v : Nat) : Nat :=
  match p.txQueue with
  | [] => 0
  | pk :: _ => if 0 < p.txIndex ∧ vcOf pk = v ∧ pk.ty ≠ tySession then flitsOf pk - p.txIndex else 0

/-- The credit report of a good block: an advance of `CR_TOTAL`, or in a resynchronisation the occupancy
itself; after the eighth of these the sender replays from the peer's `ACK` (R293, R294). -/
def Port.takeCredit (p : Port) (b : Block) (now : Nat) : Port :=
  let v := b.crVc.toNat
  if b.resync then
    let q := { p with
      occ := SMap.set 0 p.occ v (b.crTotal.toNat + replayFlits p.replayBuf v + p.unsent v), crSeen := SMap.set 0 p.crSeen v 0
      rxResync := min 8 (p.rxResync + 1) }
    if p.rxResync = 7 ∧ p.replayBuf ≠ [] then { q with replayFrom := some 0, unackedSince := now } else q
  else { p with
    occ := SMap.update 0 p.occ v (· - (b.crTotal - SMap.get 0 p.crSeen v).toNat), crSeen := SMap.set 0 p.crSeen v b.crTotal }

/-- The key phase of a good block (R291, R624). -/
def Port.takeKeyPhase (p : Port) (phase : Bool) : Port :=
  if phase = p.keyPhaseRx then p
  else { p with keyPhaseRx := phase, keyIndexRx := p.keyIndexRx + 1, nonceRx := 0 }

/-- A good block: its acknowledgement, `NAK` and credit, and its flits and key phase if it is the one expected; while a
`NAK` stands, a block that is not the one asked for is discarded whole (R275, R276). A `NAK` starts a replay unless one from
the same acknowledgement is under way (assumption 63), nor while a fast retrain holds packets back: its end replays anyway. -/
def State.goodBlock (s : State) (n : Nat) (b : Block) : State :=
  let p := s.port n
  if p.naking ∧ b.seq ≠ p.rxExpect ∧ p.holds = false then s
  else
    let p1 := (p.takeAck b.ack s.now).takeCredit b s.now
    let expected := decide (b.seq = p.rxExpect)
    let s1 := s.setPort n (if expected then { p1.takeKeyPhase b.keyPhase with naking := false, rxExpect := p1.rxExpect + 40 } else p1)
    let s2 := if b.nak ∧ p.holds = false ∧ (p1.replayFrom = none ∨ p1.acked ≠ p.acked) ∧ p1.replayBuf ≠ [] then s1.replay n else s1
    if expected then s2.takeFlits n b.flits else s2

/-- A bad block is discarded and answered with a `NAK` at its first flit (R275). -/
def State.badBlock (s : State) (n : Nat) : State := s.setPort n { s.port n with naking := true }

/-- What a port does with a block (R275, R313). -/
def State.receiveBlock (s : State) (n : Nat) (b : Block) (fate : BlockFate) : State :=
  let t := (s.setPort n { s.port n with lastHeard := s.now }).countUnits (Reg.ppFecCorrected n) fate.corrected 4
  if 0 < fate.uncorrectable then (t.count (Reg.ppFecUncorrected n) fate.uncorrectable).badBlock n
  else if fate.crcOk then t.goodBlock n b
  else (t.count (Reg.ppCrcErrors n) 1).badBlock n

/-- `BLOCK_RECEIVE`: a block arrives on a port (R275). -/
def execBlockReceive (port : Fin 8) (block : Block) (fate : BlockFate) (s : State) : Host.Outcome State Fault Refusal :=
  let n := port.val
  act s (s.running && !s.inReset 4 && !s.inReset 5 && s.linked n) (s.receiveBlock n block fate)

/-! ### Timers of a link -/

/-- `REPLAY_TIMEOUT`: 1 µs, 2,500 stitches, with flits unacknowledged and no advance (R276). -/
def execReplayTimeout (port : Fin 8) (s : State) : Host.Outcome State Fault Refusal :=
  let n := port.val
  let p := s.port n
  act s (s.running && s.linked n && !p.holds && decide (p.replayBuf ≠ []) && decide (p.unackedSince + 2500 ≤ s.now)) (s.replay n)

/-- `PEER_SILENT`: nothing from the peer for 10 µs, 25,000 stitches (R277). -/
def execPeerSilent (port : Fin 8) (s : State) : Host.Outcome State Fault Refusal :=
  let n := port.val
  act s (s.running && s.linked n && decide ((s.port n).lastHeard + 25000 ≤ s.now)) (s.retrainFull n)

/-- `LINK_KEY_CHANGE`: after 2⁴⁰ packets, or on a host request, the sender's next packet begins under the next key (R291,
R624). -/
def execLinkKeyChange (port : Fin 8) (requested : Bool) (s : State) : Host.Outcome State Fault Refusal :=
  let n := port.val
  let p := s.port n
  act s (s.running && s.portUp n && (requested || decide (2 ^ 40 ≤ p.nonceTx.toNat))) (s.setPort n { p with keyPending := true })

end Sys2Proof.Machine
end

