-- ==== Sys2Proof/Machine/Links.lean ====
section
/-! DEFINITION. Link training and link sessions (R278, R279, R292, R622–R624). -/

namespace Sys2Proof.Machine

/-- The 64-byte `DIGEST` of the running base image's header (R613). -/
def State.baseDigest (s : State) : List Byte := ((s.co.image.getD []).drop 0x20).take 64

/-- The link session of port n. -/
def State.linkSession (s : State) (n : Nat) : Option LinkSession := SMap.get none s.rt.links n

/-- Writes it. -/
def State.setLinkSession (s : State) (n : Nat) (l : LinkSession) : State :=
  { s with rt := { s.rt with links := SMap.set none s.rt.links n (some l) } }

/-- A `SESSION` packet on port n's own link. -/
def State.sendSession (s : State) (n : Nat) (payload : List Byte) : State :=
  s.queueOn n (s.packetTo tySession tcCT (s.linkPeer n) epTrust epTrust 0 0 payload)

/-- The HELLO of port n: a fresh X448 share and nonce, the base image digest and the chain (R608, R622). -/
def State.sendHello (s : State) (n : Nat) : State :=
  let h := s.free
  let t := (s.drewBytes 56).drewBytes 32
  let hello := [0x01] ++ fitTo 56 (Config.x448 (drawnSecret h 56) []) ++ drawnSecret (h + 7) 32 ++ fitTo 64 s.baseDigest ++
    deviceChain
  (t.setLinkSession n ⟨hello, h, none, none, false, [], false⟩).sendSession n hello

/-- Fields of a HELLO. -/
def helloShare (b : List Byte) : List Byte := (b.drop 1).take 56
/-- Base image digest. -/
def helloDigest (b : List Byte) : List Byte := (b.drop 89).take 64
/-- The chain. -/
def helloChain (b : List Byte) : List Byte := b.drop 153

/-- This end has the lower identity public key. -/
def isLow (peer : List Byte) : Bool := decide (beNat identityKey < beNat peer)

/-- T_L: the digest of the two HELLO payloads, that of the lower identity key first (R622). -/
def linkTranscript (mine theirs peer : List Byte) : List Byte :=
  shake 64 (if isLow peer then mine ++ theirs else theirs ++ mine)

/-- The port is held in PEER_REJECTED (R279, R623). -/
def State.rejectPeer (s : State) (n : Nat) : State :=
  let t := (s.setPort n { s.port n with trainStep := 0 }).setPortState n 6
  let u := { t with rt := { t.rt with links := SMap.set none t.rt.links n none } }
  u.count Reg.rtLinkRejects 1

/-- What a HELLO of the peer brings about: its coordinate is noted, its chain and image are tested, and
the FINISH is sent (R312, R622, R623). -/
def State.takeHello (s : State) (n : Nat) (p : Packet) (l : LinkSession) : State :=
  let t := (s.setFld (Reg.ppStatus n) Fld.ppStatusPeerCoord p.src.toNat).setFld (Reg.ppStatus n) Fld.ppStatusPeerSide (bit p.srcSide)
  match chainKey (helloChain p.payload) with
  | none => (t.rejectPeer n).count Reg.rtSigFails 1
  | some key =>
    if t.flag Reg.rtEncrypt Fld.rtEncryptSameImage && decide (helloDigest p.payload ≠ fitTo 64 t.baseDigest) then t.rejectPeer n
    else
      let sig := fitTo 114 (Config.ed448Sign identitySeed (ascii "MDN-SV1 LINK") (linkTranscript l.mine p.payload key))
      (t.setLinkSession n { l with theirs := some p.payload, helloAt := some t.now }).sendSession n ([0x02] ++ sig)

/-- 10 ms, 25,000,000 stitches, have passed since the HELLO (R623). -/
def LinkSession.late (l : LinkSession) (now : Nat) : Bool := match l.helloAt with
  | none => false
  | some a => decide (a + 25000000 ≤ now)

/-- What a FINISH brings about: the link secret is derived, or the peer is rejected (R623, R624, R636). -/
def State.takeFinish (s : State) (n : Nat) (p : Packet) (l : LinkSession) : State :=
  match l.theirs with
  | none => s.rejectPeer n
  | some theirs =>
    if l.late s.now then s.rejectPeer n
    else match chainKey (helloChain theirs) with
    | none => s.rejectPeer n
    | some key =>
      let tl := linkTranscript l.mine theirs key
      if Config.ed448Verify key (ascii "MDN-SV1 LINK") tl ((p.payload.drop 1).take 114) then
        let z := Config.x448 (drawnSecret l.share 56) (helloShare theirs)
        s.setLinkSession n { l with verified := true, secret := derive z "LINK" 64 tl, low := isLow key }
      else (s.rejectPeer n).count Reg.rtSigFails 1

/-- The first `SESSION` packet of a type byte that has arrived on a link, and what is left without it. -/
def State.takeSession (s : State) (ty : Byte) : Option (LinkPacket × State) :=
  s.takeLink (fun p => decide (p.ty = tySession) && decide (p.payload.head? = some ty))

/-- `HELLO` (R622, R623): on a port that keys. Elsewhere the packet is dropped. -/
def execHello (s : State) : Host.Outcome State Fault Refusal :=
  match s.takeSession 1 with
  | none => .next s
  | some (a, t) =>
    act s (s.running && !s.inReset 4 && !s.inReset 5)
      (match t.linkSession a.port with
        | some l => if (t.port a.port).trainStep = 5 ∧ l.theirs = none then t.takeHello a.port a.packet l else t
        | none => t)

/-- `FINISH` (R622–R624). An outcome on which the roots of trust do not `agree` is discarded (R607). -/
def execFinish (agree : Bool) (s : State) : Host.Outcome State Fault Refusal :=
  match s.takeSession 2 with
  | none => .next s
  | some (a, t) =>
    act s (s.running && !s.inReset 4 && !s.inReset 5)
      (match t.linkSession a.port with
        | some l =>
          if (t.port a.port).trainStep = 5 ∧ l.verified = false then (if agree then t.takeFinish a.port a.packet l else t.trustDisagrees)
          else t
        | none => t)

/-- `FINISH_TIMEOUT`: 10 ms, 25,000,000 stitches, after the HELLO without a FINISH (R623). -/
def execFinishTimeout (port : Fin 8) (s : State) : Host.Outcome State Fault Refusal :=
  let n := port.val
  match s.linkSession n with
  | none => .next s
  | some l => act s (s.running && decide ((s.port n).trainStep = 5) && !l.verified && l.late s.now) (s.rejectPeer n)

/-! ### Training (R278) -/

/-- A training step failed: a fast retrain becomes a full one, a full one marks the port FAILED (R277). -/
def State.trainingFailed (s : State) (n : Nat) : State :=
  if (s.port n).fast then s.retrainFull n else s.failPort n

/-- The port goes on to step `k` of its training; step 5 opens the key agreement in state KEYING, step 6
begins this side's credit resynchronisation; the peer's blocks of it count since the training began (R278, R292, R294). -/
def State.enterStep (s : State) (n k : Nat) : State :=
  let p := s.port n
  if k = 5 then ((s.setPort n { p with trainStep := 5 }).setPortState n 2).sendHello n
  else if k = 6 then
    s.setPort n { p with trainStep := 6, resyncLeft := 8, freed := [], reported := [], lastHeard := s.now }
  else s.setPort n { p with trainStep := k, lastHeard := s.now }

/-- A port whose credits have been exchanged is UP (R278, R312). -/
def State.portComesUp (s : State) (n : Nat) : State :=
  let t := (s.setPort n { s.port n with trainStep := 0, fast := false, sameAckReplays := 0, lastHeard := s.now }).setPortState n 3
  t.setFld (Reg.ppStatus n) Fld.ppStatusKeyPhase (bit (t.port n).keyPhaseTx)

/-- Step 4 has measured the link: its one-way delay is kept, and a round trip over 320 ns, 800 stitches,
holds the port down (R278, R279, R312). A fast retrain keeps its link secret and goes on at step 6
(R624). -/
def State.measured (s : State) (n delay roundTrip : Nat) : State :=
  let t := s.setFld (Reg.ppStatus n) Fld.ppStatusDelay delay
  if 800 < roundTrip then let u := t.dropBuffer n; (u.setPort n { u.port n with trainStep := 0, fast := false }).setPortState n 5
  else t.enterStep n (if (t.port n).fast then 6 else 5)

/-- `PORT_TRAINING_STEP`: the training step of a port ends, well or not (R277–R279, R294); step 3 needs every lane
(R270, R312). `delay` and `roundTrip` are the measures, in stitches, that
step 4 yields. -/
def execPortTrainingStep (port : Fin 8) (found : TrainingEnd) (delay roundTrip : Nat) (s : State) : Host.Outcome State Fault Refusal :=
  let n := port.val
  let p := s.port n
  let k := p.trainStep
  let l := s.linkSession n
  let agreed := match l with
    | some x => x.verified
    | none => false
  let good := found.ok && (decide (k ≠ 3) || decide (found.lanes = 0xFFFF))
  let t := if k = 3 then s.setFld (Reg.ppStatus n) Fld.ppStatusLanesOk found.lanes.toNat else s
  act s (s.running && !s.inReset 4 && !s.inReset 5 && decide (1 ≤ k) &&
      (!good || decide (k ≤ 4) || (decide (k = 5) && agreed) || (decide (k = 6) && decide (p.resyncLeft = 0) && decide (p.rxResync = 8))))
    (if !good then t.trainingFailed n
      else if k = 4 then t.measured n delay roundTrip
      else if k = 6 then t.portComesUp n
      else t.enterStep n (k + 1))

end Sys2Proof.Machine
end

