-- ==== Sys2Proof/Machine/Router.lean ====
section
/-! DEFINITION. The router: where the head of a packet goes, which head an output port takes, and what
the local port does with it (R282–R286, R299–R303, R305, R528, R726). -/

namespace Sys2Proof.Machine

/-! ### Routing one head (R300, R726) -/

/-- Why a router drops a packet, or where it sends it; `gone` is a packet for one link that is no longer up. -/
inductive Hop
  | local_
  | port (n : Nat)
  | unreachable
  | gone
  deriving DecidableEq, Repr

/-- The head after step 1 of R300. -/
def State.turned (s : State) (p : Packet) : Packet := if p.phase = false ∧ p.mid = s.phys then { p with phase := true } else p

/-- Steps 2 to 4 of R300 for a head whose phase step 1 has settled, with R726. A spare sends all that is
not its own by SB to its host. -/
def State.hopOf (s : State) (p : Packet) : Hop :=
  if !s.inExtents p.dst || (!p.phase && !s.inExtents p.mid) then .unreachable
  else if p.dst = s.phys ∧ p.dstSide = s.onSide then .local_
  else if s.onSide then (if s.portUp 7 then .port 7 else .unreachable)
  else if p.dst = s.phys ∧ p.dstSide = true then (if s.portUp 7 then .port 7 else .unreachable)
  else if s.leavesBySA p.dst p.dstSide then .port 6
  else match s.nextPort s.phys (if p.phase then p.dst else p.mid) with
    | none => .unreachable
    | some none => .unreachable
    | some (some n) => .port n

/-- A head that takes torus port `o` from input `i` enters a ring: from the local port (input 8), SA or
SB, on a turn into another dimension, or at its phase change (R301). A head turned back along its own ring
does not (R528). -/
def entersRing (i o : Nat) (phaseChanged : Bool) : Bool :=
  decide (o < 6) && (decide (6 ≤ i) || decide (i / 2 ≠ o / 2) || phaseChanged)

/-! ### Heads -/

/-- The packet at the head of a VC of an input: of an input buffer, of the packet still arriving whose
head is there, or of the local port (input 8). The flag tells that it is still arriving. -/
def State.headAt (s : State) (input vc : Nat) : Option (Packet × Bool) :=
  if input = 8 then (SMap.get [] s.fab.inject vc).head?.map (fun h => (h.1, false))
  else
    let q := s.port input
    match SMap.get [] q.inBuf vc with
    | p :: _ => some (p, false)
    | [] => match q.rxPart with
      | some (p, _) => if vcOf p = vc ∧ q.rxOut = none ∧ linkLocal p.ty = false then some (p, true) else none
      | none => none

/-- The port that the head of a VC must leave by: a packet that this device itself sends over one link. -/
def State.boundFor (s : State) (input vc : Nat) : Option Nat :=
  if input = 8 then (SMap.get [] s.fab.inject vc).head?.bind Prod.snd else none

/-- Where the head of a VC goes. One bound for a link that is no longer up is dropped if that link's end alone was to have
it, and else routed (R300, R305, assumption 228). -/
def State.hopAt (s : State) (input vc : Nat) (q : Packet) : Hop :=
  match s.boundFor input vc with
  | none => s.hopOf q
  | some n => if s.portUp n then .port n else if linkLocal q.ty then .gone else s.hopOf q

/-- What becomes of a head in the tests that come before routing: reserved type, expiry (R282, R286). -/
def State.headFault (s : State) (p : Packet) : Option Nat :=
  if p.ty = 0 ∨ 0xB ≤ p.ty.toNat then some Reg.prBadType
  else if 64 < (s.stampNow - p.stamp).toNat then some Reg.prExpired
  else none

/-- The output port that a head wants, if it passes every test, and whether it may take it now: the port
is UP, carries no other packet, and has the credit (R292, R301). -/
def State.wants (s : State) (input vc : Nat) : Option Nat :=
  match s.headAt input vc with
  | none => none
  | some (p, _) =>
    if (s.headFault p).isSome then none
    else
      let q := s.turned p
      match s.hopAt input vc q with
      | .port o =>
        let d := s.port o
        if s.portUp o && decide (d.txQueue = []) && decide (d.rxResync = 8) &&
            mayAdvance d.occ (vcOf q) (flitsOf q) (entersRing input o (decide (q.phase ≠ p.phase))) then some o
        else none
      | _ => none

/-! ### Arbitration of an output port (R303) -/

/-- The heads that may take output port `o` now: input and VC. -/
def State.candidates (s : State) (o : Nat) : List (Nat × Nat) :=
  (List.range 9).flatMap (fun i => ((List.range 8).filter (fun v => decide (s.wants i v = some o))).map (fun v => (i, v)))

/-- Flits that CT has had of the last 1,024 flits of an output port. -/
def Port.ctShare (p : Port) : Nat := ((p.recentFlits.filter (fun r => r.1 = 0)).map Prod.snd).foldl (· + ·) 0

/-- Keeps the newest packets whose flits make up 1,024. -/
def newestFlits : Nat → List (Nat × Nat) → List (Nat × Nat)
  | _, [] => []
  | left, (c, n) :: rs => if left = 0 then [] else (c, min n left) :: newestFlits (left - n) rs

/-- The weight of a class in the deficit round robin: CL 4, PT 2, LL 2. -/
def drrWeight (cls : Nat) : Nat := if cls = 1 then 4 else 2

/-- Deficit round robin over CL, PT, LL with the flits each class asks for, from the class after the last:
each visit adds the class's weight in flits, until a class covers its head (R303). -/
def drrPick (need : Nat → Option Nat) : Nat → SMap Nat → Nat → Nat × SMap Nat
  | 0, d, c => (c, d)
  | k + 1, d, c =>
    match need c with
    | none => drrPick need k (SMap.set 0 d c 0) (c % 3 + 1)
    | some n =>
      let v := SMap.get 0 d c + drrWeight c
      if n ≤ v then (c, SMap.set 0 d c (v - n)) else drrPick need k (SMap.set 0 d c v) (c % 3 + 1)

/-- The first of some inputs in the order after the one last granted on a VC (R303). -/
def afterLast (last : Nat) (inputs : List Nat) : Option Nat :=
  ((List.range 9).map (fun i => (last + i) % 9)).find? (fun i => i ∈ inputs)

/-- The head that output port `o` grants, with the deficits after the grant: CT first while it has had
fewer than 128 of the last 1,024 flits, then the round robin, then CT; phase 1 before phase 0; inputs in
turn (R303). -/
def State.granted (s : State) (o : Nat) : Option (Nat × Nat × SMap Nat) :=
  let p := s.port o
  let cs := s.candidates o
  let ofClass := fun (c : Nat) => cs.filter (fun iv => iv.2 / 2 = c)
  let inVc := fun (v : Nat) => (cs.filter (fun iv => iv.2 = v)).map Prod.fst
  let flits := fun (iv : Nat × Nat) => match s.headAt iv.1 iv.2 with
    | some (q, _) => flitsOf q
    | none => 0
  let pickIn := fun (v : Nat) => afterLast (SMap.get 0 p.lastInput v) (inVc v)
  let choose := fun (c : Nat) => match pickIn (2 * c + 1) with
    | some i => some (i, 2 * c + 1)
    | none => (pickIn (2 * c)).map (fun i => (i, 2 * c))
  let withDeficit := fun (d : SMap Nat) (r : Option (Nat × Nat)) => r.map (fun iv => (iv.1, iv.2, d))
  let others := (ofClass 1).isEmpty && (ofClass 2).isEmpty && (ofClass 3).isEmpty
  if !(ofClass 0).isEmpty && (decide (p.ctShare < 128) || others) then withDeficit p.deficit (choose 0)
  else
    let need := fun c => (choose c).map flits
    let (c, d) := drrPick need 256 (SMap.set 0 p.deficit 0 0) (SMap.get 1 p.deficit 0 % 3 + 1)
    withDeficit (SMap.set 0 d 0 c) (choose c)

/-! ### Taking a head -/

/-- Takes a head from its input; flits of a whole packet that leaves an input buffer are freed. -/
def State.takeHead (s : State) (input vc : Nat) : State :=
  match s.headAt input vc with
  | none => s
  | some (p, arriving) =>
    if input = 8 then { s with fab := { s.fab with inject := SMap.update [] s.fab.inject vc List.tail } }
    else if arriving then s
    else s.setPort input (({ s.port input with inBuf := SMap.update [] (s.port input).inBuf vc List.tail } : Port).free vc (flitsOf p))

/-- A packet takes output port `o`: its copy stands there, waiting for its end if that has yet to arrive,
and the arbitration state moves on (R288, R303). -/
def State.forward (s : State) (input vc o : Nat) (q : Packet) (arriving : Bool) (deficit : SMap Nat) : State :=
  let t := s.takeHead input vc
  let d := t.port o
  let u := t.setPort o { d with
    txQueue := d.txQueue ++ [q], txArriving := arriving, deficit := deficit
    recentFlits := newestFlits 1024 ((q.tc.toNat, flitsOf q) :: d.recentFlits)
    lastInput := SMap.set 0 d.lastInput vc ((input + 1) % 9) }
  if arriving then u.setPort input { u.port input with rxOut := some o } else u

/-- Endpoints of R283. -/
def endpointExists (e : BitVec 8) : Bool := decide (e.toNat < 0xA8) || (decide (0xB0 ≤ e.toNat) && decide (e.toNat ≤ 0xB7))

/-- The length that a `CTRL` message of a code must have at an endpoint: R284 and R499. -/
def ctrlLength (ep : BitVec 8) (b : List Byte) : Option Nat :=
  let msg := beNat (b.take 1)
  if ep = epRecovery then
    if msg = 3 then some (64 + 8 * min 504 ((b.length - 64) / 8))
    else if 1 ≤ msg ∧ msg ≤ 4 then some 64
    else none
  else if ep = epCollective then (if msg = 0x10 ∨ msg = 0x11 then some 16 else none)
  else if ep = epLifeline then
    if msg = 0x20 then some 64
    else if msg = 0x21 then some (max 8 b.length)
    else if msg = 0x22 ∨ msg = 0x23 then some 8
    else if msg = 0x24 then some 16
    else none
  else if ep = epStepKeeper then (if msg = 0x30 then some 8 else none)
  else none

/-- A packet that its endpoint can own: the endpoint exists, and a `CTRL` code is its own with that code's
length (R283, R284). -/
def deliverable (p : Packet) : Bool :=
  endpointExists p.dstEp && (!(decide (p.ty = tyCtrl)) || decide (ctrlLength p.dstEp p.payload = some p.payload.length))

/-- A packet leaves the router by the local port. -/
def State.deliver (s : State) (input vc : Nat) (q : Packet) : State :=
  let t := s.takeHead input vc
  if deliverable q then { t with fab := { t.fab with arrived := t.fab.arrived ++ [(input, q)] } }
  else t.count Reg.prBadType 1

/-- A packet is dropped and counted. -/
def State.dropHead (s : State) (input vc counter : Nat) : State := (s.takeHead input vc).count counter 1

/-- `PACKET_ROUTE`: the head of a VC of an input is dropped, delivered, or takes the output port that
grants it (R300, R303). Inputs 0 to 7 are the ports, 8 is the local port. -/
def execPacketRoute (input : Fin 9) (vc : Fin 8) (s : State) : Host.Outcome State Fault Refusal :=
  let i := input.val
  let v := vc.val
  match s.headAt i v with
  | none => .next s
  | some (p, arriving) =>
    let ok := s.running && !s.inReset 4 && !s.inReset 5 && s.flag Reg.prTorus Fld.prTorusValid
    match s.headFault p with
    | some counter => act s (ok && !arriving) (s.dropHead i v counter)
    | none =>
      let q := s.turned p
      match s.hopAt i v q with
      | .gone => act s ok (s.takeHead i v)
      | .unreachable => act s (ok && !arriving) (s.dropHead i v Reg.prUnreachable)
      | .local_ => act s (ok && !arriving) (s.deliver i v q)
      | .port o =>
        match s.granted o with
        | some (gi, gv, d) => act s (ok && decide (gi = i) && decide (gv = v)) (s.forward i v o q arriving d)
        | none => .next s

end Sys2Proof.Machine
end

