-- ==== Sys2Proof/Machine/Endpoints.lean ====
section
/-! DEFINITION. Receiver flows, generation tags and the packets that endpoints take (R64–R66, R285, R302,
R305–R310, R513–R517, R535, R546, R720). -/

namespace Sys2Proof.Machine

/-! ### Generation tags (R516, R517) -/

/-- The `GEN_STALE` counter of a domain. -/
def genStale (d : Nat) : Nat := if d < 4 then Reg.genStaleP d else Reg.genStaleF

/-- A reply whose `GEN` is not the current tag of the domain it enters is dropped at the edge (R516). -/
def State.replyStale (s : State) (p : Packet) : Bool := decide (p.gen ≠ s.gen (domainOfEp p.dstEp))

/-- A request is stale when its source domain's newest accepted tag is 1 to 127 ahead of its own (R517). -/
def RecvFlow.stale (f : RecvFlow) (p : Packet) : Bool :=
  match SMap.get none f.gens (domainOfEp p.srcEp) with
  | none => false
  | some g => decide (1 ≤ (g - p.gen).toNat) && decide ((g - p.gen).toNat ≤ 127)

/-! ### Receiver flows (R308, R309, R546) -/

/-- The key of a packet's source device. -/
def srcKey (p : Packet) : Nat := destKey p.src p.srcSide

/-- The receiver flow from a source. -/
def State.flowFrom (s : State) (key : Nat) : Option RecvFlow := s.fab.recvFlows.find? (fun f => decide (f.src = key))

/-- A new receiver flow. -/
def freshFlow (key : Nat) (c : Course) : RecvFlow := ⟨key, 0, [], [], c⟩

/-- A flow has seen a sequence number: it lies below the window's foot or is marked. -/
def RecvFlow.saw (f : RecvFlow) (q : BitVec 32) : Bool := decide (2 ^ 31 ≤ (q - f.low).toNat) || f.seen.contains q

/-- The foot of the window after a number was taken: past every number seen in a row (R308). -/
def advanceLow : Nat → BitVec 32 → List (BitVec 32) → BitVec 32 × List (BitVec 32)
  | 0, low, seen => (low, seen)
  | k + 1, low, seen => if seen.contains low then advanceLow k (low + 1) (seen.filter (fun q => q ≠ low)) else (low, seen)

/-- What a receiver makes of a reliable packet. -/
inductive Arrival
  | fresh
  | duplicate
  | stale
  | full
  | beyond
  deriving DecidableEq, Repr

/-- The flow that a packet falls into: a packet with `START` opens or resets it, unless it is a
retransmission of one that this flow has already seen and its sender cannot yet have freed (R309,
assumption 64). -/
def State.flowFor (s : State) (p : Packet) : Option RecvFlow :=
  let key := srcKey p
  match s.flowFrom key with
  | none => if p.start ∧ s.fab.recvFlows.length < 4096 then some (freshFlow key s.course) else none
  | some f =>
    if p.start && !(p.retx && decide (coursesSince s.course f.lastActive < 256) && f.saw p.e2eSeq) then some (freshFlow key s.course)
    else some f

/-- Judges a reliable packet (R308, R517, R546); `reply` packets have passed R516 instead of R517. -/
def State.judge (s : State) (p : Packet) (reply : Bool) : Arrival × Option RecvFlow :=
  match s.flowFor p with
  | none => (if p.start then .full else .beyond, none)
  | some f =>
    if !reply && f.stale p then (.stale, some f)
    else if f.saw p.e2eSeq then (.duplicate, some f)
    else if 256 ≤ (p.e2eSeq - f.low).toNat then (.beyond, some f)
    else (.fresh, some f)

/-- Writes a receiver flow. -/
def State.putFlow (s : State) (f : RecvFlow) : State :=
  if (s.flowFrom f.src).isSome then
    { s with fab := { s.fab with recvFlows := s.fab.recvFlows.map (fun g => if g.src = f.src then f else g) } }
  else { s with fab := { s.fab with recvFlows := s.fab.recvFlows ++ [f] } }

/-- The flow after a packet was accepted. -/
def RecvFlow.take (f : RecvFlow) (p : Packet) (reply : Bool) (c : Course) : RecvFlow :=
  let (low, seen) := advanceLow 257 f.low (f.seen ++ [p.e2eSeq])
  { f with
    low := low, seen := seen, lastActive := c
    gens := if reply then f.gens else SMap.set none f.gens (domainOfEp p.srcEp) (some p.gen) }

/-- The `E2E_ACK` of one packet: a reply, with the packet's tag, to the unit that sent it (R282, R308,
R515). -/
def State.acknowledge (s : State) (p : Packet) : State :=
  s.inject { s.packetTo tyE2eAck tcCT (p.src, p.srcSide) p.srcEp p.dstEp (BitVec.ofNat 42 (p.e2eSeq.toNat * 1024)) 0 [] with gen := p.gen }

/-- What every reliable packet meets at its destination: stale, duplicate and excess ones are dropped and
counted as their rules say; a fresh one has its effect and is acknowledged (R308, R517, R546). -/
def State.accept (s : State) (p : Packet) (reply : Bool) (effect : State → State) : State :=
  match s.judge p reply with
  | (.stale, _) => s.count (genStale (domainOfEp p.dstEp)) 1
  | (.full, _) => s.count Reg.prFlowFull 1
  | (.beyond, _) => s
  | (.duplicate, some f) => ((s.putFlow { f with lastActive := s.course }).count Reg.prE2eDup 1).acknowledge p
  | (.fresh, some f) => (effect (s.putFlow (f.take p reply s.course))).acknowledge p
  | (_, none) => s

/-! ### Taking what has arrived -/

/-- The first packet that has arrived at the local endpoints and passes a test, and what is left. -/
def State.takeArrived (s : State) (test : Packet → Bool) : Option (Nat × Packet × State) :=
  match s.fab.arrived.find? (fun a => test a.2) with
  | none => none
  | some a => some (a.1, a.2, { s with fab := { s.fab with arrived := s.fab.arrived.erase a } })

/-- The first `CTRL` message of a code at an endpoint. -/
def State.takeCtrl (s : State) (ep : BitVec 8) (msg : Nat) : Option (Nat × Packet × State) :=
  s.takeArrived (fun p => decide (p.ty = tyCtrl) && decide (p.dstEp = ep) && decide (beNat (p.payload.take 1) = msg))

/-- The endpoint's domain takes packets: it is in no reset (R266, R534). -/
def State.epOpen (s : State) (e : BitVec 8) : Bool := !s.inReset (domainOfEp e) && !s.inReset 5 && !s.inReset 4

/-- The device address that a packet's `ADDR` carries. -/
def packetAddress (p : Packet) : Nat := p.addr.toNat * 64

/-- The poison flags of a packet's payload, granule by granule (R285). -/
def packetPoison (p : Packet) : List Bool := (List.range ((p.payload.length + 63) / 64)).map (fun g => bitOf p.poison g)

/-- What the tier's regions open to a remote unit: the lifeline engine its own uses, and collectives and
moves GENERAL and OFFLOAD (R265, R720). -/
def remoteUse (e : BitVec 8) (u : Nat) : Bool :=
  if e = epLifeline then decide (u = useSkein) || decide (u = useBuddy) || decide (u = useParity) || decide (u = useOffload)
  else if e = epStepKeeper then decide (u = useJournal)
  else moveUse u

/-- Whether a remote access is one that this device's tier admits; memory other than the tier is open
(R720). -/
def State.remoteAdmitted (s : State) (p : Packet) (n : Nat) : Bool :=
  let a := packetAddress p
  !inTier a || (tierRange a n && s.tierAdmits (remoteUse p.srcEp) 17 a n)

/-- `WRITE` (R285, R308, R720): its granules are written, poisoned as marked; a write that the tier refuses
is written nowhere, acknowledged and counted. -/
def execWrite (s : State) : Host.Outcome State Fault Refusal :=
  match s.takeArrived (fun p => decide (p.ty = tyWrite) && decide (p.dstEp ≠ epStepKeeper) && s.epOpen p.dstEp) with
  | none => .next s
  | some (_, p, t) =>
    act s s.running (t.accept p false (fun u =>
      if u.remoteAdmitted p p.payload.length then u.storeCopied (packetAddress p) p.payload (packetPoison p)
      else u.count Reg.dtRemoteRefused 1))

/-! ### Remote reads -/

/-- Fields of a `READ_REQ` payload (R282): tag, granules, return address. -/
def readTag (p : Packet) : BitVec 16 := BitVec.ofNat 16 (beNat p.payload / 2 ^ 48)
/-- Granules asked for. -/
def readGranules (p : Packet) : Nat := beNat p.payload / 2 ^ 42 % 64 + 1
/-- Return address. -/
def readReturn (p : Packet) : Nat := beNat p.payload % 2 ^ 42 * 64

/-- The response to a read request, from data and poison flags (R282, R515). -/
def State.respond (s : State) (p : Packet) (data : List Byte) (poison : BitVec 64) : State :=
  let r := { s.packetTo tyReadResp tcPT (p.src, p.srcSide) (endpointOf (readReturn p)) p.dstEp
      (BitVec.ofNat 42 (readReturn p / 64)) poison data with gen := p.gen, epoch := readTag p }
  s.sendReliable r .literal .none none none

/-- A read request in the table: its data are read, poison with them, and sent back; one that the tier
refuses is answered with poisoned granules, whose bytes the spec leaves open (R252, R285, R720). -/
def State.serveRead (s : State) (p : Packet) : State :=
  let n := 64 * readGranules p
  let a := packetAddress p
  let t := { s with fab := { s.fab with readTable := s.fab.readTable ++ [(⟨srcKey p, readTag p, readGranules p⟩ : ReadEntry)] } }
  if t.remoteAdmitted p n then
    let r := { t.packetTo tyReadResp tcPT (p.src, p.srcSide) (endpointOf (readReturn p)) p.dstEp
        (BitVec.ofNat 42 (readReturn p / 64)) (t.poisonWord a n) (t.load a n) with gen := p.gen, epoch := readTag p }
    t.sendReliable r (.memory a) .none none none
  else ((t.drewBytes n).count Reg.dtRemoteRefused 1).respond p (t.freeBytes n) (BitVec.ofNat 64 (2 ^ 64 - 1))

/-- `READ_REQ` (R302): entered in the read table, or dropped unacknowledged when the table is full. -/
def execReadReq (s : State) : Host.Outcome State Fault Refusal :=
  match s.takeArrived (fun p => decide (p.ty = tyReadReq) && s.epOpen p.dstEp) with
  | none => .next s
  | some (_, p, t) =>
    act s s.running
      (if 4096 ≤ t.fab.readTable.length ∧ (t.judge p false).1 = .fresh then t.count Reg.prReadBusy 1
        else t.accept p false (fun u => u.serveRead p))

/-- A read of a spare fill. -/
def ReadWait.isFill (r : ReadWait) : Bool := match r.purpose with
  | .fill _ => true
  | _ => false

/-- The body of a fill's result slot (R602). -/
def fillBody (done total bytes : Nat) : List Byte := beBytes 4 done ++ beBytes 4 total ++ beBytes 8 bytes

/-- A fill's result slot shows the entries of its table that have landed and the bytes copied (R602). -/
def State.showFill (s : State) : State :=
  match s.le.fill with
  | none => s
  | some w =>
    let open_ := s.fab.reads.filter ReadWait.isFill
    let done := ((List.range w.total).filter (fun i => open_.all (fun r => decide (r.purpose ≠ .fill i)))).length
    s.updateResult w.slot (fillBody done w.total (w.bytes - 64 * (open_.map ReadWait.left).foldl (· + ·) 0))

/-- A read's granules have arrived: the wait is shortened or ended, a move's landed bytes grow (R55, R308), and a fill's progress
shows (R602). -/
def State.readLanded (s : State) (w : ReadWait) (n : Nat) : State :=
  let left := w.left - n / 64
  let reads := if left = 0 then s.fab.reads.erase w else s.fab.reads.map (fun v => if v = w then { v with left := left } else v)
  let t := { s with fab := { s.fab with reads := reads } }
  match w.purpose with
  | .move c q => t.modCore c (fun k => k.modMove q (fun m => { m with landed := m.landed + n }))
  | .record => t
  | .fill _ => t.showFill

/-- The data of a response stand at their return address, poison with them, counted as copied (R252). -/
def State.landData (s : State) (p : Packet) : State := s.storeCopied (packetAddress p) p.payload (packetPoison p)

/-! ### Remote raises -/

/-- Fields of a `RAISE` packet's `ADDR` (R282). -/
def raisedCtx (p : Packet) : Nat := bitsOf p.addr 41 38
/-- Token. -/
def raisedTok (p : Packet) : Nat := bitsOf p.addr 37 32
/-- Amount. -/
def raisedAmount (p : Packet) : Nat := bitsOf p.addr 31 16

/-- A raise is late: it arrives within 64 courses after its context's tokens were set to 0 and was stamped
before that (R535). -/
def State.raiseLate (s : State) (p : Packet) : Bool :=
  match SMap.get none s.rv.tokenZeroed (raisedCtx p) with
  | none => false
  | some c => decide (coursesSince s.course c ≤ 64) && decide ((BitVec.ofNat 8 c.toNat - p.stamp).toNat ≤ 64)

/-- What a remote raise does at its target core (R62, R64, R65, R535). The place that a `TOKEN_OVERFLOW`
of a remote raise reports is not stated: it is a free value. -/
def State.remoteRaise (s : State) (p : Packet) : State :=
  let c := p.dstEp.toNat
  let x := raisedCtx p
  if !s.inMask x c then s.count (Reg.ctxTokenMisdirect (corePartition c)) 1
  else if s.raiseLate p then s.count (Reg.ctxTokenLate (corePartition c)) 1
  else if s.token c x (raisedTok p) + raisedAmount p ≤ 65535 then
    s.setToken c x (raisedTok p) (s.token c x (raisedTok p) + raisedAmount p)
  else s.drawn.raiseToken c x (raisedTok p) (raisedAmount p) (.core c (s.freeNow.truncate 32) 0)

/-- `RAISE` (R64). -/
def execRaise (s : State) : Host.Outcome State Fault Refusal :=
  match s.takeArrived (fun p => decide (p.ty = tyRaise) && s.epOpen p.dstEp) with
  | none => .next s
  | some (_, p, t) => act s s.running (t.accept p false (fun u => u.remoteRaise p))

/-! ### Acknowledgements -/

/-- A journal copy's packet was acknowledged: the last one completes the copy (R389). -/
def State.copyAcked (s : State) (u : BitVec 32) : State :=
  let j := u.toNat % 8
  match SMap.get none s.sk.own j with
  | some e =>
    if e.step = u then
      { s with sk := { s.sk with own := SMap.set none s.sk.own j (some { e with copyLeft := e.copyLeft - 1, copyDone := decide (e.copyLeft ≤ 1) }) } }
    else s
  | none => s

/-- What an operation learns when one of its packets is acknowledged (R55, R302, R389). -/
def State.acked (s : State) (u : Unacked) : State :=
  let t := if u.packet.ty = tyReadResp then
      { s with fab := { s.fab with readTable := s.fab.readTable.eraseP (fun e =>
          decide (e.src = destKey u.packet.dst u.packet.dstSide) && decide (e.tag = u.packet.epoch)) } }
    else s
  match u.owner with
  | .move c q => t.modCore c (fun k => k.modMove q (fun m =>
      { m with acks := m.acks - 1, landed := m.landed + if m.toGlobal then u.packet.payload.length else 0 }))
  | .journal q => t.copyAcked q
  | _ => t

/-- The acknowledged packets of a flow leave it, and packets that the limits held back go (R307, R546). -/
def State.takeAcks (s : State) (key : Nat) (first : BitVec 32) (n : Nat) : State :=
  match s.flowTo key with
  | none => s
  | some f =>
    let gone := f.unacked.filter (fun u => (u.seq - first).toNat < n)
    let f' := { f with unacked := f.unacked.filter (fun u => ¬ (u.seq - first).toNat < n), lastActive := s.course }
    let t := { s with fab := { s.fab with sendFlows := s.fab.sendFlows.map (fun g => if g.dest = key then f' else g) } }
    (gone.foldl State.acked t).releaseHeld

/-- `E2E_ACK` (R282, R308, R516). -/
def execE2eAck (s : State) : Host.Outcome State Fault Refusal :=
  match s.takeArrived (fun p => decide (p.ty = tyE2eAck)) with
  | none => .next s
  | some (_, p, t) =>
    act s (s.running && !s.inReset 4 && !s.inReset 5)
      (if t.replyStale p then t.count (genStale (domainOfEp p.dstEp)) 1
        else t.takeAcks (srcKey p) (BitVec.ofNat 32 (bitsOf p.addr 41 10)) (bitsOf p.addr 9 0 + 1))

/-! ### Retransmission (R307, R310) -/

/-- The first unacknowledged packet whose last sending is 128 courses old, with its flow. -/
def State.overdue (s : State) : Option (SendFlow × Unacked) :=
  s.fab.sendFlows.findSome? (fun f => (f.unacked.find? (fun u => 128 ≤ coursesSince s.course u.sentAt)).map (fun u => (f, u)))

/-- An abandoned packet leaves its operation incomplete (R310): a cut that wrote it at the partner is not written there. -/
def State.abandon (s : State) (u : Unacked) : State :=
  if u.owner = .buddy then { s with fab := { s.fab with buddyLost := true } } else s

/-- A packet leaves its flow unacknowledged. -/
def State.forget (s : State) (key : Nat) (seq : BitVec 32) : State :=
  { s with fab := { s.fab with sendFlows := s.fab.sendFlows.map (fun f =>
      if f.dest = key then { f with unacked := f.unacked.filter (fun u => u.seq ≠ seq) } else f) } }

/-- `n` bytes of a record in its own slot as a packet of the partner copy carries them: the first tells in `FLAGS` that it is
the copy (R385). -/
def State.recordPayload (s : State) (a n : Nat) (first : Bool) : List Byte :=
  let b := s.load a n
  if first then b.take 6 ++ leBytes 2 1 ++ b.drop 8 else b

/-- The packet as it is sent again: `RETX`, a new stamp, its payload and poison re-read from its origin. -/
def State.again (s : State) (u : Unacked) : Packet :=
  let p := { u.packet with retx := true, stamp := s.stampNow }
  match u.origin with
  | .literal => p
  | .memory a => { p with payload := s.load a p.payload.length, poison := s.poisonWord a p.payload.length }
  | .record a first => { p with payload := s.recordPayload a p.payload.length first, poison := s.poisonWord a p.payload.length }

/-- Sends an overdue packet again, or gives it up after eight retransmissions. A packet whose logical
destination now lies elsewhere goes there, in that device's flow (R297). -/
def State.retransmit (s : State) (f : SendFlow) (u : Unacked) : State :=
  if 8 ≤ u.tries then (((s.forget f.dest u.seq).abandon u).count Reg.prE2eAbandoned 1).releaseHeld
  else
    let p := s.again u
    let place := match u.toward with
      | some l => s.physOf l
      | none => (p.dst, p.dstSide)
    let t := s.count Reg.prE2eRetx 1
    if place = (p.dst, p.dstSide) then
      let f' : SendFlow := { f with
        lastActive := s.course
        unacked := f.unacked.map (fun (v : Unacked) => if v.seq = u.seq then { v with sentAt := s.course, tries := v.tries + 1 } else v) }
      ({ t with fab := { t.fab with sendFlows := t.fab.sendFlows.map (fun (g : SendFlow) => if g.dest = f.dest then f' else g) } }).launch p none
    else (t.forget f.dest u.seq).sendHeld ⟨{ p with dst := place.1, dstSide := place.2 }, u.origin, u.owner, u.toward, none, u.tries + 1⟩

/-- `E2E_RETRANSMIT` (R307, R310). -/
def execE2eRetransmit (s : State) : Host.Outcome State Fault Refusal :=
  match s.overdue with
  | none => .next s
  | some (f, u) => act s (s.running && !s.inReset 4 && !s.inReset 5) (s.retransmit f u)

/-- `FLOW_IDLE_FREE`: a sender flow with nothing unacknowledged is freed after 256 idle courses, a
receiver flow after 512 (R309); what waited for a free entry goes (R546). -/
def execFlowIdleFree (sender : Bool) (key : Nat) (s : State) : Host.Outcome State Fault Refusal :=
  if sender then
    match s.flowTo key with
    | none => .next s
    | some f => act s (s.running && decide (f.unacked = []) && decide (256 ≤ coursesSince s.course f.lastActive))
        ({ s with fab := { s.fab with sendFlows := s.fab.sendFlows.filter (fun g => g.dest ≠ key) } }).releaseHeld
  else
    match s.flowFrom key with
    | none => .next s
    | some f => act s (s.running && decide (512 ≤ coursesSince s.course f.lastActive))
        { s with fab := { s.fab with recvFlows := s.fab.recvFlows.filter (fun g => g.src ≠ key) } }

/-- `FAULT`: a record is stored if new and flooded on every other live torus port; a reserved `KIND` is
dropped (R305, R306), and its `resv` field [12:0] is not looked at (assumption 215). -/
def execFault (s : State) : Host.Outcome State Fault Refusal :=
  match s.takeLink (fun p => decide (p.ty = tyFault)) with
  | none => .next s
  | some (a, t) =>
    let r := BitVec.ofNat 64 (beNat (a.packet.payload.take 8))
    act s (s.running && !s.inReset 4 && !s.inReset 5) (if frKind r < 2 then t.takeFault r (some a.port) else t)

end Sys2Proof.Machine
end

