-- ==== Sys2Proof/Machine/Matrix.lean ====
section
/-! DEFINITION. The matrix instructions `MA.LOADW`, `MA.MUL` and `MA.DRAIN`, and the rows of the cable path
and the low-rank unit (R48–R50, R80–R116, R202–R226, R452–R458). -/

namespace Sys2Proof.Machine

/-! ### `MA.LOADW` (R82, R83, R85–R88) -/

/-- The T8 code of an I4 element's integer (R86). -/
def i4ToT8 (code : Nat) : Nat :=
  let v := Fmt.i4.decode code
  (convertNarrow .t8 v Num.one).code

/-- Tile bytes as a slot holds them: I4 expanded to T8, a byte a column (R86). -/
def slotBytes (fmt : Nat) (bs : List Byte) : List Byte :=
  if fmt = 1 then
    bs.flatMap (fun b => [BitVec.ofNat 8 (i4ToT8 (b.toNat % 16)), BitVec.ofNat 8 (i4ToT8 (b.toNat / 16))])
  else bs

/-- Bytes that the tile of a format takes in core store (R80). -/
def tileBytes (fmt : Nat) : Nat := if fmt = 1 then 0x2000 else 0x4000

/-- `MA.LOADW` at its issue. Where it breaks R88 and its extents leave the allotment or hold poison, the first of these is
raised, in this order (assumption 216). -/
def maLoadw (c x : Nat) (e : QEntry) (s : State) : AtIssue :=
  let w := e.word
  let fmt := matrixFmt w
  let arrays := selected w
  let tiles := arrays.map (fun a => (matrixAddr w + a * 0x4000, tileBytes fmt))
  let scales := if fmt = 4 then [] else arrays.map (fun a => (matrixAddr2 w + a * 0x200, 0x200))
  let k := s.core c
  let k' := arrays.foldl (fun j a =>
    let m := j.array a
    let bs := s.load (storeAt c (matrixAddr w + a * 0x4000)) (tileBytes fmt)
    let ss := s.load (storeAt c (matrixAddr2 w + a * 0x200)) 0x200
    let old := m.slot (wslot w)
    let sc := if fmt = 4 then old.scales
      else SMap.ofList 0 ((List.range 256).map (fun n => BitVec.ofNat 16 (leNat ((ss.drop (2 * n)).take 2))))
    j.setArray a (m.setSlot (wslot w) ⟨true, fmt, ncolsM1 w, SMap.ofList 0 (slotBytes fmt bs), sc⟩)) k
  if arrayMask w = 0 then .done s
  else firstFault [(decide (fmt = 5) || decide (tileWidth ((Fmt.ofCode fmt).getD .t4) < ncolsM1 w + 1), .formatMismatch, 0)]
    (s.checked c x (tiles ++ scales) [] [] (s.setCore c k'))

/-! ### Layer descriptors and the layer table (R202–R208) -/

/-- A layer descriptor (R203). -/
structure LayerDesc where
  id : Nat
  ktiles : Nat
  static : Nat
  rank : Nat
  compact : Bool
  xbase : Nat
  wrow : Nat
  u : Nat
  v : Nat
  deriving DecidableEq, Repr

/-- The descriptor at a core store offset; its `resv` bits are not looked at (assumption 215). -/
def State.layerDesc (s : State) (c off : Nat) : LayerDesc :=
  let b := s.load (storeAt c off) 64
  let f := fun o n => leNat ((b.drop o).take n)
  { id := f 0 2 % 4096, ktiles := f 2 1 + 1, static := f 3 1, rank := f 4 1, compact := decide (f 5 1 % 2 = 1),
    xbase := f 8 4, wrow := f 12 4, u := f 16 4, v := f 20 4 }

/-- r of a `RANK` code; 0 for none and for the reserved codes (R203). -/
def rankOf (code : Nat) : Nat :=
  match code with
  | 1 => 8
  | 2 => 16
  | 3 => 32
  | 4 => 64
  | _ => 0

/-- Copy of the layer table in use in a step (R208). -/
def layerCopyAt (base copy : Nat) : Nat := base * 64 + copy * 0x1_0000

/-- Address of the layer entry `l` that the current step uses (R206, R208). -/
def State.layerAddr (s : State) (x l : Nat) : Nat :=
  layerCopyAt (s.fld (Reg.cpLayers x) Fld.cpLayersBase) (s.fld (Reg.guStep x) Fld.guStepStep % 2) + (l - 1) * 16

/-- Adds to a 32-bit field of a layer entry, holding at its maximum (R207). -/
def State.bump32 (s : State) (a : Nat) : State := s.store a (leBytes 4 (min (s.leAt a 4 + 1) (2 ^ 32 - 1)))

/-! ### `MA.MUL` -/

/-- What an `MA.MUL` knows at its issue beside its word. -/
structure MulJob where
  desc : LayerDesc
  stride : Nat
  ktile : Nat
  side : Nat
  entry : Nat
  fallback : Bool
  excess : Bool
  fallbackAt : Nat
  deriving DecidableEq, Repr

/-- The job of an `MA.MUL` (R202, R204, R214): its k-tile, side block, layer entry, and whether it falls
back. -/
def State.mulJob (s : State) (c x : Nat) (w : IWord) : MulJob :=
  let d := s.layerDesc c (matrixAddr2 w)
  let z := 0x200 + 128 * rowBytes ((Fmt.ofCode (matrixFmt w)).getD .t4)
  let t := (matrixAddr w - d.xbase) / z
  let side := d.xbase + d.ktiles * z
  let entry := s.layerAddr x d.id
  let pinned := decide (s.leAt (entry + 11) 1 % 2 = 1)
  let over_ := decide (s.leAt (entry + 8) 1 < s.leAt (storeAt c (side + t * 0x800)) 2)
  let t4 := decide (matrixFmt w = 0) && cpEn w
  { desc := d, stride := z, ktile := t, side := side + t * 0x800, entry := entry,
    fallback := t4 && (pinned || over_), excess := t4 && !pinned && over_,
    fallbackAt := side + d.ktiles * 0x800 + t * 0x4200 }

/-- Faults of R49 and R229 that need only the slots and the descriptor's fields. Where several hold, the first of this list is
raised (assumption 216). -/
def State.mulCases (s : State) (c x : Nat) (w : IWord) (j : MulJob) : List (Bool × CtxFaultClass × Nat) :=
  let slots := (selected w).map (fun a => ((s.core c).array a).slot (wslot w))
  let uses := cpEn w || lrcEn w
  let off := matrixAddr w - j.desc.xbase
  [(slots.any (fun v => !v.loaded || !pairs v.fmt (matrixFmt w)), .formatMismatch, 0),
   (cpEn w && slots.any (fun v => decide (v.fmt = 4)), .formatMismatch, 0),
   (lrcEn w && slots.any (fun v => decide (v.fmt ≠ 0)), .formatMismatch, 0),
   (uses && decide (matrixAddr2 w % 64 ≠ 0), .address, 0),
   (uses && s.outside x [(matrixAddr2 w, 64)], .address, 0),
   (uses && s.poisoned (storeAt c (matrixAddr2 w)) 64, .poisonConsumed, storeAt c (matrixAddr2 w)),
   (uses && (decide (j.desc.id = 0) || decide (s.fld (Reg.cpLayers x) Fld.cpLayersCount < j.desc.id)), .address, 0),
   (uses && (decide (matrixAddr w < j.desc.xbase) || decide (off % j.stride ≠ 0) || decide (j.desc.ktiles ≤ j.ktile)),
     .address, 0),
   (lrcEn w && decide (rankOf j.desc.rank = 0), .formatMismatch, 0),
   (cpEn w && s.poisoned j.entry 16, .poisonConsumed, j.entry / 64 * 64),
   (cpEn w && s.outside x [(j.side, 0x800)], .address, 0),
   (cpEn w && s.poisoned (storeAt c j.side) 0x800, .poisonConsumed,
     (s.firstPoison [(storeAt c j.side, 0x800)]).getD 0),
   (cpEn w && decide (s.leAt (storeAt c j.side + 2) 1 ≠ j.desc.static), .formatMismatch, 0),
   (cpEn w && j.desc.compact && decide (0 < s.leAt (j.entry + 8) 1), .formatMismatch, 0),
   (j.fallback && decide (s.leAt (storeAt c j.side + 3) 1 % 2 = 0), .formatMismatch, 0)]

/-- The format in which a tile streams: T8 for one that falls back (R215). -/
def streamFmt (w : IWord) (j : MulJob) : Fmt := if j.fallback then .t8 else (Fmt.ofCode (matrixFmt w)).getD .t4

/-- Core store offset of the activation rows that stream. -/
def streamAt (w : IWord) (j : MulJob) : Nat := if j.fallback then j.fallbackAt else matrixAddr w

/-- The cable-path tile of an `MA.MUL` (R221, R458): its outlier work and its checksum work, of which there is none in
compatibility mode, where no checksum is formed (R457, assumption 234). -/
def State.cableTile (s : State) (c : Nat) (e : QEntry) (j : MulJob) (checked_ : Bool) : CableTile :=
  let w := e.word
  let arrays := selected w
  let r := rowsOf w
  let cols := arrays.map (fun a => (((s.core c).array a).slot (wslot w)).ncols)
  let outliers := cpEn w && !j.fallback
  let g := (cols.foldl (· + ·) 0 + 127) / 128
  let work := if outliers then
      ((min (s.leAt (storeAt c j.side + 2) 1) 4 * r + min (s.leAt (storeAt c j.side) 2) 32) * g + 15) / 16
    else 0
  let t4 := decide (matrixFmt w = 0) && !j.fallback
  let check := if checked_ && !s.cfg.compat then ((if t4 then 1 else 2) * r * arrays.length + 15) / 16 else 0
  { seq := e.seq, arrays := arrays, sideBlock := j.side, wrow := j.desc.wrow, compact := j.desc.compact,
    ktile := j.ktile, rows := r, hasOutliers := outliers, direct := !t4 || s.cfg.compat, buf := mulBuf w,
    cols := cols, cycles := work + check }

/-- Core store extents that an `MA.MUL` reads (R71): its rows and their scales, the wide rows of its
outliers, and its factors. -/
def State.mulReads (s : State) (c : Nat) (e : QEntry) (j : MulJob) : List (Nat × Nat) :=
  let w := e.word
  let f := streamFmt w j
  let base := streamAt w j
  let t := s.cableTile c e j false
  let r := rankOf j.desc.rank
  [(base, rowsOf w * rowBytes f)] ++ (if f = .b16 then [] else [(base - 0x200, 2 * rowsOf w)]) ++
    (if t.hasOutliers then (s.tileOutliers c t).flatMap (fun d =>
        (t.arrays.zip t.cols).map (fun p => (d.2.2.2 + 512 * p.1, 2 * p.2)))
      else []) ++
    (if lrcEn w then (j.desc.u + j.ktile * 256 * r, 256 * r) ::
        (selected w).map (fun a => (j.desc.v + a * 512 * r, 512 * r))
      else [])

/-- Cycles for which an `MA.MUL` holds the stream (R110, R114, R216, R454). -/
def streamCycles (w : IWord) (compat fallback checked_ : Bool) : Nat :=
  rowsOf w * (if matrixFmt w = 4 ∨ fallback = true then 2 else 1) * (if compat then 2 else 1) * (if checked_ then 2 else 1)

/-- Counts a T4 tile with `CP_EN` in its layer entry, and its fall-back; a diagnosis context updates no
entry (R210, R217). -/
def State.countTile (s : State) (c x : Nat) (w : IWord) (j : MulJob) : State :=
  if cpEn w && decide (matrixFmt w = 0) then
    let t := if s.isDiag x then s
      else let u := s.bump32 j.entry; if j.excess then u.bump32 (j.entry + 4) else u
    if j.excess then t.count (Reg.cpFallbackTiles c) 1 else t
  else s

/-- The tile on one array: its run entered, its products formed (R97–R99, R109, R215). The close of the run takes the factors
that its last tile with `LRC_EN` named (assumption 217). -/
def State.tileOn (s : State) (c : Nat) (w : IWord) (j : MulJob) (a : Nat) : State :=
  let t := s.enterRun c a w
  let u := if j.fallback then t.promoteArray c a else t
  let f := streamFmt w j
  let base := streamAt w j
  let last := decide (2 ≤ runCode w)
  let m := (u.core c).array a
  let v := m.slot (wslot w)
  let rows := (List.range (rowsOf w)).map (fun i => u.actRow c base f i (kvalid w))
  let scales := (List.range (rowsOf w)).map (fun i => u.rowScaleCode c base f i)
  let m1 :=
    if s.cfg.compat then m.tileCompat v rows scales (kvalid w)
    else if f = .t4 then m.tileT4 v rows scales (kvalid w) last
    else m.tileGroups v j.fallback (decide (f = .b16)) rows scales (kvalid w)
  let r := m1.run
  let m2 := { m1 with run := { r with
    closing := last
    lrcRank := if lrcEn w then rankOf j.desc.rank else r.lrcRank
    lrcV := if lrcEn w then j.desc.v else r.lrcV
    lrcCols := if lrcEn w then max r.lrcCols v.ncols else r.lrcCols } }
  u.modCore c (fun k => k.setArray a m2)

/-- The work that a tile leaves the side units (R221, R225). -/
def State.queueSide (s : State) (c : Nat) (e : QEntry) (j : MulJob) (checked_ : Bool) : State :=
  let w := e.word
  let t := s.cableTile c e j checked_
  let k1 := s.core c
  let k2 := if t.hasOutliers || decide (0 < t.cycles) then { k1 with cableQ := k1.cableQ ++ [t] } else k1
  let r := rankOf j.desc.rank
  let stage := LrcWork.stage e.seq t.arrays (j.desc.u + j.ktile * 256 * r) r (rowsOf w) (kvalid w)
    (if j.fallback then 2 else matrixFmt w) (streamAt w j) (streamAt w j - 0x200) ((rowsOf w * r + 127) / 128)
  let k3 := if lrcEn w then { k2 with lrcQ := k2.lrcQ ++ [stage] } else k2
  let closes := t.arrays.filter (fun a => decide (0 < (k3.array a).run.lrcRank))
  let n := t.cols.foldl (· + ·) 0
  let r' := (closes.map (fun a => (k3.array a).run.lrcRank)).foldl max 0
  let k4 := if decide (2 ≤ runCode w) && decide (closes ≠ []) then
      { k3 with lrcQ := k3.lrcQ ++ [.close e.seq closes ((rowsOf w * r' * n + 16383) / 16384)] }
    else k3
  s.setCore c k4

/-- The comparison that a checked tile opens (R452–R457). -/
def State.openCheck (s : State) (c x : Nat) (e : QEntry) (j : MulJob) : State :=
  let w := e.word
  let f := streamFmt w j
  let t4 := decide (f = .t4)
  let fails := (selected w).flatMap (fun a =>
    let v := ((s.core c).array a).slot (wslot w)
    ((List.range (rowsOf w)).filter (fun i =>
      !rowAgrees t4 j.fallback (decide (f = .b16)) s.cfg.compat v (s.actRow c (streamAt w j) f i (kvalid w)) (kvalid w))).map (fun i => (a, i)))
  let values := fails.foldl (fun m p => SMap.set [] m (p.2 * 4 + p.1)
    ((rowValues t4 j.fallback (decide (f = .b16)) (((s.core c).array p.1).slot (wslot w)) (s.actRow c (streamAt w j) f p.2 (kvalid w))
      (kvalid w)).map Num.parts)) []
  let chk : OpenCheck := {
    step := BitVec.ofNat 32 (s.fld (Reg.guStep x) Fld.guStepStep), ctx := x, index := (s.core c).checkIndex,
    op := opInstruction w e.pc, arrays := selected w, fails := fails, values := values, exact := t4, completed := false, seq := e.seq }
  (s.modCore c (fun k => { k with checks := k.checks ++ [chk] })).count (Reg.snTilesChecked c) 1

/-- Whether an `MA.MUL` is checked (R452). -/
def State.isChecked (s : State) (c x : Nat) (w : IWord) : Bool :=
  decide (arrayMask w ≠ 0) &&
    checkSelected (s.fld Reg.snConfig Fld.snConfigSeed) (s.fld (Reg.guStep x) Fld.guStepStep) c (s.core c).checkIndex
      (s.fld Reg.snConfig Fld.snConfigLevel)

/-- The effect of an `MA.MUL` that does not fault: its values are formed at its issue, and it holds the stream for its stream
cycles (R61, R126). -/
def State.mulEffect (s : State) (c x : Nat) (e : QEntry) (j : MulJob) : State :=
  let w := e.word
  let chk := s.isChecked c x w
  let s1 := (s.settle c).gapEnds c
  let s2 := (selected w).foldl (fun t a => t.tileOn c w j a) s1
  let s3 := s2.queueSide c e j chk
  let s4 := if chk then s3.openCheck c x e j else s3
  let s5 := s4.countTile c x w j
  s5.modCore c (fun k => { k with
    checkIndex := k.checkIndex + 1, streamSeq := e.seq, streamLeft := streamCycles w s.cfg.compat j.fallback chk,
    streamRow := streamCycles w s.cfg.compat j.fallback false / rowsOf w })

/-- `MA.MUL` at its issue. With no array selected it only counts among the issued ones (R91, R452). -/
def maMul (c x : Nat) (e : QEntry) (s : State) : AtIssue :=
  let w := e.word
  let j := s.mulJob c x w
  if arrayMask w = 0 then .done (s.modCore c (fun k => { k with checkIndex := k.checkIndex + 1 }))
  else firstFault (s.mulCases c x w j ++ [(decide (streamFmt w j ≠ .b16) && decide (streamAt w j < 0x200), .address, 0)])
    (s.checked c x (s.mulReads c e j) [] [] (s.mulEffect c x e j))

/-! ### `MA.DRAIN` (R108, R111–R113, R130, R168) -/

/-- The entries of row m of the selected arrays. -/
def State.drainRow (s : State) (c : Nat) (w : IWord) (m : Nat) : List (List Num) :=
  (selected w).map (fun a => (List.range (ncolsM1 w + 1)).map (fun n => ((s.core c).array a).wideAt (drainBuf w) m n))

/-- Bytes of one drained row of one array, with the saturations of a T8 row. -/
def drainBytes (f : Fmt) (scale : Num) (vs : List Num) : List Byte × Nat :=
  if f = .t8 then
    let cs := vs.map (fun v => convertNarrow .t8 v scale)
    (cs.map (fun d => BitVec.ofNat 8 d.code), cs.countP Converted.saturated)
  else (vs.flatMap (fun v => leBytes f.bytes (f.encode v)), 0)

/-- The effect of an `MA.DRAIN` that does not fault. -/
def State.drainEffect (s : State) (c x : Nat) (w : IWord) : State :=
  let f := (Fmt.ofCode (matrixFmt w)).getD .f32
  let arrays := selected w
  let n := arrays.length
  let width := (ncolsM1 w + 1) * f.bytes
  let s1 := arrays.foldl (fun t a =>
    let r := ((t.core c).array a).run
    if r.opened && decide (r.buf = drainBuf w) then t.promoteArray c a else t) (s.settle c)
  let rows := (List.range (rowsOf w)).map (fun m => s1.drainRow c w m)
  let tops := rows.map (fun row => maxMagOf (row.map maxMagOf))
  let scales := tops.map (chooseScale .t8)
  let outs := rows.zipIdx.map (fun r => r.1.map (drainBytes f (Fmt.b16.decode (scales.getD r.2 0x3f80))))
  let s2 := outs.zipIdx.foldl (fun t row => row.1.zipIdx.foldl (fun u p =>
    u.store (storeAt c (matrixAddr w + (row.2 * n + p.2) * width)) p.1.1) t) s1
  let s3 := if f = .t8 then s2.store (storeAt c (matrixAddr2 w)) (scales.flatMap (leBytes 2)) else s2
  let s4 := if f = .t8 ∧ grecOf w ≠ 0 then
      s3.putRecord x (grecOf w) (observe (s3.touchRecord x (grecOf w)) (maxMagOf tops) 0 false)
    else s3
  let bad := (rows.map (fun row => (row.map (fun vs => vs.countP (fun v => !v.isFinite))).foldl (· + ·) 0)).foldl (· + ·) 0
  let sat := (outs.map (fun row => (row.map Prod.snd).foldl (· + ·) 0)).foldl (· + ·) 0
  let s5 := (s4.addNonFinite x bad).count (Reg.guSaturations (ctxPartition x)) sat
  if accClear w then
    s5.modCore c (fun k => arrays.foldl (fun j a => (List.range (rowsOf w)).foldl (fun j1 m =>
      (List.range (ncolsM1 w + 1)).foldl (fun j2 q => j2.setArray a ((j2.array a).putWide (drainBuf w) m q Num.zero)) j1) j) k)
  else s5

/-- `MA.DRAIN` at its issue. -/
def maDrain (c x : Nat) (e : QEntry) (s : State) : AtIssue :=
  let w := e.word
  let t8 := decide (matrixFmt w = 2)
  let f := (Fmt.ofCode (matrixFmt w)).getD .f32
  let dst := (matrixAddr w, rowsOf w * (selected w).length * (ncolsM1 w + 1) * f.bytes)
  let touches := t8 && decide (grecOf w ≠ 0)
  if arrayMask w = 0 then .done s
  else firstFault
    [(!t8 && decide (f ≠ .f32) && decide (f ≠ .b16), .formatMismatch, 0),
     (decide (s.fld (Reg.guRecords x) Fld.guRecordsCount < grecOf w), .address, 0),
     (touches && s.poisoned (s.recordAddr x (grecOf w)) 64, .poisonConsumed, s.recordAddr x (grecOf w))]
    (s.checked c x [] (dst :: (if t8 then [(matrixAddr2 w, 2 * rowsOf w)] else [])) [] (s.drainEffect c x w))

/-! ### The rows -/

/-- `MA.LOADW`. -/
def execMaLoadw (core : Fin 160) (s : State) : Host.Outcome State Fault Refusal :=
  execIssue .matrix opLoadw maLoadw core.val s

/-- `MA.MUL`. -/
def execMaMul (core : Fin 160) (s : State) : Host.Outcome State Fault Refusal :=
  execIssue .matrix opMul maMul core.val s

/-- `MA.DRAIN`. -/
def execMaDrain (core : Fin 160) (s : State) : Host.Outcome State Fault Refusal :=
  execIssue .matrix opDrain maDrain core.val s

/-- The cable path of a core ends its oldest tile's work, its cycles over (R211, R221). -/
def execCablePathWork (core : Fin 160) (s : State) : Host.Outcome State Fault Refusal :=
  let k := s.core core.val
  act s (s.running && s.coreClear core.val && k.cableQ.head?.any (fun t => decide (t.cycles = 0)))
    (s.cableStep core.val)

/-- The low-rank unit of a core ends its oldest work, its cycles over (R224, R225). A close follows the promotion and the
cable-path contributions of its run (R106). -/
def execLowRankWork (core : Fin 160) (s : State) : Host.Outcome State Fault Refusal :=
  let k := s.core core.val
  act s (s.running && s.coreClear core.val && k.lrcQ.head?.any (fun w => decide (w.cycles = 0)))
    (s.lrcStep core.val)

end Sys2Proof.Machine
end

