-- ==== Sys2Proof/Machine/Journal.lean ====
section
/-! DEFINITION. The step journal: slots, records, compare digests, the layer table at a step's start
(R208–R210, R219, R220, R381–R393, R401). -/

namespace Sys2Proof.Machine

/-! ### Slots (R381–R384) -/

/-- Bytes of a journal slot. -/
def State.skSlotBytes (s : State) : Nat := s.fld Reg.skConfig Fld.skConfigSlotSize * 0x1_0000

/-- The journal region's number. -/
def State.journalRegion (s : State) : Nat := s.fld Reg.skConfig Fld.skConfigRegion

/-- Address of journal slot i: own records 0–7, partner copies 8–15 (R381). -/
def State.skSlotAddr (s : State) (i : Nat) : Nat := s.regionBase s.journalRegion + i * s.skSlotBytes

/-- The journal region is usable (R383). -/
def State.journalUsable (s : State) : Bool :=
  decide (0 < s.skSlotBytes) && s.regionOpen s.journalRegion && decide (s.useOf s.journalRegion = useJournal) &&
    decide (16 * s.skSlotBytes ≤ s.regionBytes s.journalRegion)

/-- Valid extents of a kind: number, address and bytes (R384). -/
def State.skExtents (s : State) (compare : Bool) : List (Nat × Nat × Nat) :=
  ((List.range 16).filter (fun n =>
    s.flag (Reg.skExtent n) Fld.skExtentValid && (s.flag (Reg.skExtent n) Fld.skExtentKind == compare))).map
    (fun n => (n, s.fld (Reg.skExtent n) Fld.skExtentAddr * 64, (s.fld (Reg.skExtent n) Fld.skExtentLenM1 + 1) * 64))

/-- An extent lies where R384 lets it: in HBM, in core store or in a GENERAL region. -/
def State.extentReached (s : State) (a n : Nat) : Bool := s.generalRange a n || coreRange a n

/-- The bytes of an extent; one that its region's use does not admit is not read (R265, assumption 219). -/
def State.loadExtent (s : State) (a n : Nat) : List Byte :=
  if s.extentReached a n then s.load a n else (List.range n).map (fun i => Config.unreadByte (a + i))

/-- The bytes written to an extent; one that its region's use does not admit is not written. -/
def State.storeExtent (s : State) (a : Nat) (bs : List Byte) : State :=
  if s.extentReached a bs.length then s.store a bs else s

/-- Contexts that are journalled. -/
def State.journalled (s : State) : List Nat :=
  (List.range 16).filter (fun x => (s.fld Reg.skConfig Fld.skConfigCtxMask).testBit x)

/-- The entry of a step, if its slot holds it (R392). -/
def State.entryOf (s : State) (u : BitVec 32) : Option JournalEntry :=
  match SMap.get none s.sk.own (u.toNat % 8) with
  | none => none
  | some e => if e.step = u then some e else none

/-- Writes the entry of a slot. -/
def State.setEntry (s : State) (j : Nat) (e : Option JournalEntry) : State :=
  let t := { s with sk := { s.sk with own := SMap.set none s.sk.own j e } }
  t.setFld Reg.skStatus Fld.skStatusHeld
    (((List.range 8).map (fun i => bit (SMap.get none t.sk.own i).isSome * 2 ^ i)).foldl (· + ·) 0)

/-- Writes which step the partner copy of a slot is of. -/
def State.setCopy (s : State) (j : Nat) (u : Option (BitVec 32)) : State :=
  let t := { s with sk := { s.sk with copies := SMap.set none s.sk.copies j u } }
  t.setFld Reg.skStatus Fld.skStatusPartnerHeld
    (((List.range 8).map (fun i => bit (SMap.get none t.sk.copies i).isSome * 2 ^ i)).foldl (· + ·) 0)

/-- Held entries. -/
def State.heldEntries (s : State) : List JournalEntry := (List.range 8).filterMap (fun j => SMap.get none s.sk.own j)

/-! ### The layer table (R207–R209, R219) -/

/-- A layer table entry. -/
structure LayerEntry where
  tiles : Nat
  fallbacks : Nat
  cap : Nat
  capNext : Nat
  streak : Nat
  pinned : Bool
  release : Bool
  pins : Nat
  deriving DecidableEq, Repr

/-- An entry read from its 16 bytes (R207). -/
def layerEntryOf (b : List Byte) : LayerEntry where
  tiles := leNat (b.take 4)
  fallbacks := leNat ((b.drop 4).take 4)
  cap := leNat ((b.drop 8).take 1)
  capNext := leNat ((b.drop 9).take 1)
  streak := leNat ((b.drop 10).take 1)
  pinned := decide (leNat ((b.drop 11).take 1) % 2 = 1)
  release := decide (leNat ((b.drop 11).take 1) / 2 % 2 = 1)
  pins := leNat ((b.drop 12).take 4)

/-- The 16 bytes of an entry. -/
def layerEntryBytes (e : LayerEntry) : List Byte :=
  leBytes 4 e.tiles ++ leBytes 4 e.fallbacks ++ [BitVec.ofNat 8 e.cap, BitVec.ofNat 8 e.capNext, BitVec.ofNat 8 e.streak,
    BitVec.ofNat 8 (bit e.pinned + 2 * bit e.release)] ++ leBytes 4 e.pins

/-- The evaluation of an entry at a step's start, with its captured `CAP_NEXT` and `RELEASE`; the flag
tells that it pins the layer (R219). -/
def evaluateLayer (e : LayerEntry) (capNext : Nat) (release : Bool) : LayerEntry × Bool :=
  let over_ := decide (e.tiles < e.fallbacks * 50)
  let base := { e with cap := capNext, tiles := 0, fallbacks := 0 }
  if release then ({ base with pinned := false, streak := 0 }, false)
  else if e.pinned then (base, false)
  else if !over_ then ({ base with streak := 0 }, false)
  else if e.streak + 1 = 3 then ({ base with pinned := true, streak := 0, pins := min (e.pins + 1) (2 ^ 32 - 1) }, true)
  else ({ base with streak := e.streak + 1 }, false)

/-- Address of entry l of a copy of context x's layer table. -/
def State.layerAt (s : State) (x copy l : Nat) : Nat :=
  layerCopyAt (s.fld (Reg.cpLayers x) Fld.cpLayersBase) copy + (l - 1) * 16

/-- Entries of context x's layer table. -/
def State.layerCount (s : State) (x : Nat) : Nat := s.fld (Reg.cpLayers x) Fld.cpLayersCount

/-- Numbers 1 to n. -/
def oneTo (n : Nat) : List Nat := (List.range n).map (· + 1)

/-- The captured `CAP_NEXT` and `RELEASE` of every journalled context's entries, taken from copy 0 (R209):
context, layer and `CAP_NEXT` + 256 × `RELEASE`. -/
def State.captureLayers (s : State) : List (Nat × Nat × Nat) :=
  s.journalled.flatMap (fun x => (oneTo (s.layerCount x)).map (fun l =>
    let e := layerEntryOf (s.load (s.layerAt x 0 l) 16)
    (x, l, e.capNext + 256 * bit e.release)))

/-- Clears every `RELEASE` that a capture read as 1 (R209). -/
def State.clearReleases (s : State) (captured : List (Nat × Nat × Nat)) : State :=
  captured.foldl (fun t c =>
    if c.2.2 / 256 = 1 then
      let a := t.layerAt c.1 0 c.2.1 + 11
      t.store a [BitVec.ofNat 8 (leNat (t.load a 1) / 4 * 4 + leNat (t.load a 1) % 2)]
    else t) s

/-- Writes an evaluated entry into a copy; `CAP_NEXT` and `RELEASE` there are the host's and stay (R208). -/
def State.putLayer (s : State) (x copy l : Nat) (e : LayerEntry) : State :=
  let a := s.layerAt x copy l
  let live := layerEntryOf (s.load a 16)
  s.store a (layerEntryBytes { e with capNext := live.capNext, release := live.release })

/-- Evaluates one entry into the copy of a step, from the given counts. -/
def State.evaluateInto (s : State) (x l : Nat) (u : BitVec 32) (from_ : LayerEntry) (capNext : Nat) (release : Bool) : State :=
  let (e, pins) := evaluateLayer from_ capNext release
  let t := s.putLayer x (u.toNat % 2) l e
  if pins then t.count (Reg.cpPinEvents x) 1 else t

/-- The evaluation at the start of step u: from the copy of step u − 1 with the captured values (R208). -/
def State.evaluateLayers (s : State) (u : BitVec 32) (captured : List (Nat × Nat × Nat)) : State :=
  captured.foldl (fun t c =>
    t.evaluateInto c.1 c.2.1 u (layerEntryOf (t.load (t.layerAt c.1 ((u.toNat + 1) % 2) c.2.1) 16)) (c.2.2 % 256) (decide (c.2.2 / 256 = 1))) s

/-! ### Records (R385, R386) -/

/-- Pads with zeros to a multiple of 64 bytes. -/
def padTo64 (bs : List Byte) : List Byte := bs ++ zeroBytes ((64 - bs.length % 64) % 64)

/-- The section of context x in the record of step u (R386). -/
def State.contextSection (s : State) (x : Nat) (u : BitVec 32) (captured : List (Nat × Nat × Nat)) : List Byte :=
  let g := s.fld (Reg.guRecords x) Fld.guRecordsCount
  let l := s.layerCount x
  padTo64 (leBytes 1 x ++ zeroBytes 7 ++ leBytes 8 (s.reg (Reg.guLossScale x)).toNat ++ leBytes 4 g ++ leBytes 2 l ++ zeroBytes 10 ++
    s.load (s.fld (Reg.guRecords x) Fld.guRecordsBase * 64) (64 * g) ++
    (captured.filter (fun c => c.1 = x)).flatMap (fun c =>
      let e := layerEntryOf (s.load (s.layerAt x ((u.toNat + 1) % 2) c.2.1) 16)
      layerEntryBytes { e with capNext := c.2.2 % 256, release := decide (c.2.2 / 256 = 1) }))

/-- The record with its length, `MAGIC`, `FLAGS` and check as given, `COMPARE` zero. -/
def State.recordWith (s : State) (e : JournalEntry) (sections : List Byte) (check : List Byte) (copy : Bool) : List Byte :=
  leBytes 4 0x534B_4A52 ++ leBytes 2 1 ++ leBytes 2 (bit copy) ++ leBytes 4 e.step.toNat ++ leBytes 4 s.cfg.tag.toNat ++
    leBytes 8 e.startCourse.toNat ++ leBytes 2 (s.fld Reg.ceEpoch Fld.ceEpochEpoch) ++ zeroBytes 2 ++ leBytes 4 s.memberCount ++
    leBytes 4 s.mappingTag.toNat ++ leBytes 2 (s.fld Reg.skConfig Fld.skConfigCtxMask) ++ zeroBytes 2 ++ leBytes 8 e.batchAddr ++
    leBytes 4 e.batchGranules ++ zeroBytes 4 ++ fitTo 64 e.seeds ++
    (List.range 32).map (fun r => BitVec.ofNat 8 (s.ce.plan.getD r 0)) ++ leBytes 8 (0x1000 + sections.length) ++ check ++
    zeroBytes 88 ++ zeroBytes 256 ++ zeroBytes 0xE00 ++ sections

/-- The bytes that `CHECK` covers: `MAGIC`, `FLAGS`, `CHECK` and `COMPARE` taken as 0 (R385). -/
def checkedBytes (b : List Byte) : List Byte :=
  zeroBytes 4 ++ (b.drop 4).take 2 ++ zeroBytes 2 ++ (b.drop 8).take 0x98 ++ zeroBytes 8 ++ (b.drop 0xA8).take 0x58 ++
    zeroBytes 0x100 ++ b.drop 0x200

/-- The sections of the record of a step: contexts, then capture extents. -/
def State.recordSections (s : State) (u : BitVec 32) (captured : List (Nat × Nat × Nat)) : List Byte :=
  s.journalled.flatMap (fun x => s.contextSection x u captured) ++
    (s.skExtents false).flatMap (fun c => s.loadExtent c.2.1 c.2.2)

/-- The record of an entry, as the own slot holds it. -/
def State.journalBytes (s : State) (e : JournalEntry) (captured : List (Nat × Nat × Nat)) : List Byte :=
  let sec := s.recordSections e.step captured
  s.recordWith e sec (check64 (checkedBytes (s.recordWith e sec (zeroBytes 8) false))) false

/-- Which granules of context x's section are copied from poisoned ones (R252, assumption 224). -/
def State.sectionPoison (s : State) (x : Nat) (u : BitVec 32) (captured : List (Nat × Nat × Nat)) : List Bool :=
  let g := s.fld (Reg.guRecords x) Fld.guRecordsCount
  let base := s.fld (Reg.guRecords x) Fld.guRecordsBase * 64
  let bad := fun (i : Nat) => decide (i < g) && s.poisoned (base + 64 * i) 64
  (List.range ((s.contextSection x u captured).length / 64)).map (fun i =>
    bad i || (decide (0 < i) && bad (i - 1)) ||
      (oneTo (s.layerCount x)).any (fun l =>
        decide ((0x20 + 64 * g + 16 * (l - 1)) / 64 = i) && s.poisoned (s.layerAt x ((u.toNat + 1) % 2) l) 16))

/-- Which granules of a record are copied from poisoned ones (assumption 224). -/
def State.recordPoison (s : State) (u : BitVec 32) (captured : List (Nat × Nat × Nat)) : List Bool :=
  List.replicate 64 false ++ s.journalled.flatMap (fun x => s.sectionPoison x u captured) ++
    (s.skExtents false).flatMap (fun c => s.poisonFlags c.2.1 c.2.2)

/-- `RECORD_LEN` of a record. -/
def recordLen (b : List Byte) : Nat := leNat ((b.drop 0x98).take 8)

/-- `STEP` of a record. -/
def recordStep (b : List Byte) : BitVec 32 := BitVec.ofNat 32 (leNat ((b.drop 8).take 4))

/-- The record that slot i holds. -/
def State.slotRecord (s : State) (i : Nat) : List Byte :=
  let h := s.load (s.skSlotAddr i) 0x1000
  s.load (s.skSlotAddr i) (min (recordLen h) s.skSlotBytes)

/-- A record passes the checks of R397 for a step; poisoned granules fail it. -/
def State.recordGood (s : State) (i : Nat) (u : BitVec 32) : Bool :=
  let b := s.slotRecord i
  decide (leNat (b.take 4) = 0x534B_4A52) && decide ((b.drop 0xA0).take 8 = check64 (checkedBytes b)) &&
    decide (recordStep b = u) && !s.poisoned (s.skSlotAddr i) (min (recordLen b) s.skSlotBytes)

/-- The first `n` bytes of the record at an address go to the partner's step keeper, poison with them: `ADDR` carries the
byte offset in 64-byte units, and each packet's payload is read again from the own slot (R284, R285, R307, R389). -/
def State.sendCopy (s : State) (a n : Nat) (owner : Owner) : State :=
  (List.range ((n + 4095) / 4096)).foldl (fun t i =>
    let at_ := a + 4096 * i
    let len := min 4096 (n - 4096 * i)
    let first := decide (i = 0)
    t.sendReliable
      (t.packetTo tyWrite tcLL (t.physOf t.partner) epStepKeeper epStepKeeper (BitVec.ofNat 42 (64 * i)) (t.poisonWord at_ len)
        (t.recordPayload at_ len first))
      (.record at_ first) owner (some t.partner) none) s

/-! ### Release (R393) -/

/-- Writes `MAGIC` = 0 in a slot. -/
def State.clearMagic (s : State) (i : Nat) : State := s.store (s.skSlotAddr i) (zeroBytes 4)

/-- The own entry of a step is released, and its `STEP_START` entries stay (R29, R393). -/
def State.releaseOwn (s : State) (u : BitVec 32) : State :=
  match s.entryOf u with
  | none => s
  | some e => (if e.recorded then s.clearMagic (u.toNat % 8) else s).setEntry (u.toNat % 8) none

/-- The partner copy of a step is released. -/
def State.releaseCopy (s : State) (u : BitVec 32) : State :=
  if SMap.get none s.sk.copies (u.toNat % 8) = some u then (s.clearMagic (8 + u.toNat % 8)).setCopy (u.toNat % 8) none else s

/-! ### The rows of a record -/

/-- The first held entry, in the order of slots, whose record is due: its step follows the current boundary,
which is the decision of the step before, carried out, with the overlay switch of that boundary (R25, R388). -/
def State.recordDue (s : State) : Option JournalEntry :=
  s.heldEntries.find? (fun e => !e.recorded && !e.refused && decide (s.sk.boundary = some (e.step - 1)) &&
    !s.switchPending (e.step - 1))

/-- Makes the record of an entry: refused when it exceeds the slot (R391), else captured, written and sent
to the partner (R209, R388, R389). -/
def State.makeRecord (s : State) (e : JournalEntry) : State :=
  let j := e.step.toNat % 8
  let captured := s.captureLayers
  let own := s.journalBytes e captured
  if s.skSlotBytes < own.length then
    ((s.setEntry j none).setStepField e.step fldStepState stepRefused).setStepField e.step fldStepStatus stSkTooLarge
  else
    let t := (s.storeCopied (s.skSlotAddr j) own (s.recordPoison e.step captured)).clearReleases captured
    let u := t.setEntry j (some { e with
      recorded := true, localDone := true, captured := captured
      copyLeft := if s.partnerPresent then (own.length + 4095) / 4096 else 0 })
    if s.partnerPresent then u.sendCopy (s.skSlotAddr j) own.length (.journal e.step) else u

/-- What a record is made from, or written to, lies in a partition in reset (R266, R534). -/
def State.recordWaits (s : State) : Bool :=
  s.memWaits (s.regionBase s.journalRegion) (s.regionBytes s.journalRegion) || (s.skExtents false).any (fun c => s.memWaits c.2.1 c.2.2) ||
    s.journalled.any (fun x => s.memWaits (s.fld (Reg.guRecords x) Fld.guRecordsBase * 64) (64 * s.fld (Reg.guRecords x) Fld.guRecordsCount) ||
      s.memWaits (s.layerAt x 0 1) 0x2_0000)

/-- `JOURNAL_RECORD` (R388). -/
def execJournalRecord (s : State) : Host.Outcome State Fault Refusal :=
  match s.recordDue with
  | none => .next s
  | some e =>
    act s (s.running && s.journalUsable && !s.inReset 4 && !s.inReset 5 && !s.recordWaits) (s.makeRecord e)

/-- A `COPY_REFUSED` for step u has arrived and waits to be taken. -/
def State.refusalWaits (s : State) (u : BitVec 32) : Bool :=
  s.fab.arrived.any (fun a => decide (a.2.ty = tyCtrl) && decide (a.2.dstEp = epStepKeeper) &&
    decide (beNat (a.2.payload.take 5) = 0x30 * 2 ^ 32 + u.toNat))

/-- The first entry whose record has become durable: on both copies, or on the local one where no partner is
present or the partner refused it (R389). A refusal that has arrived is taken first (assumption 90). -/
def State.durableDue (s : State) : Option JournalEntry :=
  s.heldEntries.find? (fun e => e.recorded && e.localDone && !e.durable && (e.copyDone || e.unmirrored || !s.partnerPresent) &&
    !s.refusalWaits e.step)

/-- `JOURNAL_DURABLE` (R389). -/
def execJournalDurable (s : State) : Host.Outcome State Fault Refusal :=
  match s.durableDue with
  | none => .next s
  | some e =>
    let mirrored := e.copyDone && !e.unmirrored
    let t := s.setEntry (e.step.toNat % 8) (some { e with durable := true, unmirrored := !mirrored })
    let u := (t.setFld Reg.skStatus Fld.skStatusUnmirrored (bit (!mirrored))).setStepField e.step fldStepUnmirrored (bit (!mirrored))
    act s (s.running && !s.inReset 4 && !s.inReset 5) ((u.count Reg.skRecords 1).setStepField e.step fldStepState stepJournalled)

/-- The first partner copy packet that may be taken: one at offset 0, or one of the copy that is arriving. -/
def State.takeCopy (s : State) : Option (Nat × Packet × State) :=
  s.takeArrived (fun p => decide (p.ty = tyWrite) && decide (p.dstEp = epStepKeeper) && s.epOpen p.dstEp &&
    (decide (p.addr = 0) || s.sk.incoming.isSome))

/-- A copy's refusal goes to the partner, the device that sent it (R284, R389). -/
def State.refuseCopy (s : State) (u : BitVec 32) : State :=
  s.sendCtrl s.partner epStepKeeper epStepKeeper (beBytes 1 0x30 ++ beBytes 4 u.toNat ++ zeroBytes 3)

/-- Writes a packet of a partner copy and ends the copy with its last byte. -/
def State.putCopy (s : State) (u : BitVec 32) (left : Nat) (keep : Bool) (p : Packet) : State :=
  let j := u.toNat % 8
  let t := if keep then s.storeCopied (s.skSlotAddr (8 + j) + packetAddress p) p.payload (packetPoison p) else s
  let rest := left - p.payload.length
  if rest = 0 then
    let v := { t with sk := { t.sk with incoming := none } }
    if keep then v.setCopy j (some u) else v
  else { t with sk := { t.sk with incoming := some (u, rest, keep) } }

/-- A packet of a partner's record: its first tells step and length, and so whether the copy is kept; a
header of 512 bytes of a copy that is held brings its compare digests (R389, R401, assumption 90). -/
def State.takeCopyPacket (s : State) (p : Packet) : State :=
  if p.addr = 0 then
    let u := recordStep p.payload
    let keep := s.journalUsable && decide (recordLen p.payload ≤ s.skSlotBytes)
    if p.payload.length = 512 then
      if SMap.get none s.sk.copies (u.toNat % 8) = some u then s.storeCopied (s.skSlotAddr (8 + u.toNat % 8)) p.payload (packetPoison p) else s
    else
      let t := s.putCopy u (recordLen p.payload) keep p
      if keep then t else t.refuseCopy u
  else
    match s.sk.incoming with
    | none => s
    | some (u, left, keep) => s.putCopy u left keep p

/-- `PARTNER_COPY` (R389). -/
def execPartnerCopy (s : State) : Host.Outcome State Fault Refusal :=
  match s.takeCopy with
  | none => .next s
  | some (_, p, t) =>
    act s (s.running && !s.memWaits (s.regionBase s.journalRegion) (s.regionBytes s.journalRegion)) (t.accept p false (fun u => u.takeCopyPacket p))

/-- `COPY_REFUSED` (R284, R389). -/
def execCopyRefused (s : State) : Host.Outcome State Fault Refusal :=
  match s.takeCtrl epStepKeeper 0x30 with
  | none => .next s
  | some (_, p, t) =>
    let u := BitVec.ofNat 32 (beNat ((p.payload.drop 1).take 4))
    act s (s.running && s.epOpen p.dstEp)
      (if p.payload.length = 8 then t.accept p false (fun v =>
          match v.entryOf u with
          | none => v
          | some e =>
            ((v.setEntry (u.toNat % 8) (some { e with unmirrored := true })).setFld Reg.skStatus Fld.skStatusUnmirrored 1).setStepField
              u fldStepUnmirrored 1)
        else t.count Reg.prBadType 1)

/-! ### Compare digests (R401, R404) -/

/-- The `COMPARE` field: digests of the compare extents, each with the course of its taking. -/
def State.compareField (s : State) : List Byte :=
  (List.range 16).flatMap (fun n =>
    match (s.skExtents true).find? (fun c => c.1 = n) with
    | none => zeroBytes 16
    | some c => check64 (s.loadExtent c.2.1 c.2.2) ++ leBytes 8 s.course.toNat)

/-- The digests of a step's end point are written into `COMPARE` of both copies (R401). -/
def State.writeCompare (s : State) (u : BitVec 32) : State :=
  match s.entryOf u with
  | none => s
  | some e =>
    if e.recorded && decide (s.skExtents true ≠ []) then
      let a := s.skSlotAddr (u.toNat % 8)
      let t := s.store (a + 0x100) s.compareField
      if t.partnerPresent && !e.unmirrored then
        t.sendCopy a 512 (.compare u)
      else t
    else s

/-- Digests of step u are still on their way to the partner's copy (R307, R401). -/
def State.compareOpen (s : State) (u : BitVec 32) : Bool :=
  s.fab.sendFlows.any (fun f => f.unacked.any (fun p => decide (p.owner = .compare u))) || s.fab.held.any (fun h => decide (h.owner = .compare u))

/-- The compare extents whose digest differs from `COMPARE` of the record in a slot. -/
def State.mismatches (s : State) (slot : Nat) : List Nat :=
  ((s.skExtents true).filter (fun c =>
    s.load (s.skSlotAddr slot + 0x100 + 16 * c.1) 8 ≠ check64 (s.loadExtent c.2.1 c.2.2))).map (·.1)

/-- A set of extent numbers as a mask. -/
def maskOfNats (ns : List Nat) : Nat := (ns.map (fun n => 2 ^ n)).foldl (· + ·) 0

/-! ### Rebuilding the table of held entries (R394) -/

/-- The step of the record in a slot whose `MAGIC` and `CHECK` pass (R394). -/
def State.slotHeld (s : State) (i : Nat) : Option (BitVec 32) :=
  let b := s.slotRecord i
  if leNat (b.take 4) = 0x534B_4A52 ∧ (b.drop 0xA0).take 8 = check64 (checkedBytes b) then some (recordStep b) else none

/-- An entry rebuilt from its slot's header: durable, and of an arm no more than its record tells. -/
def rebuiltEntry (u : BitVec 32) (b : List Byte) : JournalEntry where
  step := u
  startCourse := BitVec.ofNat 48 (leNat ((b.drop 0x10).take 8))
  batchAddr := leNat ((b.drop 0x28).take 8)
  batchGranules := leNat ((b.drop 0x30).take 4)
  seeds := (b.drop 0x38).take 64
  recorded := true
  localDone := true
  copyDone := true
  copyLeft := 0
  durable := true
  unmirrored := false
  refused := false
  replay := false
  started := false
  decided := false
  captured := []

/-- The table of held entries follows the slot headers, once the journal region can be read. An entry of the
same step keeps what is known of it. -/
def State.rebuildKeeper (s : State) : State :=
  if s.journalUsable then
    let own := (List.range 8).foldl (fun (t : State) j =>
      match t.slotHeld j with
      | none => t.setEntry j none
      | some u => match t.entryOf u with
        | some _ => t
        | none => t.setEntry j (some (rebuiltEntry u (t.slotRecord j)))) s
    ((List.range 8).foldl (fun (t : State) j => t.setCopy j (t.slotHeld (8 + j))) own).setFld
      Reg.skStatus Fld.skStatusRebuilding 0
  else s

/-- A rebuild that awaits its region goes on when the region can be read. -/
def State.resumeRebuild (s : State) : State := if s.flag Reg.skStatus Fld.skStatusRebuilding then s.rebuildKeeper else s

end Sys2Proof.Machine
end

