-- ==== Sys2Proof/Machine/Suspects.lean ====
section
/-! DEFINITION. Suspect units, failed units and the device's retirement (R466, R467, R472, R473, R512). -/

namespace Sys2Proof.Machine

/-! ### Units of the swatch kinds (R468, R480) -/

/-- The units of a swatch kind on a partition (table 0 to 3) or in the fabric domain (table 4). -/
def swatchUnits (t kind : Nat) : List (BitVec 32) :=
  let cores := (List.range 40).map (· + 40 * t)
  if t < 4 then
    match kind with
    | 0 => cores.flatMap (fun c => (List.range 4).map (fun a => corePath 1 c a 0))
    | 1 => cores.map (fun c => corePath 2 c 0 0)
    | 2 => cores.map (fun c => corePath 4 c 0 0)
    | 3 => cores.map (fun c => corePath 5 c 0 0)
    | 4 => cores.map (fun c => corePath 6 c 0 0)
    | 5 => cores.map (fun c => corePath 3 c 0xFF 0)
    | 6 => cores.flatMap (fun c => (List.range 4).map (fun a => corePath 3 c a 0))
    | 7 => [unitPath t 17 0xFF 0 0]
    | _ => []
  else
    match kind with
    | 8 => [enginePath 11]
    | 9 => [unitPath 4 19 0xFF 0 0, unitPath 5 19 0xFF 0 0]
    | _ => []

/-- Every unit of a kind on the device. -/
def unitsOfKind (kind : Nat) : List (BitVec 32) := (List.range 5).flatMap (fun t => swatchUnits t kind)

/-! ### The suspect list (R473) -/

/-- Entry n is in use. -/
def State.suspectValid (s : State) (n : Nat) : Bool := s.flag (Reg.snSuspect n) Fld.snSuspectValid

/-- The entry that names a unit. -/
def State.suspectOf (s : State) (u : BitVec 32) : Option Nat :=
  (List.range 32).find? (fun n => s.suspectValid n && decide (s.fld (Reg.snSuspect n) Fld.snSuspectUnit = u.toNat))

/-! ### Units due (R471) -/

/-- Courses after which a unit is due: 6 h, or 10 min for a suspect (R471). -/
def State.duePeriod (s : State) (u : BitVec 32) : Nat := if (s.suspectOf u).isSome then 585937500 else 21093750000

/-- A unit is due for a swatch (R471). A unit that has completed none counts from the reset. -/
def State.unitDue (s : State) (u : BitVec 32) : Bool :=
  decide (s.duePeriod u ≤ coursesSince s.course ((SMap.get none s.sn.lastSwatch u.toNat).getD 0))

/-- A unit of a kind is due. -/
def State.kindDue (s : State) (kind : Nat) : Bool := (unitsOfKind kind).any s.unitDue

/-- Shows a kind in `SN_CONFIG.DUE`. -/
def State.showDue (s : State) (kind : Nat) (due : Bool) : State :=
  let d := s.fld Reg.snConfig Fld.snConfigDue
  let d' := if d.testBit kind = due then d else if due then d + 2 ^ kind else d - 2 ^ kind
  s.setFld Reg.snConfig Fld.snConfigDue d'

/-- The kinds of which no unit is due any more are shown so. -/
def State.refreshDue (s : State) : State := (List.range 10).foldl (fun t k => if t.kindDue k then t else t.showDue k false) s

/-! ### Changes of the list (R472, R473) -/

/-- A suspect change is recorded, under the class of the error that caused it (R485, R487). -/
def State.suspectChange (s : State) (u : BitVec 32) (cls : Nat) (entry : Word) : State :=
  s.addFsr 3 cls u opNone 0 (s.logStep (Report.bare 0 u)) [] (leBytes 8 entry.toNat)

/-- The entry that a suspect replaces when the list is full: valid, not FAILED, of the highest `CLEAN`, the
lowest n winning ties. -/
def State.suspectVictim (s : State) : Option Nat :=
  ((List.range 32).filter (fun n => !s.flag (Reg.snSuspect n) Fld.snSuspectFailed)).foldl
    (fun b n => match b with
      | none => some n
      | some m => if s.fld (Reg.snSuspect m) Fld.snSuspectClean < s.fld (Reg.snSuspect n) Fld.snSuspectClean then some n else some m) none

/-- A new entry: `VALID`, its cause and unit. -/
def suspectWord (u : BitVec 32) (cause : Nat) : Word := BitVec.ofNat 64 (2 ^ 63 + cause % 8 * 2 ^ 52 + u.toNat)

/-- The class of the error that brought an entry into the list: by `FAILED` and `CAUSE`. Which of the three comparisons
brought one in, the entry does not hold: it is free (assumption 240). -/
def State.entryClass (s : State) (entry : Word) : Nat :=
  if Fld.snSuspectFailed.get entry = 1 then clsUnitFailed
  else match Fld.snSuspectCause.get entry with
    | 1 => clsSwatchFail
    | 2 => clsLadder
    | _ => [clsCheckExact, clsCheckBound, clsCheckDup].getD (s.freeNow.toNat % 3) 0

/-- The removal of an entry is recorded. -/
def State.entryGone (s : State) (old : Word) : State :=
  s.drawn.suspectChange (BitVec.ofNat 32 (Fld.snSuspectUnit.get old)) (s.entryClass old) old

/-- A unit enters the suspect list by an error of a class; one that is on it stays as it is (R472, R473). -/
def State.suspect (s : State) (u : BitVec 32) (cause cls : Nat) : State :=
  if (s.suspectOf u).isSome then s
  else
    let put := fun (t : State) (n : Nat) => (t.setReg (Reg.snSuspect n) (suspectWord u cause)).suspectChange u cls (suspectWord u cause)
    match (List.range 32).find? (fun n => !s.suspectValid n) with
    | some n => put s n
    | none => match s.suspectVictim with
      | none => s.count Reg.snSuspectFull 1
      | some n => (put (s.entryGone (s.reg (Reg.snSuspect n))) n).refreshDue

/-- Removes an entry (R472, R473). -/
def State.removeSuspect (s : State) (n : Nat) : State :=
  ((s.setReg (Reg.snSuspect n) 0).entryGone (s.reg (Reg.snSuspect n))).refreshDue

/-! ### Failed units and retirement (R467, R512) -/

/-- The device of a job is RETIRED and floods a device record that names itself (R512). -/
def State.retire (s : State) : State :=
  if s.jobState = jobIdle ∨ s.jobState = jobRetired then s
  else (s.setFld Reg.rvStatus Fld.rvStatusJobState jobRetired).findFault 1 s.phys 0

/-- A unit is marked FAILED: its entry and a record say so, the error is reported, the step aborts, the
device retires and its fabric domain resets (R466, R467, R485, R512). -/
def State.unitFailed (s : State) (u : BitVec 32) : State :=
  let s1 := match s.suspectOf u with
    | none => s
    | some n => s.setFld (Reg.snSuspect n) Fld.snSuspectFailed 1
  let entry := match s1.suspectOf u with
    | none => suspectWord u 0
    | some n => s1.reg (Reg.snSuspect n)
  let s2 := (s1.suspectChange u clsUnitFailed entry).report (Report.bare clsUnitFailed u)
  let s3 := s2.abortStep 0xA s2.jobStep
  if s3.jobState = jobIdle ∨ s3.jobState = jobRetired then s3 else s3.retire.dueReset 3 4 0xA

/-! ### Outcomes of swatches (R470–R472) -/

/-- A swatch was clean: the unit's row of clean ones grows, and at 100 it leaves the list (R472). -/
def State.swatchClean (s : State) (u : BitVec 32) : State :=
  let t := { s with sn := { s.sn with failStreak := SMap.set 0 s.sn.failStreak u.toNat 0 } }
  match t.suspectOf u with
  | none => t
  | some n =>
    let c := min 100 (t.fld (Reg.snSuspect n) Fld.snSuspectClean + 1)
    let v := t.setFld (Reg.snSuspect n) Fld.snSuspectClean c
    if c = 100 then v.removeSuspect n else v

/-- A swatch failed: logged and counted; the unit is suspect, and FAILED after two in a row. -/
def State.swatchFailed (s : State) (u : BitVec 32) : State :=
  let k := SMap.get 0 s.sn.failStreak u.toNat + 1
  let t := { s with sn := { s.sn with failStreak := SMap.set 0 s.sn.failStreak u.toNat k } }
  let v := ((t.count Reg.snSwatchFails 1).report (Report.bare clsSwatchFail u)).suspect u 1 clsSwatchFail
  let w := match v.suspectOf u with
    | none => v
    | some n => v.setFld (Reg.snSuspect n) Fld.snSuspectClean 0
  if 2 ≤ k then w.unitFailed u else w

/-- A swatch has been completed. -/
def State.swatchDone (s : State) (r : SwatchResult) : State :=
  let t := { s with sn := { s.sn with lastSwatch := SMap.set none s.sn.lastSwatch r.unit_.toNat (some s.course) } }
  let u := t.count Reg.snSwatches 1
  if r.clean then u.swatchClean r.unit_ else u.swatchFailed r.unit_

end Sys2Proof.Machine
end

