-- ==== Sys2Proof/Machine/Sentinel.lean ====
section
/-! DEFINITION. The sentinel's rows: scrubbing, comparisons, swatch windows, ladder windows and summaries
(R240, R245, R249–R251, R460–R473, R483–R485). -/

namespace Sys2Proof.Machine

/-! ### Scrubbing (R244, R247–R251) -/

/-- The counter unit of an HBM granule: its stack (R244). -/
def hbmStack (a : Nat) : Nat := 4 * partitionOf a + (a - hbmBase (partitionOf a)) / 256 % 4

/-- Pseudo-channel of an HBM address within its stack (R244). -/
def hbmPseudo (a : Nat) : Nat := (a - hbmBase (partitionOf a)) / 1024 % 64

/-- Byte of an HBM address within its pseudo-channel (R244). -/
def hbmByte (a : Nat) : Nat := (a - hbmBase (partitionOf a)) / 0x1_0000 * 256 + a % 256

/-- DDR5 channel of a tier address (R248). -/
def tierChannel (a : Nat) : Nat := 3 * partitionOf a + (a - tierBase (partitionOf a)) / 256 % 3

/-- Byte of a tier address within its channel (R248). -/
def tierByte (a : Nat) : Nat := (a - tierBase (partitionOf a)) / 768 * 256 + (a - tierBase (partitionOf a)) % 256

/-- Subchannel of a tier address (R248). -/
def tierSubchannel (a : Nat) : Nat := tierByte a / 64 % 2

/-- DIMM of a tier address: 1 at and above the capacity of DIMM 0 of its channel (R248). -/
def State.tierDimm (s : State) (a : Nat) : Nat := bit (decide (SMap.get 0 s.co.dimm0 (tierChannel a) ≤ tierByte a))

/-- Bank of a core store offset (R238). -/
def coreBank (off : Nat) : Nat := off / 64 % 32

/-- Row of a core store offset within its bank (R238). -/
def coreRow (off : Nat) : Nat := off / 2048

/-- The path of a DDR5 channel, whose controller lies on IO0 for P0 and P1 and on IO1 for P2 and P3 (R13). -/
def channelPath (n sub : Nat) : BitVec 32 := unitPath (4 + n / 6) 8 0xFF n sub

/-- The granule lies in a memory that has codes: HBM, the populated tier, or a core store. -/
def State.coded (s : State) (a : Nat) : Bool :=
  inHbm a ||
    (inTier a && decide ((a - tierBase (partitionOf a)) / 0x1_0000 < s.fld (Reg.dtPop (partitionOf a)) Fld.dtPopSize)) ||
    coreRange a 64

/-- The path of the memory that holds an address: a stack and its pseudo-channel, a DDR5 channel with its DIMM and subchannel,
or a core store and its bank (R238, R244, R248, R480, assumption 81). -/
def State.memoryPath (s : State) (a : Nat) : BitVec 32 :=
  if inHbm a then unitPath (partitionOf a) 7 0xFF (hbmStack a) (hbmPseudo a)
  else if inTier a then channelPath (tierChannel a) (2 * s.tierDimm a + tierSubchannel a)
  else corePath 3 ((a - 0x2000_0000_0000) / 0x100_0000) 0xFF (coreBank ((a - 0x2000_0000_0000) % 0x100_0000))

/-- Where a granule lies in its memory: byte of the pseudo-channel or of the channel, or row of the bank. -/
def placeIn (a : Nat) : Nat :=
  if inHbm a then hbmByte a else if inTier a then tierByte a else coreRow ((a - 0x2000_0000_0000) % 0x100_0000)

/-- A report on a granule of memory: its address, its place in its memory, and the syndrome that its code shows, a free value
(assumption 220). -/
def State.memoryReport (s : State) (cls a : Nat) : Report :=
  { Report.bare cls (s.memoryPath a) with
    operation := BitVec.ofNat 64 (2 * 2 ^ 56), address := BitVec.ofNat 64 a, syndrome := s.freeNow
    detail := leBytes 8 a ++ leBytes 8 (placeIn a) }

/-- A corrected error: counted by its memory and reported; the data are as they were (R240, R245, R249,
R269). -/
def State.memCorrected (s : State) (a : Nat) : State :=
  let t := if inHbm a then s.count (Reg.hbmCorrected (hbmStack a)) 1
    else if inTier a then s.count (Reg.dtCorrected (tierChannel a)) 1
    else
      let c := (a - 0x2000_0000_0000) / 0x100_0000
      let u := s.count (Reg.csCorrected c) 1
      { u with sn := { u.sn with coreWindow := SMap.update 0 u.sn.coreWindow c (· + 1) } }
  t.drawn.report (s.memoryReport clsMemCorrected a)

/-- The poison marker is written over the granule at an address, and counted by its memory (R251, R267, R269). -/
def State.poisonAt (s : State) (a : Nat) : State :=
  let t := s.setPoison (granuleOf a) true
  if inHbm a then t.count (Reg.hbmUncorrected (hbmStack a)) 1
  else if inTier a then t.count (Reg.dtUncorrected (tierChannel a)) 1
  else t

/-- An error that cannot be corrected: the poison marker stands over the granule, and it is counted and
reported (R240, R251, R269). -/
def State.memUncorrected (s : State) (a : Nat) : State := (s.poisonAt a).drawn.report (s.memoryReport clsMemUncorrected a)

/-- `SCRUB`: a granule is read and its codes show no error, a corrected one, or one past correction (R250,
R251). The granule is the scrubber's choice; one of a core store stands for that store's own reads
(assumption 77). -/
def execScrub (granule : Nat) (found : MemError) (s : State) : Host.Outcome State Fault Refusal :=
  let a := granule * 64
  act s (s.running && s.coded a && !NatSet.has s.poison granule)
    (match found with
      | .none => s
      | .corrected => s.memCorrected a
      | .uncorrectable => s.memUncorrected a)

/-! ### Comparisons (R456, R460–R467) -/

/-- Class of a failed comparison (R481). -/
def checkClass (dup exact : Bool) : Nat := if dup then clsCheckDup else if exact then clsCheckExact else clsCheckBound

/-- The values of a failed comparison as a record shows them: those that were formed, or where the hardware spoilt them, free
ones (assumption 239). -/
def State.comparedBytes (s : State) (k : OpenCheck) (array row : Nat) : List Byte :=
  match SMap.get [] k.values (row * 4 + array) with
  | [] => s.freeBytes 24
  | vs => Config.comparisonBytes vs

/-- One comparison of a checked tile has failed: logged with its row and array; its array is suspect, or
FAILED when the tile failed before and fails again in a recovery replay of the step; outside a diagnosis context it counts
in the next step-end vector and leaves the step with open checks (R461, R463, R466). `before` are the tiles that had failed
before this one's check closed. -/
def State.comparisonFailed (s : State) (c : Nat) (k : OpenCheck) (array row : Nat) (dup : Bool)
    (before : List (BitVec 32 × Nat × Nat × Nat × Nat)) : State :=
  let u := corePath 1 c array 0
  let s1 := ((s.drewBytes 24).count (Reg.snCheckFails c) 1).report {
    Report.bare (checkClass dup k.exact) u with
    ctx := k.ctx, operation := k.op, syndrome := BitVec.ofNat 64 (row * 4 + array)
    detail := s.comparedBytes k array row }
  let s2 := s1.suspect u 0 (checkClass dup k.exact)
  if s.isDiag k.ctx then s2
  else
    let key := (k.step, c, k.ctx, k.index, array)
    let again := decide (key ∈ before) && decide (s.sk.replaying = some k.step)
    let s3 := { s2 with sn := { s2.sn with
      checkFails := s2.sn.checkFails + 1
      failedSteps := if k.step ∈ s2.sn.failedSteps then s2.sn.failedSteps else s2.sn.failedSteps ++ [k.step]
      failedTiles := if key ∈ s2.sn.failedTiles then s2.sn.failedTiles else s2.sn.failedTiles ++ [key] } }
    if again then s3.unitFailed u else s3

/-- The first check of a core whose tile has completed. -/
def Core.closing (k : Core) : Option OpenCheck := k.checks.find? (fun d => d.completed)

/-- Closes a check: every comparison that its values fail, and the one that a hardware fault spoils, fails
(R455–R457). -/
def State.closeCheck (s : State) (c : Nat) (k : OpenCheck) (fault : Option CheckFault) : State :=
  let t := s.modCore c (fun q => { q with checks := q.checks.erase k })
  let u := k.fails.foldl (fun v p => v.comparisonFailed c k p.1 p.2 s.cfg.compat s.sn.failedTiles) t
  match fault with
  | none => u
  | some f =>
    if f.array.val ∈ k.arrays ∧ (f.array.val, f.row.val) ∉ k.fails then
      u.comparisonFailed c k f.array.val f.row.val (f.dup || s.cfg.compat) s.sn.failedTiles
    else u

/-- `CHECK_CLOSE`: the comparison of a core's oldest completed checked tile closes (R460). `fault` is a
hardware fault that it meets. -/
def execCheckClose (core : Fin 160) (fault : Option CheckFault) (s : State) : Host.Outcome State Fault Refusal :=
  let c := core.val
  match (s.core c).closing with
  | none => .next s
  | some k => act s (s.running && s.coreClear c) (s.closeCheck c k fault)

/-! ### Swatch windows (R469, R470) -/

/-- The first event of an action and table that has been handed over, and what is left. -/
def State.takeHanded (s : State) (t action : Nat) : Option (Handed × State) :=
  match s.tb.handed.find? (fun h => decide (h.table = t) && decide (h.action = action)) with
  | none => none
  | some h => some (h, { s with tb := { s.tb with handed := s.tb.handed.erase h } })

/-- The window of a table. -/
def State.window (s : State) (t : Nat) : Option Window := SMap.get none s.sn.windows t

/-- The slot into which a core's store region is copied: that of its context, or of context 4p (R469). -/
def regionSlot (c : Nat) (x : Option Nat) : Nat := saveSlot c (x.getD (4 * corePartition c)) + 0x2C_0000

/-- A core enters a partition window: its context is saved and region i of its store is copied (R469). -/
def State.coreEnters (s : State) (c region : Nat) : State :=
  let x := (s.core c).resident
  ((s.saveContext c).copyBytes (storeAt c (region * 0x10_0000)) (regionSlot c x) 0x10_0000).modCore c
    (fun k => { k with inWindow := true })

/-- A core leaves it: region i and the context come back (R469). -/
def State.coreLeaves (s : State) (c region : Nat) (x : Option Nat) : State :=
  let t := s.copyBytes (regionSlot c x) (storeAt c (region * 0x10_0000)) 0x10_0000
  let q := (t.core c).switch_
  let u := match x with
    | none => t
    | some y => (t.bringIn c y).modCore c (fun k => { k with switch_ := q })
  u.modCore c (fun k => { k with inWindow := false })

/-- `SWATCH_WINDOW`: a window of a partition takes its cores once what they have issued is complete; a
window of the fabric takes its engines (R469). -/
def execSwatchWindow (table : Fin 5) (s : State) : Host.Outcome State Fault Refusal :=
  let t := table.val
  match s.takeHanded t actSwatchWindow with
  | none => .next s
  | some (h, u) =>
    let region := SMap.get 0 s.sn.windowCount t % 12
    let cores := if t < 4 then coresOfPartition t else []
    let w : Window := {
      start := h.course, length := h.param % 0x1_0000, kinds := h.param / 0x1_0000, region := region
      residents := cores.map (fun c => (s.core c).resident) }
    let v := { u with sn := { u.sn with
      windows := SMap.set none u.sn.windows t (some w), windowCount := SMap.update 0 u.sn.windowCount t (· + 1) } }
    act s (s.running && decide (s.window t = none) && cores.all (fun c => decide ((s.core c).issued = [])))
      (if t < 4 then cores.foldl (fun x c => x.coreEnters c region) v else { v with ce := { v.ce with ownSwatch := true } })

/-- The units that a window tests, in the order of its kinds. -/
def windowUnits (t kinds : Nat) : List (BitVec 32) :=
  ((List.range 10).filter kinds.testBit).flatMap (swatchUnits t)

/-- The outcome of one unit of a window: completed, or abandoned (R470). -/
def State.windowUnit (s : State) (results : List SwatchResult) (u : BitVec 32) : State :=
  match results.find? (fun r => decide (r.unit_ = u)) with
  | some r => s.swatchDone r
  | none => s.report (Report.bare clsSwatchShort u)

/-- The end of a window: outcomes, restored state, and the step starts that it held back (R377, R470). -/
def State.endWindow (s : State) (t : Nat) (w : Window) (results : List SwatchResult) : State :=
  let s1 := (windowUnits t w.kinds).foldl (fun v u => v.windowUnit results u) s
  let s2 := if t < 4 then
      ((coresOfPartition t).zip w.residents).foldl (fun v p => v.coreLeaves p.1 w.region p.2) s1
    else { s1 with ce := { s1.ce with ownSwatch := false } }
  let s3 := { s2 with sn := { s2.sn with windows := SMap.set none s2.sn.windows t none } }
  let late := s3.tb.deferred.filter (fun h => h.table = t)
  let s4 := { s3 with tb := { s3.tb with
    handed := s3.tb.handed ++ late, deferred := s3.tb.deferred.filter (fun h => h.table ≠ t) } }
  s4.refreshDue

/-- `SWATCH_WINDOW_END`: `results` are the swatches that finished (R470). -/
def execSwatchWindowEnd (table : Fin 5) (results : List SwatchResult) (s : State) : Host.Outcome State Fault Refusal :=
  match s.window table.val with
  | none => .next s
  | some w =>
    act s (s.running && reached s.course (w.start + BitVec.ofNat 48 w.length)) (s.endWindow table.val w results)

/-- `UNIT_DUE` (R471). -/
def execUnitDue (kind : Fin 10) (s : State) : Host.Outcome State Fault Refusal :=
  act s (s.running && s.kindDue kind.val) (s.showDue kind.val true)

/-! ### Ladder windows and summaries (R472, R483–R485) -/

/-- Timer numbers of the periodic works. -/
def tmrLadder : Nat := 1
/-- `FSR_SUMMARY`. -/
def tmrSummary : Nat := 2
/-- `WAIT_FOR_SAMPLE`. -/
def tmrSample : Nat := 3
/-- `HEARTBEAT`. -/
def tmrHeartbeat : Nat := 4
/-- `BEACON_SEND`. -/
def tmrBeacon : Nat := 5
/-- `ENVELOPE_STEP`. -/
def tmrEnvelope : Nat := 6
/-- `THERMAL_STEP`. -/
def tmrThermal : Nat := 7
/-- `JUNCTION_READ`. -/
def tmrJunction : Nat := 8
/-- The abort that goes before the fence of an L3 or L4 (R505). -/
def tmrAbort : Nat := 9
/-- `AVS_SAMPLE` of bus b is timer 16 + b. -/
def tmrAvs (b : Nat) : Nat := 16 + b
/-- `SETPOINT_STEP` of rail n is timer 32 + n. -/
def tmrSetpoint (n : Nat) : Nat := 32 + n

/-- The count of a source in the window that ends warns (R483). -/
def State.ladderWarns (s : State) (n : Nat) : Bool :=
  let r := Reg.snLadder n
  let now := SMap.get 0 s.sn.ladderNow n
  let since := SMap.get 0 s.sn.sinceWarned n
  s.flag r Fld.snLadderEnable && decide (s.fld r Fld.snLadderThresh ≤ now) &&
    decide (2 * SMap.get 0 s.sn.ladderPrev n < now) && (decide (since = 0) || decide (s.fld r Fld.snLadderHold < since))

/-- Cores whose own corrected core store errors reach the source's threshold in the window (R472). -/
def State.suspectStores (s : State) : List Nat :=
  (List.range 160).filter (fun c => decide (0 < SMap.get 0 s.sn.coreWindow c) &&
    decide (s.fld (Reg.snLadder 0) Fld.snLadderThresh ≤ SMap.get 0 s.sn.coreWindow c))

/-- A ladder warning of source n: `LADDER` in the next vector, a log entry and a record (R484, R485); the
core stores whose own errors raised it become suspect (R472). -/
def State.ladderWarning (s : State) (n : Nat) : State :=
  let t := { s with sn := { s.sn with ladderFlag := true, sinceWarned := SMap.set 0 s.sn.sinceWarned n 1 } }
  let r := { Report.bare clsLadder (enginePath 17) with syndrome := BitVec.ofNat 64 n }
  let u := ((t.count Reg.snLadderWarnings 1).report r).addFsr 2 clsLadder (enginePath 17) opNone r.syndrome (s.logStep r) [] []
  if n = 0 then s.suspectStores.foldl (fun v c => v.suspect (corePath 3 c 0xFF 0) 2 clsLadder) u else u

/-- The end of a source's window. -/
def State.ladderEnds (s : State) (n : Nat) : State :=
  let now := SMap.get 0 s.sn.ladderNow n
  let since := SMap.get 0 s.sn.sinceWarned n
  let t := { s with sn := { s.sn with sinceWarned := SMap.set 0 s.sn.sinceWarned n (if since = 0 then 0 else since + 1) } }
  let u := if s.ladderWarns n then t.ladderWarning n else t
  { (u.setFld (Reg.snLadder n) Fld.snLadderLast (min now 0xFFFF)) with
    sn := { u.sn with ladderPrev := SMap.set 0 u.sn.ladderPrev n now, ladderNow := SMap.set 0 u.sn.ladderNow n 0 } }

/-- `LADDER_WINDOW`: each 2²⁰ courses (R483). -/
def execLadderWindow (s : State) : Host.Outcome State Fault Refusal :=
  let t := [0, 1, 2, 3].foldl State.ladderEnds (s.ran tmrLadder)
  act s (s.running && s.periodic tmrLadder (2 ^ 20)) { t with sn := { t.sn with coreWindow := [] } }

/-- `FSR_SUMMARY`: each hour of course time (R485). -/
def execFsrSummary (s : State) : Host.Outcome State Fault Refusal :=
  let t := (s.ran tmrSummary).addFsr 4 0 (enginePath 17) opNone 0 (s.logStep (Report.bare 0 (enginePath 17))) s.sn.hourCounts []
  act s (s.running && s.periodic tmrSummary 3515625000) { t with sn := { t.sn with hourCounts := [] } }

end Sys2Proof.Machine
end

