-- ==== Sys2Proof/Machine/Rings.lean ====
section
/-! DEFINITION. The shape of a collective: members, forms, chunks, and the order in which packets pass
(R315, R320–R328, R333, R337, R724). -/

namespace Sys2Proof.Machine

/-! ### Descriptors (R314, R315) -/

/-- Reads the descriptor in slot `n` of context x's queue. -/
def State.descriptorAt (s : State) (x n : Nat) : Descriptor :=
  let b := s.load (s.fld (Reg.ceQueue x) Fld.ceQueueBase * 64 + n * 64) 64
  let f := fun (o k : Nat) => leNat ((b.drop o).take k)
  { op := f 0 1, axis := f 1 1, inFmt := f 2 1, wireFmt := f 3 1, outFmt := f 4 1, flags := f 5 1, waitCore := f 6 1,
    waitTok := f 7 1, waitCnt := f 8 1, raiseCore := f 9 1, raiseTok := f 10 1, granules := f 12 4 + 1, src := f 16 8,
    dst := f 24 8, partnerDst := f 32 8, scaleAddr := f 40 8, rowLen := f 48 4, resv := f 11 1 + f 52 12 }

/-- Operations (R319). -/
def opReduceScatter : Nat := 1
/-- `ALL_REDUCE`. -/
def opAllReduce : Nat := 2
/-- `ALL_GATHER`. -/
def opAllGather : Nat := 3
/-- `RING_PASS`. -/
def opRingPass : Nat := 4

/-- `DUAL`. -/
def Descriptor.dual (d : Descriptor) : Bool := d.flags.testBit 0
/-- `LAST`. -/
def Descriptor.last (d : Descriptor) : Bool := d.flags.testBit 1
/-- `RAISE_EACH`. -/
def Descriptor.raiseEach (d : Descriptor) : Bool := d.flags.testBit 2
/-- Whether the operation forms a sum. -/
def Descriptor.sums (d : Descriptor) : Bool := decide (d.op = opReduceScatter) || decide (d.op = opAllReduce)
/-- The contribution's format. -/
def Descriptor.input (d : Descriptor) : Fmt := if d.inFmt = 0 then .t8 else if d.inFmt = 1 then .b16 else .f32
/-- The format on the wire. -/
def Descriptor.wire (d : Descriptor) : Fmt := if d.wireFmt = 0 then .b16 else if d.wireFmt = 1 then .f32 else .w36
/-- The result's format. -/
def Descriptor.output (d : Descriptor) : Fmt := if d.outFmt = 0 then .b16 else .f32
/-- Elements in a granule of the contribution. -/
def Descriptor.perGranule (d : Descriptor) : Nat := 64 / d.input.bytes
/-- Elements of the contribution (R724). -/
def Descriptor.elements (d : Descriptor) : Nat := d.granules * d.perGranule
/-- Bytes of the contribution. -/
def Descriptor.bytes (d : Descriptor) : Nat := d.granules * 64

/-! ### Chunks and halves (R324) -/

/-- Granules of chunk j: first and one past the last. -/
def chunkOf (g n0 j : Nat) : Nat × Nat := (j * g / n0, (j + 1) * g / n0)

/-- The + half or the − half of a range of granules. -/
def halfOf (r : Nat × Nat) (plus : Bool) : Nat × Nat :=
  let mid := r.1 + (r.2 - r.1 + 1) / 2
  if plus then (r.1, mid) else (mid, r.2)

/-- Positions whose chunks position `o` owns: its own, and on the data axis of a job that of a removed
partner. -/
def Running.ownedBy (r : Running) (o : Nat) : List Nat :=
  let q := (o + r.extent / 2) % r.extent
  if r.desc.axis = 0 ∧ 2 ≤ r.extent ∧ q ≠ o ∧ q ∉ r.members then [o, q] else [o]

/-- The index ranges, in units of `unit` per granule, that pass in a direction for the chunks of a
position: halves on a ring, whole chunks on a line; own chunk first, adopted next. -/
def Running.sumRanges (r : Running) (plus : Bool) (o unit : Nat) : List (Nat × Nat) :=
  (r.ownedBy o).map (fun j =>
    let c := chunkOf r.desc.granules r.extent j
    let h := if r.line then c else halfOf c plus
    (h.1 * unit, (h.2 - h.1) * unit))

/-- The indices that ranges name, in order. -/
def indicesOf (rs : List (Nat × Nat)) : List Nat := rs.flatMap (fun p => (List.range p.2).map (p.1 + ·))

/-! ### Legs: what passes between neighbours, in the order of R337 -/

/-- Kinds of a leg. -/
inductive LegKind
  | sum | gather | pass | wrap
  deriving DecidableEq, Repr

/-- A leg: its hop, its kind, and the owner, as a place in member order, whose chunk or block passes. -/
structure Leg where
  hop : Nat
  kind : LegKind
  owner : Nat
  deriving DecidableEq, Repr

/-- The place `k` before or after place `a` in a ring of m, against or along the direction. -/
def backBy (m : Nat) (plus : Bool) (a k : Nat) : Nat := if plus then (a + m * (k + 1) - k) % m else (a + k) % m

/-- Legs of the sums that a member at place `a` sends, or that the member before it sends to it. -/
def Running.sumLegs (r : Running) (plus sending : Bool) : List Leg :=
  let m := r.members.length
  let a := r.own
  if !r.line then (List.range (m - 1)).map (fun h => ⟨h, .sum, backBy m plus a (if sending then h + 1 else h + 2)⟩)
  else if plus then
    if (sending && decide (a + 1 < m)) || (!sending && decide (0 < a)) then
      (List.range (m - (if sending then a + 1 else a))).map (fun h => ⟨h, .sum, m - 1 - h⟩)
    else []
  else
    if (sending && decide (0 < a)) || (!sending && decide (a + 1 < m)) then
      (List.range (if sending then a else a + 1)).map (fun h => ⟨h, .sum, h⟩)
    else []

/-- Legs of a gather, numbered from `base`. -/
def Running.gatherLegs (r : Running) (plus sending : Bool) (base : Nat) : List Leg :=
  let m := r.members.length
  let a := r.own
  if !r.line then (List.range (m - 1)).map (fun h => ⟨base + h, .gather, backBy m plus a (if sending then h else h + 1)⟩)
  else if plus then
    if sending then (if a + 1 < m then (List.range (a + 1)).map (fun h => ⟨base + h, .gather, a - h⟩) else [])
    else (List.range a).map (fun h => ⟨base + h, .gather, a - 1 - h⟩)
  else
    if sending then (if 0 < a then (List.range (m - a)).map (fun h => ⟨base + h, .gather, a + h⟩) else [])
    else (List.range (m - 1 - a)).map (fun h => ⟨base + h, .gather, a + 1 + h⟩)

/-- Legs of a `RING_PASS`: pass j has hop j − 1; on a line the block of the + end folds back along − (R327). -/
def Running.passLegs (r : Running) (plus sending : Bool) : List Leg :=
  let m := r.members.length
  let a := r.own
  let js := List.range (m - 1)
  if !r.line then (if plus then js.map (fun h => ⟨h, .pass, backBy m true a (if sending then h else h + 1)⟩) else [])
  else if plus then
    if (sending && decide (a + 1 < m)) || (!sending && decide (0 < a)) then
      js.map (fun h => ⟨h, .pass, backBy m true a (if sending then h else h + 1)⟩)
    else []
  else
    if (sending && decide (0 < a)) || (!sending && decide (a + 1 < m)) then js.map (fun h => ⟨h, .wrap, backBy m true (m - 1) h⟩)
    else []

/-- Every leg of a direction, in increasing hop. -/
def Running.legs (r : Running) (plus sending : Bool) : List Leg :=
  if r.silent ∨ r.members.length < 2 then []
  else if r.desc.op = opReduceScatter then r.sumLegs plus sending
  else if r.desc.op = opAllReduce then r.sumLegs plus sending ++ r.gatherLegs plus sending (r.members.length - 1)
  else if r.desc.op = opAllGather then r.gatherLegs plus sending 0
  else r.passLegs plus sending

/-- Bytes of an element on a leg, and the ranges of elements that pass on it. A gather of sums passes
results; gathers and passes of blocks pass bytes. -/
def Running.legItems (r : Running) (plus : Bool) (l : Leg) : Nat × List (Nat × Nat) :=
  let pos := r.members.getD l.owner 0
  match l.kind with
  | .sum => (r.desc.wire.bytes, r.sumRanges plus pos r.desc.perGranule)
  | .gather =>
    if r.desc.op = opAllReduce then (r.desc.output.bytes, r.sumRanges plus pos r.desc.perGranule)
    else
      let h := if r.line then (0, r.desc.granules) else halfOf (0, r.desc.granules) plus
      (1, [(h.1 * 64, (h.2 - h.1) * 64)])
  | _ => (1, [(0, r.desc.bytes)])

/-- Elements of some ranges. -/
def rangeTotal (rs : List (Nat × Nat)) : Nat := (rs.map Prod.snd).foldl (· + ·) 0

/-- Packets of a leg (R333). -/
def Running.legPackets (r : Running) (plus : Bool) (l : Leg) : Nat :=
  let (b, rs) := r.legItems plus l
  (rangeTotal rs * b + 4095) / 4096

/-- The indices of the elements in packet k of a leg. -/
def Running.packetIndices (r : Running) (plus : Bool) (l : Leg) (k : Nat) : List Nat :=
  let (b, rs) := r.legItems plus l
  ((indicesOf rs).drop (k * (4096 / b))).take (4096 / b)

/-- The i-th packet of some legs: its leg and index. -/
def Running.nthPacket (r : Running) (plus : Bool) : List Leg → Nat → Option (Leg × Nat)
  | [], _ => none
  | l :: ls, i => let n := r.legPackets plus l; if i < n then some (l, i) else r.nthPacket plus ls (i - n)

/-- Packets of some legs in all. -/
def Running.packetsOf (r : Running) (plus : Bool) (ls : List Leg) : Nat := (ls.map (r.legPackets plus)).foldl (· + ·) 0

/-- Packets of one leg that have been taken, of `taken` in the direction. -/
def Running.takenOf (r : Running) (plus : Bool) (l : Leg) (taken : Nat) : Nat :=
  let before := r.packetsOf plus ((r.legs plus false).takeWhile (fun k => k ≠ l))
  min (taken - before) (r.legPackets plus l)

/-! ### Members and forms (R322, R323) -/

/-- This device's member list for a context and axis: positions in ring or line order, its own place, the
axis extent and the form. A context outside the job has this device as its only member (R322). -/
def State.memberView (s : State) (x k : Nat) : List Nat × Nat × Nat × Bool :=
  if !s.inJob x then ([0], 0, 1, false)
  else
    let ps := s.presentOn k
    let e := SMap.get 0 s.ce.lineEnds k
    let i := (ps.takeWhile (fun q => q ≠ e - 1)).length
    let order := if e = 0 then ps else ps.drop (i + 1) ++ ps.take (i + 1)
    (order, (order.takeWhile (fun q => q ≠ s.position k)).length, (s.axis k).extent, decide (e ≠ 0))

/-- The form of axis k under the fault map: 0 a ring, else one more than the + end of the line (R323). -/
def State.formOf (s : State) (k : Nat) : Nat :=
  let ps := s.presentOn k
  if ps.length < 2 then 0
  else if (s.axis k).inner then ps.getLastD 0 + 1
  else match (ps.zip (ps.drop 1 ++ ps.take 1)).find? (fun p => !s.pathClear k p.1 p.2) with
    | none => 0
    | some p => p.1 + 1

/-- The forms of every axis are fixed from the fault map (R323, R341). -/
def State.fixForms (s : State) : State :=
  { s with ce := { s.ce with lineEnds := (List.range 5).foldl (fun m k => SMap.set 0 m k (s.formOf k)) [] } }

end Sys2Proof.Machine
end

