-- ==== Sys2Proof/Machine/Collective.lean ====
section
/-! DEFINITION. The collective engine: sums on the wire, grants and staging buffers, starting, receiving and
completing descriptors (R314–R344, R349, R402, R404, R529–R531). -/

namespace Sys2Proof.Machine

/-! ### Elements -/

/-- A value on the wire or in memory: its code, and whether it is poisoned. -/
abbrev Elem := Nat × Bool

/-- The element of index i of this device's contribution, decoded exactly (R320), with its poison. -/
def State.contribution (s : State) (d : Descriptor) (i : Nat) : Num × Bool :=
  let b := d.input.bytes
  let a := d.src + i * b
  let v := d.input.decode (leNat (s.load a b))
  if d.input = .t8 then
    let sa := d.scaleAddr + 2 * (i / d.rowLen)
    (Num.mul v (Fmt.b16.decode (leNat (s.load sa 2))), s.poisoned a b || s.poisoned sa 2)
  else (v, s.poisoned a b)

/-- The local contribution rounded once to a format (R321). -/
def State.firstTerm (s : State) (d : Descriptor) (f : Fmt) (i : Nat) : Elem :=
  let c := s.contribution d i
  (f.encode c.1, c.2)

/-- A partial sum plus the local contribution, rounded once to a format (R321). -/
def State.addTerm (s : State) (d : Descriptor) (f : Fmt) (i : Nat) (v : Elem) : Elem :=
  let c := s.contribution d i
  (f.encode (Num.add (d.wire.decode v.1) c.1), c.2 || v.2)

/-- The two partials of a line joined in the wire format (R326). -/
def joinHalves (f : Fmt) (a b : List Elem) : List Elem :=
  a.zipWith (fun x y => (f.encode (Num.add (f.decode x.1) (f.decode y.1)), x.2 || y.2)) b

/-- Bytes of an element of a format on the wire: W36 in a slot of 8 bytes (R78, R315). -/
def elemBytes (b : Nat) (v : Elem) : List Byte := leBytes b v.1

/-- The payload of some elements, and the poison marks of its granules (R285). -/
def payloadOf (b : Nat) (vs : List Elem) : List Byte × BitVec 64 :=
  (vs.flatMap (elemBytes b),
    BitVec.ofNat 64 ((List.range ((vs.length * b + 63) / 64)).foldl (fun w g =>
      w + bit (((vs.drop (g * 64 / b)).take (64 / b)).any Prod.snd) * 2 ^ g) 0))

/-- The elements of a payload. -/
def elemsOf (b : Nat) (p : Packet) : List Elem :=
  (List.range (p.payload.length / b)).map (fun i => (leNat ((p.payload.drop (i * b)).take b), bitOf p.poison (i * b / 64)))

/-- Splits indexed elements into runs of consecutive indices. -/
def runsOf : List (Nat × Elem) → List (Nat × List Elem)
  | [] => []
  | (i, v) :: rest =>
    match runsOf rest with
    | (j, vs) :: more => if j = i + 1 then (i, v :: vs) :: more else (i, [v]) :: (j, vs) :: more
    | [] => [(i, [v])]

/-- Writes elements of `b` bytes at a base plus their index, granules with a poisoned element poisoned. -/
def State.putElems (s : State) (base b : Nat) (vs : List (Nat × Elem)) : State :=
  (runsOf vs).foldl (fun t r =>
    let a := base + r.1 * b
    t.storeCopied a (r.2.flatMap (elemBytes b)) ((granulesOf a (r.2.length * b)).map (fun g =>
      (r.2.zipIdx).any (fun v => v.1.2 && (granulesOf (a + v.2 * b) b).contains g)))) s

/-- Reads elements of `b` bytes from memory. -/
def State.getElems (s : State) (base b : Nat) (is : List Nat) : List Elem :=
  is.map (fun i => (leNat (s.load (base + i * b) b), s.poisoned (base + i * b) b))

/-! ### Where results lie -/

/-- First byte of the block that a leg's bytes are written to, and the element size there (R319, R724). -/
def Running.target (r : Running) (l : Leg) : Nat × Nat :=
  match l.kind with
  | .sum => (r.desc.dst, r.desc.output.bytes)
  | .gather => if r.desc.op = opAllReduce then (r.desc.dst, r.desc.output.bytes) else (r.desc.dst + r.members.getD l.owner 0 * r.desc.bytes, 1)
  | _ => (r.desc.dst + l.hop * r.desc.bytes, 1)

/-- Indices of the elements that the partner stream of a position carries: its chunks' + halves, then their −
halves (R331). -/
def Running.partnerIndices (r : Running) (pos : Nat) : List Nat :=
  indicesOf (r.sumRanges true pos r.desc.perGranule) ++
    (if r.line then [] else indicesOf (r.sumRanges false pos r.desc.perGranule))

/-- The position of this device. -/
def Running.position (r : Running) : Nat := r.members.getD r.own 0

/-- The position of this device's partner (R330). -/
def Running.partnerPos (r : Running) : Nat := (r.position + r.extent / 2) % r.extent

/-- Whether the descriptor delivers to a partner that is present (R331, R332). -/
def Running.toPartner (r : Running) : Bool :=
  r.desc.dual && !r.silent && decide (2 ≤ r.extent) && decide (r.partnerPos ≠ r.position) && r.members.contains r.partnerPos

/-- Packets of the partner stream of a position. -/
def Running.partnerPackets (r : Running) (pos : Nat) : Nat :=
  ((r.partnerIndices pos).length * r.desc.output.bytes + 4095) / 4096

/-- The indices of the elements in packet k of a partner stream. -/
def Running.partnerPacket (r : Running) (pos k : Nat) : List Nat :=
  let n := 4096 / r.desc.output.bytes
  ((r.partnerIndices pos).drop (k * n)).take n

/-- Legs of sums that end at this device, in a direction. -/
def Running.finalLegs (r : Running) (plus : Bool) : List Leg :=
  (r.legs plus false).filter (fun l => decide (l.kind = .sum) && decide (l.owner = r.own))

/-- Every own chunk is final: its last packets have come, on a ring in a direction, on a line from both sides. -/
def Running.sumsDone (r : Running) (plus : Bool) : Bool :=
  if r.line then
    let ls := r.finalLegs true ++ r.finalLegs false
    match ls with
    | [] => true
    | l :: _ => decide (r.legPackets true l ≤ r.finals)
  else (r.finalLegs plus).all (fun l => decide (r.legPackets plus l ≤
    r.takenOf plus l (if plus then r.plus.taken else r.minus.taken)))

/-! ### Packets -/

/-- A direction: +, −, partner, as grants number them (R284). -/
inductive Way
  | plus | minus | partner
  deriving DecidableEq, Repr

/-- A way's number. -/
def Way.code : Way → Nat
  | .plus => 0
  | .minus => 1
  | .partner => 2

/-- The way of a number. -/
def Way.ofCode (n : Nat) : Way := if n = 0 then .plus else if n = 1 then .minus else .partner

/-- A running descriptor's state in a direction. -/
def Running.way (r : Running) : Way → CollDir
  | .plus => r.plus
  | .minus => r.minus
  | .partner => r.partner

/-- Writes it. -/
def Running.setWay (r : Running) (w : Way) (d : CollDir) : Running :=
  match w with
  | .plus => { r with plus := d }
  | .minus => { r with minus := d }
  | .partner => { r with partner := d }

/-- The position of the member that this device sends to in a direction. -/
def Running.downstream (r : Running) : Way → Nat
  | .plus => r.members.getD ((r.own + 1) % r.members.length) 0
  | .minus => r.members.getD ((r.own + r.members.length - 1) % r.members.length) 0
  | .partner => r.partnerPos

/-- The position of the member that sends to this device in a direction. -/
def Running.upstream (r : Running) : Way → Nat
  | .plus => r.downstream .minus
  | .minus => r.downstream .plus
  | .partner => r.partnerPos

/-- Packets that pass in a direction, in all. -/
def Running.total (r : Running) (w : Way) (sending : Bool) : Nat :=
  match w with
  | .plus => r.packetsOf true (r.legs true sending)
  | .minus => r.packetsOf false (r.legs false sending)
  | .partner => if r.toPartner then r.partnerPackets (if sending then r.position else r.partnerPos) else 0

/-- Directions in which something passes. -/
def Running.ways (r : Running) (sending : Bool) : List Way :=
  (if r.legs true sending ≠ [] then [.plus] else []) ++ (if r.legs false sending ≠ [] then [.minus] else []) ++
    (if r.toPartner then [.partner] else [])

/-- `ADDR` of a `COLL` packet (R333). -/
def collAddr (x seq : Nat) (line : Bool) (hop pkt : Nat) : BitVec 42 :=
  BitVec.ofNat 42 (x * 2 ^ 38 + seq % 8192 * 2 ^ 25 + bit line * 2 ^ 24 + hop % 64 * 2 ^ 18 + pkt % 2 ^ 18)

/-- `CE_EPOCH.EPOCH`. -/
def State.epochNow (s : State) : Nat := s.fld Reg.ceEpoch Fld.ceEpochEpoch

/-- Sends a `COLL` packet to a member. -/
def State.sendColl (s : State) (r : Running) (pos hop pkt b : Nat) (vs : List Elem) : State :=
  let (bs, poison) := payloadOf b vs
  let p := s.packetTo tyColl tcCL (s.physOf (s.memberAt r.desc.axis pos)) epCollective epCollective
    (collAddr r.ctx r.seq.toNat r.line hop pkt) poison bs
  s.inject { p with epoch := BitVec.ofNat 16 s.epochNow }

/-- A `GRANT` or `RETURN` message (R284, R335). -/
def State.sendCredit (s : State) (axis pos msg x seq : Nat) (w : Way) (n : Nat) : State :=
  s.sendCtrl (s.memberAt axis pos) epCollective epCollective
    (beBytes 1 msg ++ beBytes 1 x ++ beBytes 2 seq ++ beBytes 1 w.code ++ beBytes 2 s.epochNow ++ beBytes 2 n ++ zeroBytes 7)

/-! ### The running table -/

/-- Writes running descriptor i. -/
def State.setRunning (s : State) (i : Nat) (r : Running) : State :=
  { s with ce := { s.ce with running := s.ce.running.set i r } }

/-- The index of the running descriptor of a context and number. -/
def State.runningIndex (s : State) (x : Nat) (seq : BitVec 13) : Option Nat :=
  s.ce.running.findIdx? (fun r => decide (r.ctx = x) && decide (r.seq = seq))

/-- The neighbours that a descriptor reserves buffers for: its upstream neighbours in + and in −, where it has one, and its partner
(R335). -/
def Running.upstreams (r : Running) : List Way :=
  (if !r.silent && decide (2 ≤ r.members.length) && (!r.line || decide (0 < r.own)) then [.plus] else []) ++
    (if !r.silent && decide (2 ≤ r.members.length) && (!r.line || decide (r.own + 1 < r.members.length)) then [.minus] else []) ++
    (if r.toPartner then [.partner] else [])

/-- Buffers reserved for a descriptor: 64 for each of those neighbours (R335). -/
def Running.buffers (r : Running) : Nat := 64 * r.upstreams.length

/-- A received packet's buffer is free; with the eighth the sender has them back (R335). -/
def State.freeBuffer (s : State) (i : Nat) (w : Way) : State :=
  match s.ce.running[i]? with
  | none => s
  | some r =>
    let d := r.way w
    if d.freed + 1 = 8 then
      (s.setRunning i (r.setWay w { d with freed := 0 })).sendCredit r.desc.axis (r.upstream w) 0x11 r.ctx r.seq.toNat w 8
    else s.setRunning i (r.setWay w { d with freed := d.freed + 1 })

/-! ### Sending (R325–R327, R331, R336) -/

/-- The way a direction's flag names. -/
def wayOf (plus : Bool) : Way := if plus then .plus else .minus

/-- The leg starts at this device: its packets are formed here and not forwarded. -/
def Running.originates (r : Running) (plus : Bool) (l : Leg) : Bool :=
  match l.kind with
  | .sum => if r.line then decide (if plus then r.own = 0 else r.own + 1 = r.members.length) else decide (l.hop = 0)
  | .gather => decide (l.owner = r.own)
  | .pass => decide (l.hop = 0)
  | .wrap => decide (l.hop = 0) && decide (r.own + 1 = r.members.length)

/-- A packet formed here: none while what it carries is not final. -/
def State.formPacket (s : State) (r : Running) (plus : Bool) (l : Leg) (k : Nat) : Option (List Elem) :=
  let is := r.packetIndices plus l k
  match l.kind with
  | .sum => some (is.map (s.firstTerm r.desc r.desc.wire))
  | .gather =>
    if r.desc.op = opAllReduce then
      if r.sumsDone plus then some (s.getElems r.desc.dst r.desc.output.bytes is) else none
    else some (s.getElems r.desc.src 1 is)
  | _ => some (s.getElems r.desc.src 1 is)

/-- The next packet of a direction, if it is in hand: its hop, index, element size and elements. -/
def State.nextPacket (s : State) (r : Running) (plus : Bool) : Option (Nat × Nat × Nat × List Elem) :=
  let d := r.way (wayOf plus)
  match r.nthPacket plus (r.legs plus true) d.sent with
  | none => none
  | some (l, k) =>
    let b := (r.legItems plus l).1
    if r.originates plus l then (s.formPacket r plus l k).map (fun vs => (l.hop, k, b, vs))
    else (d.waiting.find? (fun w => decide (w.1 = l.hop) && decide (w.2.1 = k))).map (fun w => (l.hop, k, b, w.2.2))

/-- The direction in which a forwarded packet arrived: its own, but for a block that turns at an end of a
line. -/
def Running.cameBy (r : Running) (plus : Bool) : Way :=
  if r.line && decide (r.desc.op = opRingPass) then
    if plus then (if r.own = 0 then .minus else .plus) else (if r.own + 1 = r.members.length then .plus else .minus)
  else wayOf plus

/-- Sends one packet of a direction, if the next one is in hand and a buffer is granted for it (R336); a
forwarded packet frees the buffer it came in. -/
def State.sendOne (s : State) (i : Nat) (plus : Bool) : Option State :=
  match s.ce.running[i]? with
  | none => none
  | some r =>
    let w := wayOf plus
    let d := r.way w
    if d.granted = 0 then none
    else match s.nextPacket r plus with
      | none => none
      | some (hop, k, b, vs) =>
        let forwarded := d.waiting.any (fun q => decide (q.1 = hop) && decide (q.2.1 = k))
        let d' := { d with
          granted := d.granted - 1, sent := d.sent + 1
          waiting := d.waiting.filter (fun q => !(decide (q.1 = hop) && decide (q.2.1 = k))) }
        let t := (s.setRunning i (r.setWay w d')).sendColl r (r.downstream w) hop k b vs
        some (if forwarded then t.freeBuffer i (r.cameBy plus) else t)

/-- Sends one packet to the partner, once every owned chunk is final (R331). -/
def State.sendPartner (s : State) (i : Nat) : Option State :=
  match s.ce.running[i]? with
  | none => none
  | some r =>
    let d := r.partner
    if r.toPartner && decide (0 < d.granted) && decide (d.sent < r.total .partner true) && r.sumsDone true && r.sumsDone false then
      let b := r.desc.output.bytes
      some ((s.setRunning i { r with partner := { d with granted := d.granted - 1, sent := d.sent + 1 } }).sendColl r r.partnerPos 63
        d.sent b (s.getElems r.desc.dst b (r.partnerPacket r.position d.sent)))
    else none

/-- The descriptor's context belongs to the job, whose step has been aborted and whose buffers have not been reclaimed (R529), or a
fabric swatch window has the engine (R469). -/
def State.heldBack (s : State) (x : Nat) : Bool := (s.inJob x && s.ce.abortHold) || s.ce.ownSwatch

/-- Sends what a descriptor may send, for at most `n` packets. -/
def State.pump (s : State) (i : Nat) : Nat → State
  | 0 => s
  | n + 1 =>
    match s.sendOne i true with
    | some t => t.pump i n
    | none => match s.sendOne i false with
      | some t => t.pump i n
      | none => match s.sendPartner i with
        | some t => t.pump i n
        | none => s

/-- Every packet of a descriptor has been sent, which those that it relays come before. -/
def Running.allSent (r : Running) : Bool :=
  [Way.plus, .minus, .partner].all (fun w => decide (r.total w true ≤ (r.way w).sent))

/-- A completed descriptor leaves the engine, and its buffers are free, once it has sent all that it passes on. -/
def State.letGo (s : State) (i : Nat) : State :=
  match s.ce.running[i]? with
  | none => s
  | some r =>
    if r.completed && r.allSent then
      { s with ce := { s.ce with running := s.ce.running.eraseIdx i, buffersUsed := s.ce.buffersUsed - r.buffers } }
    else s

/-- The extents that the results and contributions of a descriptor cover at this member (R319, R724). -/
def Running.extents (r : Running) : List (Nat × Nat) :=
  let d := r.desc
  let chunks := fun (base pos : Nat) =>
    (r.ownedBy pos).map (fun j =>
      let c := chunkOf d.granules r.extent j
      (base + c.1 * d.perGranule * d.output.bytes, (c.2 - c.1) * d.perGranule * d.output.bytes))
  [(d.src, d.bytes)] ++
    (if d.op ≠ opAllGather ∧ d.inFmt = 0 then [(d.scaleAddr, 2 * ((d.elements + d.rowLen - 1) / d.rowLen))] else []) ++
    (if d.op = opReduceScatter then chunks d.dst r.position
      else if d.op = opAllReduce then [(d.dst, d.elements * d.output.bytes)]
      else if d.op = opAllGather then [(d.dst, r.extent * d.bytes)]
      else [(d.dst, (r.members.length - 1) * d.bytes)]) ++
    (if r.toPartner then chunks d.partnerDst r.partnerPos else [])

/-- A descriptor reads or writes memory of a partition in reset (R266, R534). -/
def State.memHeld (s : State) (r : Running) : Bool := r.extents.any (fun e => decide (0 < e.2) && s.memWaits e.1 e.2)

/-- Sends what a running descriptor may send now (R266, R336, R529). -/
def State.pumpAt (s : State) (i : Nat) : State :=
  match s.ce.running[i]? with
  | none => s
  | some r => if r.lost || s.heldBack r.ctx || s.memHeld r then s
      else (s.pump i (r.total .plus true + r.total .minus true + r.total .partner true)).letGo i

/-! ### Receiving (R321, R325–R327, R331, R337) -/

/-- A packet is forwarded by a direction. -/
def State.relayOn (s : State) (i : Nat) (plus : Bool) (hop k : Nat) (vs : List Elem) : State :=
  match s.ce.running[i]? with
  | none => s
  | some r =>
    let d := r.way (wayOf plus)
    s.setRunning i (r.setWay (wayOf plus) { d with waiting := d.waiting ++ [(hop, k, vs)] })

/-- Contribution bytes added into a passing sum are counted (R354, R540). -/
def State.countSummed (s : State) (d : Descriptor) (n : Nat) : State := s.countUnits Reg.ceBytesSummed (n * d.input.bytes) 65536

/-- Sums are delivered at their owner: written at `DST`, the non-finite ones counted in the context that issued the
collective (R147, assumption 223). -/
def State.deliverSums (s : State) (r : Running) (vs : List (Nat × Elem)) : State :=
  (s.putElems r.desc.dst r.desc.output.bytes vs).addNonFinite r.ctx
    (vs.countP (fun v => !(r.desc.output.decode v.2.1).isFinite))

/-- The last sums of a packet's elements are formed at their owner and delivered (R321). -/
def State.finishSum (s : State) (r : Running) (plus : Bool) (l : Leg) (k : Nat) (vs : List Elem) : State :=
  let is := r.packetIndices plus l k
  (s.deliverSums r (is.zip (is.zipWith (fun n v => s.addTerm r.desc r.desc.output n v) vs))).countSummed r.desc is.length

/-- A packet of a sum: added to and forwarded, or finished at its owner, on a line once the partials of both
sides are in hand (R325, R326). -/
def State.takeSum (s : State) (i : Nat) (r : Running) (plus : Bool) (l : Leg) (k : Nat) (vs : List Elem) : State :=
  let is := r.packetIndices plus l k
  if l.owner ≠ r.own then
    let t := (s.relayOn i plus (if r.line then l.hop else l.hop + 1) k
      (is.zipWith (fun n v => s.addTerm r.desc r.desc.wire n v) vs))
    t.countSummed r.desc is.length
  else if r.line && decide (0 < r.own) && decide (r.own + 1 < r.members.length) then
    match r.halves.find? (fun h => decide (h.1 = k) && decide (h.2.1 ≠ plus)) with
    | none => s.setRunning i { r with halves := r.halves ++ [(k, plus, vs)] }
    | some h =>
      let both := if plus then joinHalves r.desc.wire vs h.2.2 else joinHalves r.desc.wire h.2.2 vs
      let t := s.setRunning i { r with halves := r.halves.filter (fun g => g.1 ≠ k), finals := r.finals + 1 }
      ((t.finishSum r plus l k both).freeBuffer i (wayOf (!plus))).freeBuffer i (wayOf plus)
  else ((s.setRunning i { r with finals := r.finals + 1 }).finishSum r plus l k vs).freeBuffer i (wayOf plus)

/-- A packet of bytes that are passed on unchanged: written where they belong and forwarded (R327). -/
def State.takeBlock (s : State) (i : Nat) (r : Running) (plus : Bool) (l : Leg) (k : Nat) (vs : List Elem) : State :=
  let m := r.members.length
  let is := r.packetIndices plus l k
  let relay := decide (l.kind = .wrap) && decide (0 < r.own)
  let (base, b) := r.target l
  let t := if relay then s else s.putElems base b (is.zip vs)
  let more := fun (p : Bool) (hop : Nat) => (r.legs p true).any (fun q => decide (q.hop = hop) && decide (q.owner = l.owner))
  match l.kind with
  | .gather => if more plus (l.hop + 1) then t.relayOn i plus (l.hop + 1) k vs else t.freeBuffer i (wayOf plus)
  | .wrap =>
    if relay then t.relayOn i false l.hop k vs
    else if more true (l.hop + 1) then t.relayOn i true (l.hop + 1) k vs
    else t.freeBuffer i .minus
  | _ =>
    if r.line && decide (r.own + 1 = m) then
      if more false (l.hop + 1) then t.relayOn i false (l.hop + 1) k vs else t.freeBuffer i .plus
    else if more true (l.hop + 1) then t.relayOn i true (l.hop + 1) k vs
    else t.freeBuffer i .plus

/-- Cores on which a completion or a pass raises the token (R315). -/
def State.raiseCores (s : State) (r : Running) : List Nat :=
  if r.desc.raiseCore = 0xFF then s.coresOf r.ctx else [r.desc.raiseCore]

/-- Raises a descriptor's token (R315, R318). -/
def State.raiseFor (s : State) (r : Running) : State :=
  if 128 ≤ r.desc.raiseTok then s
  else (s.raiseCores r).foldl (fun t c => t.raiseToken c r.ctx (r.desc.raiseTok % 64) 1 (.descriptor r.slot)) s

/-- With `RAISE_EACH` the token is raised after each pass; the last pass's raise is that of completion. -/
def State.passRaise (s : State) (r : Running) (plus : Bool) (l : Leg) (k : Nat) : State :=
  let last := decide (k + 1 = r.legPackets plus l)
  let written := decide (l.kind = .pass) || (decide (l.kind = .wrap) && decide (r.own = 0))
  if r.desc.raiseEach && written && last && decide (l.hop + 2 < r.members.length) then s.raiseFor r else s

/-- Takes a `COLL` packet of a running descriptor: in order it is added or written, out of order it loses the
descriptor (R337). -/
def State.takeColl (s : State) (i : Nat) (w : Way) (p : Packet) : State :=
  match s.ce.running[i]? with
  | none => s
  | some r0 =>
    let d := r0.way w
    let r := (r0.setWay w { d with taken := d.taken + 1 })
    let hop := bitsOf p.addr 23 18
    let k := bitsOf p.addr 17 0
    let t := s.setRunning i { r with lastPacket := s.course }
    if w = .partner then
      if hop = 63 ∧ k = d.taken ∧ d.taken < r.total .partner false then
        let b := r.desc.output.bytes
        (t.putElems r.desc.partnerDst b ((r.partnerPacket r.partnerPos k).zip (elemsOf b p))).freeBuffer i .partner
      else s.loseAt i
    else
      let plus := decide (w = .plus)
      match r0.nthPacket plus (r0.legs plus false) d.taken with
      | none => s.loseAt i
      | some (l, n) =>
        if l.hop = hop ∧ n = k then
          let vs := elemsOf (r.legItems plus l).1 p
          let q := { r with lastPacket := s.course }
          let u := if l.kind = .sum then t.takeSum i q plus l k vs else t.takeBlock i q plus l k vs
          u.passRaise r plus l k
        else s.loseAt i

/-- The direction in which a packet passes: the partner's has hop 63; otherwise it follows from the neighbour
that sent it, and where one device is both neighbours from what each direction awaits. None where the descriptor receives
nothing so (R531). -/
def State.wayOfPacket (s : State) (r : Running) (p : Packet) : Option Way :=
  let hop := bitsOf p.addr 23 18
  if hop = 63 then (if r.toPartner then some .partner else none)
  else
    let from_ := fun (w : Way) => decide (s.physOf (s.memberAt r.desc.axis (r.upstream w)) = (p.src, p.srcSide))
    let awaits := fun (plus : Bool) => match r.nthPacket plus (r.legs plus false) (r.way (wayOf plus)).taken with
      | none => false
      | some (l, n) => decide (l.hop = hop) && decide (n = bitsOf p.addr 17 0)
    let takes := fun (w : Way) => from_ w && (r.ways false).contains w
    if takes .plus && takes .minus then some (if awaits true then .plus else .minus)
    else if takes .plus then some .plus else if takes .minus then some .minus else none

/-- The context and number that a `COLL` packet names. -/
def collCtx (p : Packet) : Nat := bitsOf p.addr 41 38
/-- Its descriptor's number. -/
def collSeq (p : Packet) : BitVec 13 := BitVec.ofNat 13 (bitsOf p.addr 37 25)

/-- The descriptor has granted its neighbours and not yet started. -/
def State.isOffered (s : State) (x : Nat) (seq : BitVec 13) : Bool :=
  s.ce.offered.any (fun o => decide (o.1 = x) && decide (o.2.1 = seq))

/-- A `COLL` packet waits: it holds a buffer of a descriptor that is held back or whose memory is in reset, or of one that has granted but
not started; in a fabric swatch window every one does (R266, R469, R529). -/
def State.collWaits (s : State) (p : Packet) : Bool :=
  s.ce.ownSwatch ||
    (decide (p.epoch.toNat = s.epochNow) &&
      match s.runningIndex (collCtx p) (collSeq p) with
      | some i => s.heldBack (collCtx p) || (s.ce.running[i]?).any s.memHeld
      | none => s.isOffered (collCtx p) (collSeq p))

/-- `COLL` (R337, R343, R529, R531): stale and orphan packets are dropped; while the step is aborted a job's
packets wait, and so does one whose descriptor has granted but not started. -/
def execColl (s : State) : Host.Outcome State Fault Refusal :=
  match s.takeArrived (fun p => decide (p.ty = tyColl) && s.epOpen p.dstEp && !s.collWaits p) with
  | none => .next s
  | some (_, p, t) =>
    act s s.running
      (if p.epoch.toNat ≠ t.epochNow then t.count Reg.ceEpochStale 1
        else match t.runningIndex (collCtx p) (collSeq p) with
          | none => t.count Reg.ceOrphanDropped 1
          | some i => match t.ce.running[i]? with
            | none => t
            | some r => match t.wayOfPacket r p with
              | none => t.count Reg.ceOrphanDropped 1
              | some w => if r.lost then t else (t.takeColl i w p).pumpAt i)

/-! ### Grants and returns (R335, R336, R343, R531) -/

/-- Fields of a grant or return. -/
def creditCtx (p : Packet) : Nat := beNat ((p.payload.drop 1).take 1) % 16
/-- `SEQ`. -/
def creditSeq (p : Packet) : BitVec 13 := BitVec.ofNat 13 (beNat ((p.payload.drop 2).take 2))
/-- Direction. -/
def creditWay (p : Packet) : Way := Way.ofCode (beNat ((p.payload.drop 4).take 1))
/-- Epoch. -/
def creditEpoch (p : Packet) : Nat := beNat ((p.payload.drop 5).take 2)
/-- Buffers. -/
def creditCount (p : Packet) : Nat := beNat ((p.payload.drop 7).take 2)

/-- Adds granted buffers to a running descriptor, and sends what they allow. -/
def State.credit (s : State) (i : Nat) (w : Way) (n : Nat) : State :=
  match s.ce.running[i]? with
  | none => s
  | some r =>
    let d := r.way w
    (s.setRunning i (r.setWay w { d with granted := d.granted + n })).pumpAt i

/-- Running descriptor i has a neighbour in a direction (R335, R531). -/
def State.sendsAway (s : State) (i : Nat) (w : Way) : Bool :=
  match s.ce.running[i]? with
  | none => false
  | some r => match w with
    | .plus => decide (2 ≤ r.members.length) && (!r.line || decide (r.own + 1 < r.members.length))
    | .minus => decide (2 ≤ r.members.length) && (!r.line || decide (0 < r.own))
    | .partner => r.toPartner

/-- A context is within the 65 courses of a reclaim (R531). -/
def State.inReclaim (s : State) (x : Nat) : Bool := (SMap.get none s.ce.reclaimed x).isSome

/-- A grant may be for a descriptor that is still to start, of which R316 has the engine await it: its context is loaded and in no
reclaim, and its number is one of the 256 to come (assumption 85). -/
def State.grantAhead (s : State) (x : Nat) (seq : BitVec 13) : Bool :=
  decide (s.ctxState x ≠ ctxFree) && !s.inReclaim x && decide ((seq - SMap.get 0 s.ce.nextSeq x).toNat < 256)

/-- What a grant or return does: a grant of another epoch is stale (R343); one that names a direction in which the running
descriptor does not send, or no descriptor that runs or is to start, is an orphan (R531). The message's `resv` bytes are not
looked at (assumption 215). -/
def State.takeCredit (s : State) (p : Packet) (grant : Bool) : State :=
  let x := creditCtx p
  if p.payload.length ≠ 16 then s.count Reg.prBadType 1
  else if creditEpoch p ≠ s.epochNow then s.count (if grant then Reg.ceEpochStale else Reg.ceOrphanDropped) 1
  else match s.runningIndex x (creditSeq p) with
    | some i =>
      if s.sendsAway i (creditWay p) then s.credit i (creditWay p) (creditCount p) else s.count Reg.ceOrphanDropped 1
    | none =>
      if grant && s.grantAhead x (creditSeq p) then
        { s with ce := { s.ce with early := s.ce.early ++ [(x, creditSeq p, (creditWay p).code, creditCount p)] } }
      else s.count Reg.ceOrphanDropped 1

/-- `GRANT` (R335). -/
def execGrant (s : State) : Host.Outcome State Fault Refusal :=
  match s.takeCtrl epCollective 0x10 with
  | none => .next s
  | some (_, p, t) => act s (s.running && s.epOpen p.dstEp && !s.ce.ownSwatch) (t.accept p false (fun u => u.takeCredit p true))

/-- `RETURN` (R335). -/
def execReturn (s : State) : Host.Outcome State Fault Refusal :=
  match s.takeCtrl epCollective 0x11 with
  | none => .next s
  | some (_, p, t) => act s (s.running && s.epOpen p.dstEp && !s.ce.ownSwatch) (t.accept p false (fun u => u.takeCredit p false))

/-! ### Starting (R316–R319, R402) -/

/-- A descriptor waits on a core that is none of its context's partition, or its wait holds a reserved value (R315, R319). -/
def Descriptor.badWait (d : Descriptor) (x : Nat) : Bool :=
  decide (159 < d.waitCore) || decide (corePartition d.waitCore ≠ ctxPartition x) || decide (64 ≤ d.waitTok) || decide (64 ≤ d.waitCnt)

/-- A descriptor of a reserved operation or axis, which has no members to grant to (R315, R319). -/
def Descriptor.badShape (d : Descriptor) : Bool := decide (d.op < 1) || decide (4 < d.op) || decide (3 < d.axis)

/-- A descriptor that breaks another form rule of R319. -/
def Descriptor.badForm (d : Descriptor) (x : Nat) (n0 : Nat) : Bool :=
  (decide (d.op ≠ opAllGather) && decide (2 < d.inFmt)) ||
    decide (2 < d.wireFmt) || decide (1 < d.outFmt) || decide (8 ≤ d.flags) || decide (d.resv ≠ 0) ||
    decide (d.raiseTok / 64 % 2 = 1) ||
    (d.dual && (decide (d.op ≠ opReduceScatter) || decide (d.axis ≠ 0))) ||
    (d.raiseEach && decide (d.op ≠ opRingPass)) ||
    (decide (d.op ≠ opAllGather) && decide (d.inFmt = 0) && decide (d.rowLen = 0)) ||
    (decide (d.raiseCore ≠ 0xFF) && (decide (159 < d.raiseCore) || decide (corePartition d.raiseCore ≠ ctxPartition x))) ||
    (decide (d.op = opReduceScatter) && decide (2 ^ 30 < (((d.granules + n0 - 1) / n0 + 1) / 2) * 64))

/-- The descriptor as it would run, started now (R322, R402). -/
def State.asRunning (s : State) (x slot : Nat) (d : Descriptor) : Running :=
  let (ms, own, n0, line) := s.memberView x d.axis
  { ctx := x, seq := SMap.get 0 s.ce.nextSeq x, slot := slot, desc := d, silent := s.isDiag x, extent := n0, members := ms,
    own := own, line := line, plus := CollDir.none, minus := CollDir.none, partner := CollDir.none, halves := [], finals := 0,
    lastPacket := s.course, lost := false, completed := false }

/-- A wait on a token of a core is met, after every queue head of that core has been tested (R317). -/
def State.descriptorReady (s : State) (x : Nat) (d : Descriptor) : Bool :=
  let k := s.core d.waitCore
  let have_ := s.token d.waitCore x d.waitTok
  let heads := match s.activeCtx d.waitCore with
    | some y => if y = x then
        let before := s.takenBefore d.waitCore .control d.waitTok have_
        match k.qControl with
        | [] => before
        | e :: _ => if decide (0 < waitCnt e.word) && decide (waitTok e.word = d.waitTok) && decide (waitCnt e.word + before ≤ have_) && k.holds e
            then before + waitCnt e.word else before
      else 0
    | none => 0
  decide (d.waitCnt = 0) || decide (d.waitCnt + heads ≤ have_)

/-- Grants held for a descriptor that has not started, in a direction. -/
def State.earlyGrants (s : State) (x : Nat) (seq : BitVec 13) (w : Way) : Nat :=
  ((s.ce.early.filter (fun e => decide (e.1 = x) && decide (e.2.1 = seq) && decide (e.2.2.1 = w.code))).map (fun e => e.2.2.2)).foldl (· + ·) 0

/-- The grants of every direction that the descriptor sends in have arrived (R316). -/
def State.grantsIn (s : State) (r : Running) : Bool :=
  (r.ways true).all (fun w => decide (0 < s.earlyGrants r.ctx r.seq w))

/-- The engine reserves and grants the buffers of a descriptor that has passed its wait (R335). -/
def State.offer (s : State) (r : Running) : State :=
  let t := { s with ce := { s.ce with
    offered := s.ce.offered ++ [(r.ctx, r.seq, r.buffers)], buffersUsed := s.ce.buffersUsed + r.buffers } }
  r.upstreams.foldl (fun u w => u.sendCredit r.desc.axis (r.upstream w) 0x10 r.ctx r.seq.toNat w 64) t

/-- What a member alone writes at its descriptor's start: its own sums rounded once to `OUT_FMT`, or its own
block (R319, R321). -/
def State.writeAlone (s : State) (r : Running) : State :=
  let d := r.desc
  if r.silent then s
  else if d.op = opAllGather then
    s.putElems (d.dst + r.position * d.bytes) 1 ((List.range d.bytes).zip (s.getElems d.src 1 (List.range d.bytes)))
  else if r.members.length < 2 ∧ d.op ≠ opRingPass then
    let is := indicesOf (r.sumRanges true r.position d.perGranule) ++ indicesOf (r.sumRanges false r.position d.perGranule)
    s.deliverSums r (is.zip (is.map (s.firstTerm d d.output)))
  else s

/-- Chunks that a `DUAL` descriptor owns without a partner (R332). -/
def Running.unmirrored (r : Running) : Nat :=
  if r.desc.dual && !r.silent && !r.toPartner then (r.ownedBy r.position).length else 0

/-- Every job context has passed a `LAST` descriptor in this step or has none queued, and one has passed: the
end point of R349 (assumption 87). -/
def State.endReached (s : State) : Bool :=
  let queued := fun (x : Nat) =>
    let h := s.fld (Reg.ceQueue x) Fld.ceQueueHead
    let n := (s.fld (Reg.ceQueue x) Fld.ceQueueTail + 256 - h) % 256
    (List.range n).any (fun i => (s.descriptorAt x ((h + i) % 256)).last)
  s.jobContexts.any (fun x => decide (0 < SMap.get 0 s.ce.durationFixed x)) &&
    s.jobContexts.all (fun x => decide (0 < SMap.get 0 s.ce.durationFixed x) || !queued x)

/-- The course at which the step in progress started. -/
def State.stepStartedAt (s : State) : Course := s.ce.stepCourse

/-- A diagnosis context reaches the end point: its dispatch stops, its issued instructions complete, what it queued is
discarded (assumption 92), it is HALTED, and then the compare extents are digested; a diagnosis replay ends with that (R402,
R404). -/
def State.diagEnd (s : State) (x : Nat) : State :=
  let t := ((s.coresOf x).foldl (fun u c => u.stopOn c x) s).setCtxState x ctxHalted
  match t.cmd.diagnosis with
  | none => t
  | some d =>
    if d.ctx = x then
      let word := BitVec.ofNat 64 (maskOfNats ((t.skExtents true).map (·.1)) * 2 ^ 48 +
        maskOfNats (t.mismatches (d.step.toNat % 8)) * 2 ^ 32 + d.step.toNat)
      let u := ((t.setReg Reg.skDiagResult word).count Reg.skDiagReplays 1).completeResult d.slot stOk (beBytes 8 word.toNat)
      { u with cmd := { u.cmd with diagnosis := none } }
    else t

/-- A `LAST` descriptor passes its wait: the duration is fixed and, at the end point, the digests are written
(R349, R401); in a diagnosis context the replay ends (R402). -/
def State.passLast (s : State) (x : Nat) : State :=
  if s.isDiag x then s.diagEnd x
  else if s.inJob x then
    let t := { s with ce := { s.ce with
      durationFixed := SMap.set 0 s.ce.durationFixed x (coursesSince s.course s.stepStartedAt + 1) } }
    if t.endReached then t.writeCompare t.jobStep else t
  else s

/-- On a line, some pair of consecutive members has neither a clear path nor a route: the descriptor is lost (R323). -/
def State.noWay (s : State) (r : Running) : Bool :=
  !r.silent && r.line && r.pairs.any (fun p => !s.pathClear r.desc.axis p.1 p.2 &&
    !s.routeExists 96 (s.physOf (s.memberAt r.desc.axis p.1)).1 (s.physOf (s.memberAt r.desc.axis p.2)).1)

/-- The descriptor starts: its count is consumed, it leaves the queue and runs, with the grants that came early
(R316, R317, R333). -/
def State.begin_ (s : State) (r : Running) : State :=
  let x := r.ctx
  let t := if r.desc.waitCnt = 0 then s
    else s.setToken r.desc.waitCore x r.desc.waitTok (s.token r.desc.waitCore x r.desc.waitTok - r.desc.waitCnt)
  let u := t.setFld (Reg.ceQueue x) Fld.ceQueueHead ((r.slot + 1) % 256)
  let q := (r.ways true).foldl (fun (q : Running) w => q.setWay w { q.way w with granted := s.earlyGrants x r.seq w }) r
  let v := { u with ce := { u.ce with
    running := u.ce.running ++ [q], nextSeq := SMap.set 0 u.ce.nextSeq x (r.seq + 1)
    early := u.ce.early.filter (fun e => !(decide (e.1 = x) && decide (e.2.1 = r.seq)))
    offered := u.ce.offered.filter (fun o => !(decide (o.1 = x) && decide (o.2.1 = r.seq))) } }
  let w := v.writeAlone r
  let y := if r.unmirrored = 0 then w else w.setReg Reg.ceUnmirrored (BitVec.ofNat 64 r.unmirrored)
  let i := y.ce.running.length - 1
  if y.noWay r then y.loseAt i else y.pumpAt i

/-- The collective engine may start a descriptor of context x (R316, R471, R529, R531). -/
def State.mayStart (s : State) (x : Nat) : Bool :=
  s.running && !s.inReset 4 && !s.inReset 5 && !s.inReset (256 + 0xA0) && !s.inReset (16 + x) && !s.heldBack x &&
    decide (s.fld (Reg.ceQueue x) Fld.ceQueueHead ≠ s.fld (Reg.ceQueue x) Fld.ceQueueTail) &&
    decide (s.ce.running.countP (fun r => r.ctx = x ∧ r.completed = false) < 4) && decide (s.ctxState x ≠ ctxFaulted) && !s.inReclaim x &&
    (!s.inJob x || decide (s.jobState = jobRunning))

/-- The buffers of a descriptor are reserved, or there are as many free (R335). -/
def State.roomFor (s : State) (r : Running) : Bool := s.isOffered r.ctx r.seq || decide (s.ce.buffersUsed + r.buffers ≤ 12288)

/-- The first queued descriptor of context x, as it would run, has the buffers it needs. -/
def State.buffersFit (s : State) (x : Nat) : Bool :=
  let slot := s.fld (Reg.ceQueue x) Fld.ceQueueHead
  s.roomFor (s.asRunning x slot (s.descriptorAt x slot))

/-- A descriptor passes its wait: its buffers are reserved and granted (R335), and a `LAST` one fixes the duration (R349). -/
def State.passWait (s : State) (x : Nat) (r : Running) : State :=
  if s.isOffered x r.seq then s
  else
    let t := s.offer r
    if r.desc.last then t.passLast x else t

/-- A descriptor starts, or faults instead; one that faults consumes and raises no token and stays at the head (R316, R319,
assumption 88). -/
def State.startOrFault (s : State) (x : Nat) (r : Running) : State :=
  if r.desc.badForm x r.extent then s.contextFault x .formatMismatch (.descriptor r.slot) 0
  else match r.extents.find? (fun e => decide (0 < e.2) && !s.reachable e.1 e.2) with
    | some e => s.contextFault x .address (.descriptor r.slot) e.1
    | none => s.begin_ r

/-- The row of a start: the head of context x's queue, if it is a descriptor of the operations named, passes its wait, and
starts once its neighbours have granted theirs. -/
def State.startRow (s : State) (x : Nat) (ofOp : Nat → Bool) : State :=
  let slot := s.fld (Reg.ceQueue x) Fld.ceQueueHead
  let at_ := s.fld (Reg.ceQueue x) Fld.ceQueueBase * 64 + slot * 64
  let d := s.descriptorAt x slot
  let r := s.asRunning x slot d
  if s.mayStart x && ofOp d.op then
    if s.poisoned at_ 64 then s.contextFault x .poisonConsumed (.descriptor slot) at_
    else if d.badWait x then s.contextFault x .formatMismatch (.descriptor slot) 0
    else if !s.descriptorReady x d then s
    else if d.badShape then s.contextFault x .formatMismatch (.descriptor slot) 0
    else if !s.roomFor r || s.memHeld r then s
    else
      let t := s.passWait x r
      if t.grantsIn r then t.startOrFault x r else t
  else s

/-- `REDUCE_SCATTER` (R325, R331); its row also meets the reserved operations, which fault (R319). -/
def execReduceScatter (x : Fin 16) (s : State) : Host.Outcome State Fault Refusal :=
  .next (s.startRow x.val (fun o => decide (o ≠ opAllReduce) && decide (o ≠ opAllGather) && decide (o ≠ opRingPass)))

/-- `ALL_REDUCE` (R319). -/
def execAllReduce (x : Fin 16) (s : State) : Host.Outcome State Fault Refusal :=
  .next (s.startRow x.val (fun o => decide (o = opAllReduce)))

/-- `ALL_GATHER` (R327). -/
def execAllGather (x : Fin 16) (s : State) : Host.Outcome State Fault Refusal :=
  .next (s.startRow x.val (fun o => decide (o = opAllGather)))

/-- `RING_PASS` (R327). -/
def execRingPass (x : Fin 16) (s : State) : Host.Outcome State Fault Refusal :=
  .next (s.startRow x.val (fun o => decide (o = opRingPass)))

/-! ### Completion, timeout and reclaim (R318, R337, R339, R342, R530, R531) -/

/-- Packets that bring a result of this member's own in a direction: not those of a block that it only relays on its way back along a
line (R327). -/
def Running.results (r : Running) (w : Way) : Nat :=
  let own := fun (plus : Bool) => r.packetsOf plus ((r.legs plus false).filter (fun l => !(decide (l.kind = .wrap) && decide (0 < r.own))))
  match w with
  | .plus => own true
  | .minus => own false
  | .partner => r.total .partner false

/-- Every packet that brings a result has been taken, so every result is written here (R318). -/
def Running.done (r : Running) : Bool :=
  r.silent || [Way.plus, .minus, .partner].all (fun w => decide (r.results w ≤ (r.way w).taken))

/-- `DESCRIPTOR_COMPLETE`: the n-th running descriptor completes and raises its token (R318). What it still has to pass on to
its neighbours it goes on sending. -/
def execDescriptorComplete (n : Nat) (s : State) : Host.Outcome State Fault Refusal :=
  match s.ce.running[n]? with
  | none => .next s
  | some r =>
    act s (s.running && !s.inReset 4 && !s.inReset 5 && !s.ce.ownSwatch && !r.lost && !r.completed && r.done)
      (((s.setRunning n { r with completed := true }).letGo n).raiseFor r)

/-- `CE_TIMEOUT.COURSES`, 0 taken as 1 (R339). -/
def State.ceTimeoutCourses (s : State) : Nat := max 1 (s.fld Reg.ceTimeout Fld.ceTimeoutCourses)

/-- A packet of a running descriptor has arrived and is kept unprocessed (R469, R529). -/
def State.packetKept (s : State) (r : Running) : Bool :=
  s.fab.arrived.any (fun a => decide (a.2.ty = tyColl) && decide (collCtx a.2 = r.ctx) && decide (collSeq a.2 = r.seq))

/-- `COLLECTIVE_TIMEOUT`: the n-th running descriptor has had no packet for the courses of `CE_TIMEOUT`
(R337). -/
def execCollectiveTimeout (n : Nat) (s : State) : Host.Outcome State Fault Refusal :=
  match s.ce.running[n]? with
  | none => .next s
  | some r => act s (s.running && !s.inReset 4 && !s.inReset 5 && !r.lost && !r.done && !s.packetKept r &&
      decide (s.ceTimeoutCourses ≤ coursesSince s.course r.lastPacket)) (s.loseAt n)

/-- The engine abandons the running descriptors of some contexts, frees their buffers with the packets kept in them, voids their
grants and clears their numbering; it starts none of them for 65 courses (R342, R530, R531). -/
def State.reclaim (s : State) (of : Nat → Bool) : State :=
  let gone := s.ce.running.filter (fun r => of r.ctx)
  let offers := s.ce.offered.filter (fun o => of o.1)
  let freed := (gone.map Running.buffers).foldl (· + ·) 0 + (offers.map (fun o => o.2.2)).foldl (· + ·) 0
  { s with
    fab := { s.fab with arrived := s.fab.arrived.filter (fun a => !(decide (a.2.ty = tyColl) && of (collCtx a.2) &&
      ((s.runningIndex (collCtx a.2) (collSeq a.2)).isSome || s.isOffered (collCtx a.2) (collSeq a.2)))) }
    ce := { s.ce with
    running := s.ce.running.filter (fun r => !of r.ctx)
    offered := s.ce.offered.filter (fun o => !of o.1)
    early := s.ce.early.filter (fun e => !of e.1)
    buffersUsed := s.ce.buffersUsed - freed
    nextSeq := s.ce.nextSeq.filter (fun p => !of p.1)
    reclaimed := (List.range 16).foldl (fun m x => if of x then SMap.set none m x (some s.course) else m) s.ce.reclaimed } }

/-- The buffers of the job's contexts are reclaimed, which ends the hold of a step abort (R529, R530). -/
def State.reclaimAll (s : State) : State :=
  let t := s.reclaim s.inJob
  { t with ce := { t.ce with abortHold := false } }

/-- What the collective engine does by itself in a cycle: it sends what its descriptors may send (R336). -/
def State.pumpAll (s : State) : State :=
  if s.inReset 4 || s.inReset 5 || s.inReset (256 + 0xA0) then s
  else ((List.range s.ce.running.length).reverse).foldl State.pumpAt s

/-- `RECLAIM_HOLD_END`: 65 courses after a reclaim a context's descriptors may start again (R531). -/
def execReclaimHoldEnd (x : Fin 16) (s : State) : Host.Outcome State Fault Refusal :=
  match SMap.get none s.ce.reclaimed x.val with
  | none => .next s
  | some c => act s (s.running && decide (65 ≤ coursesSince s.course c))
      { s with ce := { s.ce with reclaimed := SMap.set none s.ce.reclaimed x.val none } }

end Sys2Proof.Machine
end

