-- ==== Sys2Proof/Machine/Rewind.lean ====
section
/-! DEFINITION. Stopping a context: the rewind of R397 and R506, discarded packets (R508), tokens (R535). -/

namespace Sys2Proof.Machine

/-- Reads that a discarded move awaits are no longer awaited (R308). -/
def State.dropReads (s : State) (of : ReadFor → Bool) : State :=
  { s with fab := { s.fab with reads := s.fab.reads.filter (fun r => !of r.purpose) } }

/-- Unacknowledged packets of some operations are discarded and counted (R508). -/
def State.discardPackets (s : State) (of : Owner → Bool) : State :=
  let gone := (s.fab.sendFlows.map (fun f => f.unacked.countP (fun u => of u.owner))).foldl (· + ·) 0 +
    s.fab.held.countP (fun h => of h.owner)
  let t := { s with fab := { s.fab with
    sendFlows := s.fab.sendFlows.map (fun (f : SendFlow) => { f with unacked := f.unacked.filter (fun u => !of u.owner) })
    held := s.fab.held.filter (fun h => !of h.owner) } }
  (t.count Reg.rvE2eDiscarded gone).releaseHeld

/-- An owner is an operation of context x: a raise of its own, or a move of a core on which it is resident, which switches
contexts only when its moves are complete (R75). -/
def Owner.ofContext (x : Nat) (cores : List Nat) : Owner → Bool
  | .move c _ => cores.contains c
  | .rraise _ y _ => decide (y = x)
  | _ => false

/-- A read is of a move of one of some cores. -/
def ReadFor.ofCores (cores : List Nat) : ReadFor → Bool
  | .move c _ => cores.contains c
  | _ => false

/-- Every token of context x is set to 0 (R397, R506, R507). -/
def State.zeroTokens (s : State) (x : Nat) : State :=
  (s.coresOf x).foldl (fun u c => (List.range 64).foldl (fun v n => v.setToken c x n 0) u) s

/-- Raises sent to a job context before its tokens were set to 0 are late for 64 courses (R535). -/
def State.lateFromNow (s : State) (x : Nat) : State :=
  if s.inJob x then { s with rv := { s.rv with tokenZeroed := SMap.set none s.rv.tokenZeroed x (some s.course) } } else s

/-- The queued instructions of a context that is not resident on a core are discarded from its image: its
queue counts there read 0, its entries, unused now, are 0, and its check is formed anew (R77, R506). No rule states the means
(assumption 250). -/
def State.clearImageQueues (s : State) (c x : Nat) : State :=
  if (s.core c).resident ≠ some x ∧ (s.sideOf c x).resident then
    let a := saveSlot c x
    let b := s.load a imageBytes
    let cut := b.take 0x40 ++ zeroBytes 5 ++ (b.take 0x100).drop 0x45 ++ zeroBytes 0x500 ++ b.drop 0x600
    let zeroed := cut.take 0xFF8 ++ zeroBytes 8 ++ cut.drop 0x1000
    ((s.store (a + 0x40) (zeroBytes 5)).store (a + 0x100) (zeroBytes 0x500)).store (a + 0xFF8) (check64 zeroed)
  else s

/-- A context stops on every core of its mask, its queued work discarded and its tokens 0. A FAULTED context is HALTED too,
its fault record standing. -/
def State.stopContext (s : State) (x : Nat) : State :=
  let here := (s.coresOf x).filter (fun c => decide ((s.core c).resident = some x))
  let t := (s.coresOf x).foldl (fun u c => (u.clearImageQueues c x).stopOn c x) s
  let u := (t.discardPackets (Owner.ofContext x here)).dropReads (ReadFor.ofCores here)
  let v := (u.zeroTokens x).setFld (Reg.ceQueue x) Fld.ceQueueTail (u.fld (Reg.ceQueue x) Fld.ceQueueHead)
  v.setCtxState x ctxHalted

/-- The rewind of a context: an L0 (R397, R506). -/
def State.rewind (s : State) (x : Nat) : State := (s.stopContext x).lateFromNow x

/-- Every job context is rewound. -/
def State.rewindJob (s : State) : State := s.jobContexts.foldl State.rewind s

end Sys2Proof.Machine
end

