-- ==== Sys2Proof/Machine/Deciding.lean ====
section
/-! DEFINITION. The end of a step: the vector a device contributes and what it decides on the sum (R21–R33,
R181–R183, R349, R350, R393, R417, R418, R461–R465, R596). -/

namespace Sys2Proof.Machine

/-! ### The vector (R22) -/

/-- A tile of step u is checked on some core and its comparison has not closed. -/
def State.openTile (s : State) (u : BitVec 32) : Bool :=
  (List.range 160).any (fun c => (s.core c).checks.any (fun k => decide (k.step = u) && !s.isDiag k.ctx))

/-- Step u has open checks on this device (R461). -/
def State.openChecks (s : State) (u : BitVec 32) : Bool := s.openTile u || s.sn.failedSteps.contains u

/-- Data replicas of the job (R346). -/
def State.replicaCount (s : State) : Nat := (s.axis 0).extent

/-- `CUT_REQUEST` of this device for step u (R417, R465). -/
def State.cutRequest (s : State) (u : BitVec 32) : Bool :=
  (s.leEnabled &&
    ((decide (0 < s.fld Reg.leConfig Fld.leConfigCadence) && decide (u.toNat % s.fld Reg.leConfig Fld.leConfigCadence = 0)) ||
      s.le.armed.contains u)) || s.le.carryCut

/-- The courses from the step's start to the last `LAST` descriptor's wait (R349). -/
def State.stepDuration (s : State) : Nat := ((s.ce.durationFixed.map (fun p => p.2 - 1)).foldl max 0)

/-- `DURATION` of this device (R349). -/
def State.durationShare (s : State) : Nat :=
  let m := s.replicaSize
  min ((s.stepDuration + m - 1) / m) ((2 ^ 32 - 1) / m)

/-- The steps that a vector of step u reports in `OPEN_CHECKS`: u − 7 to u − 1. -/
def stepsBefore (u : BitVec 32) : List (BitVec 32) := (List.range 7).map (fun i => u - 7 + BitVec.ofNat 32 i)

/-- `OPEN_CHECKS[j]` of this device in the vector of step u. -/
def State.openEntry (s : State) (u : BitVec 32) (j : Nat) : Nat :=
  bit ((stepsBefore u).any (fun v => decide (v.toNat % 8 = j) && s.openChecks v))

/-- Non-finite results of the job's contexts in the step. -/
def State.nonFinite (s : State) : Nat := (s.jobContexts.map (fun x => SMap.get 0 s.ctxCounts x)).foldl (· + ·) 0

/-- The step-end vector of step u (R22). -/
def State.stepVector (s : State) (u : BitVec 32) : List Byte :=
  leBytes 8 u.toNat ++ leBytes 8 s.course.toNat ++ leBytes 4 1 ++ leBytes 4 s.epochNow ++ leBytes 4 (min s.nonFinite 65535) ++
    leBytes 4 (bit s.sn.ladderFlag) ++ leBytes 4 s.sn.checkFails ++ leBytes 4 (bit (s.cutRequest u)) ++
    (List.range 8).flatMap (fun j => leBytes 2 (s.openEntry u j)) ++ leBytes 8 s.cfg.tag.toNat ++
    (List.range s.replicaCount).flatMap (fun r => leBytes 4 (if r = s.position 0 then s.durationShare else 0))

/-- The step in progress on the device: started, not decided and not yet contributed. -/
def State.openStep (s : State) : Option JournalEntry :=
  match s.entryOf s.jobStep with
  | none => none
  | some e => if e.started && !e.decided && decide (s.jobStep ∉ s.ce.contributed) then some e else none

/-- A device contributes its vector: what it counted since its last contribution starts again at 0. -/
def State.contribute (s : State) (u : BitVec 32) : State :=
  let t := { s with
    ce := { s.ce with contributed := s.ce.contributed ++ [u], vector := s.stepVector u }
    sn := { s.sn with checkFails := 0, ladderFlag := false }
    le := { s.le with carryCut := false }
    ctxCounts := s.jobContexts.foldl (fun m x => SMap.set 0 m x 0) s.ctxCounts }
  t.setStepField u fldStepState stepEnded

/-- `STEP_END_CONTRIBUTE` (R21, R349, R401, R462): the end point has been reached, its digests are written in both copies, and
every comparison of the step before has closed. -/
def execStepEndContribute (s : State) : Host.Outcome State Fault Refusal :=
  match s.openStep with
  | none => .next s
  | some e =>
    act s (s.running && !s.inReset 4 && !s.inReset 5 && s.job.loaded && decide (s.jobState = jobRunning) && s.endReached &&
        (!s.compareOpen e.step || !s.partnerPresent) && !s.openTile (e.step - 1))
      (s.contribute e.step)

/-! ### The sum (R22–R24) -/

/-- A field of a step-end sum. -/
def sumField (v : List Byte) (off n : Nat) : Nat := leNat ((v.drop off).take n)

/-- `CHECK_FAIL` of a sum. -/
def sumCheckFail (v : List Byte) : Nat := sumField v 32 4
/-- `NONFINITE`. -/
def sumNonFinite (v : List Byte) : Nat := sumField v 24 4
/-- `LADDER`. -/
def sumLadder (v : List Byte) : Nat := sumField v 28 4
/-- `CUT_REQUEST`. -/
def sumCut (v : List Byte) : Nat := sumField v 36 4
/-- `OPEN_CHECKS[j]`. -/
def sumOpen (v : List Byte) (j : Nat) : Nat := sumField v (40 + 2 * j) 2
/-- `DURATION[r]`. -/
def sumDuration (v : List Byte) (r : Nat) : Nat := sumField v (64 + 4 * r) 4
/-- `END_COURSE_SUM` and `MEMBER_COUNT` give the mean course. -/
def sumMeanCourse (v : List Byte) : Nat := sumField v 8 8 / sumField v 16 4

/-- The consistency test of R23: N members, step u, the epoch and the tag in force. -/
def State.sumConsistent (s : State) (u : BitVec 32) (v : List Byte) : Bool :=
  let n := s.memberCount
  decide (sumField v 16 4 = n % 2 ^ 32) && decide (sumField v 0 8 = n * u.toNat % 2 ^ 64) &&
    decide (sumField v 20 4 = n * s.epochNow % 2 ^ 32) && decide (sumField v 56 8 = n * s.cfg.tag.toNat % 2 ^ 64)

/-! ### The update decision (R24, R26, R27, R464, R465) -/

/-- `SK_STATUS.CUR_BUF` changes to the other buffer. -/
def State.flipBuffer (s : State) : State :=
  s.setFld Reg.skStatus Fld.skStatusCurBuf (1 - s.fld Reg.skStatus Fld.skStatusCurBuf)

/-- The update decision of step u has been carried out and its update is written: nothing holds it, and each of the job's
contexts has halted, or has since begun step u + 1 (R31). -/
def State.updateDone (s : State) (u : BitVec 32) : Bool :=
  decide (s.sk.boundary = some u) && !s.sk.updateHeld &&
    (!s.sk.lastApplied || s.jobContexts.all (fun x => decide (s.ctxState x = ctxHalted) ||
      decide (s.fld (Reg.guStep x) Fld.guStepStep = (u + 1).toNat)))

/-- The boundary whose update has completed, if the current one's has. -/
def State.doneBoundary (s : State) : Option (BitVec 32) :=
  match s.sk.boundary with
  | none => none
  | some u => if s.updateDone u then some u else none

/-! ### Snapshots that wait (R449) -/

/-- The snapshots that wait change. -/
def State.mapSnapshots (s : State) (f : SnapshotDue → SnapshotDue) : State :=
  { s with le := { s.le with snapshotDue := s.le.snapshotDue.map f } }

/-- A next update is decided: the boundary that stands is fixed for the snapshots for which it is the first, and for the others
the next one will be. -/
def State.nextSnapshots (s : State) : State :=
  s.mapSnapshots (fun d => match d.boundary, s.doneBoundary with
    | none, some u => if d.armed then { d with boundary := some u } else { d with armed := true }
    | _, _ => { d with armed := true })

/-- The device returns to a boundary whose update completed before: no later one is fixed any more. -/
def State.backSnapshots (s : State) (keep : BitVec 32 → Bool) : State :=
  s.mapSnapshots (fun d => match d.boundary with
    | none => { d with armed := false }
    | some u => if keep u then d else { d with armed := false, boundary := none })

/-- A cut or a snapshot holds the update: one that is being copied, or that waits with its boundary fixed (R33, R449). -/
def State.holdsUpdate (s : State) : Bool :=
  s.le.cuts.any (fun c => decide (c.phase < 4)) || s.le.holdUpdate || s.le.snapshotDue.any (fun d => d.boundary.isSome)

/-- The step keeper raises a token of context x by 1 on every core of its mask. -/
def State.raiseOn (s : State) (x tok : Nat) : State :=
  ((s.coresOf x).foldl (fun t c => t.raiseToken c x tok 1 (.core c (t.freeNow.truncate 32) 0)) s).drawn

/-- The update of the decided step goes: the token that applies it is raised on every core of every job
context (R26, assumption 93). -/
def State.raiseUpdate (s : State) : State := s.jobContexts.foldl (fun t x => t.raiseOn x Config.updateToken.val) s

/-- The update goes now, or waits until what holds it ends (R33). -/
def State.startUpdate (s : State) : State :=
  if s.holdsUpdate then { s with sk := { s.sk with updateHeld := true } } else s.raiseUpdate

/-- A held update goes once nothing holds it. -/
def State.releaseUpdate (s : State) : State :=
  if s.sk.updateHeld && !s.holdsUpdate then { s with sk := { s.sk with updateHeld := false } }.raiseUpdate else s

/-- Boundary u − 1 is voided: the buffer of boundary u − 2 is current again (R464). -/
def State.voidBoundary (s : State) : State :=
  let t := if s.sk.lastApplied then s.flipBuffer else s
  { t.backSnapshots (fun _ => true) with sk := { t.sk with boundary := t.sk.prevBoundary, lastApplied := false } }

/-- A sum with failed comparisons: the update is withheld and the values of R465 are carried. -/
def State.withhold (s : State) (u : BitVec 32) (v : List Byte) : State :=
  let own := s.ce.vector
  let t := { s with
    sn := { s.sn with ladderFlag := s.sn.ladderFlag || decide (sumLadder own = 1) }
    le := { s.le with carryCut := s.le.carryCut || decide (sumCut own = 1) } }
  let w := if sumOpen v ((u - 1).toNat % 8) ≠ 0 then t.voidBoundary else t
  (w.rewindJob).setStepField u fldStepState stepWithheld

/-- A sum with non-finite results and no failed comparison: the update is skipped, and boundary u lies in the
buffer of boundary u − 1 (R24, R26). -/
def State.skip (s : State) (u : BitVec 32) : State :=
  let t := { s.nextSnapshots with sk := { s.sk with prevBoundary := s.sk.boundary, boundary := some u, lastApplied := false } }
  t.rewindJob.setStepField u fldStepState stepSkipped

/-- A clean sum: the update is applied, and the other buffer becomes the current boundary (R24, R27). -/
def State.apply_ (s : State) (u : BitVec 32) : State :=
  let t := { s.nextSnapshots.flipBuffer with sk := { s.sk with prevBoundary := s.sk.boundary, boundary := some u, lastApplied := true } }
  (t.startUpdate).setStepField u fldStepState stepApplied

/-- The update decision. -/
def State.decide_ (s : State) (u : BitVec 32) (v : List Byte) : State :=
  if 0 < sumCheckFail v then s.withhold u v else if 0 < sumNonFinite v then s.skip u else s.apply_ u

/-- The decision is recorded: the step is decided, and a replay of it ends (R397, R406). -/
def State.recordDecision (s : State) (u : BitVec 32) : State :=
  let t := match s.entryOf u with
    | none => s
    | some e => s.setEntry (u.toNat % 8) (some { e with decided := true })
  let w := { t with
    sk := { t.sk with decidedThrough := some u }
    cmd := { t.cmd with lastDecided := u }
    ce := { t.ce with vector := [], durationFixed := [] } }
  if w.sk.replaying = some u then
    { w with sk := { w.sk with replaying := none } }.setFld Reg.skStatus Fld.skStatusReplay 0
  else w

/-! ### Release, loss scale, stragglers, cut (R25, R29, R30, R183, R350, R393, R418) -/

/-- Steps that became checked are released, and so are their partner copies (R29, R393, R596). -/
def State.releaseChecked (s : State) (u : BitVec 32) (v : List Byte) : State :=
  (stepsBefore u).foldl (fun t w =>
    if sumOpen v (w.toNat % 8) = 0 then
      let held := (t.entryOf w).isSome
      let r := (t.releaseOwn w).releaseCopy w
      if held then r.setStepField w fldStepState stepChecked else r
    else t) s

/-- The loss scale update of a context (R183): 1 halved, 2 doubled, 0 neither. An `EXP` below `MIN_EXP`, which R182 forbids the
host, is taken as at the floor (assumption 252). -/
def State.lossUpdate (s : State) (x nonfinite : Nat) : State × Nat :=
  let a := Reg.guLossScale x
  let e := signedOf 8 (s.fld a Fld.guLossScaleExp)
  let lo := signedOf 8 (s.fld a Fld.guLossScaleMinExp)
  let hi := signedOf 8 (s.fld a Fld.guLossScaleMaxExp)
  let clean := s.fld a Fld.guLossScaleClean
  if 0 < nonfinite then
    if lo < e then ((s.setFld a Fld.guLossScaleExp (unsignedOf 8 (e - 1))).setFld a Fld.guLossScaleClean 0, 1)
    else ((s.setFld a Fld.guLossScaleFloorHit 1).setFld a Fld.guLossScaleClean 0, 0)
  else if clean < 999 then (s.setFld a Fld.guLossScaleClean (clean + 1), 0)
  else if e < hi then ((s.setFld a Fld.guLossScaleExp (unsignedOf 8 (e + 1))).setFld a Fld.guLossScaleClean 0, 2)
  else (s.setFld a Fld.guLossScaleClean 0, 0)

/-- The loss scales of the job's contexts (R183): unchanged by a sum with failed comparisons. -/
def State.lossUpdates (s : State) (u : BitVec 32) (v : List Byte) : State :=
  if 0 < sumCheckFail v then s
  else s.jobContexts.foldl (fun t x =>
    let (w, k) := t.lossUpdate x (sumNonFinite v)
    if k = 1 then w.setStepField u fldStepHalved 1 else if k = 2 then w.setStepField u fldStepDoubled 1 else w) s

/-- One move of a micro-batch from the slowest replica to the one whose projected duration is least (R350);
none when no move helps. -/
def moveBatch (mbMax : Nat) (d b : List Nat) : Option (List Nat × List Nat) :=
  let live := (List.range b.length).filter (fun r => 0 < b.getD r 0)
  let proj := fun (r : Nat) => d.getD r 0 * (b.getD r 0 + 1) / b.getD r 0
  let s := live.foldl (fun m r => if d.getD m 0 < d.getD r 0 then r else m) (live.headD 0)
  let q := live.foldl (fun m r => if proj r < proj m then r else m) (live.headD 0)
  let bs := b.getD s 0
  let bq := b.getD q 0
  if live = [] ∨ q = s ∨ bs = 1 ∨ bq = mbMax ∨ 63 * d.getD s 0 * bq ≤ 64 * d.getD q 0 * (bq + 1) then none
  else some ((d.set s (d.getD s 0 * (bs - 1) / bs)).set q (d.getD q 0 * (bq + 1) / bq), (b.set s (bs - 1)).set q (bq + 1))

/-- The straggler rule: at most `n` moves (R350). -/
def rebalance (mbMax : Nat) : Nat → List Nat → List Nat → List Nat
  | 0, _, b => b
  | n + 1, d, b => match moveBatch mbMax d b with
    | none => b
    | some (d', b') => rebalance mbMax n d' b'

/-- `MB_MAX` of the mapping. -/
def State.mbMax (s : State) : Nat := mapByte s.job.mapping 0x0D

/-- `MB_TOTAL` of the mapping. -/
def State.mbTotal (s : State) : Nat := mapNat s.job.mapping 0x0E 2

/-- The straggler update at step u (R350, R717). -/
def State.straggle (s : State) (u : BitVec 32) (v : List Byte) : State :=
  let d := (List.range s.replicaCount).map (sumDuration v)
  { s with ce := { s.ce with
    plan := rebalance s.mbMax 4 d s.ce.plan, planStep := u, durations := d.map (BitVec.ofNat 32) } }

/-- The `LIFELINE_CUT` of boundary u is armed for course C, without a lead; where C is fewer than 17 courses
ahead or past, it fires in the next stitch (R32). -/
def State.armCut (s : State) (u : BitVec 32) (c : Course) : State :=
  s.armByUnit ⟨4, actLifelineCut, u.toNat, c, !s.farEnough c 0⟩

/-- A cut of boundary u is scheduled where the sum asks for one and no comparison failed: it takes the next
generation, and a device that takes part arms it at the course of R30 (R24, R30, R418). -/
def State.scheduleCut (s : State) (u : BitVec 32) (v : List Byte) : State :=
  if sumCheckFail v = 0 ∧ (0 < sumLadder v ∨ 0 < sumCut v) then
    let g := s.le.lastGen + 1
    let t := { s with le := { s.le with lastGen := g, armed := s.le.armed.filter (fun w => w ≠ u) } }.setStepField u fldStepCut 1
    if t.cutsHere then
      let c : Course := BitVec.ofNat 48 (sumMeanCourse v + 4096)
      { t with le := { t.le with due := t.le.due ++ [(u, g, c, t.fld Reg.skStatus Fld.skStatusCurBuf)] } }.armCut u c
    else t
  else s

/-- The step that the device has contributed and whose sum it awaits. -/
def State.awaitedStep (s : State) : BitVec 32 := BitVec.ofNat 32 (sumField s.ce.vector 0 8)

/-- What a device does on the sum of step u, in the order of R25. -/
def State.onSum (s : State) (u : BitVec 32) (v : List Byte) : State :=
  if s.sumConsistent u v then
    let s1 := (s.decide_ u v).recordDecision u
    let s2 := if 0 < sumLadder v then s1.setStepField u fldStepLadder 1 else s1
    let s3 := s2.releaseChecked u v
    let s4 := (s3.lossUpdates u v).straggle u v
    s4.scheduleCut u v
  else { s with ce := { s.ce with vector := [] } }.abortStep 7 u

/-- Widths in bytes of the fields of a vector of m replicas (R22). -/
def vectorWidths (m : Nat) : List Nat := [8, 8, 4, 4, 4, 4, 4, 4] ++ List.replicate 8 2 ++ [8] ++ List.replicate m 4

/-- The sum of two vectors, each field modulo 2 to the power of its width (R22). -/
def addVectors : List Nat → List Byte → List Byte → List Byte
  | [], _, _ => []
  | w :: ws, a, b => leBytes w ((leNat (a.take w) + leNat (b.take w)) % 256 ^ w) ++ addVectors ws (a.drop w) (b.drop w)

/-- Axes in the order of a job-wide sum: tensor rows, tensor columns, sequence, pipeline, data (R329). -/
def sumAxes : List Nat := [1, 2, 3, 4, 0]

/-- The job-wide sum, axis by axis: what this device holds, plus what each other present member of the axis gives (R329). -/
def jobSum (m : Nat) (own : List Byte) (parts : List (List (List Byte))) : List Byte :=
  parts.foldl (fun v ps => ps.foldl (addVectors (vectorWidths m)) v) own

/-- Other present members of axis k. -/
def State.othersOn (s : State) (k : Nat) : Nat := ((s.presentOn k).filter (fun q => decide (q ≠ s.position k))).length

/-- `parts` holds, for each axis in order, one vector of each other present member: that member's sum over the axes before. -/
def State.partsFit (s : State) (parts : List (List (List Byte))) : Bool :=
  decide (parts.map List.length = sumAxes.map s.othersOn) &&
    parts.all (fun ps => ps.all (fun p => decide (p.length = 64 + 4 * s.replicaCount)))

/-- `STEP_END_SUM` (R22–R25, R329): the vectors of the other members arrive, and the device forms the sum of the vectors of
the job's devices (assumption 97). On each axis with other members it adds its own bytes into a passing sum (R354). -/
def execStepEndSum (parts : List (List (List Byte))) (s : State) : Host.Outcome State Fault Refusal :=
  act s (s.running && !s.inReset 4 && !s.inReset 5 && decide (s.ce.vector ≠ []) && decide (s.jobState = jobRunning) && s.partsFit parts)
    ((s.countUnits Reg.ceBytesSummed (s.ce.vector.length * (sumAxes.filter (fun k => decide (0 < s.othersOn k))).length) 65536).onSum
      s.awaitedStep (jobSum s.replicaCount s.ce.vector parts))

/-- A region has become one that can be read: a rebuild of the step keeper goes on, and the partner learns of the cuts that tore at
the reset (R394, R431). -/
def State.resumeEngines (s : State) : State := s.resumeRebuild.tellTears

end Sys2Proof.Machine
end

