-- ==== Sys2Proof/Machine/StepStart.lean ====
section
/-! DEFINITION. The start of a step: the micro-batches, the layer tables, the loss scale and the entries at
which the training contexts begin (R34, R37, R184, R208, R351, R398, R452, R536). -/

namespace Sys2Proof.Machine

/-- `MB_GRANULES` of the mapping, in bytes. -/
def State.mbBytes (s : State) : Nat := 64 * mapNat s.job.mapping 0x10 4

/-- `BATCH_LOCAL` of the mapping. -/
def State.batchLocal (s : State) : Nat := mapNat s.job.mapping 0x18 8

/-- `ENTRY_TABLE` of the mapping. -/
def State.entryTable (s : State) : Nat := mapNat s.job.mapping 0x20 8

/-- The equal plan of R348. -/
def State.equalPlan (s : State) : List Nat :=
  let rs := s.replicas
  let m := max 1 rs.length
  (List.range s.replicaCount).map (fun r =>
    match rs.findIdx? (· = r) with
    | none => 0
    | some i => s.mbTotal / m + (if i < s.mbTotal % m then 1 else 0))

/-- `PLAN` of the record in slot i (R385). -/
def State.recordPlan (s : State) (i : Nat) : List Nat := (s.load (s.skSlotAddr i + 0x78) 32).map BitVec.toNat

/-- The plan by which step u runs: the plan in force, or for a replay that of its record while the present
replicas are those of the record (R398). -/
def State.planFor (s : State) (e : JournalEntry) : List Nat :=
  if e.replay then
    let plan := s.recordPlan (e.step.toNat % 8)
    if (List.range 32).filter (fun r => 0 < plan.getD r 0) = s.replicas then plan else s.equalPlan
  else s.ce.plan

/-- Micro-batches of this device's replica. -/
def State.shareOf (s : State) (plan : List Nat) : Nat := plan.getD (s.position 0) 0

/-- The first of them. -/
def State.shareStart (s : State) (plan : List Nat) : Nat := (plan.take (s.position 0)).foldl (· + ·) 0

/-- Micro-batches s_r to s_r + b_r − 1 of the armed batch go to slots 0 to b_r − 1 (R351). -/
def State.copyBatches (s : State) (e : JournalEntry) : State :=
  let plan := s.planFor e
  s.firmwareCopy (e.batchAddr + s.mbBytes * s.shareStart plan) s.batchLocal (s.mbBytes * s.shareOf plan)

/-- 2^L and 2^−L as F32 in the loss slot of every core of a context's mask (R184). -/
def State.writeLossSlots (s : State) (x : Nat) : State :=
  let l := signedOf 8 (s.fld (Reg.guLossScale x) Fld.guLossScaleExp)
  let bs := leBytes 4 (Fmt.f32.encode (.fin false 1 l)) ++ leBytes 4 (Fmt.f32.encode (.fin false 1 (-l)))
  (s.coresOf x).foldl (fun t c => t.store (storeAt c (8 * s.fld (Reg.guLossScale x) Fld.guLossScaleSlot)) bs) s

/-- Non-zero tokens of a context. -/
def State.tokenResidue (s : State) (x : Nat) : Nat :=
  ((s.coresOf x).map (fun c => (List.range 64).countP (fun n => decide (s.token c x n ≠ 0)))).foldl (· + ·) 0

/-- A context's checked tiles are numbered from 0 again on every core (R452). -/
def State.restartIndex (s : State) (x : Nat) : State :=
  (s.coresOf x).foldl (fun t c =>
    if (t.core c).resident = some x then t.modCore c (fun k => { k with checkIndex := 0 })
    else t.setSide c x { t.sideOf c x with checkIndex := 0 }) s

/-- A context stands at instruction `pc` on every core of its mask and is READY, its tokens, registers and
queues as they are (R351). -/
def State.enterAt (s : State) (x : Nat) (pc : BitVec 32) : State :=
  ((s.coresOf x).foldl (fun t c =>
    if (t.core c).resident = some x then t.modCore c (fun k => { k with pc := pc, halted := false, haltAt := none })
    else t.setSide c x { t.sideOf c x with pcOverride := some pc, halted := false, haltAt := none }) s).setCtxState x ctxReady

/-- The entry of partition p for b micro-batches and the buffer that the step's update writes (R351). -/
def State.stepEntry (s : State) (p b : Nat) : BitVec 32 :=
  let beta := 1 - s.fld Reg.skStatus Fld.skStatusCurBuf
  BitVec.ofNat 32 (leNat (s.firmwareLoad (s.entryTable + 512 * p + 256 * beta + 4 * (b - 1)) 4))

/-- What the firmware does for one context at the start of a step: one that is HALTED stands READY at its entry, and its
start token is raised on every core of its mask (R351, assumption 98). -/
def State.startContext (s : State) (e : JournalEntry) (x : Nat) : State :=
  let p := ctxPartition x
  let t0 := (s.count (Reg.ctxTokenResidue p) (s.tokenResidue x)).setFld (Reg.guStep x) Fld.guStepStep e.step.toNat
  let t := { t0 with cmd := { t0.cmd with stepsWritten := t0.cmd.stepsWritten ++ [Reg.guStep x] } }
  let u := (t.writeLossSlots x).restartIndex x
  if u.ctxState x = ctxHalted then (u.enterAt x (u.stepEntry p (u.shareOf (u.planFor e)))).raiseOn x Config.startToken.val else u

/-- What it does once for the device, at the first partition's event. -/
def State.startDevice (s : State) (e : JournalEntry) (at_ : Course) : State :=
  if e.started then s
  else
    let t := (s.setEntry (e.step.toNat % 8) (some { e with started := true })).setStepField e.step fldStepState stepRunning
    let u := { t with ce := { t.ce with
      stepCourse := at_, durationFixed := [], contributed := t.ce.contributed.filter (· ≠ e.step) }, sk := { t.sk with begun := [] } }
    let v := u.copyBatches e
    if e.replay then v else v.evaluateLayers e.step e.captured

/-- The training contexts of the job in partition p: those that are no diagnosis contexts. -/
def State.trainContexts (s : State) (p : Nat) : List Nat :=
  s.jobContexts.filter (fun x => decide (ctxPartition x = p) && !s.isDiag x)

/-- The firmware's accesses for a step wait: the batch, its slots or the entry table lie in a partition in reset (R266, R534). -/
def State.batchWaits (s : State) (e : JournalEntry) : Bool :=
  let plan := s.planFor e
  let n := s.mbBytes * s.shareOf plan
  s.memWaits (e.batchAddr + s.mbBytes * s.shareStart plan) n || s.memWaits s.batchLocal n || s.memWaits s.entryTable 2048

/-- The step may begin on this device (R34, R37): its record is durable and the decision of the step before has
been carried out. -/
def State.stepMayStart (s : State) (p : Nat) (e : JournalEntry) : Bool :=
  s.running && decide (s.jobState = jobRunning) && !s.inReset p && !s.inReset 4 && !s.inReset 5 && e.durable &&
    decide (s.sk.boundary = some (e.step - 1)) && !s.sk.updateHeld && !s.switchPending (e.step - 1) && !s.batchWaits e

/-- A context begins the step once, when it is not READY. -/
def State.beginContext (s : State) (e : JournalEntry) (x : Nat) : State :=
  if s.sk.begun.contains x ∨ s.ctxState x = ctxReady then s
  else { s.startContext e x with sk := { (s.startContext e x).sk with begun := s.sk.begun ++ [x] } }

/-- The training contexts of partition p begin step e; the event that names the step stays handed over until each of them,
done with the update before, has begun (R351, assumption 95). -/
def State.beginStep (s : State) (p : Nat) (e : JournalEntry) (event : State) : State :=
  let t := (s.trainContexts p).foldl (fun u x => u.beginContext e x) s
  if (s.trainContexts p).all t.sk.begun.contains then t else { t with tb := { t.tb with handed := event.tb.handed } }

/-- The start of a diagnosis replay: its context begins as a job context does, by the plan of the record (R398,
R402, R403, R596). -/
def State.startDiagnosis (s : State) (d : Diagnosis) : State :=
  let e := { (s.entryOf d.step).getD (rebuiltEntry d.step (s.slotRecord (d.step.toNat % 8))) with replay := true }
  ((s.setStepField d.step fldStepState stepRunning).copyBatches e).startContext e d.ctx

/-- The diagnosis replay that an event starts, if it is one's. -/
def State.diagnosisOf (s : State) (h : Handed) : Option Diagnosis :=
  match s.cmd.diagnosis with
  | none => none
  | some d => if d.ctx = h.ctx ∧ d.step.toNat = h.param then some d else none

/-- `STEP_START`: the step-start event of partition p. An event whose step is no longer held starts nothing. -/
def execStepStart (p : Fin 4) (s : State) : Host.Outcome State Fault Refusal :=
  match s.takeHanded p.val actStepStart with
  | none => .next s
  | some (h, t) =>
    match s.diagnosisOf h with
    | some d => act s (s.running && !s.inReset p.val && !s.inReset 4 && !s.inReset 5) (t.startDiagnosis d)
    | none =>
    match s.entryOf (BitVec.ofNat 32 h.param) with
    | none => act s s.running t
    | some e =>
      act s (s.stepMayStart p.val e) ((t.startDevice e h.course).beginStep p.val e s)

end Sys2Proof.Machine
end

