-- ==== Sys2Proof/Machine/Time.lean ====
section
/-! DEFINITION. Course time: the counters, firing of scheduled events, beacons and mastership (R356–R371,
R373–R377, R655, R722). -/

namespace Sys2Proof.Machine

/-! ### Firing (R373, R375–R377) -/

/-- An armed entry's time is this stitch, or it fires in the stitch after it was armed (R32, R375, R397). -/
def State.evDue (s : State) (t n : Nat) : Bool :=
  s.evArmed t n && (match s.soonEntry t n with
    | none => decide (s.evCourse t n = s.course) && decide (s.evStitch t n = s.stitch)
    | some at_ => decide (at_ < s.cycleNo))

/-- Rank of an entry among those of one stitch (R375). -/
def State.evRank (s : State) (t n : Nat) : Nat := s.evAction t n * 1024 + (if t = 4 then 0 else t + 1) * 64 + n

/-- Every entry of every table. -/
def allEntries : List (Nat × Nat) := (List.range 5).flatMap (fun t => (List.range 64).map (fun n => (t, n)))

/-- The entry that is next to fire in this stitch. -/
def State.nextDue (s : State) : Option (Nat × Nat) :=
  (allEntries.filter (fun e => s.evDue e.1 e.2)).foldl
    (fun (b : Option (Nat × Nat)) e => match b with
      | none => some e
      | some f => if s.evRank e.1 e.2 < s.evRank f.1 f.2 then some e else some f) none

/-- `TB_STATUS.STATE`. -/
def State.tbState (s : State) : Nat := s.fld Reg.tbStatus Fld.tbStatusState
/-- FREE_RUN. -/
def tbFreeRun : Nat := 0
/-- ACQUIRING. -/
def tbAcquiring : Nat := 1
/-- LOCKED. -/
def tbLocked : Nat := 2
/-- HOLDOVER. -/
def tbHoldover : Nat := 3

/-- The entry starts a diagnosis replay, no step of the job (R402). -/
def State.startsDiagnosis (s : State) (t n : Nat) : Bool :=
  match s.cmd.diagnosis with
  | none => false
  | some d => decide (d.ctx = s.evContext t n) && decide (d.step.toNat = s.evParam t n)

/-- An entry is missed: it is counted and reported, and a missed start of a job step aborts the step
(R376, R498). -/
def State.missEntry (s : State) (t n : Nat) : State :=
  let u := (s.disarm t n).setFld (evA t n) Fld.tbPeventAMissed 1
  let v := (u.count Reg.tbMissed 1).report (Report.bare clsEventMissed (enginePath 14))
  if s.evAction t n = actStepStart ∧ s.startsDiagnosis t n = false then v.abortStep 9 (BitVec.ofNat 32 (s.evParam t n)) else v

/-- The condition under which an entry whose time comes is missed (R376, R655). -/
def State.missesNow (s : State) (t n : Nat) : Bool :=
  let switch := decide (s.evAction t n = actOverlaySwitch)
  ((decide (s.tbState = tbFreeRun) || decide (s.tbState = tbAcquiring)) && !(switch && decide (s.jobState = jobIdle))) ||
    (decide (s.evAction t n ≠ actResetRelease) && s.inReset t)

/-- A swatch window holds units of a partition (R377, R469). -/
def State.windowHolds (s : State) (p : Nat) : Bool :=
  (s.window p).isSome || (coresOfPartition p).any (fun c => (s.core c).inWindow)

/-- An entry fires: its action goes to its unit; a swatch window's cores stop dispatch, and a step start during
a window waits for its end (R375, R377, R469). An event of R123 grants the streams of its rails in full, one armed after its
course among them (R32, R397). -/
def State.fireEntry (s : State) (t n : Nat) : State :=
  let a := s.evAction t n
  let h : Handed := ⟨t, a, s.evContext t n, s.evParam t n, s.course⟩
  let w := (s.disarm t n).setFld (evA t n) Fld.tbPeventAFired 1
  let u := if forewarnedAction t a then (eventRails t).foldl State.grantInFull w else w
  if a = actStepStart ∧ s.windowHolds t = true then
    { u with tb := { u.tb with deferred := u.tb.deferred ++ [h] } }.count (Reg.tbDeferred t) 1
  else
    let v := { u with tb := { u.tb with handed := u.tb.handed ++ [h] } }
    if a = actSwatchWindow ∧ t < 4 then
      (coresOfPartition t).foldl (fun w c => w.modCore c (fun k => { k with inWindow := true })) v
    else v

/-- An entry's time has come. -/
def State.entryTime (s : State) (t n : Nat) : State := if s.missesNow t n then s.missEntry t n else s.fireEntry t n

/-- `EVENT_FIRE`: the entry of this stitch that is first in the order of R375. -/
def execEventFire (table : Fin 5) (n : Fin 64) (s : State) : Host.Outcome State Fault Refusal :=
  act s (s.running && decide (s.nextDue = some (table.val, n.val))) (s.entryTime table.val n.val)

/-! ### Ranking beacons (R363, R370) -/

/-- The device is master. -/
def State.isMaster (s : State) : Bool := decide (s.fld Reg.tbStatus Fld.tbStatusRole = 1)

/-- `TERM` in force. -/
def State.term (s : State) : BitVec 16 := BitVec.ofNat 16 (s.fld Reg.tbStatus Fld.tbStatusTerm)

/-- `CUR_MASTER`. -/
def State.curMaster (s : State) : BitVec 15 := BitVec.ofNat 15 (s.fld Reg.tbStatus Fld.tbStatusCurMaster)

/-- `TB_CONFIG.MASTER`, if `MASTER_VALID`. -/
def State.namedMaster (s : State) : Option (BitVec 15) :=
  if s.flag Reg.tbConfig Fld.tbConfigMasterValid then some (BitVec.ofNat 15 (s.fld Reg.tbConfig Fld.tbConfigMaster)) else none

/-- `TB_CONFIG.BACKUP`, if `BACKUP_VALID`. -/
def State.namedBackup (s : State) : Option (BitVec 15) :=
  if s.flag Reg.tbConfig Fld.tbConfigBackupValid then some (BitVec.ofNat 15 (s.fld Reg.tbConfig Fld.tbConfigBackup)) else none

/-- The device stands at a physical coordinate, and not on its side port. -/
def State.standsAt (s : State) (c : Option (BitVec 15)) : Bool := decide (c = some s.phys) && !s.onSide

/-- The keys of R363 in order; a smaller list ranks first. -/
def State.beaconKeys (s : State) (term : BitVec 16) (master : BitVec 15) (hops port : Nat) : List Nat :=
  [bit (hops = 63), 0xFFFF - term.toNat, if some master = s.namedMaster then 0 else master.toNat + 1, hops, port]

/-- Lexicographic order of keys. -/
def keysBefore : List Nat → List Nat → Bool
  | a :: as, b :: bs => decide (a < b) || (decide (a = b) && keysBefore as bs)
  | _, _ => false

/-- What a port last heard. -/
def State.heardOn (s : State) (n : Nat) : Option Heard := SMap.get none s.tb.heard n

/-- The beacon that a port heard last, if fewer than 256 courses ago. -/
def State.heardRecently (s : State) (n : Nat) : Option Heard :=
  match s.heardOn n with
  | none => none
  | some h => if coursesSince s.course h.at_ < 256 then some h else none

/-- The ports that heard a beacon recently, with it. -/
def State.recentBeacons (s : State) : List (Nat × Heard) :=
  (List.range 8).filterMap (fun n => (s.heardRecently n).map (fun h => (n, h)))

/-- The UP port that R363 chooses as parent. -/
def State.parentPort (s : State) : Option (Nat × Heard) :=
  (s.recentBeacons.filter (fun h => s.portUp h.1)).foldl (fun (b : Option (Nat × Heard)) p => match b with
    | none => some p
    | some q => if keysBefore (s.beaconKeys p.2.term p.2.master p.2.hops p.1) (s.beaconKeys q.2.term q.2.master q.2.hops q.1)
        then some p else some q) none

/-- Writes term and master in force, counting a change (R380). -/
def State.setMastership (s : State) (term : BitVec 16) (master : BitVec 15) : State :=
  let t := (s.setFld Reg.tbStatus Fld.tbStatusTerm term.toNat).setFld Reg.tbStatus Fld.tbStatusCurMaster master.toNat
  if s.term = term ∧ s.curMaster = master then t else t.count Reg.tbMasterChanges 1

/-! ### Sending (R360, R361) -/

/-- A beacon's payload, with the fraction of a stitch at which it departs; its course and stitch are set when its block does
(`State.departing`). -/
def State.beaconPayload (s : State) (fraction : Byte) : List Byte :=
  beBytes 2 s.term.toNat ++ beBytes 2 (s.curMaster.toNat * 2 + bit (s.tbState = tbHoldover)) ++
    beBytes 1 (s.fld Reg.tbStatus Fld.tbStatusHops * 4) ++ [fraction] ++ beBytes 2 s.stitch ++ beBytes 6 s.course.toNat ++
    beBytes 2 (s.fld Reg.tbConfig Fld.tbConfigBackup * 2 + s.fld Reg.tbConfig Fld.tbConfigBackupValid)

/-- `BEACON_SEND`: at each multiple of 64 courses, on every port that is UP (R360, assumption 99). -/
def execBeaconSend (s : State) : Host.Outcome State Fault Refusal :=
  act s (s.running && s.periodic tmrBeacon 64 && !s.inReset 4 &&
      (decide (s.tbState = tbLocked) || decide (s.tbState = tbHoldover) || s.isMaster))
    (((List.range 8).filter s.portUp).foldl
      (fun t n => t.drawn.injectBy
        (t.packetTo tyBeacon tcCT (t.linkPeer n) epTimebase epTimebase 0 0 (t.beaconPayload (t.freeNow.truncate 8))) (some n))
      (s.ran tmrBeacon))

/-! ### Receiving (R362, R364, R365, R370) -/

/-- Course time in 1/256 stitch. -/
def timeFine (course : Nat) (stitch fraction : Nat) : Nat := (course * 2560 + stitch) * 256 + fraction

/-- One turn of the course counter in 1/256 stitch. -/
def timeTurn : Nat := 2 ^ 48 * 2560 * 256

/-- A beacon as the payload gives it, heard at a course; its `resv` bits are not looked at (R360, assumption 215). -/
def beaconOf (b : List Byte) (at_ : Course) : Heard where
  term := BitVec.ofNat 16 (beNat (b.take 2))
  master := BitVec.ofNat 15 (beNat ((b.drop 2).take 2) / 2)
  holdover := decide (beNat ((b.drop 2).take 2) % 2 = 1)
  hops := beNat ((b.drop 4).take 1) / 4
  at_ := at_

/-- The parent's time at the arrival of its beacon: departure + `DELAY` (R362). -/
def State.parentTime (s : State) (port : Nat) (b : List Byte) : Nat :=
  timeFine (beNat ((b.drop 8).take 6)) (beNat ((b.drop 6).take 2) % 4096) (beNat ((b.drop 5).take 1)) +
    256 * s.fld (Reg.ppStatus port) Fld.ppStatusDelay

/-- err of R362 of a beacon whose block began to arrive at its course and stitch, in 1/256 stitch, signed. -/
def State.beaconError (s : State) (a : LinkPacket) (fraction : Nat) : Int :=
  let d := (timeFine a.course.toNat a.stitch fraction + 2 * timeTurn - s.parentTime a.port a.packet.payload) % timeTurn
  if 2 * d < timeTurn then (d : Int) else (d : Int) - (timeTurn : Int)

/-- The parent's time now: that at the beacon's arrival and the stitches since. -/
def State.parentNow (s : State) (a : LinkPacket) : Nat :=
  s.parentTime a.port a.packet.payload + 256 * ((s.now + 2 ^ 48 * 2560 - (a.course.toNat * 2560 + a.stitch)) % (2 ^ 48 * 2560))

/-- The course and stitch of an arrival, moved with a step of the counters (R363). -/
def LinkPacket.moved (a : LinkPacket) (by_ : Nat) : LinkPacket :=
  let n := (a.course.toNat * 2560 + a.stitch + by_) % (2 ^ 48 * 2560)
  { a with course := BitVec.ofNat 48 (n / 2560), stitch := n % 2560 }

/-- Courses at which beacons were heard, moved with a step of the counters, so that their ages stay (R363). -/
def Timebase.moved (t : Timebase) (by_ : Course) : Timebase :=
  { t with
    heard := t.heard.map (fun (p : Nat × Option Heard) => (p.1, p.2.map (fun h => { h with at_ := h.at_ + by_ })))
    parentAt := t.parentAt.map (· + by_), quietSince := t.quietSince + by_ }

/-- The counters step to a time; armed entries passed over are missed (R364, R365, R376). -/
def State.stepCounters (s : State) (fine : Nat) : State :=
  let total := fine / 256 % (2 ^ 48 * 2560)
  let ahead := (total + 2 ^ 48 * 2560 - s.now) % (2 ^ 48 * 2560)
  let passed := if 2 * ahead < 2 ^ 48 * 2560 then
      allEntries.filter (fun e =>
        let at_ := ((s.evCourse e.1 e.2).toNat * 2560 + s.evStitch e.1 e.2 + 2 ^ 48 * 2560 - s.now) % (2 ^ 48 * 2560)
        s.evArmed e.1 e.2 && decide (s.soonEntry e.1 e.2 = none) && decide (at_ < ahead))
    else []
  let t := passed.foldl (fun u e => u.missEntry e.1 e.2) s
  let course := BitVec.ofNat 48 (total / 2560)
  let v := { t with
    tb := { t.tb.moved (course - s.course) with course := course, stitch := total % 2560 }
    fab := { t.fab with linkArrived := t.fab.linkArrived.map (fun (a : LinkPacket) => a.moved ahead) } }
  (v.count Reg.tbSteps 1).report (Report.bare clsTimeStep (enginePath 14))

/-- Sets `TB_STATUS.STATE`; a device that becomes LOCKED has been so since its reset (R371). -/
def State.setTbState (s : State) (v : Nat) : State :=
  let t := s.setFld Reg.tbStatus Fld.tbStatusState v
  if v = tbLocked then { t with tb := { t.tb with locked := true } } else t

/-- Acquiring with a step of the counters. -/
def State.acquireStep (s : State) (fine : Nat) : State :=
  let t := (s.stepCounters fine).setTbState tbAcquiring
  { t with tb := { t.tb with good := 0, bad := 0 } }

/-- The multiplier is steered: its setting is a free value within 70 ppm of the nominal ratio (R355, R365). -/
def State.steer (s : State) : State := { s.drawn with tb := { s.drawn.tb with steered := (s.freeNow.toNat % 140001 : Nat) - 70000 } }

/-- The changes of state of R364 on a parent's beacon; 100 ns is 64,000 and 4 ns 2,560 of 1/256 stitch. -/
def State.onParentBeacon (s : State) (err : Int) (fine : Nat) : State :=
  let far := decide (64000 < err.natAbs)
  let near := decide (err.natAbs ≤ 2560)
  if s.tbState = tbFreeRun then
    { s.setTbState tbAcquiring with tb := { (s.setTbState tbAcquiring).tb with good := 0, bad := 0 } }
  else if s.tbState = tbAcquiring then
    if far then s.acquireStep fine
    else
      let n := if near then s.tb.good + 1 else 0
      let t := { s.steer with tb := { s.steer.tb with good := n } }
      if 8 ≤ n then { t.setTbState tbLocked with tb := { (t.setTbState tbLocked).tb with bad := 0 } } else t
  else if s.tbState = tbLocked then
    if far then
      if 1 ≤ s.tb.bad then s.acquireStep fine else { s.steer with tb := { s.steer.tb with bad := s.tb.bad + 1 } }
    else { s.steer with tb := { s.steer.tb with bad := 0 } }
  else if far then s.acquireStep fine
  else
    let t := s.steer.setTbState tbLocked
    { t with tb := { t.tb with bad := 0 } }

/-- `PHASE_ERR` of an error: one that 20 bits cannot hold is a free value. -/
def State.showPhaseError (s : State) (err : Int) : State :=
  if -524288 ≤ err ∧ err ≤ 524287 then s.setFld Reg.tbStatus Fld.tbStatusPhaseErr (unsignedOf 20 err)
  else s.drawn.setFld Reg.tbStatus Fld.tbStatusPhaseErr (s.freeNow.toNat % 2 ^ 20)

/-- A device that is no master, or yields, follows the parent that R363 chooses: its `HOPS` is the parent's plus 1, and `TERM`
and `CUR_MASTER` are the parent's. -/
def State.chooseParent (s : State) : State :=
  match s.parentPort with
  | none => s
  | some (n, h) =>
    let t := ((s.setFld Reg.tbStatus Fld.tbStatusRole 0).setFld Reg.tbStatus Fld.tbStatusParent n).setFld
      Reg.tbStatus Fld.tbStatusHops (min (h.hops + 1) 63)
    t.setMastership h.term h.master

/-- A beacon from the parent: its error is shown and acted on. -/
def State.followParent (s : State) (err : Int) (fine : Nat) : State :=
  let t := { s with tb := { s.tb with parentAt := some s.course } }
  (t.showPhaseError err).onParentBeacon err fine

/-- A beacon has been heard; a master yields to one that ranks above its own (R363, R370). -/
def State.hearBeacon (s : State) (a : LinkPacket) (fraction : Nat) : State :=
  let h := beaconOf a.packet.payload a.course
  let t := { s with tb := { s.tb with heard := SMap.set none s.tb.heard a.port (some h), quietSince := s.course } }
  let yields := !t.isMaster ||
    keysBefore (t.beaconKeys h.term h.master h.hops 0) (t.beaconKeys t.term t.curMaster 0 0)
  if yields then
    if (t.parentPort.map Prod.fst) = some a.port then t.chooseParent.followParent (s.beaconError a fraction) (s.parentNow a)
    else t.chooseParent
  else t

/-- `BEACON`: the first beacon received is taken; `fraction` is the 1/256 stitch at which its block began to
arrive in its stitch (R362). -/
def execBeacon (fraction : Fin 256) (s : State) : Host.Outcome State Fault Refusal :=
  match s.takeLink (fun p => decide (p.ty = tyBeacon)) with
  | none => .next s
  | some (a, t) => act s (s.running && !s.inReset 4 && decide (a.packet.payload.length = 16)) (t.hearBeacon a fraction.val)

/-- At the start of a course a device whose parent's beacons have grown old, or whose port has left UP, follows the next
(R363). -/
def State.reviewParent (s : State) : State := if s.isMaster || decide (s.tbState = tbFreeRun) then s else s.chooseParent

/-- `PARENT_TIMEOUT`: a LOCKED device that has heard no parent for 256 courses holds over (R364). -/
def execParentTimeout (s : State) : Host.Outcome State Fault Refusal :=
  let silent := match s.tb.parentAt with
    | none => false
    | some a => decide (256 ≤ coursesSince s.course a)
  let t := s.setTbState tbHoldover
  act s (s.running && decide (s.tbState = tbLocked) && !s.isMaster && silent && decide (s.parentPort = none))
    t

/-! ### Mastership (R369, R371, R722) -/

/-- The master that is lost where a fault record names it: the one in force, or in FREE_RUN, where none is, the one that
`TB_CONFIG` names (assumption 103). -/
def State.lostMaster (s : State) : Option (BitVec 15) :=
  (if s.tbState = tbFreeRun then s.namedMaster else some s.curMaster).filter s.deviceFailed

/-- No beacon with a lower master was heard recently: the test of the second row of R369. -/
def State.lowestMaster (s : State) : Bool := s.recentBeacons.all (fun h => decide (s.phys.toNat ≤ h.2.master.toNat))

/-- The second row of R369. Loss of beacons alone makes no master of a device that has been LOCKED (R371, R722, assumption 100). -/
def State.mayElectSelf (s : State) : Bool :=
  s.flag Reg.tbConfig Fld.tbConfigCapable && s.lowestMaster && (!s.tb.locked || decide (s.recentBeacons ≠ []))

/-- `TERM` with which this device becomes master, if a case of R369 applies; with `zero`, `TERM` is 0 (R371). -/
def State.electionTerm (s : State) (zero : Bool) : Option (BitVec 16) :=
  let highest := ((List.range 8).filterMap s.heardOn).foldl (fun m h => max m h.term.toNat) 0
  let next := s.term + 1
  let t :=
    if s.standsAt s.namedMaster = true ∧ s.recentBeacons.all (fun h => decide (h.2.term.toNat ≤ s.term.toNat)) = true then
      some (BitVec.ofNat 16 highest)
    else if s.namedMaster = none ∧ s.mayElectSelf = true then some 0
    else if s.standsAt s.namedBackup = true ∧ (decide (s.tbState = tbHoldover) || s.lostMaster.isSome) = true then some next
    else if s.namedBackup = none ∧ s.lostMaster.isSome = true ∧ s.flag Reg.tbConfig Fld.tbConfigCapable = true ∧
        decide (s.lostMaster ≠ some s.phys) = true ∧ s.lowestMaster = true then some next
    else none
  t.map (fun v => if zero then 0 else v)

/-- The device becomes master (R369), which does not steer (R355). -/
def State.becomeMaster (s : State) (term : BitVec 16) : State :=
  let t := (s.setMastership term s.phys).setTbState tbLocked
  let u := (t.setFld Reg.tbStatus Fld.tbStatusRole 1).setFld Reg.tbStatus Fld.tbStatusHops 0
  { u with tb := { u.tb with steered := 0 } }

/-- `MASTER_ELECTION` (R369, R722): a device that has not yet been LOCKED takes no master role so (R371). -/
def execMasterElection (s : State) : Host.Outcome State Fault Refusal :=
  match s.electionTerm false with
  | none => .next s
  | some v => act s (s.running && !s.isMaster && s.tb.locked) (s.becomeMaster v)

/-- `FREE_RUN_TIMEOUT`: a device that has not been LOCKED since its reset has heard no beacon for 4,096 courses (R371). -/
def execFreeRunTimeout (s : State) : Host.Outcome State Fault Refusal :=
  match s.electionTerm true with
  | none => .next s
  | some v =>
    act s (s.running && !s.tb.locked && !s.isMaster &&
        decide (4096 ≤ coursesSince s.course s.tb.quietSince))
      (s.becomeMaster v)

end Sys2Proof.Machine
end

