-- ==== Sys2Proof/Machine/Host.lean ====
section
/-! DEFINITION. Port H and the command interpreter: frames sent and held back, received FCP datagrams,
sequence numbers, the reply cache, and the frame of every command row (R551–R556, R562–R569, R580–R590, R647). -/

namespace Sys2Proof.Machine

/-! ### Sending (R552, R556, R567, R569) -/

/-- The class that a frame travels in: 0 `PCP_CMD`, 1 `PCP_BULK`; none for frames that no pause holds. -/
def Sent.pcp : Sent → Option Nat
  | .fcp _ _ => some 0
  | .announce _ => some 0
  | .rdmaAck _ _ _ => some 1
  | .rdmaNak _ _ _ _ => some 1
  | .rdmaData _ _ _ _ => some 1
  | .cnp _ _ => some 1
  | .pfc _ _ => none
  | .neighborAdvert _ _ => none
  | .arpReply _ _ => none
  | .echoReply _ => none
  | .dadProbe _ => none

/-- MAC Control frames are exempt from protection (R562). -/
def Sent.exempt : Sent → Bool
  | .pfc _ _ => true
  | _ => false

/-- RoCEv2 frames, which carry ECT(0) (R570). -/
def Sent.roce : Sent → Bool
  | .rdmaAck _ _ _ => true
  | .rdmaNak _ _ _ _ => true
  | .rdmaData _ _ _ _ => true
  | .cnp _ _ => true
  | _ => false

/-- Bytes of payload that the rate of R557 counts: FCP bodies and read data. -/
def Sent.payload : Sent → Nat
  | .fcp _ d => d.length - 32
  | .announce d => d.length - 32
  | .rdmaData _ _ _ d => d.length
  | _ => 0

/-- The rate of R557 in units of 1/1,024 GB/s. -/
def fullRate : Nat := 92 * 1024

/-- Stitches that `n` bytes take at a rate in units of 1/1,024 GB/s: 2.5 bytes a stitch for each GB/s. -/
def sendTime (n rate : Nat) : Nat := (n * 2560 + rate - 1) / rate

/-- The MACsec keys of a session secret: those of the device's frames, or of the host's (R621). -/
def macsecKeys (secret : List Byte) (toHost : Bool) : SecureKeys :=
  if toHost then ⟨derive secret "SAK D" 32 [], derive secret "SALT D" 12 [], 1⟩
  else ⟨derive secret "SAK H" 32 [], derive secret "SALT H" 12 [], 2⟩

/-- The link-local address: fe80::/64 with the modified EUI-64 of the MAC address (R558). -/
def linkLocalAddr : BitVec 128 :=
  let m := Config.fusedMac.toNat
  BitVec.ofNat 128 (0xFE80 * 2 ^ 112 + (m / 2 ^ 24 ^^^ 0x2_0000) * 2 ^ 40 + 0xFFFE * 2 ^ 24 + m % 2 ^ 24)

/-- The priority of a class. -/
def State.priorityOf (s : State) (cls : Nat) : Nat :=
  if cls = 0 then s.fld Reg.hpConfig Fld.hpConfigPcpCmd else s.fld Reg.hpConfig Fld.hpConfigPcpBulk

/-- The host has paused a class (R556). -/
def State.hpPaused (s : State) (cls : Nat) : Bool := decide (s.now < SMap.get 0 s.hp.pausedUntil cls)

/-- The SCI of the device's secure channel: its MAC address and port identifier 1 (assumption 248). -/
def deviceSci : BitVec 64 := BitVec.ofNat 64 (Config.fusedMac.toNat * 2 ^ 16 + 1)

/-- A frame as it leaves under a session, or under none (R552, R558, R562, R565). -/
def State.framed (s : State) (e : Option Session) (f : Sent) : SentFrame where
  source := Config.fusedMac
  vlan := s.fld Reg.hpConfig Fld.hpConfigVlan
  priority := f.pcp.map s.priorityOf
  ect0 := f.roce
  tag := if f.exempt then none else e.map (fun v => ⟨deviceSci, macsecKeys v.secret true, v.an, v.pn⟩)
  body := f

/-- A frame leaves: under the session in force, whose next packet number it takes, or under the one named. -/
def State.emit (s : State) (under : Option (Option Session)) (f : Sent) : State :=
  { s with hp := { s.hp with
    out := s.hp.out ++ [s.framed (under.getD s.hp.session) f]
    session := if under.isNone && !f.exempt then s.hp.session.map (fun v => { v with pn := v.pn + 1 }) else s.hp.session
    txFree := if f.payload = 0 then s.hp.txFree else s.now + sendTime f.payload fullRate } }

/-- A frame is held back: its class is paused, an earlier one of its class waits, or the port's rate has no room for its
payload yet (R556, R557). -/
def State.holdsBack (s : State) (f : Sent) : Bool :=
  match f.pcp with
  | none => false
  | some k => s.hpPaused k || s.hp.waiting.any (fun w => decide (w.frame.pcp = some k)) ||
      (decide (0 < f.payload) && decide (s.now < s.hp.txFree))

/-- A frame leaves or waits, to be sent under the session named or, with none named, under the one in force then. -/
def State.sendOut (s : State) (w : Outgoing) : State :=
  if s.holdsBack w.frame then { s with hp := { s.hp with waiting := s.hp.waiting ++ [w] } } else s.emit w.under w.frame

/-- A frame leaves or waits. -/
def State.send (s : State) (f : Sent) : State := s.sendOut ⟨f, none, none, true⟩

/-- The frames that wait go as far as they may, in their order. -/
def State.flushWaiting (s : State) : State :=
  s.hp.waiting.foldl State.sendOut { s with hp := { s.hp with waiting := [] } }

/-- `KIND` of an FCP datagram. -/
def fcpCommand : Nat := 1
/-- REPLY. -/
def fcpReply : Nat := 2
/-- ANNOUNCE. -/
def fcpAnnounce : Nat := 3

/-- An FCP datagram (R567). -/
def fcpDatagram (kind : Nat) (opcode : BitVec 16) (status : Nat) (seq session : BitVec 32) (frag count : Nat) (last : Bool)
    (course : Course) (body : List Byte) : List Byte :=
  beBytes 2 0x4643 ++ [1] ++ beBytes 1 kind ++ beBytes 2 opcode.toNat ++ beBytes 2 status ++ beBytes 4 seq.toNat ++
    beBytes 4 session.toNat ++ beBytes 4 body.length ++ beBytes 2 frag ++ beBytes 2 count ++ beBytes 1 (bit last) ++
    zeroBytes 3 ++ beBytes 4 course.toNat ++ body

/-- Bytes of body that one datagram holds (R568). -/
def bodyLimit (p : Peer) : Nat := if p.v6 then 8920 else 8940

/-- The identifier of the session in force, 0 without one. -/
def State.sessionIdent (s : State) : BitVec 32 := match s.hp.session with
  | none => 0
  | some e => e.ident

/-- Sends a reply in as many datagrams as it needs (R569), under the session in force or the one named; that of an accepted command
holds its slot until the last datagram leaves (R537). -/
def State.reply (s : State) (to_ : Peer) (opcode : BitVec 16) (status : Nat) (seq session : BitVec 32)
    (under : Option (Option Session)) (slot : Option CmdSlot) (body : List Byte) : State :=
  let b := bodyLimit to_
  let n := max 1 ((body.length + b - 1) / b)
  (List.range n).foldl (fun t i =>
    t.sendOut ⟨.fcp to_ (fcpDatagram fcpReply opcode status seq session i n (decide (i + 1 = n)) t.course ((body.drop (b * i)).take b)),
      under, slot, decide (i + 1 = n)⟩) s

/-! ### Opcodes (R581, R584, R591) -/

/-- The opcodes of R591. -/
def opcodes : List Nat :=
  [1, 2, 3, 4, 5, 6, 7, 8, 9, 0x10, 0x11, 0x20, 0x21, 0x22, 0x23, 0x24, 0x25, 0x30, 0x31, 0x32, 0x33, 0x40, 0x41, 0x42, 0x43,
   0x50, 0x51, 0x52, 0x53, 0x54, 0x60, 0x61, 0x62, 0x70, 0x71, 0x80, 0x81, 0x82, 0x90, 0x91, 0xA0]

/-- The open class. -/
def openClass (op : Nat) : Bool := decide (1 ≤ op) && decide (op ≤ 5)

/-- Commands marked "read". -/
def readClass (op : Nat) : Bool := [1, 2, 3, 0x10, 0x43, 0x53, 0x60, 0x61, 0x90].contains op

/-- Commands that the interpreter carries out before the device is ready (R647). -/
def earlyClass (op : Nat) : Bool := openClass op || [0x10, 0x60, 0x61, 0x53].contains op

/-! ### Sequence numbers (R582, R583) -/

/-- How a number is classed. -/
inductive SeqClass
  | new | duplicate | outside
  deriving DecidableEq, Repr

/-- A number is marked as accepted. -/
def SeqState.marked (q : SeqState) (n : BitVec 32) : Bool := NatSet.has q.marks n.toNat

/-- The class of a number. -/
def SeqState.classOf (q : SeqState) (n : BitVec 32) : SeqClass :=
  let up := (n - q.high).toNat
  let down := (q.high - n).toNat
  if q.fresh then .new
  else if 1 ≤ up ∧ up ≤ 4096 then .new
  else if down ≤ 4095 then (if q.marked n then .duplicate else .new)
  else .outside

/-- Accepts a new number: it is marked, H advances, and marks that leave the window go. -/
def SeqState.accept (q : SeqState) (n : BitVec 32) : SeqState :=
  let up := (n - q.high).toNat
  let high := if q.fresh ∨ (1 ≤ up ∧ up ≤ 4096) then n else q.high
  let marks := (if q.fresh then [] else q.marks).filter (fun m => decide ((high - BitVec.ofNat 32 m.1).toNat ≤ 4095))
  ⟨false, high, NatSet.put marks n.toNat true⟩

/-- The sequence state in use (R581). -/
def State.seqState (s : State) : SeqState := if s.hp.session.isSome then s.cmd.seqSession else s.cmd.seqOpen

/-- The sequence state without a command that was not accepted after all: the one before it, with the commands accepted behind it,
and those commands with the states before them (R598). -/
def withoutCommand (q : SeqState) : List CmdSlot → SeqState × List CmdSlot
  | [] => (q, [])
  | d :: rest =>
    if d.prior.isSome then
      let (r, l) := withoutCommand (q.accept d.seq) rest
      (r, { d with prior := some q } :: l)
    else
      let (r, l) := withoutCommand q rest
      (r, d :: l)

/-- Writes it. -/
def State.setSeqState (s : State) (q : SeqState) : State :=
  if s.hp.session.isSome then { s with cmd := { s.cmd with seqSession := q } } else { s with cmd := { s.cmd with seqOpen := q } }

/-! ### The session (R620) -/

/-- The registers that show the session. -/
def State.showSession (s : State) : State :=
  (s.setFld Reg.hpStatus Fld.hpStatusSession (bit s.hp.session.isSome)).setFld Reg.hpStatus Fld.hpStatusTxAn
    (match s.hp.session with
      | none => 0
      | some e => e.an)

/-- Frames that wait when their session ends leave under it, numbered in their order (R620). -/
def State.keepWaiting (s : State) : List Outgoing :=
  s.hp.waiting.zipIdx.map (fun (p : Outgoing × Nat) =>
    { p.1 with under := p.1.under.orElse (fun _ => some (s.hp.session.map (fun e => { e with pn := e.pn + BitVec.ofNat 64 p.2 }))) })

/-- The session ends (R620). -/
def State.endSession (s : State) : State :=
  { s with hp := { s.hp with session := none, waiting := s.keepWaiting }, cmd := { s.cmd with cache := [] } }.showSession

/-- 16,777,216 courses have passed with no valid frame: the session has ended (R620). -/
def Session.over (e : Session) (now : Course) : Bool := decide (16777216 ≤ coursesSince now e.lastFrame)

/-- A session that is over ends, at the latest as a frame or a command meets it. -/
def State.lapseSession (s : State) : State :=
  match s.hp.session with
  | none => s
  | some e => if e.over s.course then s.endSession else s

/-! ### Received frames (R551, R562–R566) -/

/-- A frame passes the replay window of its association number (R564). -/
def Session.inWindow (e : Session) (an : Nat) (pn : BitVec 64) : Bool :=
  decide ((SMap.get 0 e.highest an).toNat < pn.toNat + 4096)

/-- The keys of the host's frames under an association number: those of the current one, and of the previous one until it
ends (R565, R621). -/
def Session.keysFor (e : Session) (an : Nat) (now : Course) : Option SecureKeys :=
  if an = e.an then some (macsecKeys e.secret false)
  else if e.previous = some an ∧ (e.previousUntil.all (fun a => !reached now a)) = true then some (macsecKeys e.before false)
  else none

/-- A protected frame is accepted under the session (R564, R565). -/
def Session.accepts (e : Session) (keys : Option SecureKeys) (an : Nat) (pn : BitVec 64) (now : Course) : Bool :=
  keys.isSome && decide (keys = e.keysFor an now) && e.inWindow an pn

/-- The session after a valid frame: its window, the course of R620, and the last time of the previous
association number once the first frame under the new one has come (R565). -/
def Session.heard (e : Session) (an : Nat) (pn : BitVec 64) (now : Course) : Session :=
  { e with
    highest := SMap.set 0 e.highest an (if (SMap.get 0 e.highest an).toNat < pn.toNat then pn else SMap.get 0 e.highest an)
    lastFrame := now
    seenNew := e.seenNew || decide (an = e.an)
    previousUntil := if e.previous.isSome ∧ an = e.an ∧ e.seenNew = false then some (now + 1024) else e.previousUntil }

/-- Free space below which a class sends XOFF, and above which it sends XON (R554). -/
def xoffBelow (cls : Nat) : Nat := if cls = 0 then 0x1_8000 else 0x3_0000
/-- XON. -/
def xonAbove (cls : Nat) : Nat := if cls = 0 then 0x3_0000 else 0x6_0000

/-- A class has sent XOFF. -/
def State.xoff (s : State) (cls : Nat) : Bool := if cls = 0 then s.hp.xoffCmd else s.hp.xoffBulk

/-- A pause frame of a class leaves: XOFF, or XON. -/
def State.sendPfc (s : State) (cls : Nat) (off : Bool) : State :=
  let t := { s with hp := { s.hp with
    xoffCmd := if cls = 0 then off else s.hp.xoffCmd
    xoffBulk := if cls = 0 then s.hp.xoffBulk else off
    lastXoff := SMap.set 0 s.hp.lastXoff cls s.now } }
  (t.send (.pfc (decide (cls = 1)) (if off then 0xFFFF else 0))).count Reg.hpPfcSent 1

/-- The free space of a class's buffer has become `room` (R554). -/
def State.setRoom (s : State) (cls room : Nat) : State :=
  let t := if cls = 0 then { s with hp := { s.hp with freeCmd := room } } else { s with hp := { s.hp with freeBulk := room } }
  if t.xoff cls = false ∧ room < xoffBelow cls then t.sendPfc cls true
  else if t.xoff cls ∧ xonAbove cls < room then t.sendPfc cls false
  else t

/-- A frame is addressed to an address that the device uses (R559, R713). -/
def State.addressed (s : State) (f : Frame) : Bool :=
  if f.to_.val = 0 then s.hp.localOk else if f.to_.val = 1 then s.hp.globalOk else s.flag Reg.hpConfig Fld.hpConfigIpv4En

/-- What MACsec makes of a frame that is not too long (R551, R562-R566, R620). -/
def State.unprotect (s0 : State) (f : Frame) : State × Bool :=
  let s := s0.lapseSession
  if 9216 < f.len then (s.count Reg.hpRxDropped 1, false)
  else match s.hp.session, f.prot with
  | none, .plain => (s, true)
  | none, .macsec _ _ _ => (s.count Reg.hpMacsecDropped 1, false)
  | some _, .plain => (s.count Reg.hpMacsecDropped 1, false)
  | some e, .macsec keys an pn =>
    if e.accepts keys an.toNat pn s.course then
      ({ s with hp := { s.hp with session := some (e.heard an.toNat pn s.course) } }, true)
    else (s.count Reg.hpMacsecDropped 1, false)

/-- What the port makes of a frame of a class before its protocol: false where it is dropped (R551, R554). The space
that the frame finds in its buffer is the environment's (assumption 181). -/
def State.receive (s : State) (f : Frame) (cls : Nat) : State × Bool :=
  if 9216 < f.len ∨ f.room < f.len then (s.count Reg.hpRxDropped 1, false)
  else (s.setRoom cls (f.room - f.len)).unprotect f

/-- Port H takes frames: its link is UP and the control firmware runs (R577, R647). -/
def State.hostOpen (s : State) : Bool := s.running && s.hp.linkUp && s.co.commands && !s.inReset 4 && !s.inReset 5

/-! ### FCP datagrams (R568, R583–R585, R589) -/

/-- Fields of a received datagram. -/
def fcpOpcode (b : List Byte) : BitVec 16 := BitVec.ofNat 16 (beNat ((b.drop 4).take 2))
/-- `SEQ`. -/
def fcpSeq (b : List Byte) : BitVec 32 := BitVec.ofNat 32 (beNat ((b.drop 8).take 4))
/-- `SESSION`. -/
def fcpSession (b : List Byte) : BitVec 32 := BitVec.ofNat 32 (beNat ((b.drop 12).take 4))

/-- The tests of R568. -/
def State.fcpGood (s : State) (f : Frame) (b : List Byte) : Bool :=
  decide (32 ≤ b.length) && decide (b.length ≤ 32 + bodyLimit f.from_) && decide (beNat (b.take 2) = 0x4643) &&
    decide (beNat ((b.drop 2).take 1) = 1) && decide (beNat ((b.drop 3).take 1) = fcpCommand) &&
    decide (beNat ((b.drop 16).take 4) = b.length - 32) && decide (beNat ((b.drop 22).take 2) = 1) &&
    decide (beNat ((b.drop 25).take 3) = 0) && decide (fcpSession b = s.sessionIdent)

/-- Some partition can interpret (R18, R589). -/
def State.interpreted (s : State) : Bool := (List.range 4).any (fun p => !s.inReset p)

/-- Keeps a reply for duplicates: at most 256 bytes, while its number lies in the window (R584). -/
def State.cacheReply (s : State) (r : CachedReply) : State :=
  let high := s.seqState.high
  { s with cmd := { s.cmd with cache := (s.cmd.cache.filter (fun c =>
      decide (c.seq ≠ r.seq) && decide ((high - c.seq).toNat ≤ 4095))) ++ [{ r with body := r.body.take 256 }] } }

/-- The commands whose effect is committed and whose reply has not left port H: each holds its slot (R537). -/
def State.leaving (s : State) : List CmdSlot := s.hp.waiting.filterMap (fun w => if w.last then w.slot else none)

/-- The commands that hold a command slot (R537). -/
def State.slotsTaken (s : State) : List CmdSlot :=
  s.leaving ++ (match s.cmd.reading with
    | none => []
    | some r => [r.cmd]) ++ s.cmd.queue

/-- `BUSY`: no command slot is free, nothing is accepted and no number marked (R585). -/
def State.refuseBusy (s : State) (c : CmdSlot) : State :=
  (s.count Reg.cmdBusy 1).reply c.from_ c.opcode stBusy c.seq s.sessionIdent none none []

/-- Opcodes of commands that take a result slot: they count as accepted once they have it (R598, R606). -/
def takesSlot (op : Nat) : Bool := [0x08, 0x25, 0x31, 0x41, 0x42, 0x80, 0xA0].contains op

/-- The reply leaves. One refused for want of a result slot was not accepted: the sequence state is as if it had not come, and
nothing is cached (R590, R598, assumption 107). A session's opening is answered unprotected, its close within it. -/
def State.answer (t before : State) (c : CmdSlot) (status : Nat) (body : List Byte) : State :=
  let old := decide (c.opcode = 0x0007) || (decide (c.opcode = 0x0005) && before.hp.session.isNone)
  let under := if old then some (before.hp.session.map (fun e => { e with pn := e.pn + BitVec.ofNat 64 before.hp.waiting.length })) else none
  let ident := if c.opcode = 0x0007 then before.sessionIdent else t.sessionIdent
  if status = stNoResultSlot then
    let u := match c.prior with
      | none => t
      | some q =>
        let (r, l) := withoutCommand q t.cmd.queue
        { t.setSeqState r with cmd := { (t.setSeqState r).cmd with queue := l } }
    u.reply c.from_ c.opcode status c.seq ident under none body
  else
    let u := if takesSlot c.opcode.toNat && c.prior.isSome then t.count Reg.cmdAccepted 1 else t
    let v := if readClass c.opcode.toNat then u else u.cacheReply ⟨c.seq, c.opcode, status, body⟩
    v.reply c.from_ c.opcode status c.seq ident under (some c) body

/-- Reserved opcodes at the head of the interpreter's order draw `BAD_OPCODE` (R586, R591). -/
def State.answerReserved (s : State) : State :=
  let reserved (c : CmdSlot) : Bool := !opcodes.contains c.opcode.toNat
  (s.cmd.queue.takeWhile reserved).foldl (fun t c => t.answer t c stBadOpcode [])
    { s with cmd := { s.cmd with queue := s.cmd.queue.dropWhile reserved } }

/-- A command is answered, and so are the reserved opcodes that stood behind it. -/
def State.replied (t before : State) (c : CmdSlot) (status : Nat) (body : List Byte) : State :=
  (t.answer before c status body).answerReserved

/-- A command joins the interpreter's order; a reserved opcode whose turn has come is answered (R586). -/
def State.joinOrder (s : State) (c : CmdSlot) : State :=
  let t := { s with cmd := { s.cmd with queue := s.cmd.queue ++ [c] } }
  if t.cmd.reading.isNone then t.answerReserved else t

/-- A new command takes a command slot, or draws `BUSY` (R583, R585, R606). -/
def State.acceptCommand (s : State) (c : CmdSlot) : State :=
  if 64 ≤ s.slotsTaken.length then s.refuseBusy c
  else
    let t := s.setSeqState (s.seqState.accept c.seq)
    (if takesSlot c.opcode.toNat then t else t.count Reg.cmdAccepted 1).joinOrder { c with prior := some s.seqState }

/-- A duplicate: nothing while it holds its slot, a read is carried out again, any other draws the cached
reply (R584). -/
def State.repeated (s : State) (c : CmdSlot) : State :=
  if s.slotsTaken.any (fun q => decide (q.seq = c.seq)) then s
  else if readClass c.opcode.toNat then (if 64 ≤ s.slotsTaken.length then s.refuseBusy c else s.joinOrder c)
  else match s.cmd.cache.find? (fun r => decide (r.seq = c.seq)) with
    | none => s
    | some r => (s.count Reg.cmdDuplicates 1).reply c.from_ r.opcode r.status r.seq s.sessionIdent none none r.body

/-- A command datagram that the port has accepted. -/
def State.takeDatagram (s : State) (f : Frame) (b : List Byte) : State :=
  let c : CmdSlot := ⟨f.from_, fcpSeq b, fcpOpcode b, b.drop 32, f.agree, none⟩
  if !s.fcpGood f b then s.count Reg.hpFcpBad 1
  else if !s.interpreted then s.count Reg.cmdNoInterpreter 1
  else if s.hp.session.isNone && !openClass c.opcode.toNat then s.count Reg.hpFcpBad 1
  else match s.seqState.classOf c.seq with
    | .outside => (s.count Reg.cmdWindow 1).reply c.from_ c.opcode stSeqWindow c.seq s.sessionIdent none none []
    | .duplicate => s.repeated c
    | .new => s.acceptCommand c

/-- `FCP_DATAGRAM` (R568): `bytes` is the UDP payload of the frame. -/
def execFcpDatagram (frame : Frame) (bytes : List Byte) (s : State) : Host.Outcome State Fault Refusal :=
  act s s.hostOpen (match s.receive frame 0 with
    | (t, true) => if t.addressed frame then t.takeDatagram frame bytes else t
    | (t, false) => t)

/-! ### The frame of a command (R586, R590, R598, R647) -/

/-- What a command does: the state after it, its status and its reply's body. -/
structure Done where
  state : State
  status : Nat
  body : List Byte

/-- A refusal, with nothing done. -/
def Done.refuse (s : State) (status : Nat) : Done := ⟨s, status, []⟩

/-- A command done, with a reply. -/
def Done.ok (s : State) (body : List Byte) : Done := ⟨s, stOk, body⟩

/-- A command before the device is ready, none of those of R647: `STATE`, or `BAD_PARAM`, which is tested before it (R591). -/
def Done.early (s : State) (d : Done) : Done := Done.refuse s (if d.status = stBadParam then stBadParam else stState)

/-- The interpreter carries out commands one at a time (R18, R577, R586). -/
def State.interprets (s : State) : Bool :=
  s.running && s.interpreted && !s.inReset 4 && !s.inReset 5 && s.cmd.reading.isNone

/-- Outcomes that the interpreter reaches without the root of trust. -/
def plainOutcome (status : Nat) : Bool := [stBadParam, stState, stAddress, stNoResultSlot].contains status

/-- A command row whose outcome is the root of trust's, on which its halves `agree` or not: the command first in the
interpreter's order is carried out, if it has this opcode. Before the device is ready only the commands of R647 are. An outcome
on which they do not agree is discarded, no answer goes, and an L4 is due, which frees the command's slot (R537, R607). -/
def runTrusted (agree : CmdSlot → Bool) (op : Nat) (f : State → CmdSlot → Done) (s : State) : Host.Outcome State Fault Refusal :=
  match s.cmd.queue with
  | [] => .next s
  | c :: rest =>
    let t := { s with cmd := { s.cmd with queue := rest } }
    let d := if !s.ready && !earlyClass op then (f t c).early t else f t c
    act s (s.interprets && decide (c.opcode.toNat = op))
      (if agree c || plainOutcome d.status then d.state.replied s c d.status d.body else t.trustDisagrees)

/-- A command row: the command first in the interpreter's order is carried out, if it has this opcode. -/
def runCommand (op : Nat) (f : State → CmdSlot → Done) (s : State) : Host.Outcome State Fault Refusal :=
  runTrusted (fun _ => true) op f s

/-- A command of a fixed body. -/
def sized (n : Nat) (f : State → CmdSlot → Done) (s : State) (c : CmdSlot) : Done :=
  if c.body.length = n then f s c else Done.refuse s stBadParam

/-- A parameter of a command: `n` bytes at an offset, big-endian (R580). -/
def CmdSlot.arg (c : CmdSlot) (off n : Nat) : Nat := beNat ((c.body.drop off).take n)

/-- A deferred command takes the lowest FREE result slot and replies `PENDING`; `work` starts its work (R590,
R598). -/
def deferred (s : State) (c : CmdSlot) (work : State → Nat → State) : Done :=
  match s.freeResult with
  | none => Done.refuse s stNoResultSlot
  | some n => ⟨work (s.takeResult n c.opcode c.seq false) n, stPending, beBytes 1 n ++ zeroBytes 3 ++ beBytes 4 c.seq.toNat⟩

end Sys2Proof.Machine
end

