-- ==== Sys2Proof/Machine/Recovery.lean ====
section
/-! DEFINITION. The recovery controller's samples, messages and epoch advances (R490–R503, R547). -/

namespace Sys2Proof.Machine

/-! ### The sample (R490, R491) -/

/-- The node of the head of queue q of core c. -/
def headNode (c q : Nat) : Nat := c * 8 + q

/-- The node of the descriptor in slot n of context x's collective queue. -/
def descNode (x n : Nat) : Nat := 1280 + 256 * x + n

/-- The node of a running descriptor of context x. -/
def runNode (x : Nat) : Nat := 5376 + x

/-- The node of the step keeper's queue, and that of the lifeline engine's. -/
def keeperNode : Nat := 5392
/-- The lifeline engine's. -/
def lifelineNode : Nat := 5393

/-- The queues of a core, in the order of R59. -/
def coreQueues : List Queue := [.matrix, .gauge, .vector, .move, .control]

/-- The wait states of a core's queue heads. -/
def State.coreWaits (s : State) (c : Nat) : List WaitState :=
  match (s.core c).resident with
  | none => []
  | some x => (coreQueues.zipIdx).filterMap (fun p =>
      match (s.core c).queue p.1 with
      | [] => none
      | e :: _ =>
        let v := s.token c x (waitTok e.word)
        some ⟨headNode c p.2, e.seq, if v < waitCnt e.word then some (tokenKey c x (waitTok e.word)) else none, v, false⟩)

/-- Slots of a context's collective queue from `HEAD` on. -/
def State.queuedSlots (s : State) (x : Nat) : List Nat :=
  let h := s.fld (Reg.ceQueue x) Fld.ceQueueHead
  (List.range ((s.fld (Reg.ceQueue x) Fld.ceQueueTail + 256 - h) % 256)).map (fun i => (h + i) % 256)

/-- The wait states of context x's collective descriptors: each that is queued, the first of which waits for staging buffers
where too few are free for it (R335), and each that runs. -/
def State.descWaits (s : State) (x : Nat) : List WaitState :=
  ((s.queuedSlots x).zipIdx.map (fun p =>
    let d := s.descriptorAt x p.1
    let v := s.token d.waitCore x d.waitTok
    let awaits := decide (v < d.waitCnt)
    ⟨descNode x p.1, p.1, if awaits then some (tokenKey d.waitCore x d.waitTok) else none, v,
      decide (p.2 = 0) && !awaits && !s.buffersFit x⟩)) ++
  (s.ce.running.filter (fun r => r.ctx = x)).map (fun r => ⟨runNode x, r.seq.toNat, none, 0, false⟩)

/-- The wait states of the step keeper's and the lifeline engine's queues: the oldest step held that is not decided, and the
oldest cut (R490). They await no token. -/
def State.engineWaits (s : State) : List WaitState :=
  ((s.heldEntries.filter (fun e => !e.decided)).take 1).map (fun e => ⟨keeperNode, e.step.toNat, none, 0, false⟩) ++
    (s.le.cuts.take 1).map (fun c => ⟨lifelineNode, c.gen.toNat, none, 0, false⟩)

/-- Every wait state of the device. -/
def State.allWaits (s : State) : List WaitState :=
  (List.range 160).flatMap s.coreWaits ++ (List.range 16).flatMap s.descWaits ++ s.engineWaits

/-- Tokens that an instruction of context x on core c will raise on this device (R56, R491). -/
def State.raisesOf (s : State) (c x : Nat) (w : IWord) : List Nat :=
  (if raiseAt w = 0 then [] else [tokenKey c x (raiseTok w)]) ++
    (if opOf w = opRaise then [tokenKey c x (bitsOf w 95 90)] else []) ++
    (if opOf w = opRraise ∧ BitVec.ofNat 15 (bitsOf w 95 81) = s.logical then [tokenKey (bitsOf w 80 73) (bitsOf w 72 69) (bitsOf w 68 63)] else [])

/-- Tokens that a descriptor of context x will raise (R315). -/
def State.descRaises (s : State) (x : Nat) (d : Descriptor) : List Nat :=
  if 128 ≤ d.raiseTok then []
  else (if d.raiseCore = 0xFF then s.coresOf x else [d.raiseCore]).map (fun c => tokenKey c x (d.raiseTok % 64))

/-- Every token that something queued or issued on the device will raise, with the raiser's node: a queued instruction points
to the head of its own queue, so that head stands for it; an issued one has no edge of its own and no node here (R491). -/
def State.raisers (s : State) : List (Nat × Option Nat) :=
  (List.range 160).flatMap (fun c =>
    match (s.core c).resident with
    | none => []
    | some x =>
      ((s.core c).issued.flatMap (fun i => (s.raisesOf c x i.entry.word).map (fun k => (k, none)))) ++
        (coreQueues.zipIdx).flatMap (fun p => ((s.core c).queue p.1).flatMap (fun e =>
          (s.raisesOf c x e.word).map (fun k => (k, some (headNode c p.2)))))) ++
  (s.ce.running.flatMap (fun r => (s.descRaises r.ctx r.desc).map (fun k => (k, some (runNode r.ctx))))) ++
  (List.range 16).flatMap (fun x => (s.queuedSlots x).flatMap (fun n =>
    (s.descRaises x (s.descriptorAt x n)).map (fun k => (k, some (descNode x n)))))

/-- A node as it stands: one that issues becomes another. -/
def WaitState.mark (w : WaitState) : Nat := w.seq * 0x2000 + w.node

/-- The edges: from what waits on a token to its raisers, and from a descriptor that waits for staging buffers to every running
descriptor, each of which holds some (R335, R491). -/
def waitEdges (ws : List WaitState) (rs : List (Nat × Option Nat)) : List (List Nat) :=
  (ws.flatMap (fun w => match w.token with
    | none =>
      if w.staging then (ws.filter (fun v => decide (runNode 0 ≤ v.node ∧ v.node < runNode 16))).map (fun v => [w.mark, v.mark]) else []
    | some k => rs.filterMap (fun r =>
        if r.1 = k then
          match r.2 with
          | none => none
          | some n => (ws.find? (fun v => decide (v.node = n))).map (fun v => [w.mark, v.mark])
        else none))).eraseDups

/-- Waits on tokens that nothing of the device will raise (R493). -/
def orphanWaits (ws : List WaitState) (rs : List (Nat × Option Nat)) : List WaitState :=
  ws.filter (fun w => match w.token with
    | none => false
    | some k => rs.all (fun r => decide (r.1 ≠ k)))

/-- Marks reached from some marks along edges. -/
def reachFrom (es : List (List Nat)) : Nat → List Nat → List Nat
  | 0, ms => ms
  | k + 1, ms =>
    let next := (es.filter (fun e => ms.contains (e.getD 0 0))).map (fun e => e.getD 1 0)
    reachFrom es k (ms ++ next.filter (fun m => !ms.contains m)).eraseDups

/-- Inserts a number into a rising list. -/
def insertRising (n : Nat) : List Nat → List Nat
  | [] => [n]
  | m :: ms => if n ≤ m then n :: m :: ms else m :: insertRising n ms

/-- A list in rising order. -/
def rising (ns : List Nat) : List Nat := ns.foldr insertRising []

/-- The nodes that lie on cycles with a mark. -/
def cycleOf (es : List (List Nat)) (m : Nat) : List Nat :=
  let down := reachFrom es es.length ((es.filter (fun e => e.getD 0 0 = m)).map (fun e => e.getD 1 0))
  if down.contains m then rising (down.filter (fun n => (reachFrom es es.length [n]).contains m)) else []

/-- Edges with the number of samples in a row that have shown them. -/
def agedEdges (old : List (List Nat × Nat)) (es : List (List Nat)) : List (List Nat × Nat) :=
  es.map (fun e => (e, match old.find? (fun o => o.1 = e) with
    | none => 1
    | some o => o.2 + 1))

/-- Cycles that four samples in a row have shown, with no node issued between them, found at this one (R492). -/
def hangsOf (aged : List (List Nat × Nat)) : List (List Nat) :=
  let es := (aged.filter (fun a => 4 ≤ a.2)).map Prod.fst
  let fresh := (aged.filter (fun a => a.2 = 4)).map (fun a => a.1.getD 0 0)
  ((fresh.map (cycleOf es)).filter (fun c => c ≠ [])).eraseDups

/-- The core of a node that is a queue head. -/
def markCore (m : Nat) : Option Nat := if m % 0x2000 < 1280 then some (m % 0x2000 / 8) else none

/-- The engine of a node: its core, or the collective engine, the step keeper or the lifeline engine, numbered as R518 numbers
them. -/
def markEngine (m : Nat) : Nat :=
  if m % 0x2000 < 1280 then m % 0x2000 / 8
  else if m % 0x2000 = keeperNode then 0xA1
  else if m % 0x2000 = lifelineNode then 0xA2
  else 0xA0

/-- The context of a node. -/
def State.markCtx (s : State) (m : Nat) : Nat :=
  match markCore m with
  | some c => (s.core c).resident.getD (4 * corePartition c)
  | none => if m % 0x2000 < runNode 0 then (m % 0x2000 - 1280) / 256 else m % 0x2000 % runNode 0 % 16

/-- The report of a hang (R481): the recovery controller's path on the partition's die, the core, and the
context (assumption 124). -/
def State.hangReport (s : State) (m : Nat) : Report :=
  let x := s.markCtx m
  { Report.bare clsHang (unitPath (ctxPartition x) 18 ((markCore m).getD 0xFF) 0 0) with ctx := x }

/-- What a cycle draws: an abort where a job context has part in it, else a reset: of the one serving context, or of the core or
fixed engine through whose state it passes (R504). -/
def State.onCycle (s : State) (ms : List Nat) : State :=
  match ms with
  | [] => s
  | m :: _ =>
    let xs := (ms.map s.markCtx).eraseDups
    let es := (ms.map markEngine).eraseDups
    let t := (s.count (Reg.rvCycles (ctxPartition (s.markCtx m))) 1).report (s.hangReport m)
    if xs.any s.inJob then t.abortStep 1 t.jobStep
    else match xs with
      | [x] => t.dueReset 0 (16 + x) 1
      | _ => match es with
        | [e] => t.dueReset 1 (256 + e) 1
        | _ => t.dueReset 1 (256 + (es.find? (fun e => decide (160 ≤ e))).getD 0xA0) 1

/-! ### Stalls (R494) -/

/-- A step of the job is in progress: started and not decided. -/
def State.inStep (s : State) : Bool :=
  decide (s.jobState = jobRunning) && s.heldEntries.any (fun e => e.started && !e.decided)

/-- Waits tested for stalls, with the samples in a row that have shown them. -/
def State.agedWaits (s : State) (ws : List WaitState) : List (WaitState × Nat) :=
  if s.inStep then
    (ws.filter (fun w => w.token.isSome && s.journalled.contains (s.markCtx w.mark))).map (fun w =>
      (w, match s.rv.stalls.find? (fun o => o.1 = w) with
        | none => 1
        | some o => o.2 + 1))
  else []

/-- A stall: counted and reported, and the step aborts where a job context stalls (R504). -/
def State.onStall (s : State) (w : WaitState) : State :=
  let x := s.markCtx w.mark
  let t := (s.count (Reg.rvStalls (ctxPartition x)) 1).report (s.hangReport w.mark)
  if s.inJob x then t.abortStep 2 t.jobStep else t

/-! ### Troubles (R495, R504) -/

/-- A trouble's number. -/
def troubleKey : Trouble → Nat
  | .firmware d => d.val
  | .memory p => 5 + p.val
  | .router => 9
  | .selfCheck => 10

/-- A cause of the codes of `RV_STATUS.CAUSE`, for the resets to which the manual gives none of its own. -/
def State.openCause (s : State) : Nat := 1 + s.freeNow.toNat % 13

/-- What a trouble draws at its fourth sample in a row; a failed self-check at once. The cause of a silent firmware
is stated, those of the others are free. -/
def State.onTrouble (s : State) (k : Nat) : State :=
  if k < 4 then (s.report (Report.bare clsHang (unitPath k 13 0xFF 0 0))).dueReset 2 k 3
  else if k = 4 then (s.report (Report.bare clsHang (enginePath 13))).dueReset 3 4 3
  else if k < 9 then s.drawn.dueReset 2 (k - 5) s.openCause
  else if k = 9 then s.drawn.dueReset 3 4 s.openCause
  else s.drawn.dueReset 4 5 s.openCause

/-- The domain of a trouble's unit: its partition, the fabric domain or the chip. -/
def troubleDomain (k : Nat) : Nat := if k < 5 then k else if k < 9 then k - 5 else if k = 9 then 4 else 5

/-- The samples in a row that have shown each trouble: none in a domain in reset, and a fourth ends a row (R495). -/
def State.agedTroubles (s : State) (ts : List Trouble) : SMap Nat :=
  (List.range 11).foldl (fun m k =>
    SMap.set 0 m k (if ts.any (fun t => decide (troubleKey t = k)) && !s.inReset (troubleDomain k) then
      SMap.get 0 s.rv.silent k % 4 + 1 else 0)) []

/-- The lifeline engine has work of the job's contexts: a cut, a fold, a restore, a fill or a snapshot. -/
def State.lifelineWorks (s : State) : Bool :=
  decide (s.le.cuts ≠ []) || s.le.fold.isSome || s.le.restore.isSome || s.le.fill.isSome || decide (s.le.snapshot.state = 1)

/-- The engines on which contexts were resident or had work, at this sample (R518). -/
def State.engineUse (s : State) : List (Nat × Nat) :=
  ((List.range 160).filterMap (fun c => (s.core c).resident.map (fun x => (c, x)))) ++
    ((List.range 16).filter (fun x => decide (s.queuedSlots x ≠ []) || s.ce.running.any (fun r => decide (r.ctx = x)))).map (fun x => (0xA0, x)) ++
    (if s.heldEntries ≠ [] then s.journalled.map (fun x => (0xA1, x)) else []) ++
    (if s.lifelineWorks then s.jobContexts.map (fun x => (0xA2, x)) else [])

/-- `WAIT_FOR_SAMPLE` (R490–R495): `troubles` are the units that give no sign at this sample. An ABORTED device tests
for no stall (R501). -/
def execWaitForSample (troubles : List Trouble) (s : State) : Host.Outcome State Fault Refusal :=
  let ws := s.allWaits
  let rs := s.raisers
  let aged := agedEdges s.rv.cycles (waitEdges ws rs)
  let stalls := s.agedWaits ws
  let silent := s.agedTroubles troubles
  let s1 := s.ran tmrSample
  let s2 := { s1 with rv := { s1.rv with
    cycles := aged, stalls := stalls, silent := silent, recent := (s1.rv.recent ++ [s.engineUse]).drop (s1.rv.recent.length - 3) } }
  let s3 := (orphanWaits ws rs).foldl (fun t w => t.count (Reg.rvOrphans (ctxPartition (t.markCtx w.mark))) 1) s2
  let s4 := (hangsOf aged).foldl State.onCycle s3
  let n := s.fld Reg.rvConfig Fld.rvConfigStallSamples
  let s5 := (stalls.filter (fun w => decide (0 < n) && decide (n ≤ w.2))).foldl (fun t w => t.onStall w.1) s4
  let s6 := (List.range 11).foldl (fun t k =>
    if (if k = 10 then decide (0 < SMap.get 0 silent k) else decide (SMap.get 0 silent k = 4)) then t.onTrouble k else t) s5
  act s (s.running && !s.inReset 5 && s.periodic tmrSample 1024) s6

/-- `HEARTBEAT` (R496). -/
def execHeartbeat (s : State) : Host.Outcome State Fault Refusal :=
  let t := s.ran tmrHeartbeat
  act s (s.running && !s.inReset 5 && s.periodic tmrHeartbeat 16384)
    { t with rv := { t.rv with heartbeat := t.rv.heartbeat + 1 } }

/-! ### Messages (R499–R501, R503, R547) -/

/-- The first recovery message of a code. -/
def State.takeRv (s : State) (msg : Nat) : Option (Nat × Packet × State) := s.takeCtrl epRecovery msg

/-- The recovery controller takes messages: its device's fabric domain and chip are in no reset. -/
def State.rvOpen (s : State) : Bool := s.running && !s.inReset 4 && !s.inReset 5

/-- A flooded message: dropped if its pair is held; remembered; forwarded and acted on where it is of this
device's job, of which a RETIRED device is no part (R500, R512). -/
def State.onFlooded (s : State) (from_ : Nat) (m : RvMessage) (effect : State → State) : State :=
  if s.knowsOrigin m.origin m.originSeq then s
  else
    let t := s.rememberOrigin m.origin m.originSeq
    if s.job.loaded ∧ m.mappingTag = s.mappingTag ∧ s.jobState ≠ jobRetired ∧ s.jobState ≠ jobIdle then
      effect (t.floodCtrl (rvMessageBytes m) (some from_))
    else t

/-- `ABORT` (R500, R501). -/
def execAbort (s : State) : Host.Outcome State Fault Refusal :=
  match s.takeRv 1 with
  | none => .next s
  | some (i, p, t) =>
    let m := rvMessageOf p.payload
    act s s.rvOpen (t.accept p false (fun u => u.onFlooded i m (fun v =>
      if v.jobState = jobRunning then v.enterAborted m.cause m.originSeq m.step else v)))

/-- A message to the recovery controller of a physical place. -/
def State.sendRv (s : State) (dst : BitVec 15 × Bool) (m : RvMessage) : State :=
  s.sendReliable (s.packetTo tyCtrl tcCT dst epRecovery epRecovery 0 0 (rvMessageBytes m)) .literal .none none none

/-- A message of this device's own has its number. -/
def State.numberMessage (s : State) : State := { s with rv := { s.rv with originSeq := s.rv.originSeq + 1 } }

/-- Records in runs of 504. -/
def recordRuns : Nat → List (BitVec 64) → List (List (BitVec 64))
  | 0, _ => []
  | k + 1, rs => if rs = [] then [] else rs.take 504 :: recordRuns k (rs.drop 504)

/-- `MAP_REQUEST` (R503): the fault map goes back, 504 records a message. -/
def execMapRequest (s : State) : Host.Outcome State Fault Refusal :=
  match s.takeRv 2 with
  | none => .next s
  | some (_, p, t) =>
    act s s.rvOpen (t.accept p false (fun u =>
      (recordRuns 3 u.fab.faultMap).foldl (fun v rs =>
        (v.sendRv (p.src, p.srcSide) { v.ownMessage 3 0 0 with records := rs }).numberMessage) u))

/-- `MAP_REPLY` (R305, R503): records that are new are stored, flooded and acted on. -/
def execMapReply (s : State) : Host.Outcome State Fault Refusal :=
  match s.takeRv 3 with
  | none => .next s
  | some (i, p, t) =>
    act s s.rvOpen (t.accept p false (fun u =>
      (rvMessageOf p.payload).records.foldl (fun v r => if frKind r < 2 then v.takeFault r (some i) else v) u))

/-- `ORIGIN_FORGET` (R547). -/
def execOriginForget (s : State) : Host.Outcome State Fault Refusal :=
  act s (s.running && s.rv.remembered.any (fun p => decide (4096 ≤ coursesSince s.course p.2.2)))
    { s with rv := { s.rv with remembered := s.rv.remembered.filter (fun p => decide (coursesSince s.course p.2.2 < 4096)) } }

/-! ### Epoch advances (R341, R342, R344, R447, R502, R503) -/

/-- The triples of the fault map in rising order, as 48-bit values: the record's upper bits (R502, assumption
123). -/
def State.triples (s : State) : List Nat :=
  (rising (s.fab.faultMap.map (fun r => bitsOf r 63 44 * 2 ^ 28))).eraseDups

/-- Their digest (R502). -/
def State.mapDigest (s : State) : List Byte := shake 32 (s.triples.flatMap (beBytes 6))

/-- The map matches an advance (R503). -/
def State.mapMatches (s : State) (m : RvMessage) : Bool :=
  decide (s.triples.length = m.recCount) && decide (s.mapDigest = m.digest)

/-- `EPOCH`. -/
def State.epoch (s : State) : Nat := s.fld Reg.ceEpoch Fld.ceEpochEpoch

/-- An advance that this device originates. -/
def State.originAdvance (s : State) (removed : BitVec 32) (step : BitVec 32) : State :=
  let m := { s.ownMessage 4 (s.fld Reg.rvStatus Fld.rvStatusCause) step with
    newEpoch := BitVec.ofNat 16 (s.epoch + 1), recCount := s.triples.length, digest := s.mapDigest, removed := removed }
  let t := (s.rememberOrigin m.origin m.originSeq).numberMessage
  let u := t.floodCtrl (rvMessageBytes m) none
  { u with rv := { u.rv with advance := some (m, u.course) } }

/-- `EPOCH_ADVANCE` (R502): removed replicas 4 B, boundary step 4 B. -/
def execEpochAdvance (s : State) : Host.Outcome State Fault Refusal :=
  runCommand 0x50 (sized 8 (fun t c =>
    if t.jobState ≠ jobAborted then Done.refuse t stRvNotAborted
    else if t.epoch = 0xFFFF then Done.refuse (t.setFld Reg.ceEpoch Fld.ceEpochExhausted 1) stRvEpochExhausted
    else Done.ok (t.originAdvance (BitVec.ofNat 32 (c.arg 0 4)) (BitVec.ofNat 32 (c.arg 4 4))) [])) s

/-- A received advance waits for the map; records that are lacking are asked of its origin. -/
def State.awaitMap (s : State) (m : RvMessage) : State :=
  let t := { s with rv := { s.rv with advance := some (m, s.course) } }
  if t.mapMatches m then t else (t.sendRv (m.origin, false) (t.ownMessage 2 m.cause m.step)).numberMessage

/-- `EPOCH_ADVANCE_RECEIVE` (R500, R503). -/
def execEpochAdvanceReceive (s : State) : Host.Outcome State Fault Refusal :=
  match s.takeRv 4 with
  | none => .next s
  | some (i, p, t) =>
    let m := rvMessageOf p.payload
    act s s.rvOpen (t.accept p false (fun u => u.onFlooded i m (fun v => v.awaitMap m)))

/-- Data replicas named by a mask. -/
def maskReplicas (m : BitVec 32) : List Nat := (List.range 32).filter (fun r => bitOf m r)

/-- A member of the skein group is of one of some replicas. -/
def State.memberRemoved (s : State) (rs : NatSet) (n : Nat) : Bool :=
  s.flag (Reg.leMember n) Fld.leMemberValid &&
    NatSet.has rs (s.positionOf (BitVec.ofNat 15 (s.fld (Reg.leMember n) Fld.leMemberLogical)) 0)

/-- The members present in the group are shown (R436, R447, R450); a group reloaded with every member present is DEGRADED no
longer: its committed generation has its buddy copies, and no parity of the new group (R448, assumption 233). -/
def State.showPresent (s : State) : State :=
  let mask := ((List.range 16).filter (fun n => s.flag (Reg.leMember n) Fld.leMemberPresent)).foldl (fun v n => v + 2 ^ n) 0
  let t := s.setFld Reg.leStatus Fld.leStatusPresent mask
  if (List.range 16).any (fun n => t.flag (Reg.leMember n) Fld.leMemberValid && !t.flag (Reg.leMember n) Fld.leMemberPresent) &&
      t.flag Reg.leGroup Fld.leGroupValid then
    t.setFld Reg.leStatus Fld.leStatusProtection 3
  else if t.fld Reg.leStatus Fld.leStatusProtection = 3 then
    t.setFld Reg.leStatus Fld.leStatusProtection (bit (decide (t.fld Reg.leGen Fld.leGenGen ≠ 0)))
  else t

/-- A shrink: the replicas leave the data axis, their devices are absent in the group, and the device whose
partner is among them adopts its shard (R447). -/
def State.shrink (s : State) (rs : List Nat) : State :=
  let gone := rs.foldl (fun m r => NatSet.put m r true) s.ce.removed
  let lost := rs.contains s.partnerPosition && !NatSet.has s.ce.removed s.partnerPosition
  let t := { s with
    ce := { s.ce with removed := gone }
    le := { s.le with adopted := s.le.adopted || lost, adoptedNew := s.le.adoptedNew || lost } }
  ((List.range 16).foldl (fun u n =>
    if t.memberRemoved gone n then u.setFld (Reg.leMember n) Fld.leMemberPresent 0 else u) t).showPresent

/-- The advance takes effect, all in one stitch (R332, R342, R348, R503). -/
def State.applyAdvance (s : State) (m : RvMessage) : State :=
  let rs := (maskReplicas m.removed).filter (fun r => !NatSet.has s.ce.removed r)
  let t := ((s.setFld Reg.ceEpoch Fld.ceEpochEpoch m.newEpoch.toNat).shrink rs).fixForms
  let u := t.reclaimAll
  let v := if rs = [] then u else { u with ce := { u.ce with plan := u.equalPlan, planStep := 0 } }
  let w := if v.partnerPresent then v.setReg Reg.ceUnmirrored 0 else v
  { w with rv := { w.rv with advance := none } }

/-- `EPOCH_APPLY` (R344, R503). -/
def execEpochApply (s : State) : Host.Outcome State Fault Refusal :=
  match s.rv.advance with
  | none => .next s
  | some (m, _) =>
    act s (s.rvOpen && s.mapMatches m)
      (if s.epoch = 0xFFFF then
        { s.setFld Reg.ceEpoch Fld.ceEpochExhausted 1 with rv := { s.rv with advance := none } }
      else s.applyAdvance m)

/-- `EPOCH_DIGEST_TIMEOUT` (R503). -/
def execEpochDigestTimeout (s : State) : Host.Outcome State Fault Refusal :=
  match s.rv.advance with
  | none => .next s
  | some (m, c) =>
    act s (s.rvOpen && !s.mapMatches m && decide (4096 ≤ coursesSince s.course c))
      { s.setFld Reg.rvStatus Fld.rvStatusCause 8 with rv := { s.rv with advance := none } }

/-- `FAULT_DECLARE` (R305): physical coordinate 2 B, bit 15 0. -/
def execFaultDeclare (s : State) : Host.Outcome State Fault Refusal :=
  runCommand 0x51 (sized 2 (fun t c =>
    if 2 ^ 15 ≤ c.arg 0 2 then Done.refuse t stBadParam
    else Done.ok (t.findFault 1 (BitVec.ofNat 15 (c.arg 0 2)) 0) [])) s

end Sys2Proof.Machine
end

