-- ==== Sys2Proof/Machine/Contexts.lean ====
section
/-! DEFINITION. The rows that load, free and switch contexts (R67, R72–R74, R234, R373, R591, R719). -/

namespace Sys2Proof.Machine

/-- Every core of context x's partition. -/
def coresNear (x : Nat) : List Nat := coresOfPartition (ctxPartition x)

/-- A context leaves a core's array state, registers and queues, if it is resident there. -/
def State.evict (s : State) (c x : Nat) : State :=
  let t := if (s.core c).resident = some x then (s.drainCore c).modCore c Core.cleared else s
  t.setSide c x SideState.none

/-- A context becomes FREE: it is resident on no core and has no image (R719). -/
def State.freeContext (s : State) (x : Nat) : State :=
  ((coresNear x).foldl (fun t c => t.evict c x) s).setCtxState x ctxFree

/-- What `CTX_LOAD` does (R67, R709, R719). -/
def State.loadContext (s : State) (x base mask allotBase allotSize control : Nat) : State :=
  let t := (coresNear x).foldl (fun u c =>
    (List.range 64).foldl (fun v n => v.setToken c x n 0) (u.setSide c x SideState.none)) s
  let u := (t.setReg (Reg.ctxPatternBase x) (BitVec.ofNat 64 base)).setReg (Reg.ctxCoreMask x) (BitVec.ofNat 64 mask)
  let v := u.setReg (Reg.ctxAllotment x) (BitVec.ofNat 64 (allotBase * 2 ^ 32 + allotSize))
  (v.setReg (Reg.ctxControl x) (BitVec.ofNat 64 (control / 128 * 128))).setCtxState x ctxReady

/-- `CTX_LOAD`. -/
def execCtxLoad (s : State) : Host.Outcome State Fault Refusal :=
  runCommand 0x22 (sized 26 fun t c =>
    let x := c.arg 0 1
    let base := c.arg 1 8
    let lo := c.arg 14 4
    let size := c.arg 18 4
    let control := c.arg 22 4
    if 16 ≤ x ∨ base % 16 ≠ 0 ∨ 2 ^ 48 ≤ base ∨ 2 ^ 24 ≤ control ∨ control / 16 % 8 ≠ 0 then Done.refuse t stBadParam
    else if t.ctxState x ≠ ctxFree then Done.refuse t stState
    else if 0xC0_0000 < (lo + size) * 0x1_0000 then Done.refuse t stBadParam
    else Done.ok (t.loadContext x base (c.arg 9 5) lo size control) []) s

/-- `CTX_FREE`. -/
def execCtxFree (s : State) : Host.Outcome State Fault Refusal :=
  runCommand 0x23 (sized 1 fun t c =>
    let x := c.arg 0 1
    if 16 ≤ x then Done.refuse t stBadParam
    else if t.ctxState x ≠ ctxHalted ∧ t.ctxState x ≠ ctxFaulted then Done.refuse t stState
    else Done.ok (t.freeContext x) []) s

/-- Some cores are asked to switch to context x (R72, R73). -/
def State.switchTo (s : State) (x : Nat) (cores : List Nat) : State :=
  cores.foldl (fun t c => t.requestSwitch c (.named x)) s

/-- `CTX_SWITCH`: one to a context that is not READY is refused and counted (R74). -/
def execCtxSwitch (s : State) : Host.Outcome State Fault Refusal :=
  runCommand 0x24 (sized 6 fun t c =>
    let x := c.arg 0 1
    if 16 ≤ x then Done.refuse t stBadParam
    else if t.ctxState x ≠ ctxReady then Done.refuse (t.count (Reg.ctxSwitchRefused (ctxPartition x)) 1) stState
    else Done.ok (t.switchTo x ((coresNear x).filter (fun k => (c.arg 1 5).testBit (k % 40)))) []) s

/-- `CONTEXT_SWITCH`: a scheduled event asks the cores of its partition to switch (R72, R74, R373). -/
def execContextSwitch (p : Fin 4) (s : State) : Host.Outcome State Fault Refusal :=
  match s.takeHanded p.val actContextSwitch with
  | none => .next s
  | some (h, t) =>
    let x := h.param % 16
    act s (s.running && !s.inReset p.val && !s.inReset 5)
      (if ctxPartition x = p.val ∧ t.ctxState x = ctxReady then t.switchTo x (coresOfPartition p.val)
        else t.count (Reg.ctxSwitchRefused p.val) 1)

end Sys2Proof.Machine
end

