-- ==== Sys2Proof/Machine/Serving.lean ====
section
/-! DEFINITION. Serving streams: opening, requests, blocks and completion records (R124, R125, R603–R605). -/

namespace Sys2Proof.Machine

/-- Stream n. -/
def State.stream (s : State) (n : Nat) : Option Stream := SMap.get none s.cmd.streams n

/-- Writes stream n. -/
def State.setStream (s : State) (n : Nat) (v : Option Stream) : State :=
  { s with cmd := { s.cmd with streams := SMap.set none s.cmd.streams n v } }

/-- An extent lies in one GENERAL region (R265). -/
def State.inGeneral (s : State) (a n : Nat) : Bool :=
  inTier a && (match s.regionAt a with
    | none => false
    | some r => s.regionOpen r && decide (s.useOf r = useGeneral) && decide (a + n ≤ s.regionBase r + s.regionBytes r))

/-- The bytes of a stream's block area (R605). -/
def areaBytes (granules : Nat) : Nat := 0x800 + 256 * granules * 64

/-- Address of input slot m. -/
def Stream.inputSlot (v : Stream) (m : Nat) : Nat := v.area + 0x800 + m * v.granules * 64

/-- Address of output slot m. -/
def Stream.outputSlot (v : Stream) (m : Nat) : Nat := v.inputSlot (128 + m)

/-- Address of header entry m. -/
def Stream.header (v : Stream) (m : Nat) : Nat := v.area + 16 * m

/-- Writes a completion record into a ring and advances its `LEN` (R603). -/
def State.completeRequest (s : State) (slot : Nat) (q : Request) (len status : Nat) : State :=
  match s.resultSlot slot with
  | none => s
  | some r =>
    let rec_ := beBytes 8 q.ident.toNat ++ beBytes 4 len ++ beBytes 2 status ++ zeroBytes 2 ++ beBytes 8 s.course.toNat ++ zeroBytes 8
    s.setResult slot (some { r with
      len := (r.len + 1) % 2 ^ 32
      body := SMap.setList 0 r.body (r.len % 2048 * 32) rec_ })

/-- Requests of a faulted context complete with status 3. -/
def State.completeFaulted (s : State) (slot : Nat) (qs : List Request) : State :=
  qs.foldl (fun t q => t.completeRequest slot q 0 3) s

/-- A stream that is closing and has nothing left ends: its slot is complete and takes its lease (R603). -/
def State.endStream (s : State) (n : Nat) : State :=
  match s.stream n with
  | none => s
  | some v =>
    if v.closing && decide (v.waiting = []) && decide (v.closed = []) && decide (v.running = none) then
      let t := s.setStream n none
      match t.resultSlot v.slot with
      | none => t
      | some r => t.setResult v.slot (some { r with
          isPartial := false, status := stOk, done := t.course, leaseEnd := t.course + 65536 })
    else s

/-- A context is set HALTED: it halts on every core of its mask. -/
def State.setHalted (s : State) (x : Nat) : State :=
  ((s.coresOf x).foldl (fun t c => (t.clearImageQueues c x).stopOn c x) s).setCtxState x ctxHalted

/-- `SERVE_OPEN`. -/
def execServeOpen (s : State) : Host.Outcome State Fault Refusal :=
  runCommand 0x80 (sized 23 fun t c =>
    let x := c.arg 0 1
    let area := c.arg 3 8
    let g := c.arg 11 4
    let n := areaBytes g
    if 16 ≤ x ∨ (inPartitionHbm (ctxPartition x) area n || t.inGeneral area n) = false then Done.refuse t stBadParam
    else if t.cfg.mode ≠ .serve ∨ t.ctxState x = ctxFree ∨ t.ctxState x = ctxFaulted ∨
        (List.range 16).any (fun i => match t.stream i with
          | none => false
          | some v => decide (v.ctx = x)) = true then Done.refuse t stState
    else match t.freeResult, (List.range 16).find? (fun i => (t.stream i).isNone) with
      | some slot, some i =>
        let v : Stream := {
          ctx := x, deadline := c.arg 1 2, area := area, granules := g, table := c.arg 15 8, slot := slot, waiting := [],
          closed := [], running := none, faulted := false, closing := false }
        Done.ok (((t.takeResult slot c.opcode c.seq true).setStream i (some v)).setHalted x) (beBytes 1 i ++ beBytes 1 slot)
      | _, _ => Done.refuse t stNoResultSlot) s

/-- Request record i of a body (R603). -/
def requestAt (b : List Byte) (i now : Nat) : Request where
  ident := BitVec.ofNat 64 (beNat ((b.drop (2 + 32 * i)).take 8))
  input := beNat ((b.drop (10 + 32 * i)).take 8)
  len := beNat ((b.drop (18 + 32 * i)).take 4)
  output := beNat ((b.drop (22 + 32 * i)).take 8)
  arrives := now + i

/-- `SERVE_SUBMIT`: the records arrive one per stitch from this one on. -/
def execServeSubmit (s : State) : Host.Outcome State Fault Refusal :=
  runCommand 0x81 (fun t c =>
    let k := c.arg 1 1 + 1
    let qs := (List.range k).map (fun i => requestAt c.body i t.now)
    if c.body.length < 2 ∨ 128 < k ∨ c.body.length ≠ 2 + 32 * k ∨
        (List.range k).any (fun i => decide (c.arg (30 + 32 * i) 4 ≠ 0)) = true ∨
        qs.all (fun q => t.inGeneral q.input q.len) = false then Done.refuse t stBadParam
    else match t.stream (c.arg 0 1) with
      | none => Done.refuse t stState
      | some v =>
        if v.closing then Done.refuse t stState
        else if v.faulted then Done.ok (t.completeFaulted v.slot qs) []
        else Done.ok (t.setStream (c.arg 0 1) (some { v with waiting := v.waiting ++ qs })) []) s

/-- `SERVE_CLOSE`. -/
def execServeClose (s : State) : Host.Outcome State Fault Refusal :=
  runCommand 0x82 (sized 1 fun t c =>
    match t.stream (c.arg 0 1) with
    | none => Done.refuse t stState
    | some v => if v.closing then Done.refuse t stState
      else Done.ok ((t.setStream (c.arg 0 1) (some { v with closing := true })).endStream (c.arg 0 1)) []) s

/-- A request put among others that stand in the order of their arrival. -/
def insertRequest (q : Request) : List Request → List Request
  | [] => [q]
  | r :: rest => if r.arrives ≤ q.arrives then r :: insertRequest q rest else q :: r :: rest

/-- The waiting requests of a stream in the order of their arrival. -/
def Stream.byArrival (v : Stream) : List Request := v.waiting.foldl (fun l q => insertRequest q l) []

/-- The block whose closing stitch has come: it closes at the arrival of its 128th request, or D courses after that of its
first, whichever is earlier, then without the requests that arrive in that stitch, and with D = 0 with those that arrived in
the one stitch of its first (R124, R125). -/
def State.blockOf (s : State) (v : Stream) : List Request :=
  match v.byArrival with
  | [] => []
  | q :: rest =>
    let due := q.arrives + 2560 * v.deadline
    let full := match rest[126]? with
      | some r => decide (r.arrives ≤ due)
      | none => false
    if full then (if (rest.getD 126 q).arrives ≤ s.now then (q :: rest).take 128 else [])
    else if due ≤ s.now then
      (q :: rest).filter (fun r => if v.deadline = 0 then decide (r.arrives = q.arrives) else decide (r.arrives < due))
    else []

/-- `SERVE_BLOCK_CLOSE`. -/
def execServeBlockClose (stream : Fin 16) (s : State) : Host.Outcome State Fault Refusal :=
  match s.stream stream.val with
  | none => .next s
  | some v =>
    let b := s.blockOf v
    act s (s.running && decide (b ≠ []))
      (s.setStream stream.val (some { v with
        waiting := v.waiting.filter (fun q => !b.contains q), closed := v.closed ++ [b] }))

/-- One request of a block that starts: its input is copied and its header entry written (R605). -/
def State.placeRequest (s : State) (v : Stream) (m : Nat) (q : Request) : State :=
  let long := decide (v.granules * 64 < q.len)
  let t := if long then s else s.firmwareCopy q.input (v.inputSlot m) q.len
  t.firmwareStore (v.header m) (leBytes 4 q.len ++ leBytes 4 0 ++ leBytes 2 (if long then 1 else 0xFFFF) ++ zeroBytes 6)

/-- `SERVE_BLOCK_START`: a closed block starts once the stream's context is HALTED. -/
def execServeBlockStart (stream : Fin 16) (s : State) : Host.Outcome State Fault Refusal :=
  match s.stream stream.val with
  | none => .next s
  | some v => match v.closed with
    | [] => .next s
    | b :: more =>
      let x := v.ctx
      let p := ctxPartition x
      let t := (b.zipIdx).foldl (fun u q => u.placeRequest v q.2 q.1) s
      let pc := BitVec.ofNat 32 (leNat (t.firmwareLoad (v.table + 512 * p + 4 * (b.length - 1)) 4))
      act s (s.running && decide (v.running = none) && decide (s.ctxState x = ctxHalted) && !s.inReset p && !s.inReset 5)
        ((t.enterAt x pc).setStream stream.val (some { v with closed := more, running := some b }))

/-- One request of a block that has run (R605). -/
def State.finishRequest (s : State) (v : Stream) (m : Nat) (q : Request) : State :=
  let len := leNat (s.firmwareLoad (v.header m + 4) 4)
  if v.granules * 64 < q.len then s.completeRequest v.slot q 0 1
  else if v.granules * 64 < len then s.completeRequest v.slot q len 2
  else (s.firmwareCopy (v.outputSlot m) q.output len).completeRequest v.slot q len (leNat (s.firmwareLoad (v.header m + 8) 2))

/-- `SERVE_BLOCK_DONE`: the context has halted on every core of its mask, or it has faulted, in a block or between two, and every
request of the stream completes with status 3. -/
def execServeBlockDone (stream : Fin 16) (s : State) : Host.Outcome State Fault Refusal :=
  match s.stream stream.val with
  | none => .next s
  | some v =>
    let n := stream.val
    let b := v.running.getD []
    let done := (((b.zipIdx).foldl (fun u q => u.finishRequest v q.2 q.1) s).setStream n (some { v with running := none })).endStream n
    let lost := ((s.completeFaulted v.slot (b ++ v.closed.flatten ++ v.waiting)).setStream n
      (some { v with running := none, closed := [], waiting := [], faulted := true })).endStream n
    if s.ctxState v.ctx = ctxFaulted then act s (s.running && (v.running.isSome || !v.faulted)) lost
    else act s (s.running && decide (s.ctxState v.ctx = ctxHalted) && v.running.isSome) done

/-! ### Result slots (R599–R601) -/

/-- The bytes of a result slot's body that are complete. -/
def ResultSlot.complete (r : ResultSlot) : Nat := if r.ring then min (32 * r.len) 0x1_0000 else r.len

/-- Result slot n as long as it is held: a complete one until its lease ends (R601). -/
def State.heldResult (s : State) (n : Nat) : Option ResultSlot :=
  (s.resultSlot n).filter (fun r => r.isPartial || !reached s.course r.leaseEnd)

/-- `RESULT_READ`. -/
def execResultRead (s : State) : Host.Outcome State Fault Refusal :=
  runCommand 0x90 (sized 13 fun t c =>
    let n := c.arg 0 1
    if 64 ≤ n then Done.refuse t stBadParam
    else match t.heldResult n with
      | none => Done.refuse t stResultGone
      | some r =>
        if r.seq.toNat ≠ c.arg 1 4 then Done.refuse t stResultGone
        else
          let off := c.arg 5 4
          Done.ok t (resultHeader n r ++ SMap.getList 0 r.body off (min (c.arg 9 4) (r.complete - off)))) s

/-- `RESULT_RELEASE`. -/
def execResultRelease (s : State) : Host.Outcome State Fault Refusal :=
  runCommand 0x91 (sized 5 fun t c =>
    let n := c.arg 0 1
    if 64 ≤ n then Done.refuse t stBadParam
    else match t.heldResult n with
      | none => Done.refuse t stResultGone
      | some r =>
        if r.isPartial then Done.refuse t stState
        else if r.seq.toNat ≠ c.arg 1 4 then Done.refuse t stResultGone
        else Done.ok (t.setResult n none) []) s

/-- `RESULT_LEASE_END`: a complete slot that no one released becomes FREE (R601). -/
def execResultLeaseEnd (n : Fin 64) (s : State) : Host.Outcome State Fault Refusal :=
  match s.resultSlot n.val with
  | none => .next s
  | some r => act s (s.running && !r.isPartial && reached s.course r.leaseEnd)
      ((s.setResult n.val none).count Reg.resultExpired 1)

end Sys2Proof.Machine
end

