-- ==== Sys2Proof/Machine/Images.lean ====
section
/-! DEFINITION. Images, overlays, the protection registers and the measurement log (R22, R35–R37, R613–R616,
R628, R655). -/

namespace Sys2Proof.Machine

/-! ### The protection registers (R628) -/

/-- `RT_FLOOR` in force: the fuses' value until a grant burns a higher one. -/
def State.floors (s : State) : Word := s.rt.floorFuses.getD (BitVec.ofNat 64 (Config.fusedFloor.toNat % 2 ^ 38 / 2 ^ 32 * 2 ^ 32 + Config.fusedFloor.toNat % 64))

/-- The key enrolled in a slot: 0 the owner, 1 the custodian, 2–9 host keys; byte i of word w is byte 8w + i
(assumption 116). -/
def State.enrolledKey (s : State) (slot : Nat) : List Byte :=
  ((List.range 8).flatMap (fun w => leBytes 8 (s.reg (Reg.rtKey slot w)).toNat)).take 57

/-- A slot holds a key. -/
def State.enrolled (s : State) (slot : Nat) : Bool := (List.range 8).any (fun w => decide (s.reg (Reg.rtKey slot w) ≠ 0))

/-- The slots that hold a key. -/
def State.enrolledSlots (s : State) : List Nat := (List.range 10).filter s.enrolled

/-! ### Images (R613, R614) -/

/-- A field of an image header, big-endian. -/
def imgField (img : List Byte) (off n : Nat) : Nat := beNat ((img.drop off).take n)
/-- `KIND`. -/
def imgKind (img : List Byte) : Nat := imgField img 6 1
/-- `MODE`. -/
def imgMode (img : List Byte) : Nat := imgField img 7 1
/-- `SVN`. -/
def imgSvn (img : List Byte) : Nat := imgField img 8 4
/-- `DIGEST`. -/
def imgDigest (img : List Byte) : List Byte := (img.drop 0x20).take 64
/-- The payload. -/
def imgPayload (img : List Byte) : List Byte := (img.drop 0x200).take (imgField img 0xC 4)

/-- The keys that may sign an image of a kind. -/
def State.imageSigners (s : State) (kind : Nat) : List (List Byte) :=
  ([(0 : Fin 2), 1].filter (fun i => !Config.imageKeyRevoked i)).map Config.imageKey ++
    (if kind = 1 ∧ s.enrolled 0 = true then [s.enrolledKey 0] else []) ++
    (if kind = 2 ∧ s.enrolled 1 = true then [s.enrolledKey 1] else [])

/-- The header's own form: it stands whole, its kind is the one expected, `SVN` is 0–63 and `MODE` fits the
kind. Its `resv` bytes are not looked at (assumption 215). -/
def imageFormed (kind : Nat) (img : List Byte) : Bool :=
  decide (0x200 + imgField img 0xC 4 ≤ img.length) && decide (imgField img 0 4 = 0x4D444E49) && decide (imgField img 4 2 = 1) &&
    decide (imgKind img = kind) && decide (imgSvn img < 64) &&
    (if kind = 1 then decide (1 ≤ imgMode img) && decide (imgMode img ≤ 4) else decide (imgMode img = 0))

/-- The first test of R614 that an image fails, numbered as `PRIMARY_ERR` numbers them; 0 where it passes. -/
def State.imageFault (s : State) (kind : Nat) (img : List Byte) : Nat :=
  if !imageFormed kind img then 1
  else match (s.imageSigners kind).find? (fun k => decide (keyDigest k = (img.drop 0x10).take 16)) with
    | none => 2
    | some key =>
      if !Config.ed448Verify key (ascii "MDN-SV1 IMAGE") (img.take 0x100) ((img.drop 0x100).take 114) then 3
      else if shake 64 (imgPayload img) ≠ imgDigest img then 4
      else if (img.drop 0x60).take 8 ≠ ascii "MDN-SV1" ++ [0] ∨ imgField img 0x68 1 % 2 = 0 then 5
      else if imgSvn img < (if kind = 0 then Fld.rtFloorBase.get s.floors else Fld.rtFloorOverlay.get s.floors) then 6
      else 0

/-- The status of a refused image (R614). -/
def imageStatus (fault : Nat) : Nat := if fault = 0 then stOk else if fault = 6 then stRtRollback else stRtBadSignature

/-- A refused image is counted, and a signature that failed too (R636). -/
def State.countImage (s : State) (fault : Nat) : State :=
  if fault = 0 then s
  else if fault = 3 then (s.count Reg.rtImageRefused 1).count Reg.rtSigFails 1
  else s.count Reg.rtImageRefused 1

/-! ### Overlays in force (R22, R35, R37) -/

/-- The configuration tag that overlays give over the base image (R22). -/
def State.tagOf (s : State) (mode site : Option Overlay) : BitVec 32 :=
  let image := fun (o : Option Overlay) => match o with
    | none => []
    | some v => v.image
  BitVec.ofNat 32 (leNat (shake 4 (s.co.image.getD [] ++ image mode ++ image site)))

/-- The mode that an overlay selects. -/
def modeOf : Option Overlay → Mode
  | none => .none
  | some o => match imgMode o.image with
    | 1 => .train
    | 2 => .serve
    | 3 => .swatch
    | _ => .recover

/-- The settings that overlays carry (R35, assumption 114); without one, the reset values of `LE_CONFIG.K` and
of `PM_CONFIG.ENVELOPE`. -/
def State.settingsOf (s : State) (mode site : Option Overlay) : Settings :=
  let m := mode.map (fun o => imgPayload o.image)
  let e := site.map (fun o => imgPayload o.image)
  { mode := modeOf mode
    level := (m.map (fun p => (Config.overlayLevel p).val)).getD 0
    compat := (m.map Config.overlayCompat).getD false
    cadence := (m.map (fun p => (Config.overlayCadence p).toNat)).getD 0
    groupK := (m.map (fun p => 8 + (Config.overlayGroupK p).val)).getD 8
    capDefault := (m.map (fun p => (Config.overlayCap p).toNat)).getD 0
    envelope := (e.map (fun p => (Config.siteEnvelope p).val)).getD 2
    tag := s.tagOf mode site }

/-- The strict state as R474 defines it. -/
def State.strictNow (s : State) : Bool :=
  decide (s.fld Reg.castonStatus Fld.castonStatusPhase ≠ 7) || decide (s.cfg.mode = .swatch) || decide (s.cfg.mode = .recover) ||
    (List.range 6).any (fun d => match SMap.get .normal s.rv.domains d with
      | .inReset l _ _ _ => decide (2 ≤ l)
      | _ => false)

/-- `SN_CONFIG.STRICT` shows it. -/
def State.showStrict (s : State) : State := s.setFld Reg.snConfig Fld.snConfigStrict (bit s.strictNow)

/-- `K` above a loaded group's k stops the device's cuts (R439). -/
def State.checkGroupK (s : State) : State :=
  if s.flag Reg.leGroup Fld.leGroupValid ∧ s.groupSize - 2 < s.cfg.groupK then s.setFld Reg.leStatus Fld.leStatusRefuse 6
  else if s.fld Reg.leStatus Fld.leStatusRefuse = 6 then s.setFld Reg.leStatus Fld.leStatusRefuse 0 else s

/-- The registers that show the settings. -/
def State.showSettings (s : State) : State :=
  let t := (s.setFld Reg.snConfig Fld.snConfigLevel s.cfg.level).setFld Reg.pmConfig Fld.pmConfigEnvelope s.cfg.envelope
  let u := (t.setFld Reg.leConfig Fld.leConfigCadence s.cfg.cadence).setFld Reg.leConfig Fld.leConfigK s.cfg.groupK
  u.checkGroupK.showStrict

/-! ### The measurement log (R615, R616) -/

/-- The protection block: the version, then the protection registers (assumption 117). -/
def State.protectionBlock (s : State) : List Byte :=
  leBytes 8 s.rt.fuses ++ leBytes 8 s.floors.toNat ++ leBytes 8 (s.reg Reg.rtIsolation).toNat ++ leBytes 8 (s.reg Reg.rtEncrypt).toNat ++
    (List.range 10).flatMap (fun k => (List.range 8).flatMap (fun w => leBytes 8 (s.reg (Reg.rtKey k w)).toNat))

/-- The entry of an image, or of an absent overlay. -/
def measurementOf (kind : Nat) : Option (List Byte) → Measurement
  | none => ⟨kind, 0, zeroBytes 64⟩
  | some img => ⟨kind, imgSvn img, fitTo 64 (imgDigest img)⟩

/-- The log is recomputed. -/
def State.measure (s : State) : State :=
  { s with rt := { s.rt with log := [
      measurementOf 0 s.co.image,
      ⟨Config.protectionKind.toNat, Config.protectionSvn.toNat, shake 64 s.protectionBlock⟩,
      measurementOf 1 (s.cmd.modeOverlay.map Overlay.image),
      measurementOf 2 (s.cmd.siteOverlay.map Overlay.image)] } }

/-- The measurement M. -/
def State.measurement (s : State) : List Byte :=
  shake 64 (s.rt.log.flatMap (fun e => beBytes 1 e.kind ++ beBytes 4 e.svn ++ e.digest))

/-! ### The global address (R559, R713) -/

/-- The global IPv6 address. -/
def State.ipv6 (s : State) : Nat := (s.reg Reg.hpIpv6Hi).toNat * 2 ^ 64 + (s.reg Reg.hpIpv6Lo).toNat

/-- Detection of the global address begins anew, or the device has none. -/
def State.detectGlobal (s : State) : State :=
  let t := s.setFld Reg.hpStatus Fld.hpStatusDadGlobal 0
  if s.ipv6 = 0 then { t with hp := { t.hp with dadGlobal := false, globalOk := false } }
  else
    let u := { t with hp := { t.hp with dadGlobal := true, globalOk := false } }
    if u.hp.linkUp then u.send (.dadProbe (BitVec.ofNat 128 u.ipv6)) else u

/-- What a site overlay sets in the registers of other chapters (R357, R559, assumption 114). -/
def State.applySite (s : State) : State :=
  match s.cmd.siteOverlay with
  | none => s
  | some o =>
    let p := imgPayload o.image
    let t := s.setFld Reg.tbConfig Fld.tbConfigCapable (bit (Config.siteCapable p))
    let u := match Config.siteIpv6 p with
      | none => t
      | some a =>
        let v := (t.setReg Reg.hpIpv6Hi (a.extractLsb' 64 64)).setReg Reg.hpIpv6Lo (a.extractLsb' 0 64)
        if v.ipv6 = t.ipv6 ∧ t.hp.globalOk = true then v else v.detectGlobal
    match Config.siteIpv4 p with
    | none => u
    | some a => (u.setReg Reg.hpIpv4 (a.zeroExtend 64)).setFld Reg.hpConfig Fld.hpConfigIpv4En 1

/-- Overlays come into force. -/
def State.putInForce (s : State) (mode site : Option Overlay) : State :=
  let t := { s with cmd := { s.cmd with modeOverlay := mode, siteOverlay := site }, cfg := s.settingsOf mode site }
  t.showSettings.measure

/-- The device switches to its staged overlays (R37); a site overlay that is switched to did not come from flash (R653). -/
def State.switchOverlays (s : State) : State :=
  let mode := s.cmd.stagedMode.orElse (fun _ => s.cmd.modeOverlay)
  let site := s.cmd.stagedSite.orElse (fun _ => s.cmd.siteOverlay)
  let t := s.putInForce mode site
  let u := if s.cmd.stagedSite.isSome then (t.setFld Reg.castonStatus Fld.castonStatusSite 0).applySite else t
  { u with cmd := { u.cmd with stagedMode := none, stagedSite := none } }

/-- Boundary u is complete on this device. -/
def State.boundaryDone (s : State) (u : BitVec 32) : Bool :=
  match s.sk.boundary with
  | none => false
  | some b => if b = u then s.updateDone u else decide ((b - u).toNat < 2 ^ 31)

/-- `OVERLAY_SWITCH`: at the later of its course and the completion of its boundary; with no job loaded, at its
course (R37, R655). -/
def execOverlaySwitch (s : State) : Host.Outcome State Fault Refusal :=
  match s.takeHanded 4 actOverlaySwitch with
  | none => .next s
  | some (h, t) =>
    act s (s.running && (decide (s.jobState = jobIdle) || s.boundaryDone (BitVec.ofNat 32 h.param))) t.switchOverlays

/-- `OVERLAY_STAGE`. -/
def execOverlayStage (s : State) : Host.Outcome State Fault Refusal :=
  runCommand 0x25 (sized 13 fun t c =>
    if 2 ≤ c.arg 0 1 then Done.refuse t stBadParam
    else deferred t c (fun u n =>
      { u with cmd := { u.cmd with staging := u.cmd.staging ++ [⟨n, c.arg 0 1, c.arg 1 8, c.arg 9 4⟩] } })) s

/-- `OVERLAY_STAGE_COMPLETE`: the oldest overlay that awaits verification is verified; one that passes replaces
the staged overlay of its kind (R602, R614). An outcome on which the roots of trust do not `agree` is discarded
(R607). -/
def execOverlayStageComplete (agree : Bool) (s : State) : Host.Outcome State Fault Refusal :=
  match s.cmd.staging with
  | [] => .next s
  | g :: rest =>
    let t := { s with cmd := { s.cmd with staging := rest } }
    let img := s.load g.addr g.len
    let fault := if s.poisoned g.addr g.len then 1 else s.imageFault (g.kind + 1) img
    let o : Overlay := ⟨decide (g.kind = 1), img⟩
    let done :=
      if fault ≠ 0 then (t.countImage fault).completeResult g.slot (imageStatus fault) []
      else if g.kind = 0 then
        { t with cmd := { t.cmd with stagedMode := some o } }.completeResult g.slot stOk
          (beBytes 4 (s.tagOf (some o) s.cmd.siteOverlay).toNat)
      else
        { t with cmd := { t.cmd with stagedSite := some o } }.completeResult g.slot stOk
          (beBytes 4 (s.tagOf s.cmd.modeOverlay (some o)).toNat)
    act s s.running (if agree then done else t.trustDisagrees)

end Sys2Proof.Machine
end

