-- ==== Sys2Proof/Machine/Security.lean ====
section
/-! DEFINITION. The root of trust's commands: identity, attestation, host sessions, job keys and approvals
(R608–R621, R625, R626, R631–R635). -/

namespace Sys2Proof.Machine

/-! ### Identity and attestation (R611, R617) -/

/-- `IDENTITY_GET`. -/
def execIdentityGet (s : State) : Host.Outcome State Fault Refusal :=
  runCommand 0x02 (sized 0 fun t _ => Done.ok t deviceChain) s

/-- The provisioning private key. -/
def State.provisioningKey (s : State) : List Byte := drawnSecret s.rt.provisioning 56

/-- The payload of an attestation report. -/
def State.attestPayload (s : State) (nonce : List Byte) : List Byte :=
  cborMap [
    cborUint 1,
    cborBytes (keyDigest identityKey),
    cborBytes nonce,
    cborBytes s.measurement,
    cborArray (s.rt.log.map (fun e => cborArray [cborUint e.kind, cborUint e.svn, cborBytes e.digest])),
    cborUint s.cfg.tag.toNat,
    cborArray [cborUint (Fld.rtFloorBase.get s.floors), cborUint (Fld.rtFloorOverlay.get s.floors)],
    cborUint (s.fld Reg.rtDebug Fld.rtDebugLevel),
    cborArray (s.enrolledSlots.map (fun k => cborBytes (keyDigest (s.enrolledKey k)))),
    cborUint s.rt.fuses,
    cborBytes s.rt.approvalNonce,
    cborBytes (Config.x448 s.provisioningKey []),
    cborArray (s.rt.jobKeys.map (fun k => cborUint k.ident.toNat)),
    cborUint (s.fld Reg.rtIsolation Fld.rtIsolationAllow * 2 ^ 48 + (s.reg Reg.rtEncrypt).toNat),
    cborBytes (beBytes 8 s.rt.castonNonce.toNat),
    cborUint s.course.toNat]

/-- `ATTEST`. -/
def execAttest (s : State) : Host.Outcome State Fault Refusal :=
  runTrusted CmdSlot.agree 0x03 (sized 32 fun t c =>
    let p := t.attestPayload c.body
    Done.ok t (cborArray [cborBytes p, cborBytes (fitTo 114 (Config.ed448Sign identitySeed (ascii "MDN-SV1 ATTEST") p))])) s

/-! ### Host sessions (R618–R621) -/

/-- `SESSION_OPEN`. -/
def execSessionOpen (s : State) : Host.Outcome State Fault Refusal :=
  runTrusted CmdSlot.agree 0x04 (sized 152 fun t0 c =>
    let t := t0.lapseSession
    if c.arg 145 7 ≠ 0 then Done.refuse t stBadParam
    else if t.hp.session.isSome then Done.refuse t stState
    else
      let eH := c.body.take 56
      let nH := (c.body.drop 56).take 32
      let pH := (c.body.drop 88).take 57
      let secret := drawnSecret t.free 56
      let eD := fitTo 56 (Config.x448 secret [])
      let nD := drawnSecret (t.free + 7) 32
      let ident := (Config.freeWord (t.free + 11)).truncate 32
      let tr := shake 64 (eH ++ nH ++ pH ++ eD ++ nD ++ beBytes 4 ident.toNat)
      let u := { t with
        free := t.free + 12
        hp := { t.hp with opening := some ⟨pH, tr, derive (Config.x448 secret eH) "HOST SESSION" 64 tr, ident, t.course⟩ } }
      Done.ok u (eD ++ nD ++ beBytes 4 ident.toNat ++ fitTo 114 (Config.ed448Sign identitySeed (ascii "MDN-SV1 SESSION") tr))) s

/-- A session exists: fresh sequence state, empty reply cache, association number 0 (R581, R621). -/
def State.beginSession (s : State) (o : PendingOpen) : State :=
  let e : Session := {
    ident := o.ident, secret := o.secret, an := 0, pn := 1, before := [], previous := none, previousUntil := none, seenNew := true, highest := []
    lastFrame := s.course }
  { s with
    hp := { s.hp with session := some e, opening := none }
    cmd := { s.cmd with seqSession := SeqState.reset, cache := [] } }.showSession

/-- Host keys are enrolled, and this is none of them (R619). -/
def State.hostKeyRefused (s : State) (key : List Byte) : Bool :=
  let hosts := s.enrolledSlots.filter (fun k => decide (2 ≤ k))
  decide (hosts ≠ []) && !hosts.any (fun k => decide (s.enrolledKey k = key))

/-- A session open that waits, until it lapses (R619). -/
def State.openingNow (s : State) : Option PendingOpen :=
  s.hp.opening.filter (fun o => decide (coursesSince s.course o.at_ < 65536))

/-- `SESSION_CONFIRM`; `agree` is whether the roots of trust agree (R607). -/
def execSessionConfirm (agree : Bool) (s : State) : Host.Outcome State Fault Refusal :=
  runTrusted (fun _ => agree) 0x05 (sized 148 fun t c =>
    if c.arg 146 2 ≠ 0 then Done.refuse t stBadParam
    else match t.openingNow with
      | none => Done.refuse t stState
      | some o =>
        let cH := shake 32 (derive o.secret "CONFIRM H" 32 [] ++ o.transcript)
        let cD := shake 32 (derive o.secret "CONFIRM D" 32 [] ++ o.transcript)
        if t.hostKeyRefused o.hostKey then Done.refuse t stRtNotApproved
        else if Config.ed448Verify o.hostKey (ascii "MDN-SV1 HOST") o.transcript (c.body.take 114) = false ∨
            (c.body.drop 114).take 32 ≠ cH then Done.refuse (t.count Reg.rtSigFails 1) stRtBadSignature
        else Done.ok ((t.beginSession o).count Reg.rtSessions 1) cD) s

/-- `SESSION_OPEN_LAPSE` (R619). -/
def execSessionOpenLapse (s : State) : Host.Outcome State Fault Refusal :=
  match s.hp.opening with
  | none => .next s
  | some o => act s (s.running && decide (65536 ≤ coursesSince s.course o.at_)) { s with hp := { s.hp with opening := none } }

/-- `SESSION_REKEY`: the keys of the next secret under the next association number (R565, R621). -/
def execSessionRekey (s : State) : Host.Outcome State Fault Refusal :=
  runTrusted CmdSlot.agree 0x06 (sized 0 fun t _ =>
    match t.hp.session with
    | none => Done.refuse t stState
    | some e =>
      let an := (e.an + 1) % 4
      let e' := { e with
        secret := derive e.secret "REKEY" 64 [], an := an, pn := 1, before := e.secret, previous := some e.an, previousUntil := none, seenNew := false
        highest := SMap.set 0 e.highest an 0 }
      Done.ok { t with hp := { t.hp with session := some e' } }.showSession (beBytes 1 an)) s

/-- `SESSION_CLOSE`. -/
def execSessionClose (s : State) : Host.Outcome State Fault Refusal :=
  runCommand 0x07 (sized 0 fun t _ =>
    if t.hp.session.isSome then Done.ok t.endSession [] else Done.refuse t stState) s

/-- `SESSION_LAPSE` (R620). -/
def execSessionLapse (s : State) : Host.Outcome State Fault Refusal :=
  match s.hp.session with
  | none => .next s
  | some e => act s (s.running && e.over s.course) s.endSession

/-- `MACSEC_PREVIOUS_AN_END` (R565). -/
def execMacsecPreviousAnEnd (s : State) : Host.Outcome State Fault Refusal :=
  match s.hp.session with
  | none => .next s
  | some e => match e.previousUntil with
    | none => .next s
    | some a => act s (s.running && reached s.course a)
        { s with hp := { s.hp with session := some { e with previous := none, previousUntil := none } } }

/-! ### Job keys (R625, R626) -/

/-- `JOB_KEY_PROVISION`; `agree` is whether the roots of trust agree (R607). -/
def execJobKeyProvision (agree : Bool) (s : State) : Host.Outcome State Fault Refusal :=
  runTrusted (fun _ => agree) 0x09 (sized 252 fun t c =>
    let id := c.arg 0 2
    let eO := (c.body.drop 2).take 56
    let nonce := (c.body.drop 58).take 32
    let w := derive (Config.x448 t.provisioningKey eO) "WRAP" 44 nonce
    if id = 0 ∨ t.rt.jobKeys.any (fun k => decide (k.ident.toNat = id)) = true ∨ 4 ≤ t.rt.jobKeys.length then Done.refuse t stState
    else if !t.enrolled 0 then Done.refuse t stRtNoKey
    else if !Config.ed448Verify (t.enrolledKey 0) (ascii "MDN-SV1 JOBKEY") (c.body.take 138) (c.body.drop 138) then
      Done.refuse (t.count Reg.rtSigFails 1) stRtBadSignature
    else match Config.gcmOpen (w.take 32) (w.drop 32) (c.body.take 2) ((c.body.drop 90).take 48) with
      | none => Done.refuse (t.count Reg.rtSigFails 1) stRtBadSignature
      | some key =>
        let k : JobKey := ⟨BitVec.ofNat 16 id, fitTo 32 key⟩
        let u : State := { t with rt := { t.rt with jobKeys := t.rt.jobKeys ++ [k] } }
        Done.ok u.resumeEngines []) s

/-! ### Two-party approval (R631–R635) -/

/-- A control-space offset names a protected register (R628). -/
def protectedReg (a : Nat) : Bool :=
  decide (a = Reg.rtDebug) || decide (a = Reg.rtFloor) || decide (a = Reg.rtIsolation) || decide (a = Reg.rtEncrypt) ||
    (decide (Reg.rtKey 0 0 ≤ a) && decide (a ≤ Reg.rtKey 9 7) && decide (a % 8 = 0))

/-- Where control space begins in the device address space (R593). -/
def controlBase : Nat := 0x3000_0000_0000

/-- The pairs of a change record: control-space offset and value. -/
def recordPairs (r : List Byte) : List (Nat × BitVec 64) :=
  (List.range (beNat ((r.drop 6).take 2))).map (fun i =>
    (beNat ((r.drop (0x28 + 16 * i)).take 8) - controlBase, BitVec.ofNat 64 (beNat ((r.drop (0x30 + 16 * i)).take 8))))

/-- A record is well formed and names protected registers only (R631, R633). -/
def recordFormed (r : List Byte) : Bool :=
  let n := beNat ((r.drop 6).take 2)
  decide (beNat (r.take 4) = 0x4D444E41) && decide (beNat ((r.drop 4).take 2) = 1) && decide (1 ≤ n) && decide (n ≤ 16) &&
    decide (r.length = 0x28 + 16 * n) &&
    (List.range n).all (fun i => decide (controlBase ≤ beNat ((r.drop (0x28 + 16 * i)).take 8))) &&
    (recordPairs r).all (fun p => protectedReg p.1)

/-- The key against which a role's signature is checked: the enrolled one, or while neither owner nor custodian
is enrolled the one that the record enrols (R632). -/
def State.approvalKey (s : State) (role : Nat) (r : List Byte) : Option (List Byte) :=
  if s.enrolled role then some (s.enrolledKey role)
  else if s.enrolled 0 ∨ s.enrolled 1 then none
  else some (((List.range 8).flatMap (fun w =>
    match (recordPairs r).find? (fun p => decide (p.1 = Reg.rtKey role w)) with
    | none => zeroBytes 8
    | some p => leBytes 8 p.2.toNat)).take 57)

/-- A role's signature over a record verifies. -/
def State.approvalSigned (s : State) (role : Nat) (r sig : List Byte) : Bool :=
  match s.approvalKey role r with
  | none => false
  | some k => Config.ed448Verify k (ascii "MDN-SV1 APPROVE") r sig

/-- A submission meets one of the grounds for `STATE` of R633. -/
def State.approvalBarred (s : State) (role : Nat) (r : List Byte) : Bool :=
  (match s.rt.approval with
    | none => false
    | some a => decide (a.record ≠ r) || decide (a.role = role)) ||
  (decide (s.jobState ≠ jobIdle) && (recordPairs r).any (fun p => decide (p.1 = Reg.rtIsolation) || decide (p.1 = Reg.rtEncrypt)))

/-- The second signature: the slot completes and the pairs become a grant, unless the fuses are spent (R630,
R634). -/
def State.approve (s : State) (a : Approval) : State :=
  let t := { s with rt := { s.rt with approval := none } }
  if 1024 ≤ s.rt.fuses then t.completeResult a.slot stRtRollback []
  else { t with rt := { t.rt with grant := some ⟨recordPairs a.record, t.course⟩ } }.completeResult a.slot stOk []

/-- The window of a pending approval has ended without the second signature (R634). -/
def State.approvalOver (s : State) : Bool :=
  match s.rt.approval with
  | none => false
  | some a => decide (585938 < coursesSince s.course a.at_)

/-- The pending approval ends unapproved: its slot completes so (R634). -/
def State.endApproval (s : State) : State :=
  match s.rt.approval with
  | none => s
  | some a => ({ s with rt := { s.rt with approval := none } }.completeResult a.slot stRtApprovalExpired []).count Reg.rtApprovalsExpired 1

/-- `APPROVAL_SUBMIT`; `agree` is whether the roots of trust agree (R607). The second submission's reply names the slot that
the first holds (assumption 118). -/
def execApprovalSubmit (agree : Bool) (s : State) : Host.Outcome State Fault Refusal :=
  runTrusted (fun _ => agree) 0x08 (fun s0 c =>
    let t := if s0.approvalOver then s0.endApproval else s0
    let role := c.arg 0 1
    let r := (c.body.drop 10).take (c.arg 8 2)
    if 2 ≤ role ∨ c.arg 1 7 ≠ 0 ∨ c.body.length ≠ 10 + c.arg 8 2 + 114 ∨ recordFormed r = false then Done.refuse t stBadParam
    else if (r.drop 8).take 16 ≠ keyDigest identityKey ∨ (r.drop 0x18).take 16 ≠ t.rt.approvalNonce then
      Done.refuse t stRtApprovalExpired
    else if !t.approvalSigned role r (c.body.drop (10 + c.arg 8 2)) then Done.refuse (t.count Reg.rtSigFails 1) stRtBadSignature
    else if t.approvalBarred role r then Done.refuse t stState
    else match t.rt.approval with
      | some a => ⟨t.approve a, stPending, beBytes 1 a.slot ++ zeroBytes 3 ++ beBytes 4 c.seq.toNat⟩
      | none => deferred t c (fun u n => { u with rt := { u.rt with approval := some ⟨r, role, u.course, n⟩ } })) s

/-- `APPROVAL_WINDOW_END`: 585,938 courses pass without the second signature (R634). -/
def execApprovalWindowEnd (s : State) : Host.Outcome State Fault Refusal :=
  act s (s.running && s.approvalOver) s.endApproval

/-- `GRANT_LAPSE` (R635). -/
def execGrantLapse (s : State) : Host.Outcome State Fault Refusal :=
  match s.rt.grant with
  | none => .next s
  | some g => act s (s.running && decide (65536 ≤ coursesSince s.course g.at_)) { s with rt := { s.rt with grant := none } }

/-- Every job key is erased, and the ephemeral tier key redrawn (R609, R629, R658). -/
def State.eraseJobKeys (s : State) : State :=
  { s with
    free := s.free + 8
    rt := { s.rt with jobKeys := [], tierKey := drawnSecret s.free 64 } }

/-- The provisioning key is redrawn. -/
def State.redrawProvisioning (s : State) : State :=
  { s with free := s.free + 7, rt := { s.rt with provisioning := s.free } }

/-- The approval nonce is redrawn. -/
def State.redrawNonce (s : State) : State :=
  { s with free := s.free + 2, rt := { s.rt with approvalNonce := drawnSecret s.free 16 } }

end Sys2Proof.Machine
end

