-- ==== Sys2Proof/Machine/Resets.lean ====
section
/-! DEFINITION. Resets: the domains and their states, dumps, the effect of each level, release, escalation and
isolation (R15–R18, R257, R267, R371, R378, R504–R523, R577, R588–R590). -/

namespace Sys2Proof.Machine

/-! ### Domains (R15, R510) -/

/-- Domain numbers beside partitions 0 to 3: the fabric domain. -/
def domFabric : Nat := 4
/-- The chip. -/
def domChip : Nat := 5
/-- Context x. -/
def domContext (x : Nat) : Nat := 16 + x
/-- Core c. -/
def domCore (c : Nat) : Nat := 256 + c
/-- The collective engine; the step keeper and the lifeline engine follow it. -/
def domCollective : Nat := 256 + 0xA0
/-- The step keeper. -/
def domStepKeeper : Nat := 256 + 0xA1
/-- The lifeline engine. -/
def domLifeline : Nat := 256 + 0xA2

/-- A domain is a context. -/
def isContext (d : Nat) : Bool := decide (16 ≤ d) && decide (d < 32)

/-- A domain is a core. -/
def isCore (d : Nat) : Bool := decide (256 ≤ d) && decide (d < 256 + 160)

/-- A domain is a fixed engine. -/
def isEngine (d : Nat) : Bool := decide (256 + 160 ≤ d) && decide (d < 256 + 163)

/-- Domain d is e or contains it (R15). -/
def covers (d e : Nat) : Bool :=
  decide (d = domChip) || decide (d = e) ||
    (decide (d < 4) && ((isContext e && decide ((e - 16) / 4 = d)) || (isCore e && decide ((e - 256) / 40 = d)))) ||
    (decide (d = domFabric) && isEngine e)

/-- Where a domain stands. -/
def State.domainState (s : State) (d : Nat) : DomainState := SMap.get .normal s.rv.domains d

/-- Writes it. -/
def State.setDomain (s : State) (d : Nat) (v : DomainState) : State :=
  { s with rv := { s.rv with domains := SMap.set .normal s.rv.domains d v } }

/-- The level of a domain's reset. -/
def DomainState.level? : DomainState → Option Nat
  | .inReset l _ _ _ => some l
  | _ => none

/-- Levels and domains in reset. -/
def State.inProgress (s : State) : List (Nat × Nat) :=
  s.rv.domains.filterMap (fun p => (DomainState.level? p.2).map (fun l => (p.1, l)))

/-- `RV_STATUS.LEVEL` and `DOMAINS` show the resets in progress. -/
def State.showReset (s : State) : State :=
  let ds := s.inProgress
  let level := if ds = [] then 7 else (ds.map Prod.snd).foldl max 0
  let mask := ((List.range 5).filter (fun d => ds.any (fun p => decide (p.1 = d) || decide (p.1 = domChip)))).foldl (fun v d => v + 2 ^ d) 0
  (s.setFld Reg.rvStatus Fld.rvStatusLevel level).setFld Reg.rvStatus Fld.rvStatusDomains mask

/-- Samples taken since a course (R490). -/
def State.samplesSince (s : State) (c : Course) : Nat :=
  (c.toNat % 1024 + coursesSince s.course c) / 1024

/-- Courses of an hour. -/
def hourCourses : Nat := 3515625000

/-- Resets of a domain at a level that were released within the hour. -/
def State.pastResets (s : State) (d level : Nat) : List PastReset :=
  (SMap.get [] s.rv.past d).filter (fun p => decide (p.level = level) && decide (coursesSince s.course p.at_ ≤ hourCourses))

/-- The engine of an isolation in progress and its cause are those of a reset that is due (R518). -/
def State.isolatedHere (s : State) (d : ResetDue) : Bool :=
  match s.rv.isolation with
  | none => false
  | some i => decide (d.level = 1) && decide (d.domain = 256 + i.engine) && decide (d.cause = i.cause)

/-- A reset that is due rises a level: its cause recurs in its domain within four samples of the release, or it is the
third at its level within an hour (R510). While suspects run alone a recurrence tells which reproduces it (R518). -/
def State.mustRise (s : State) (d : ResetDue) : Bool :=
  (match s.domainState d.domain with
    | .watch _ cause at_ => decide (cause = d.cause) && decide (s.samplesSince (BitVec.ofNat 48 at_) ≤ 4) && !s.isolatedHere d
    | _ => false) ||
    decide (2 ≤ (s.pastResets d.domain d.level).length)

/-- The containing domain of a reset's, at its level: of a context the core that runs it, of a core its partition, of
an engine of the fabric domain that domain, of a partition and of the fabric domain the chip (R510, assumption
130). -/
def State.risen (s : State) (d : ResetDue) : ResetDue :=
  if d.level = 0 then
    let cs := s.coresOf (d.domain - 16)
    ⟨1, domCore ((cs.find? (fun c => decide ((s.core c).resident = some (d.domain - 16)))).getD (cs.headD (10 * (d.domain - 16)))), d.cause⟩
  else if d.level = 1 then
    if isCore d.domain then ⟨2, (d.domain - 256) / 40, d.cause⟩ else ⟨3, domFabric, d.cause⟩
  else ⟨4, domChip, d.cause⟩

/-- The reset that a reset due comes to. -/
def State.effective (s : State) : Nat → ResetDue → ResetDue
  | 0, d => d
  | k + 1, d => if d.level < 4 ∧ s.mustRise d = true then s.effective k (s.risen d) else d

/-- A reset of the same or a higher level covers the domain already: the request merges with it (R509). -/
def State.absorbed (s : State) (d : ResetDue) : Bool :=
  s.inProgress.any (fun p => covers p.1 d.domain && decide (d.level ≤ p.2))

/-! ### Dumps (R519–R522) -/

/-- The path under which a core is dumped and suspected as a whole (assumption 131). -/
def wholeCore (c : Nat) : BitVec 32 := corePath 1 c 0xFF 0

/-- Units of a partition and the bytes read of each. -/
def partitionUnits (p : Nat) : List (BitVec 32 × Nat) :=
  (coresOfPartition p).map (fun c => (wholeCore c, 0x1000)) ++
    (List.range 4).map (fun i => (unitPath p 7 0xFF (4 * p + i) 0, 0x800)) ++
    (List.range 3).map (fun i => (channelPath (3 * p + i) 0, 0x800))

/-- Units of the fabric domain. -/
def fabricUnits : List (BitVec 32 × Nat) :=
  [(enginePath 11, 0x1_0000), (enginePath 15, 0x1_0000), (enginePath 16, 0x1_0000), (enginePath 12, 0x2000), (enginePath 10, 0x4_0000)] ++
    (List.range 8).map (fun n => (portPath n, 0x2000))

/-- Inserts a unit in the order of unit paths. -/
def insertUnit (u : BitVec 32 × Nat) : List (BitVec 32 × Nat) → List (BitVec 32 × Nat)
  | [] => [u]
  | v :: vs => if u.1.toNat ≤ v.1.toNat then u :: v :: vs else v :: insertUnit u vs

/-- Units that a dump of a domain reads, in increasing unit path (R520). -/
def State.dumpUnits (s : State) (d : Nat) : List (BitVec 32 × Nat) :=
  let us :=
    if d < 4 then partitionUnits d
    else if d = domFabric then fabricUnits
    else if d = domChip then (List.range 4).flatMap partitionUnits ++ fabricUnits
    else if isContext d then (s.coresOf (d - 16)).map (fun c => (wholeCore c, 0x1000))
    else if isCore d then [(wholeCore (d - 256), 0x1000)]
    else [(enginePath (if d = domCollective then 11 else if d = domStepKeeper then 15 else 16), 0x1_0000)]
  us.foldr insertUnit []

/-- The domain mask of a dump: partitions and the fabric domain that the domain lies in or holds. -/
def domainMask (d : Nat) : Nat :=
  if d < 5 then 2 ^ d
  else if d = domChip then 31
  else if isContext d then 2 ^ ((d - 16) / 4)
  else if isCore d then 2 ^ ((d - 256) / 40)
  else 16

/-- A dump of a domain starts, or waits for the one being taken (R521). -/
def State.startDump (s : State) (d : ResetDue) : State :=
  let t : Dumping := ⟨d.domain, ⟨d.level, domainMask d.domain, d.cause, s.course, [], true⟩, s.dumpUnits d.domain, s.course⟩
  match s.rv.dumping with
  | none => { s with rv := { s.rv with dumping := some t } }
  | some _ => { s with rv := { s.rv with dumpQueue := s.rv.dumpQueue ++ [t] } }

/-- What a dump reads of core c: the heads of its queues and their pattern counters, the pattern counter, the 64 tokens of each
context of its partition, the issue conditions that the heads meet and the duty at which the stream is granted (R522,
assumption 241). -/
def State.coreDump (s : State) (c : Nat) : List Byte :=
  let k := s.core c
  coreQueues.flatMap (fun q => match k.queue q with
    | [] => zeroBytes 20
    | e :: _ => leBytes 16 e.word.toNat ++ leBytes 4 e.pc.toNat) ++
  leBytes 4 k.pc.toNat ++
  (List.range 4).flatMap (fun i => (List.range 64).flatMap (fun n => leBytes 2 (s.token c (4 * corePartition c + i) n))) ++
  coreQueues.map (fun q => match k.queue q, k.resident with
    | e :: _, some x => BitVec.ofNat 8 (bit (s.tokenReady c x q e.word))
    | _, _ => 0) ++
  leBytes 1 k.grantDuty

/-- What a dump reads of the router: the flits that each port holds by VC, the flow tables and the fault map (R522,
assumption 241). -/
def State.routerDump (s : State) : List Byte :=
  (List.range 8).flatMap (fun n => (List.range 8).flatMap (fun v => leBytes 2 (SMap.get 0 (s.port n).occ v))) ++
  s.fab.sendFlows.flatMap (fun f => leBytes 4 f.dest ++ leBytes 4 f.nextSeq.toNat ++ leBytes 2 f.unacked.length) ++
  s.fab.recvFlows.flatMap (fun f => leBytes 4 f.src ++ leBytes 4 f.low.toNat) ++
  s.fab.faultMap.flatMap (fun r => leBytes 8 r.toNat)

/-- What a dump is known to read of a unit. -/
def State.unitDump (s : State) (u : BitVec 32) : List Byte :=
  if bitsOf u 28 24 = 1 then s.coreDump (bitsOf u 23 16)
  else if u = enginePath 10 then s.routerDump
  else []

/-- The state of a unit as a dump reads it, with free values where the manual names no content (R522, assumption 241). -/
def State.unitState (s : State) (u : BitVec 32 × Nat) : List Byte :=
  let b := (s.unitDump u.1).take u.2
  b ++ s.freeBytes (u.2 - b.length)

/-- Courses that the rings take for n bytes at 400 MB/s, 409.6 bytes a course (R519). -/
def ringCourses (n : Nat) : Nat := (10 * n + 4095) / 4096

/-- A dump slot. -/
def State.dumpSlot (s : State) (n : Nat) : Option Dump := if n = 0 then s.rv.dump0 else s.rv.dump1

/-- Writes a dump slot. -/
def State.setDump (s : State) (n : Nat) (d : Option Dump) : State :=
  if n = 0 then { s with rv := { s.rv with dump0 := d } } else { s with rv := { s.rv with dump1 := d } }

/-- A slot holds an unread dump. -/
def State.dumpUnread (s : State) (n : Nat) : Bool := match s.dumpSlot n with
  | none => false
  | some d => d.unread

/-- The slot of the newest unread dump. -/
def State.newestUnread (s : State) : Option Nat :=
  if s.dumpUnread s.rv.newest then some s.rv.newest
  else if s.dumpUnread (1 - s.rv.newest) then some (1 - s.rv.newest) else none

/-- A dump goes to the slot that does not hold the newest unread one; an unread dump it overwrites is counted. -/
def State.storeDump (s : State) (d : Dump) : State :=
  let n := match s.newestUnread with
    | some m => 1 - m
    | none => 1 - s.rv.newest
  let t := if s.dumpUnread n then s.count Reg.rvDumpLost 1 else s
  let u := t.setDump n (some d)
  { u with rv := { u.rv with newest := n } }

/-- The next unit of a dump being taken has delivered its state. -/
def State.readUnit (s : State) : State :=
  match s.rv.dumping with
  | none => s
  | some t => match t.toRead with
    | [] => s
    | u :: rest =>
      let v := s.drewBytes u.2
      { v with rv := { v.rv with dumping := some { t with
          dump := { t.dump with sections := t.dump.sections ++ [⟨u.1, 0, s.unitState u, s.course⟩] }, toRead := rest, turn := s.course } } }

/-- The first n units have. -/
def State.readUnits : State → Nat → State
  | s, 0 => s
  | s, n + 1 => s.readUnit.readUnits n

/-- The next dump starts, if one waits (R521). -/
def State.nextDump (s : State) : State :=
  { s with rv := { s.rv with
      dumping := s.rv.dumpQueue.head?.map (fun t => { t with dump := { t.dump with course := s.course }, turn := s.course })
      dumpQueue := s.rv.dumpQueue.tail } }

/-- A dump of which no unit is left to read goes to its slot, and the next one starts (R521). -/
def State.endDump (s : State) : State :=
  match s.rv.dumping with
  | none => s
  | some t => if t.toRead = [] then (s.storeDump t.dump).nextDump else s

/-- A course of the rings: the unit whose turn it is delivers once they have had the time for its state (R519). -/
def State.passDump (s : State) : State :=
  match s.rv.dumping with
  | none => s
  | some t => match t.toRead with
    | [] => s.endDump
    | u :: _ => if ringCourses u.2 ≤ coursesSince s.course t.turn then s.readUnit.endDump else s

/-- A dump of a domain is being taken or waits (R505). -/
def State.dumpOpen (s : State) (d : Nat) : Bool :=
  (s.rv.dumping.toList ++ s.rv.dumpQueue).any (fun t => decide (t.domain = d))

/-- A unit whose turn it is is recorded as UNREADABLE (R520, R522). -/
def State.skipUnit (s : State) : State :=
  match s.rv.dumping with
  | none => s
  | some t => match t.toRead with
    | [] => s
    | u :: rest =>
      { s with rv := { s.rv with dumping := some { t with
          dump := { t.dump with sections := t.dump.sections ++ [⟨u.1, 1, [], s.course⟩] }, toRead := rest, turn := s.course } } }

/-- `DUMP_UNIT_TIMEOUT`: the first n units that the dump still reads have delivered, and the next has not within 100 µs of its
turn (R520). -/
def execDumpUnitTimeout (n : Nat) (s : State) : Host.Outcome State Fault Refusal :=
  match s.rv.dumping with
  | none => .next s
  | some t =>
    match t.toRead[n]? with
    | none => .next s
    | some _ =>
      act s (s.running && decide (98 + ((t.toRead.take n).map (fun u => ringCourses u.2)).foldl (· + ·) 0 ≤ coursesSince s.course t.turn))
        ((s.readUnits n).skipUnit.count Reg.rvDumpUnreadable 1).endDump

/-! ### What every reset stops (R507, R508, R590) -/

/-- A deferred command whose unit is reset completes its slot (R590). A stream's slot keeps its records. -/
def State.abortSlot (s : State) (n : Nat) : State :=
  match s.resultSlot n with
  | none => s
  | some r => s.setResult n (some { r with isPartial := false, status := stAbortedByReset, done := s.course, leaseEnd := s.course + 65536 })

/-- Unacknowledged packets built by units of a scope are discarded and counted (R508). -/
def State.discardFrom (s : State) (ep : BitVec 8 → Bool) : State :=
  let gone := (s.fab.sendFlows.map (fun f => f.unacked.countP (fun u => ep u.packet.srcEp))).foldl (· + ·) 0 +
    s.fab.held.countP (fun h => ep h.packet.srcEp)
  let t := { s with fab := { s.fab with
    sendFlows := s.fab.sendFlows.map (fun (f : SendFlow) => { f with unacked := f.unacked.filter (fun u => !ep u.packet.srcEp) })
    held := s.fab.held.filter (fun h => !ep h.packet.srcEp) } }
  (t.count Reg.rvE2eDiscarded gone).releaseHeld

/-- Work that contexts carried for deferred commands ends with them (R590). -/
def State.abortWork (s : State) (of : Nat → Bool) : State :=
  let t := (List.range 16).foldl (fun u i => match u.stream i with
    | none => u
    | some v => if of v.ctx then (u.abortSlot v.slot).setStream i none else u) s
  match t.cmd.diagnosis with
  | none => t
  | some d => if of d.ctx then { t.abortSlot d.slot with cmd := { (t.abortSlot d.slot).cmd with diagnosis := none } } else t

/-- A loaded context returns HALTED with its tokens 0 (R507). -/
def State.haltLoaded (s : State) (x : Nat) : State :=
  if s.ctxState x = ctxFree then s
  else (s.stopContext x).setFld (Reg.ceQueue x) Fld.ceQueueTail (s.fld (Reg.ceQueue x) Fld.ceQueueTail)

/-- A core out of its reset: its arrays, queues and channels are clear, its resident context's registers and
place kept (R93, R507). -/
def Core.afterReset (k : Core) : Core :=
  { Core.reset with
    resident := k.resident, residentSince := k.residentSince, pc := k.pc, halted := k.halted, nextSeq := k.nextSeq
    sregs := k.sregs, vregs := k.vregs, checkIndex := k.checkIndex }

/-- The contexts of a mask that names core c. -/
def State.contextsOn (s : State) (c : Nat) : List Nat := (List.range 16).filter (fun x => s.inMask x c)

/-! ### The levels -/

/-- L0 (R506). -/
def State.resetContext (s : State) (x : Nat) : State :=
  ((s.abortWork (· == x)).rewind x).reclaim (· == x)

/-- L1 of a core (R507). -/
def State.resetCore (s : State) (c : Nat) : State :=
  let xs := s.contextsOn c
  let t := xs.foldl State.haltLoaded (s.abortWork xs.contains)
  ((t.discardFrom (fun e => decide (e.toNat = c))).modCore c Core.afterReset).reclaim xs.contains

/-- The lifeline engine's work for deferred commands ends (R590). -/
def State.abortLifeline (s : State) : State :=
  let t := match s.le.restore with
    | none => s
    | some w => s.abortSlot w.slot
  let u := match s.le.fill with
    | none => t
    | some w => t.abortSlot w.slot
  { u with le := { u.le with restore := none, fill := none } }

/-- The step keeper's commands end: a replay that awaits its record, with what it reserved (R590). -/
def State.abortReplays (s : State) : State :=
  let t := match s.cmd.replaySlot with
    | none => s
    | some n => { s.abortSlot n with cmd := { (s.abortSlot n).cmd with replaySlot := none } }
  { t with sk := { t.sk with awaitingRecord := false, reserved := [] } }

/-- An L4 ends every deferred command: its slot completes at the fence, and is freed with the chip (R537, R590, R659). -/
def State.abortCommands (s : State) : State :=
  let t := (s.abortLifeline.abortReplays).abortWork (fun _ => true)
  let u := (List.range 64).foldl (fun (v : State) n =>
    if (v.resultSlot n).any (fun r => r.isPartial && !r.ring) then v.abortSlot n else v) t
  { u with cmd := { u.cmd with staging := [], bindOff := none }, rt := { u.rt with approval := none } }

/-- L1 of a fixed engine: the collective engine's running work is abandoned, the step keeper's commands end and its table follows its
slot headers (R394, R590), the lifeline engine's commands end. -/
def State.resetEngine (s : State) (d : Nat) : State :=
  if d = domCollective then ((s.discardFrom (· == epCollective)).reclaim (fun _ => true))
  else if d = domStepKeeper then (s.discardFrom (· == epStepKeeper)).abortReplays.rebuildKeeper
  else ((s.discardFrom (· == epLifeline)).abortLifeline)

/-- The reads that have been accepted and not answered are carried out again, from the start and before what waits; replies to
other commands that have not left are sent as they are (R588). -/
def State.readAgain (s : State) : State :=
  let isRead (w : Outgoing) : Bool := w.slot.any (fun c => readClass c.opcode.toNat)
  let again := s.leaving.filter (fun c => readClass c.opcode.toNat) ++ (match s.cmd.reading with
    | none => []
    | some r => [r.cmd])
  { s with
    hp := { s.hp with waiting := s.hp.waiting.filter (fun w => !isRead w) }
    cmd := { s.cmd with queue := again.map (fun (c : CmdSlot) => { c with prior := none }) ++ s.cmd.queue, reading := none } }

/-- The interpreting role lies with the lowest partition that is not in reset (R18); the one that takes it goes on as R588
states. -/
def State.moveInterpreter (s : State) : State :=
  let p := ((List.range 4).find? (fun p => !s.inReset p)).getD 4
  if s.cmd.interpreter = p then s
  else { s.readAgain with cmd := { s.readAgain.cmd with interpreter := p } }

/-- L2 of a partition (R257, R267, R507). Requests for its memories wait. -/
def State.resetPartition (s : State) (p : Nat) : State :=
  let xs := (List.range 4).map (· + 4 * p)
  let t := xs.foldl State.haltLoaded (s.abortWork xs.contains)
  let u := (coresOfPartition p).foldl (fun v c => v.modCore c Core.afterReset) (t.discardFrom (fun e => decide (domainOfEp e = p)))
  let v := u.fillActive p
  { v with sn := { v.sn with windows := SMap.set none v.sn.windows p none } }.reclaim xs.contains

/-- Port H after an L3: its link down, its queue pairs in error, its windows and session as they stood (R577). -/
def State.dropHostLink (s : State) : State :=
  let h := s.hp
  let t := { s with hp := { HostPort.reset with
    qps := h.qps.map (fun (q : Nat × Option QueuePair) => (q.1, q.2.map (fun (v : QueuePair) => { v with error := true, message := none, reads := [] })))
    session := h.session, opening := h.opening, out := h.out, dadRetryAt := h.dadRetryAt, dadGlobal := h.dadGlobal, localOk := h.localOk, globalOk := h.globalOk } }
  (t.setFld Reg.hpStatus Fld.hpStatusLink 0).setFld Reg.hpStatus Fld.hpStatusPaused 0

/-- Port n leaves UP with the reset of its router, which drops what its input buffer holds (R505, R527). -/
def State.idlePort (s : State) (n : Nat) : State := (s.dropBuffer n).setPortState n 0

/-- The lifeline engine after an L3. What the job has settled stands: its last generation, a base and parity sets that count as
zero, the place of the partner's base, a generation that fell back; and the slots that tore are still to be told (R418, R419, R431,
assumption 132). -/
def Lifeline.afterL3 (l : Lifeline) : Lifeline :=
  { Lifeline.reset with
    lastGen := l.lastGen, baseZero := l.baseZero, parityZero := l.parityZero, buddySince := l.buddySince, fellBack := l.fellBack
    untold := l.untold ++ (l.cuts.filter (fun c => decide (2 ≤ c.phase))).map Cut.slot }

/-- L3 (R430, R505, R523, R577): ports go idle, and what the fabric domain held in its buffers, flows, map and
engines is lost. Its registers are kept (assumption 132). -/
def State.resetFabric (s : State) : State :=
  let a := (s.tearAll).abortLifeline
  let b := a.abortWork (fun _ => false)
  let c := b.abortReplays
  let d := (List.range 8).foldl State.idlePort c
  let e := d.dropHostLink
  let f := e.setFld Reg.skStatus Fld.skStatusRebuilding 1
  ({ f with
    fab := { Fabric.reset with ownRecords := f.fab.ownRecords }
    ce := { Collective.reset with plan := f.ce.plan, planStep := f.ce.planStep, durations := f.ce.durations, removed := f.ce.removed, lineEnds := f.ce.lineEnds }
    le := s.le.afterL3
    sk := { StepKeeper.reset with boundary := f.sk.boundary, prevBoundary := f.sk.prevBoundary, decidedThrough := f.sk.decidedThrough }
    rt := { f.rt with links := [] }
    sn := { f.sn with windows := SMap.set none f.sn.windows 4 none } })

/-- Registers that an L4 leaves (R16, R542): counters, error logs' places and folded counts, suspects, `RV_GEN`,
`CASTON_STATUS`; and those that hold what is fixed or lies in flash, the protected registers but `RT_DEBUG`, which an L4 puts
back (R628), and the tier's population (assumption 133). -/
def keptAtL4 (a : Nat) : Bool :=
  let o := a % 0x100_0000
  (decide (o < 0x40_0000) && decide (0x800 ≤ o % 0x1000)) ||
    (decide (a / 0x100_0000 = 17) && (decide (0x60_0000 ≤ o) || (decide (0x20 ≤ o) && decide (o < 0x200)))) ||
    decide (a = Reg.rvGen) || decide (a = Reg.castonStatus) || (decide (a / 0x100_0000 = 19) && decide (a ≠ Reg.rtDebug)) ||
    (List.range 4).any (fun p => decide (a = Reg.dtPop p))

/-- Registers after an L4. -/
def regsAfterL4 (m : SMap Word) : SMap Word :=
  Reg.resetList.foldl (fun t p => if keptAtL4 p.1 then t else SMap.set 0 t p.1 (BitVec.ofNat 64 p.2)) (m.filter (fun p => keptAtL4 p.1))

/-- Courses of resets as the new count of courses sees them, which starts at 0 (R371, R510). -/
def rebased (c : Course) (past : SMap (List PastReset)) : SMap (List PastReset) :=
  past.map (fun p => (p.1, p.2.map (fun r => { r with at_ := r.at_ - c })))

/-- The sentinel after an L4: its logs and its buffer (R16). -/
def Sentinel.afterL4 (n : Sentinel) : Sentinel := { Sentinel.reset with logs := n.logs, fsr := n.fsr, fsrNext := n.fsrNext }

/-- The recovery controller after an L4: its dumps and its history of resets (R16). -/
def Recovery.afterL4 (r : Recovery) (c : Course) : Recovery :=
  { Recovery.reset with
    dump0 := r.dump0, dump1 := r.dump1, newest := r.newest, dumping := r.dumping, dumpQueue := r.dumpQueue, past := rebased c r.past }

/-- The pins that a request for a power cycle, a failed cast-on or the rails hold, the stop of a rail fault, the currents
that cast-on measured and the sensor's history outlive an L4 (R673, R683, R687, assumption 133). -/
def Power.afterL4 (p : Power) : Power :=
  { Power.reset with
    arrayCurrent := p.arrayCurrent, cooled := p.cooled, issueStopped := p.issueStopped, fenced := p.fenced, faultN := p.faultN
    faultPulsing := p.faultPulsing, pulseAt := p.pulseAt, thermtripN := p.thermtripN, powerOk := p.powerOk, perstN := p.perstN }

/-- What L4 puts back to its reset value (R16, R537): everything but the memories, what R16 keeps and the flash devices. -/
def State.chipCleared (s : State) : State :=
  { s with
    tb := Timebase.reset
    dirty := (List.range 4).foldl (fun m p => SMap.set Dirty.zero m p ⟨⟨true, []⟩, Bitmap.zero, ⟨true, []⟩, Bitmap.zero, 0⟩) []
    regs := regsAfterL4 s.regs
    tokens := [], cores := [], side := [], ctxCounts := []
    sn := s.sn.afterL4
    fab := Fabric.reset, ce := Collective.reset, sk := StepKeeper.reset, le := Lifeline.reset, cmd := Commands.reset
    hp := { HostPort.reset with out := s.hp.out }
    rt := { s.rt with jobKeys := [], approval := none, grant := none, links := [] }
    pm := s.pm.afterL4
    job := Job.none
    rv := s.rv.afterL4 s.course
    timers := []
    co := if s.co.active then { s.co with image := none, site := none, commands := false } else s.co }

/-- L4 (R15, R16, R257, R267, R371, R378, R537, R620, R634, R659): the memories, what R16 keeps and the flash
devices stand; sessions, keys, approvals, result slots, tables and everything else of the chip are as after reset. The
site overlay, which lies in flash, is in force again; a cast-on in progress begins again (R642). -/
def State.resetChip (s : State) : State :=
  let job := s.fld Reg.rvStatus Fld.rvStatusJobState
  let site := s.cmd.siteOverlay
  let t := ((List.range 8).foldl State.idlePort s).chipCleared
  let u := (((t.setFld Reg.rvStatus Fld.rvStatusJobState job).setFld Reg.snConfig Fld.snConfigFsrCount t.sn.fsr.length).setFld
    Reg.skStatus Fld.skStatusRebuilding 1).setFld Reg.hpStatus Fld.hpStatusMode (bit t.co.eightLane)
  let v := ((u.eraseJobKeys).redrawProvisioning).redrawNonce
  if s.co.active then
    (v.setFld Reg.castonStatus Fld.castonStatusFailPhase (s.fld Reg.castonStatus Fld.castonStatusPhase)).setFld
      Reg.castonStatus Fld.castonStatusPhase 0
  else (v.putInForce none site).applySite

/-! ### Isolation (R518) -/

/-- Contexts of a list of numbers as a mask. -/
def ctxMask (xs : List Nat) : Nat := ((List.range 16).filter xs.contains).foldl (fun v x => v + 2 ^ x) 0

/-- `RV_ISOLATE` shows an isolation, with its state. -/
def State.showIsolation (s : State) (i : Isolation) (guilty : List Nat) (st : Nat) : State :=
  s.setReg Reg.rvIsolate (BitVec.ofNat 64
    (ctxMask i.suspects * 2 ^ 48 + ctxMask guilty * 2 ^ 32 + ctxMask i.awaiting * 2 ^ 16 + i.engine % 256 * 256 + st))

/-- A suspect goes on from where it halted. -/
def State.resume (s : State) (x : Nat) : State :=
  if s.ctxState x = ctxHalted then
    ((s.coresOf x).foldl (fun t c =>
      if (t.core c).resident = some x then t.modCore c (fun k => { k with halted := false })
      else t.setSide c x { t.sideOf c x with halted := false }) s).setCtxState x ctxReady
  else s

/-- The path of an engine. -/
def engineUnit (e : Nat) : BitVec 32 :=
  if e < 160 then wholeCore e else enginePath (if e = 0xA0 then 11 else if e = 0xA1 then 15 else 16)

/-- The decision once every suspect has run alone or been reported. Those that are guilty stay as the reset left them, HALTED. The cause that a transient engine's entry in the
suspect list shows is none of those stated: it is free. -/
def State.decideIsolation (s : State) (i : Isolation) : State :=
  let t := { s with rv := { s.rv with isolation := none, held := [] } }
  if i.reproduced = [] then
    let u := i.suspects.foldl State.resume t
    (u.drawn.suspect (engineUnit i.engine) (u.freeNow.toNat % 3) clsHang).showIsolation i [] 2
  else if i.suspects.all i.reproduced.contains ∧ 2 ≤ i.suspects.length then
    (t.unitFailed (engineUnit i.engine)).showIsolation i [] 4
  else
    ((i.suspects.filter (fun x => !i.reproduced.contains x)).foldl State.resume t).showIsolation i i.reproduced 3

/-- The next suspect runs alone, the others held; with none left to run or to be reported, the decision falls. -/
def State.nextSuspect (s : State) (i : Isolation) : State :=
  match i.queue with
  | x :: rest =>
    let j := { i with queue := rest, current := some x, since := s.course, yielded := [] }
    let held := (i.suspects.filter (· ≠ x)).foldl (fun m y => NatSet.put m y true) []
    ({ s with rv := { s.rv with isolation := some j, held := held } }.resume x).showIsolation j [] 1
  | [] =>
    let j := { i with current := none }
    let held := i.suspects.foldl (fun m y => NatSet.put m y true) []
    if j.awaiting = [] then s.decideIsolation j
    else { s with rv := { s.rv with isolation := some j, held := held } }.showIsolation j [] 1

/-- The suspects of an L1 of an engine (R518). -/
def State.suspectsOf (s : State) (e : Nat) : List Nat :=
  (List.range 16).filter (fun x => s.rv.recent.any (fun u => u.contains (e, x)))

/-- What becomes of the suspects when an L1 begins: with an isolation of the same engine under way the one that runs
alone has reproduced; else the suspects are those of R518. -/
def State.noteSuspects (s : State) (d : ResetDue) : State :=
  let e := d.domain - 256
  match s.rv.isolation with
  | some i =>
    if s.isolatedHere d then
      match i.current with
      | none => s
      | some x => { s with rv := { s.rv with isolation := some { i with reproduced := i.reproduced ++ [x], current := none } } }
    else s
  | none =>
    let xs := s.suspectsOf e
    let late := xs.filter s.journalled.contains
    let i : Isolation := {
      engine := e, queue := if xs.length < 2 then xs else xs.filter (fun x => !late.contains x), current := none, since := s.course, suspects := xs
      awaiting := if xs.length < 2 then [] else late, reproduced := [], yielded := [], cause := d.cause }
    { s with rv := { s.rv with isolation := some i } }.showIsolation i [] 1

/-- What becomes of them at its release. -/
def State.releaseSuspects (s : State) (d : Nat) : State :=
  match s.rv.isolation with
  | none => s
  | some i =>
    if 256 + i.engine ≠ d then s
    else if i.suspects.length < 2 then
      (i.suspects.foldl State.resume { s with rv := { s.rv with isolation := none, held := [] } }).showIsolation i [] 0
    else s.nextSuspect i

/-- `ISOLATION_LIMIT`: the suspect that runs alone has halted or yielded on every core of its mask, or its limit has
passed: it is held where it stands (R518). -/
def execIsolationLimit (s : State) : Host.Outcome State Fault Refusal :=
  match s.rv.isolation with
  | none => .next s
  | some i =>
    match i.current with
    | none => .next s
    | some x =>
      let over_ := decide (s.fld Reg.rvConfig Fld.rvConfigIsolateCourses * 16 ≤ coursesSince s.course i.since) ||
        s.haltedEverywhere x || (s.coresOf x).all (fun c => NatSet.has i.yielded c) || decide (s.ctxState x ≠ ctxReady)
      act s (s.running && over_) (s.nextSuspect i)

/-- `ISOLATION_REPORT`: context 1 B, reproduced 1 B. -/
def execIsolationReport (s : State) : Host.Outcome State Fault Refusal :=
  runCommand 0x52 (sized 2 (fun t c =>
    let x := c.arg 0 1
    if 16 ≤ x ∨ 2 ≤ c.arg 1 1 then Done.refuse t stBadParam
    else match t.rv.isolation with
      | none => Done.refuse t stState
      | some i =>
        if !i.awaiting.contains x then Done.refuse t stState
        else
          let j := { i with
            awaiting := i.awaiting.filter (· ≠ x), reproduced := if c.arg 1 1 = 1 then i.reproduced ++ [x] else i.reproduced }
          let u := { t with rv := { t.rv with isolation := some j } }
          Done.ok (if j.current.isSome ∨ t.inReset (256 + j.engine) then u.showIsolation j [] 1 else u.nextSuspect j) [])) s

/-! ### Beginning a reset (R504, R505, R509, R510) -/

/-- A request for a power cycle (R511, R687). -/
def State.requestL5 (s : State) : State :=
  if s.flag Reg.rvConfig Fld.rvConfigAutoL5 then { s with pm := { s.pm with faultN := true, faultPulsing := false } } else s

/-- The reset stops a step of the job: a job context lies in the domain, or the fabric domain or the chip does. -/
def State.stopsStep (s : State) (d : ResetDue) : Bool :=
  s.job.loaded &&
    (if isContext d.domain then s.inJob (d.domain - 16)
      else if isCore d.domain then (match (s.core (d.domain - 256)).resident with
        | none => false
        | some x => s.inJob x)
      else if d.domain < 4 then s.jobContexts.any (fun x => decide (ctxPartition x = d.domain))
      else true)

/-- The effect of a reset on its domain: step 4 of R505. -/
def State.resetDomain (s : State) (d : Nat) : State :=
  if d = domChip then s.resetChip
  else if d = domFabric then s.resetFabric
  else if d < 4 then s.resetPartition d
  else if isContext d then s.resetContext (d - 16)
  else if isCore d then s.resetCore (d - 256)
  else s.resetEngine d

/-- The fence of a reset: with the fabric domain or the chip the ports go idle and port H down (R505, R577, R703); the suspects
of an engine are noted (R518), and at an L4 the deferred commands end (R590). What lies in the domain does nothing until its release. -/
def State.fenceDomain (s : State) (d : ResetDue) : State :=
  if 3 ≤ d.level then
    let t := ((List.range 8).foldl State.idlePort s).dropHostLink
    if d.level = 4 then t.abortCommands else t
  else if 256 ≤ d.domain then s.noteSuspects d
  else s

/-- A higher reset takes in those nested in its domain, and ends an isolation there. -/
def State.absorbNested (s : State) (d : Nat) : State :=
  { s with rv := { s.rv with
      domains := s.rv.domains.filter (fun p => !(covers d p.1 && decide (p.1 ≠ d)))
      isolation := match s.rv.isolation with
        | none => none
        | some i => if covers d (256 + i.engine) && decide (d ≠ 256 + i.engine) then none else some i } }

/-- What a domain's registers and tokens hold at the fence of its reset is kept for reads (R505, R703). -/
def State.holdFence (s : State) (d : Nat) : State :=
  { s with rv := { s.rv with fences := SMap.set none s.rv.fences d (some ⟨s.regs, s.tokens⟩) } }

/-- The abort that a reset requires is sent before its fence (R505). -/
def State.abortFor (s : State) (d : ResetDue) : State := if s.stopsStep d then s.abortStep d.cause s.jobStep else s

/-- An L3 or L4 has still to abort the step, and to leave the ports the time to send the message: its fence comes after it. -/
def State.mustAbort (s : State) (d : ResetDue) : Bool := decide (3 ≤ d.level) && s.stopsStep d && decide (s.jobState = jobRunning)

/-- The ports are given two courses to send the abort, as the example of R523 shows (assumption 242). -/
def State.abortLeaves (s : State) (d : ResetDue) : Bool :=
  decide (3 ≤ d.level) && s.timers.any (fun p => decide (p.1 = tmrAbort)) && decide (coursesSince s.course (s.timer tmrAbort) < 2)

/-- A reset begins: its fence and its dump (steps 1 and 2 of R505). -/
def State.beginReset (s : State) (d : ResetDue) : State :=
  let s1 := s.abortFor d
  let s2 := if d.level = 4 ∧ s.pastResets domChip 4 ≠ [] then s1.requestL5 else s1
  let s3 := ((s2.absorbNested d.domain).startDump d).holdFence d.domain
  let s4 := (s3.setFld Reg.rvStatus Fld.rvStatusCause d.cause).fenceDomain d
  let s5 := s4.setDomain d.domain (.inReset d.level d.cause s4.now s4.course.toNat)
  (s5.showReset.showStrict).moveInterpreter

/-- The first reset that is due at a level, with the request it comes from. -/
def State.dueAt (s : State) (level : Nat) : Option (ResetDue × ResetDue) :=
  (s.rv.due.map (fun d => (d, s.effective 5 d))).find? (fun p => decide (p.2.level = level))

/-- The row of a level: the first reset due at it begins, once the abort that it requires has been sent, or merges with one that
covers it. -/
def resetRow (level : Nat) (s : State) : Host.Outcome State Fault Refusal :=
  match s.dueAt level with
  | none => .next s
  | some (d, e) =>
    let t := { s with rv := { s.rv with due := s.rv.due.erase d } }
    act s (s.running && !s.abortLeaves e)
      (if s.absorbed e then t else if s.mustAbort e then (s.abortFor e).ran tmrAbort else t.beginReset e)

/-- `RESET_L0` (R506). -/
def execResetL0 (s : State) : Host.Outcome State Fault Refusal := resetRow 0 s

/-- `RESET_L1` (R507). -/
def execResetL1 (s : State) : Host.Outcome State Fault Refusal := resetRow 1 s

/-- `RESET_L2` (R507). -/
def execResetL2 (s : State) : Host.Outcome State Fault Refusal := resetRow 2 s

/-- `RESET_L3` (R505). -/
def execResetL3 (s : State) : Host.Outcome State Fault Refusal := resetRow 3 s

/-- `RESET_L4` (R505, R16). -/
def execResetL4 (s : State) : Host.Outcome State Fault Refusal := resetRow 4 s

/-! ### Release (R505, R510, R512, R514) -/

/-- The counter of resets of a level (R524). -/
def resetsCounter (level : Nat) : Nat :=
  match level with
  | 0 => Reg.rvResetsL0
  | 1 => Reg.rvResetsL1
  | 2 => Reg.rvResetsL2
  | 3 => Reg.rvResetsL3
  | _ => Reg.rvResetsL4

/-- The field of `RV_GEN` of a domain. -/
def genField (d : Nat) : BitField :=
  match d with
  | 0 => Fld.rvGenGenP0
  | 1 => Fld.rvGenGenP1
  | 2 => Fld.rvGenGenP2
  | 3 => Fld.rvGenGenP3
  | _ => Fld.rvGenGenF

/-- A domain's generation tag advances. -/
def State.bumpGen (s : State) (d : Nat) : State := s.setFld Reg.rvGen (genField d) (s.fld Reg.rvGen (genField d) + 1)

/-- Tags that a release advances (R514). -/
def bumped (level domain : Nat) : List Nat :=
  if level = 4 then [0, 1, 2, 3, 4] else if level = 3 then [4] else if level = 2 then [domain] else []

/-- The ports train, and the neighbours are to be asked for their fault maps (R305, R505). -/
def State.trainPorts (s : State) : State :=
  let t := (List.range 8).foldl (fun u n => u.beginTraining n false) s
  { t with fab := { t.fab with mapsDue := List.range 6 } }

/-- A neighbour whose link is up is asked for its fault map once after an L3 or L4 (R305). -/
def State.askMaps (s : State) : State :=
  if s.flag Reg.prTorus Fld.prTorusValid then
    (s.fab.mapsDue.filter s.portUp).foldl (fun u n =>
      let v := { u with fab := { u.fab with mapsDue := u.fab.mapsDue.filter (· ≠ n) } }
      (v.sendReliable (v.packetTo tyCtrl tcCT (v.neighbour v.phys n, false) epRecovery epRecovery 0 0 (rvMessageBytes (v.ownMessage 2 0 0)))
        .literal .none none (some n)).numberMessage) s
  else s

/-- The ports of the device may train: cast-on has come past phase 2 (R640), and has not ended short of it (R627, R646). -/
def State.portsTrain (s : State) : Bool := let p := s.fld Reg.castonStatus Fld.castonStatusPhase; decide (3 ≤ p) && decide (p < 9)

/-- After an L3 or L4 the ports train. -/
def State.trainAgain (s : State) : State :=
  if s.portsTrain then s.trainPorts.setFld Reg.hpStatus Fld.hpStatusLink 1 else s

/-- What a release rebuilds in its domain: after an L3 or L4 the ports train, and a device of a job is RETIRED and
says so (R512). -/
def State.rebuild (s : State) (level domain : Nat) : State :=
  if level = 3 then s.retire.resumeEngines.trainAgain
  else if level = 4 then s.trainAgain.retire
  else s.releaseSuspects domain

/-- A device that leaves an L4 is at course 0, and an interrupted cast-on begins its next attempt (R371, R642, R653). -/
def State.leaveChipReset (s : State) : State :=
  let t := { s with
    tb := Timebase.reset
    timers := []
    rv := { s.rv with past := rebased s.course s.rv.past }
    co := { s.co with phaseAt := s.co.elapsed } }
  if s.co.active then
    (t.setFld Reg.castonStatus Fld.castonStatusAttempt (min 3 (t.fld Reg.castonStatus Fld.castonStatusAttempt + 1))).setFld
      Reg.castonStatus Fld.castonStatusRepairs 0
  else t

/-- A domain is released; requests that its controllers have held are performed (R534). -/
def State.release (s : State) (d level cause : Nat) : State :=
  let t := if level = 4 then s.leaveChipReset else s
  let u := (bumped level d).foldl State.bumpGen (t.count (resetsCounter level) 1)
  let v := { u with rv := { u.rv with fences := SMap.set none u.rv.fences d none } }.setDomain d (.watch level cause u.course.toNat)
  let young := (SMap.get [] v.rv.past d).filter (fun (p : PastReset) => decide (coursesSince v.course p.at_ ≤ hourCourses))
  let this : PastReset := ⟨level, v.course⟩
  let w : State := { v with rv := { v.rv with past := SMap.set [] v.rv.past d (young ++ [this]) } }
  (((w.showReset.showStrict).moveInterpreter).performRequests).rebuild level d

/-- The event table of a domain that is released by an event: its partition's, or the fabric's (R373). -/
def releaseTable (level domain : Nat) : Option Nat :=
  if level = 2 then some domain else if level = 3 then some 4 else none

/-- A `RESET_RELEASE` event of a table stands armed. -/
def State.releaseArmed (s : State) (t : Nat) : Bool :=
  (List.range 64).any (fun n => s.evArmed t n && decide (s.evAction t n = actResetRelease)) ||
    s.tb.arming.any (fun a => decide (a.table = t) && decide (a.action = actResetRelease))

/-- A granule is one of a memory whose controllers a reset of a level and domain has stopped: of the partition at L2, any at
L4 (R267). -/
def stoppedGranule (level domain g : Nat) : Bool :=
  (inHbm (64 * g) || inTier (64 * g)) && (decide (level = 4) || (decide (level = 2) && decide (partitionOf (64 * g) = domain)))

/-- The poison marker is written over the granules of the writes that the controllers had accepted and could not perform,
each an error past correction (R267, R481). -/
def State.poisonLost (s : State) (level domain : Nat) (lost : List Nat) : State :=
  (lost.filter (stoppedGranule level domain)).foldl (fun t g => t.memUncorrected (64 * g)) s

/-- Steps 4 and 5 of R505: the domain is reset, and released. -/
def State.endReset (s : State) (level domain cause : Nat) (lost : List Nat) : State :=
  let t := s.resetDomain domain
  let u := if level = 4 then t.setFld Reg.rvStatus Fld.rvStatusCause cause else t
  (u.poisonLost level domain lost).release domain level cause

/-- `RESET_RELEASE`: a domain whose reset has lasted at least 64 courses and whose dump has been taken is reset and released
(R505). The release of a
partition and of the fabric domain is an event of their table, which the recovery controller arms 17 courses ahead and
which this row carries out once it has been handed over (R373, R374, assumption 134). -/
def execResetRelease (r : DomainRelease) (s : State) : Host.Outcome State Fault Refusal :=
  match s.domainState r.domain with
  | .inReset level cause _ since =>
    let old := decide (64 ≤ coursesSince s.course (BitVec.ofNat 48 since)) && !s.dumpOpen r.domain
    match releaseTable level r.domain with
    | none => act s (s.running && old) (s.endReset level r.domain cause r.lost)
    | some t =>
      match s.takeHanded t actResetRelease with
      | some (_, u) => act s (s.running && old) (u.endReset level r.domain cause r.lost)
      | none => act s (s.running && old && !s.releaseArmed t)
          (s.armByUnit ⟨t, actResetRelease, (s.gen r.domain).toNat, s.course + 18, false⟩)
  | _ => .next s

/-- Limits of R510, in stitches. -/
def resetLimit (level : Nat) : Nat :=
  match level with
  | 0 => 5000000
  | 1 => 25000000
  | 2 => 6250000000
  | 3 => 10000000000
  | _ => 22500000000

/-- `RESET_LIMIT_EXPIRY` (R510, R511). -/
def execResetLimitExpiry (domain : Nat) (s : State) : Host.Outcome State Fault Refusal :=
  match s.domainState domain with
  | .inReset level cause since _ =>
    act s (s.running && decide (resetLimit level < s.now - since))
      (if level = 4 then s.requestL5
      else
        let d := s.risen ⟨level, domain, cause⟩
        s.dueReset d.level d.domain d.cause)
  | _ => .next s

/-- `WATCH_END`: four samples have been taken since the release, and no reset is due in the domain (R510). -/
def execWatchEnd (domain : Nat) (s : State) : Host.Outcome State Fault Refusal :=
  match s.domainState domain with
  | .watch _ _ at_ => act s (s.running && decide (4 ≤ s.samplesSince (BitVec.ofNat 48 at_)) && !s.periodic tmrSample 1024 &&
      !s.rv.due.any (fun d => decide (d.domain = domain))) (s.setDomain domain .normal)
  | _ => .next s

/-! ### Reading dumps (R521, R522, R591) -/

/-- The bytes of a section. -/
def sectionBytes (d : DumpSection) : List Byte :=
  leBytes 4 d.unit_.toNat ++ leBytes 1 d.status ++ zeroBytes 3 ++ leBytes 4 d.state.length ++ leBytes 4 d.at_.toNat ++ d.state

/-- A dump as its slot holds it (assumption 135). -/
def dumpBytes (d : Dump) : List Byte :=
  fitTo 64 (leBytes 4 0x5256_4450 ++ leBytes 4 d.level ++ leBytes 4 d.domains ++ leBytes 4 d.cause ++ leBytes 8 d.course.toNat ++
    leBytes 4 d.sections.length) ++ d.sections.flatMap sectionBytes

/-- `DUMP_READ`: dump slot 1 B, offset 4 B, length 4 B. A slot without a dump reads as zeros, and what
lies past the slot is not read (assumption 135). -/
def execDumpRead (s : State) : Host.Outcome State Fault Refusal :=
  runCommand 0x53 (sized 9 (fun t c =>
    let off := c.arg 1 4
    let len := c.arg 5 4
    if 2 ≤ c.arg 0 1 ∨ 0x40_0000 < len then Done.refuse t stBadParam
    else
      let b := match t.dumpSlot (c.arg 0 1) with
        | none => []
        | some d => dumpBytes d
      Done.ok t (fitTo (min len (0x40_0000 - off)) (b.drop off)))) s

/-- `DUMP_RELEASE`: dump slot 1 B. -/
def execDumpRelease (s : State) : Host.Outcome State Fault Refusal :=
  runCommand 0x54 (sized 1 (fun t c =>
    let n := c.arg 0 1
    if 2 ≤ n then Done.refuse t stBadParam
    else match t.dumpSlot n with
      | none => Done.ok t []
      | some d => Done.ok (t.setDump n (some { d with unread := false })) [])) s

end Sys2Proof.Machine
end

