-- ==== Sys2Proof/Machine/RegMap.lean ====
section
/-! DEFINITION. Which stored register lies at an offset of the control space, and which domain owns it (R697, R698,
R700, R703). -/

namespace Sys2Proof.Machine

/-- The row of the register at an offset, none where no register is stored. -/
def regRow (a : Nat) : Option RegRow := Reg.table.find? (fun r => r.holds a)

/-- The partition that owns the register at an offset, for the register groups of R703: partition, context and
core regions, and the units of the memory controllers; none for those of subsystems of the fabric and chip domains (R15). -/
def regPartition (a : Nat) : Option Nat :=
  let b := a / 0x100_0000
  let g := a % 0x100_0000
  if [11, 14, 18, 20].contains b then none
  else if 0x1000 ≤ g ∧ g < 0x5000 then some ((g - 0x1000) / 0x1000)
  else if 0x1_0000 ≤ g ∧ g < 0x2_0000 then some (ctxPartition ((g - 0x1_0000) / 0x1000))
  else if b = 7 ∧ 0x2_0000 ≤ g ∧ g < 0x12_0000 then some ((g - 0x2_0000) / 0x1000 / 4)
  else if b = 8 ∧ 0x2_0000 ≤ g ∧ g < 0x12_0000 then some ((g - 0x2_0000) / 0x1000 / 3)
  else if 0x20_0000 ≤ g ∧ g < 0x2A_0000 then some (corePartition ((g - 0x20_0000) / 0x1000))
  else none

/-- The domains that own a register, of those whose registers can be reached in reset: a fixed engine, or a partition, a context, a
core (R15, R703). -/
def regOwners (a : Nat) : List Nat :=
  let b := a / 0x100_0000
  let g := a % 0x100_0000
  if b = 11 then [domCollective] else if b = 15 then [domStepKeeper] else if b = 16 then [domLifeline]
  else (regPartition a).toList ++ (if 0x1_0000 ≤ g ∧ g < 0x2_0000 then [16 + (g - 0x1_0000) / 0x1000] else []) ++
    (if 0x20_0000 ≤ g ∧ g < 0x2A_0000 then [256 + (g - 0x20_0000) / 0x1000] else [])

/-- The domain that owns a register is in reset (R703). -/
def State.regInReset (s : State) (a : Nat) : Bool := (regOwners a).any s.inReset

/-- What stood at the fence of the reset of a register's domain (R703). -/
def State.fenceOf (s : State) (a : Nat) : Option Fence :=
  ((regOwners a).find? s.inReset).bind (fun d => SMap.get none s.rv.fences d)

end Sys2Proof.Machine
end

