-- ==== Sys2Proof/Machine/Views.lean ====
section
/-! DEFINITION. What the host reads: the status page, control space word by word, error logs and fault signature
records (R479, R486-R488, R591, R592, R700, R701, R707, R715-R717). -/

namespace Sys2Proof.Machine

/-! ### The status page (R591, R596, R707) -/

/-- `MODE` of the status word. -/
def modeCode : Mode → Nat
  | .none => 0
  | .train => 1
  | .serve => 2
  | .swatch => 3
  | .recover => 4

/-- A record is durable on one copy only, or a chunk is owned without a partner. -/
def State.unmirroredNow (s : State) : Bool :=
  s.flag Reg.skStatus Fld.skStatusUnmirrored || decide (s.fld Reg.ceUnmirrored Fld.counterCount ≠ 0)

/-- Dump slots that hold an unread dump (R521). -/
def State.unreadDumps (s : State) : Nat := bit (s.dumpUnread 0) + bit (s.dumpUnread 1)

/-- Free result slots. -/
def State.resultsFree (s : State) : Nat := ((List.range 64).filter (fun n => (s.resultSlot n).isNone)).length

/-- Free command slots, while the command that reads them holds its own (R537, assumption 141). -/
def State.commandsFree (s : State) : Nat := 63 - (s.leaving.length + s.cmd.queue.length)

/-- The status word. -/
def State.statusWord (s : State) : Word :=
  let hi := s.rv.heartbeat.toNat * 2 ^ 48 + s.fld Reg.rvStatus Fld.rvStatusJobState * 2 ^ 46 +
    s.fld Reg.leStatus Fld.leStatusProtection * 2 ^ 44 + modeCode s.cfg.mode * 2 ^ 41 + bit s.hp.session.isSome * 2 ^ 40 +
    s.fld Reg.snConfig Fld.snConfigStrict * 2 ^ 39 + s.fld Reg.rvStatus Fld.rvStatusLevel * 2 ^ 36 +
    s.fld Reg.rvStatus Fld.rvStatusDomains * 2 ^ 31 + bit s.ready * 2 ^ 30 + bit (s.tbState = tbLocked) * 2 ^ 29
  let lo := bit (s.sn.fsr ≠ []) * 2 ^ 28 + bit (s.unreadDumps ≠ 0) * 2 ^ 27 + bit s.unmirroredNow * 2 ^ 26 +
    bit s.sn.ladderFlag * 2 ^ 25 + s.fld Reg.ceEpoch Fld.ceEpochExhausted * 2 ^ 24 +
    s.fld Reg.pmConfig Fld.pmConfigEnvelope * 2 ^ 22 + s.fld Reg.snConfig Fld.snConfigLevel * 2 ^ 19 + bit s.cfg.compat * 2 ^ 18 +
    s.commandsFree * 2 ^ 8 + s.resultsFree
  BitVec.ofNat 64 (hi + lo)

/-- `TB_COURSE` (R359). -/
def State.courseWord (s : State) : Word := BitVec.ofNat 64 (s.course.toNat * 2 ^ 12 + s.stitch)

/-- The mask of the result slots that meet a test. -/
def State.resultMask (s : State) (test : ResultSlot → Bool) : Nat :=
  ((List.range 64).filter (fun n => match s.resultSlot n with
    | none => false
    | some r => test r)).foldl (fun v n => v + 2 ^ n) 0

/-- The snapshot status word (R449). -/
def State.snapshotWord (s : State) : Nat :=
  s.le.snapshot.step.toNat * 2 ^ 32 + s.le.snapshot.region % 16 * 2 ^ 28 + s.le.snapshot.state % 4 * 2 ^ 26

/-- The status page, 256 bytes. -/
def State.statusPage (s : State) : List Byte :=
  beBytes 8 s.statusWord.toNat ++ beBytes 8 s.courseWord.toNat ++ beBytes 4 s.cmd.lastDecided.toNat ++
    beBytes 4 (s.fld Reg.skStatus Fld.skStatusLastArmed) ++ beBytes 8 (s.reg Reg.leGen).toNat ++ beBytes 8 (s.reg Reg.rvStatus).toNat ++
    beBytes 2 (s.fld Reg.ceEpoch Fld.ceEpochEpoch) ++ zeroBytes 2 ++ beBytes 4 s.cfg.tag.toNat ++
    (List.range 8).flatMap (fun j => beBytes 8 (s.stepWord j).toNat) ++ beBytes 8 (s.resultMask (fun r => !r.isPartial)) ++
    beBytes 8 (s.resultMask (fun r => r.isPartial)) ++ beBytes 2 (s.fld Reg.snConfig Fld.snConfigFsrCount) ++
    beBytes 1 s.unreadDumps ++ zeroBytes 1 ++ beBytes 8 s.snapshotWord ++ zeroBytes 116

/-- `STATUS_READ`. -/
def execStatusRead (s : State) : Host.Outcome State Fault Refusal :=
  runCommand 0x01 (sized 0 fun t _ => Done.ok t t.statusPage) s

/-! ### Control space (R592, R700, R703, R715, R716) -/

/-- A log entry as it is stored (R479). -/
def logBytes (e : LogEntry) : List Byte :=
  leBytes 8 (e.course.toNat * 2 ^ 12 + e.stitch) ++ leBytes 4 e.unit_.toNat ++ leBytes 2 e.cls ++ leBytes 1 e.severity ++
    leBytes 1 e.ctx ++ leBytes 8 e.operation.toNat ++ leBytes 8 e.address.toNat ++ leBytes 8 e.syndrome.toNat ++
    leBytes 2 e.temp.toNat ++ leBytes 2 e.voltage.toNat ++ leBytes 4 Config.firmwareVersion.toNat ++ leBytes 4 e.step.toNat ++
    leBytes 4 e.count ++ leBytes 8 e.seq

/-- Word `w` of the token window of core c (R715). -/
def State.tokenWord (s : State) (c w : Nat) : Word :=
  let x := 4 * corePartition c + w / 16
  let t := match s.fenceOf (0xd20_0000 + 0x1000 * c + 8 * w) with
    | none => s
    | some f => { s with tokens := f.tokens }
  BitVec.ofNat 64 ((List.range 4).foldl (fun v i => v + t.token c x (4 * (w % 16) + i) * 2 ^ (16 * i)) 0)

/-- `CE_PLAN[r]` (R716). -/
def State.planWord (s : State) (r : Nat) : Word :=
  BitVec.ofNat 64 (bit (s.replicas.contains r) * 2 ^ 63 + s.ce.plan.getD r 0 * 2 ^ 56 +
    (s.ce.plan.take r).foldl (· + ·) 0 % 4096 * 2 ^ 44 + (s.ce.durations.getD r 0).toNat)

/-- The words of the table regions that no stored register holds (R716). -/
def State.tableWord (s : State) (a : Nat) : Word :=
  if 0xa40_0000 ≤ a ∧ a < 0xb00_0000 then
    if a = 0xa40_0000 then BitVec.ofNat 64 s.fab.faultMap.length else s.fab.faultMap.getD ((a - 0xa40_0008) / 8) 0
  else if a = 0xb40_0000 then BitVec.ofNat 64 s.ce.planStep.toNat
  else if 0xb40_0008 ≤ a ∧ a < 0xb40_0108 then s.planWord ((a - 0xb40_0008) / 8)
  else if 0x1140_0000 ≤ a ∧ a < 0x1154_0000 then
    match SMap.get none s.sn.logs (logKey ((a - 0x1140_0000) / 0x4_0000) ((a - 0x1140_0000) % 0x4_0000 / 64)) with
    | none => 0
    | some e => BitVec.ofNat 64 (leNat (((logBytes e).drop (a % 64)).take 8))
  else 0

/-- A stored register as a read shows it: implemented bits, the fused registers, the role of a named backup, what the lifeline engine
works at (R358, R450, R578, R628, R701, R721). -/
def State.storedWord (s : State) (a : Nat) (r : RegRow) : Word :=
  let v :=
    if a = Reg.hpMac then BitVec.ofNat 64 Config.fusedMac.toNat
    else if a = Reg.rtFloor then s.floors
    else if a = Reg.pmVtable ((a - Reg.pmVtable 0) / 0x1000) ∧ Reg.pmVtable 0 ≤ a then Config.fusedVTable ((a - Reg.pmVtable 0) / 0x1000)
    else if a = Reg.tbStatus ∧ s.fld a Fld.tbStatusRole = 0 ∧ s.standsAt s.namedBackup then Fld.tbStatusRole.put (s.reg a) 2
    else if a = Reg.leStatus then BitField.put Fld.leStatusFoldPage (Fld.leStatusPhase.put (s.reg a) s.lePhase) s.foldPage
    else if a = Reg.ceUnmirrored then Fld.counterOvf.put (s.reg a) 0
    else match s.fenceOf a with
      | none => s.reg a
      | some f => (s.reg a &&& BitVec.ofNat 64 r.rw) ||| (SMap.get 0 f.regs a &&& ~~~BitVec.ofNat 64 r.rw)
  v &&& BitVec.ofNat 64 r.impl

/-- The word that a read of control space shows at an aligned offset. -/
def State.readWord (s : State) (a : Nat) : Word :=
  match regRow a with
  | some r => s.storedWord a r
  | none =>
    if 0xd00_0000 ≤ a ∧ a < 0xd00_0100 then BitVec.ofNat 64 (beNat ((s.statusPage.drop (a - 0xd00_0000)).take 8))
    else if a = 0xe00_0010 then s.courseWord
    else if 0xd20_0000 ≤ a ∧ a < 0xd2a_0000 ∧ a % 0x1000 < 0x200 then
      s.tokenWord ((a - 0xd20_0000) / 0x1000) (a % 0x1000 / 8)
    else s.tableWord a

/-- An extent of control space: aligned and wholly inside (R592). -/
def inControl (a n : Nat) : Bool := decide (a % 8 = 0) && decide (controlBase ≤ a) && decide (a + 8 * n ≤ controlBase + 2 ^ 32)

/-- Words `i` to `i + n - 1` of a `CS_READ`, as they stand. -/
def State.readWords (s : State) (c : CmdSlot) (i n : Nat) : List Byte :=
  (List.range n).flatMap (fun k => beBytes 8 (s.readWord (c.arg 0 8 - controlBase + 8 * (i + k))).toNat)

/-- What a `CS_READ` of up to 64 words, or one that is refused, does in its stitch. -/
def csReadDone (t : State) (c : CmdSlot) : Done :=
  let n := c.arg 8 2 + 1
  if 2048 < n then Done.refuse t stBadParam
  else if inControl (c.arg 0 8) n then Done.ok t (t.readWords c 0 n)
  else Done.refuse t stAddress

/-- A `CS_READ` that takes more than one stitch: 65 to 2,048 words. -/
def CmdSlot.longRead (c : CmdSlot) : Bool :=
  decide (c.opcode.toNat = 0x10) && decide (c.body.length = 10) && decide (64 ≤ c.arg 8 2) && decide (c.arg 8 2 < 2048) &&
    inControl (c.arg 0 8) (c.arg 8 2 + 1)

/-- `CS_READ`: 64 words in its stitch, and 64 in each that follows (R592). -/
def execCsRead (s : State) : Host.Outcome State Fault Refusal :=
  match s.cmd.queue with
  | [] => .next s
  | c :: rest =>
    if c.longRead then act s s.interprets
      (let t := { s with cmd := { s.cmd with queue := rest } }
       { t with cmd := { t.cmd with reading := some ⟨c, t.readWords c 0 64⟩ } })
    else runCommand 0x10 (sized 10 csReadDone) s

/-- A stitch of a `CS_READ` that goes on; the last sends its reply. -/
def State.readOn (s : State) : State :=
  match s.cmd.reading with
  | none => s
  | some r =>
    let i := r.words.length / 8
    let n := r.cmd.arg 8 2 + 1
    let ws := r.words ++ s.readWords r.cmd i (min 64 (n - i))
    let t := { s with cmd := { s.cmd with reading := none } }
    if n ≤ i + 64 then t.replied s r.cmd stOk ws
    else { s with cmd := { s.cmd with reading := some { r with words := ws } } }

/-! ### Logs and fault signature records (R482, R486–R488, R591) -/

/-- The entries of a log with `n` numbers from `first` on, those overwritten skipped (R714, assumption 144). -/
def State.logEntries (s : State) (l first n : Nat) : List LogEntry :=
  let next := (s.reg (Reg.snLogNext l)).toNat
  let lo := max first (next - 4096)
  (List.range (min (first + n) next - lo)).filterMap (fun i => SMap.get none s.sn.logs (logKey l ((lo + i) % 4096)))

/-- `LOG_READ`. -/
def execLogRead (s : State) : Host.Outcome State Fault Refusal :=
  runCommand 0x60 (sized 11 fun t c =>
    if 4 < c.arg 0 1 ∨ c.arg 9 2 = 0 ∨ 4096 < c.arg 9 2 then Done.refuse t stBadParam
    else Done.ok t ((t.logEntries (c.arg 0 1) (c.arg 1 8) (c.arg 9 2)).flatMap logBytes)) s

/-- A signed integer in CBOR. -/
def cborInt (i : Int) : List Byte := if 0 ≤ i then cborUint i.toNat else cborHead 1 (-i - 1).toNat

/-- The payload of a fault signature record (R487): keys 15 and 16 where the record has them. -/
def fsrPayload (r : Fsr) : List Byte :=
  let pairs : List (Nat × List Byte) := [
    (1, cborUint 1), (2, cborBytes (keyDigest identityKey)), (3, cborBytes (beBytes 8 r.nonce.toNat)), (4, cborUint r.number),
    (5, cborUint r.course.toNat), (6, cborUint r.step.toNat), (7, cborUint r.kind), (8, cborUint r.cls),
    (9, cborUint r.unit_.toNat), (10, cborUint r.operation.toNat), (11, cborBytes (beBytes 8 r.syndrome.toNat)),
    (12, cborInt (signedOf 16 r.temp.toNat)), (13, cborUint r.voltage.toNat), (14, cborUint Config.firmwareVersion.toNat)] ++
    (if r.kind = 4 then [(15, cborHead 5 r.counts.length ++ r.counts.flatMap (fun e => cborUint e.1 ++ cborUint e.2))] else []) ++
    (if r.detail = [] then [] else [(16, cborBytes r.detail)]) ++
    [(17, cborUint r.tag.toNat)]
  cborHead 5 pairs.length ++ pairs.flatMap (fun p => cborUint p.1 ++ p.2)

/-- A record with its signature (R486). -/
def fsrBytes (r : Fsr) : List Byte :=
  let p := fsrPayload r
  cborArray [cborBytes p, cborBytes (fitTo 114 (Config.ed448Sign faultSeed (ascii "MDN-SV1 FSR") p))]

/-- `FSR_READ`. -/
def execFsrRead (s : State) : Host.Outcome State Fault Refusal :=
  runCommand 0x61 (sized 2 fun t c =>
    if c.arg 0 2 = 0 ∨ 1024 < c.arg 0 2 then Done.refuse t stBadParam
    else Done.ok t ((t.sn.fsr.take (c.arg 0 2)).flatMap (fun r => beBytes 2 (fsrBytes r).length ++ fsrBytes r))) s

/-- `FSR_FREE` (R488). -/
def execFsrFree (s : State) : Host.Outcome State Fault Refusal :=
  runCommand 0x62 (sized 2 fun t c =>
    let u := { t with sn := { t.sn with fsr := t.sn.fsr.drop (c.arg 0 2) } }
    Done.ok (u.setFld Reg.snConfig Fld.snConfigFsrCount u.sn.fsr.length) []) s

end Sys2Proof.Machine
end

