-- ==== Sys2Proof/Machine/Enable.lean ====
section
/-! DEFINITION. What lifelines ask before they are enabled: the regions, the base area and the exchange of
failure-domain tags (R410, R413, R414, R416, R437-R439, R284). -/

namespace Sys2Proof.Machine

/-- A region of `LE_CONFIG` is a valid region of its use and long enough (R416). -/
def State.leRegionOk (s : State) (f : BitField) (use pages : Nat) : Bool :=
  let r := s.leRegion f
  s.flag (Reg.dtRegionA r) Fld.dtRegionAValid && decide (s.useOf r = use) && decide (pages * pageBytes ≤ s.regionBytes r)

/-- A valid protected extent: first byte and bytes, both buffers of a pair (R410). -/
def State.leExtent (s : State) (n : Nat) : Option (Nat × Nat) :=
  let a := Reg.leExtent n
  if s.flag a Fld.leExtentValid then
    some (s.fld a Fld.leExtentAddr * pageBytes, (s.fld a Fld.leExtentLenM1 + 1) * pageBytes * (if s.flag a Fld.leExtentPair then 2 else 1))
  else none

/-- The HBM base area overlaps a protected extent (R416). -/
def State.baseOverlaps (s : State) : Bool :=
  (List.range 32).any (fun n => match s.leExtent n with
    | none => false
    | some (a, len) => overlap s.hbmBaseArea (s.basePages * pageBytes) a len)

/-- One of the device's own tags is 0 (R438, R439). -/
def State.tagMissing (s : State) : Bool :=
  s.fld Reg.leDomain Fld.leDomainTray = 0 || s.fld Reg.leDomain Fld.leDomainShelf = 0 ||
    s.fld Reg.leDomain Fld.leDomainLoop = 0 || s.fld Reg.leDomain Fld.leDomainSwitch = 0

/-- The group's k is below `K`, or no group is loaded (R439, assumption 147). -/
def State.groupTooSmall (s : State) : Bool :=
  !s.flag Reg.leGroup Fld.leGroupValid || decide (s.groupSize - 2 < s.fld Reg.leConfig Fld.leConfigK)

/-- `REFUSE` of an `ENABLE` that fails before any tag is exchanged, 0 where none does. An own tag of 0 has no
code of its own: one of the two of a conflict, a free value (assumption 145). -/
def State.enableFault (s : State) : Nat :=
  let p := s.basePages
  let slot := s.slotPages
  if !s.leRegionOk Fld.leConfigSkein useSkein (1 + 2 * slot) || !s.leRegionOk Fld.leConfigBuddy useBuddy (1 + p + 2 * slot) ||
      !s.leRegionOk Fld.leConfigParity useParity (1 + 4 * s.fragmentPages) then 1
  else if s.baseOverlaps then 2
  else if s.tagMissing then 3 + s.freeNow.toNat % 2
  else if s.groupTooSmall then 6
  else 0

/-- Whom an exchange asks: every member of the group but the device itself, present or not, and the partner of its data axis,
for which 16 stands (R439). -/
def State.tagPeers (s : State) : List Nat :=
  (List.range 16).filter (fun n => s.flag (Reg.leMember n) Fld.leMemberValid && decide (n ≠ s.fld Reg.leGroup Fld.leGroupIndex)) ++
    (if s.job.loaded && decide (2 ≤ (s.axis 0).extent) then [16] else [])

/-- Logical coordinate of a group member, or of the partner. -/
def State.leCoord (s : State) (n : Nat) : BitVec 15 :=
  if n = 16 then s.partner else BitVec.ofNat 15 (s.fld (Reg.leMember n) Fld.leMemberLogical)

/-- A `DOMAIN_TAGS` message of this device (R284). -/
def State.tagsMessage (s : State) (kind : Nat) : List Byte :=
  beBytes 1 0x24 ++ beBytes 2 (s.fld Reg.leGroup Fld.leGroupId) ++ beBytes 1 (s.fld Reg.leGroup Fld.leGroupIndex) ++ beBytes 1 kind ++
    beBytes 8 (s.reg Reg.leDomain).toNat ++ zeroBytes 3

/-- A message to the lifeline engine at a logical coordinate. -/
def State.sendLe (s : State) (to_ : BitVec 15) (payload : List Byte) : State := s.sendCtrl to_ epLifeline epLifeline payload

/-- Lifelines become enabled. -/
def State.enabledNow (s : State) : State :=
  let t := { s with le := { s.le with exchange := none } }
  (t.setFld Reg.leConfig Fld.leConfigEnable 1).setFld Reg.leStatus Fld.leStatusRefuse 0

/-- The exchange of tags begins; with nobody to ask it is over. -/
def State.beginExchange (s : State) : State :=
  let ps := s.tagPeers
  if ps = [] then s.enabledNow
  else
    let t := ps.foldl (fun u n => u.sendLe (u.leCoord n) (u.tagsMessage (if n = 16 then 1 else 0))) s
    { t with le := { t.le with exchange := some ⟨t.course, ps.foldl (fun m n => NatSet.put m n true) []⟩ } }

/-- An exchange ends in a refusal (R439). -/
def State.refuseEnable (s : State) (code : Nat) : State :=
  let t := { s with le := { s.le with exchange := none } }
  (t.setFld Reg.leConfig Fld.leConfigEnable 0).setFld Reg.leStatus Fld.leStatusRefuse code

/-- Fields of a `DOMAIN_TAGS` message: group, sender's index, kind and the four tags. -/
def tagsGroup (b : List Byte) : Nat := beNat ((b.drop 1).take 2)
/-- The sender's `INDEX`. -/
def tagsIndex (b : List Byte) : Nat := beNat ((b.drop 3).take 1)
/-- Its kind. -/
def tagsKind (b : List Byte) : Nat := beNat ((b.drop 4).take 1)
/-- The tags, `TRAY` first. -/
def tagsWord (b : List Byte) : Word := BitVec.ofNat 64 (beNat ((b.drop 5).take 8))

/-- Two devices share a tag at a level. -/
def tagsConflict (a b : Word) : Bool :=
  (List.range 4).any (fun k => decide (bitsOf a (16 * k + 15) (16 * k) = bitsOf b (16 * k + 15) (16 * k)))

/-- Who sent a `DOMAIN_TAGS` message, as an exchange numbers it. -/
def tagsPeer (b : List Byte) : Nat := if tagsKind b = 1 then 16 else tagsIndex b

/-- Tags arrive: awaited, they are compared with the device's own; not awaited, they are answered (R284, assumption 146). -/
def State.takeTags (s : State) (p : Packet) : State :=
  let b := p.payload
  let n := tagsPeer b
  match s.le.exchange with
  | none => s.sendReliable (s.packetTo tyCtrl tcCT (p.src, p.srcSide) epLifeline epLifeline 0 0 (s.tagsMessage (tagsKind b))) .literal .none none none
  | some e =>
    if NatSet.has e.awaiting n && (decide (n = 16) || decide (tagsGroup b = s.fld Reg.leGroup Fld.leGroupId)) then
      if tagsConflict (tagsWord b) (s.reg Reg.leDomain) then s.refuseEnable (if n = 16 then 4 else 3)
      else
        let left := NatSet.put e.awaiting n false
        if left = [] then s.enabledNow else { s with le := { s.le with exchange := some { e with awaiting := left } } }
    else s.sendReliable (s.packetTo tyCtrl tcCT (p.src, p.srcSide) epLifeline epLifeline 0 0 (s.tagsMessage (tagsKind b))) .literal .none none none

/-- `DOMAIN_TAGS` (R439). -/
def execDomainTags (s : State) : Host.Outcome State Fault Refusal :=
  match s.takeCtrl epLifeline 0x24 with
  | none => .next s
  | some (_, p, t) => act s (s.running && s.epOpen epLifeline) (t.accept p false (fun u => u.takeTags p))

/-- `TAG_EXCHANGE_TIMEOUT` (R439): a member is silent for 4,096 courses. -/
def execTagExchangeTimeout (s : State) : Host.Outcome State Fault Refusal :=
  match s.le.exchange with
  | none => .next s
  | some e => act s (s.running && decide (4096 ≤ coursesSince s.course e.since)) (s.refuseEnable 5)

end Sys2Proof.Machine
end

