-- ==== Sys2Proof/Machine/Writes.lean ====
section
/-! DEFINITION. Host writes of the control space (R10, R69, R263, R264, R296, R372-R374, R383, R416, R437-R439, R473,
R509, R574, R593, R628-R630, R635, R693, R700, R703, R705, R708, R711, R713, R718). -/

namespace Sys2Proof.Machine

/-- What the rules say of a write to a register: those of R10 alone, or the rules of one of the registers that have
rules of their own. -/
inductive WriteKind
  | generic | protected_ | alias_ | region | keeper | enable | domain | window | ipv6 | scrub | event | context | thermal | suspect
  deriving DecidableEq, Repr

/-- The kind of the register at an offset. -/
def writeKind (a : Nat) : WriteKind :=
  let g := a % 0x1000
  if protectedReg a then .protected_
  else if Reg.prAlias 0 ≤ a ∧ a ≤ Reg.prAlias 15 then .alias_
  else if Reg.dtRegionA 0 ≤ a ∧ a ≤ Reg.dtRegionC 15 then .region
  else if a = Reg.skConfig then .keeper
  else if a = Reg.leConfig then .enable
  else if a = Reg.leDomain then .domain
  else if Reg.hpWindowA 0 ≤ a ∧ a ≤ Reg.hpWindowB 31 then .window
  else if a = Reg.hpIpv6Hi ∨ a = Reg.hpIpv6Lo then .ipv6
  else if a = Reg.scrubHours then .scrub
  else if Reg.tbPeventA 0 0 ≤ a ∧ a ≤ Reg.tbFeventB 63 then .event
  else if (Reg.guRecords 0 ≤ a ∧ a ≤ Reg.guRecords 15 ∧ g = 0) ∨ (Reg.cpSpecs 0 ≤ a ∧ a ≤ Reg.cpLayers 15 ∧ g ≤ 8) ∨
      (Reg.ceQueue 0 ≤ a ∧ a ≤ Reg.ceQueue 15 ∧ g = 0) then .context
  else if a = Reg.pmConfig then .thermal
  else if Reg.snSuspect 0 ≤ a ∧ a ≤ Reg.snSuspect 31 then .suspect
  else .generic

/-! ### R10 -/

/-- The word that a write leaves: RW fields as written, W1C bits cleared where 1 is written. -/
def RegRow.merge (r : RegRow) (old v : Word) : Word :=
  (old &&& ~~~(BitVec.ofNat 64 r.rw) &&& ~~~(BitVec.ofNat 64 r.w1c &&& v)) ||| (v &&& BitVec.ofNat 64 r.rw)

/-- The stored word that a write of `v` at an offset leaves. -/
def State.merged (s : State) (a : Nat) (v : Word) : Word :=
  match regRow a with
  | none => s.reg a
  | some r => r.merge (s.reg a) v

/-- A write of this stitch as the W1C bits of a register take it: a bit that the device has set in this stitch is set after the
write, and survives it (R587, assumption 249). -/
def State.w1cMask (s : State) (a : Nat) (v : Word) : Word := v &&& SMap.get 0 s.cmd.stitchRegs a

/-- The word that a write leaves, with what this stitch has set kept. -/
def State.mergeNow (s : State) (a : Nat) (r : RegRow) (v : Word) : Word :=
  r.merge (s.reg a) ((v &&& ~~~BitVec.ofNat 64 r.w1c) ||| (s.w1cMask a v &&& BitVec.ofNat 64 r.w1c))

/-- A write by R10 alone. In a domain in reset the RW fields are written and a 1 in a W1C bit does nothing (R703).
Outcome 1 where nothing of the register can be written. -/
def State.writePlain (s : State) (a : Nat) (v : Word) : State × Nat :=
  match regRow a with
  | none => (s, 1)
  | some r =>
    if r.rw = 0 ∧ r.w1c = 0 then (s, 1)
    else if s.regInReset a ∧ v &&& BitVec.ofNat 64 r.w1c ≠ 0 then
      (s.setReg a ({ r with w1c := 0 }.merge (s.reg a) v), 1)
    else (s.setReg a (s.mergeNow a r v), 0)

/-- A request of `RV_RESET` (R509, assumption 140): the domains it names at a level. -/
def resetDomains (s : State) (level dom : Nat) : List Nat :=
  let ps := (List.range 4).filter (fun p => bitOf (BitVec.ofNat 5 dom) p)
  let fabric := bitOf (BitVec.ofNat 5 dom) 4
  if level = 0 then ps.flatMap (fun p => ((List.range 4).filter (fun k => s.ctxState (4 * p + k) ≠ ctxFree)).map (fun k => domContext (4 * p + k)))
  else if level = 1 then ps.flatMap (fun p => (List.range 40).map (fun i => domCore (40 * p + i))) ++
    (if fabric then [domCollective, domStepKeeper, domLifeline] else [])
  else if level = 2 then ps
  else if level = 3 then (if fabric then [domFabric] else [])
  else if level = 4 then [domChip]
  else []

/-- A write of `RV_RESET`: its fields act on the value written; a level above 4 is refused. -/
def State.writeReset (s : State) (v : Word) : State × Nat :=
  let level := bitsOf v 7 5
  let ds := resetDomains s level (bitsOf v 4 0)
  if 4 < level then (s, 1) else (ds.foldl (fun t d => t.dueReset level d 0x0B) s, 0)

/-- A write of `CTX_FAULT`: a 1 in `VALID` clears the whole record (R708). -/
def State.writeCtxFault (s : State) (a : Nat) (v : Word) : State × Nat :=
  if Fld.ctxFaultValid.get v = 0 then (s, 0)
  else if s.regInReset a then (s, 1)
  else if Fld.ctxFaultValid.get (s.w1cMask a v) = 0 then (s, 0)
  else (s.setReg a 0, 0)

/-- A write of a member of the skein group: it is present unless it was removed (R437, R447). -/
def State.writeMember (s : State) (a : Nat) (v : Word) : State × Nat :=
  let n := (a - Reg.leMember 0) / 8
  let t := s.setReg a (s.merged a v)
  let here := t.flag a Fld.leMemberValid && !t.memberRemoved t.ce.removed n
  ((t.setFld a Fld.leMemberPresent (bit here)).showPresent, 0)

/-- A write of a register without a row of its own in the opcode table. One of `GU_STEP` in the stitch of its step's start loses to the
event (R710). -/
def State.writeGeneric (s : State) (a : Nat) (v : Word) : State × Nat :=
  if a = Reg.rvReset then s.writeReset v
  else if Reg.ctxFault 0 ≤ a ∧ a ≤ Reg.ctxFault 15 ∧ a % 0x1000 = 8 then s.writeCtxFault a v
  else if Reg.leMember 0 ≤ a ∧ a ≤ Reg.leMember 15 then s.writeMember a v
  else if s.cmd.stepsWritten.contains a then (s, 0)
  else if a = Reg.leGroup then ((s.writePlain a v).1.checkGroupK.showPresent, 0)
  else s.writePlain a v

/-! ### Registers with rules of their own -/

/-- `PR_ALIAS[n]`: `VALID` is not set on a second entry for a logical coordinate (R296). -/
def State.writeAlias (s : State) (a : Nat) (v : Word) : State × Nat :=
  let t := s.setReg a (s.merged a v)
  let twice := (List.range 16).any (fun n => decide (Reg.prAlias n ≠ a) && t.flag (Reg.prAlias n) Fld.prAliasValid &&
    decide (t.fld (Reg.prAlias n) Fld.prAliasLogical = t.fld a Fld.prAliasLogical))
  if t.flag a Fld.prAliasValid ∧ twice then (t.setFld a Fld.prAliasValid 0, 1) else (t, 0)

/-- The tier regions are closed to writes (R264, assumption 148). -/
def State.regionsHeld (s : State) : Bool :=
  decide (s.heldEntries ≠ []) || decide (s.le.cuts ≠ []) || s.le.fold.isSome || s.le.restore.isSome

/-- 64 KiB units of the valid regions of a partition with `DIRTY` = 1 (R254, R263). -/
def State.trackedUnits (s : State) (p : Nat) : Nat :=
  (List.range 16).foldl (fun v n =>
    if s.flag (Reg.dtRegionA n) Fld.dtRegionAValid && s.flag (Reg.dtRegionA n) Fld.dtRegionADirty && decide (partitionOf (s.regionBase n) = p) then
      v + s.fld (Reg.dtRegionB n) Fld.dtRegionBSize
    else v) 0

/-- The conditions of R263 on region n, and that of R629 on its key. -/
def State.regionFits (s : State) (n : Nat) : Bool :=
  let a := Reg.dtRegionA n
  let lo := s.regionBase n
  let p := partitionOf lo
  let use := s.useOf n
  let valid (k : Nat) : Bool := s.flag (Reg.dtRegionA k) Fld.dtRegionAValid
  inTier lo && decide (lo + s.regionBytes n ≤ tierBase p + s.fld (Reg.dtPop p) Fld.dtPopSize * 0x1_0000) &&
    (List.range 16).all (fun k => decide (k = n) || !valid k || !overlap lo (s.regionBytes n) (s.regionBase k) (s.regionBytes k)) &&
    decide (use ≠ 7) && (s.flag a Fld.dtRegionAKeySel || (decide (use = useGeneral) && s.flag Reg.rtEncrypt Fld.rtEncryptPlainGeneral)) &&
    (!s.flag a Fld.dtRegionADirty || (decide (use = useOffload) && decide (s.trackedUnits p ≤ 0x40_0000))) &&
    (decide (use ≠ useJournal) || (List.range 16).all (fun k => decide (k = n) || !valid k || decide (s.useOf k ≠ useJournal)))

/-- A refused write of a region's registers. -/
def State.regionRefused (s : State) : State × Nat := (s.count Reg.dtRegionRefused 1, 1)

/-- A write of a region's registers (R263, R264); a rebuild of the step keeper that waits for its region goes on (R394). -/
def State.writeRegion (s : State) (a : Nat) (v : Word) : State × Nat :=
  let n := (a - Reg.dtRegionA 0) / 24
  let t := s.setReg a (s.merged a v)
  let was := s.flag (Reg.dtRegionA n) Fld.dtRegionAValid
  let is := t.flag (Reg.dtRegionA n) Fld.dtRegionAValid
  let keyed := decide (s.reg (Reg.dtRegionC n) ≠ t.reg (Reg.dtRegionC n)) ||
    decide (s.fld (Reg.dtRegionA n) Fld.dtRegionAKeyId ≠ t.fld (Reg.dtRegionA n) Fld.dtRegionAKeyId)
  if s.regionsHeld then s.regionRefused
  else if is ∧ (t.regionFits n = false ∨ (was ∧ keyed)) then s.regionRefused
  else (t.resumeEngines, 0)

/-- A step is armed or a journal slot held, an own one or a partner's copy (R383). -/
def State.slotsHeld (s : State) : Bool := decide (s.heldEntries ≠ []) || decide (s.sk.copies ≠ [])

/-- `SK_CONFIG` (R383, R394). -/
def State.writeKeeper (s : State) (a : Nat) (v : Word) : State × Nat :=
  if s.slotsHeld then s.regionRefused else ((s.setReg a (s.merged a v)).resumeEngines, 0)

/-- `LE_CONFIG`: setting `ENABLE` begins with the tests of R416 and R439. -/
def State.writeEnable (s : State) (a : Nat) (v : Word) : State × Nat :=
  let was := s.flag Reg.leConfig Fld.leConfigEnable
  let want := Fld.leConfigEnable.get v = 1
  let t := (s.setReg a (s.merged a v)).setFld a Fld.leConfigEnable (bit (was && decide want))
  if was ∨ ¬want then (if want then t else { t with le := { t.le with exchange := none } }, 0)
  else if t.enableFault ≠ 0 then ((t.refuseEnable t.enableFault).drawn, 1)
  else (t.beginExchange, 0)

/-- `LE_DOMAIN` (R438). -/
def State.writeDomain (s : State) (a : Nat) (v : Word) : State × Nat :=
  if s.flag Reg.leConfig Fld.leConfigEnable then (s, 1) else s.writePlain a v

/-- A window is or becomes closed in a `CS_WRITE` of some pairs: it is not valid, or a pair clears its `VALID` (R574). -/
def State.windowShut (s : State) (ps : List (Nat × Word)) (n : Nat) : Bool :=
  !s.flag (Reg.hpWindowA n) Fld.hpWindowAValid ||
    ps.any (fun p => decide (p.1 = Reg.hpWindowA n) && decide (Fld.hpWindowAValid.get p.2 = 0))

/-- A window opens: a new remote key is drawn (R573, R574). -/
def State.openWindow (s : State) (n : Nat) : State :=
  (s.drawn).setFld (Reg.hpWindowB n) Fld.hpWindowBRkey (n * 2 ^ 27 + s.freeNow.toNat % 2 ^ 27)

/-- `HP_WINDOW_A[n]` and `HP_WINDOW_B[n]` (R574, assumption 149). -/
def State.writeWindow (s : State) (ps : List (Nat × Word)) (a : Nat) (v : Word) : State × Nat :=
  let n := (a - Reg.hpWindowA 0) / 16
  let t := s.setReg a (s.merged a v)
  if a = Reg.hpWindowB n then
    if t.reg a = s.reg a ∨ s.windowShut ps n then (t, 0) else (s, 1)
  else if Fld.hpWindowAValid.get v = 0 then (t, 0)
  else if Fld.hpWindowAValid.put (t.reg a) 0 ≠ Fld.hpWindowAValid.put (s.reg a) 0 then (s, 1)
  else if s.flag a Fld.hpWindowAValid then (t, 0)
  else (t.openWindow n, 0)

/-- `SCRUB_HOURS` (R711). -/
def State.writeScrub (s : State) (a : Nat) (v : Word) : State × Nat :=
  let h := Fld.scrubHoursHours.get v
  if h = 0 ∨ 168 < h then (s, 1) else s.writePlain a v

/-- The table and the entry of an event register. -/
def eventOf (a : Nat) : Nat × Nat :=
  if a < Reg.tbFeventA 0 then ((a - Reg.tbPeventA 0 0) / 0x800, (a - Reg.tbPeventA 0 0) % 0x800 / 16) else (4, (a - Reg.tbFeventA 0) / 16)

/-- An arming by `CS_WRITE` (R373, R374, R468, R469, R718): the host's actions only, a window
that its table admits, a stitch that exists, 17 courses ahead. -/
def State.armingTest (s : State) (t n : Nat) (v : Word) : State × Bool :=
  let course : Course := BitVec.ofNat 48 (Fld.tbPeventACourse.get v)
  let stitch := Fld.tbPeventAStitch.get v
  let action := s.evAction t n
  if action = actResetRelease ∨ action = actLifelineCut ∨ action = actStepStart then (s, false)
  else if !actionAdmitted t action ∨ (action = actSwatchWindow ∧ windowAdmitted t (s.evParam t n) = false) then (s, false)
  else if 2560 ≤ stitch ∨ s.farEnough course stitch = false then (s.count Reg.tbLateWrites 1, false)
  else (s, true)

/-- An event table entry: an armed one can only be disarmed. -/
def State.writeEvent (s : State) (a : Nat) (v : Word) : State × Nat :=
  let (t, n) := eventOf a
  let first := decide (a = evA t n)
  if s.evArmed t n then
    if first ∧ Fld.tbPeventAArmed.get v = 0 then (if s.evDue t n then s else s.disarm t n, 0) else (s, 1)
  else if first ∧ Fld.tbPeventAArmed.get v = 1 ∧ SMap.get none s.sk.reserved t = some n then (s, 1)
  else if first ∧ Fld.tbPeventAArmed.get v = 1 then
    match s.armingTest t n v with
    | (u, true) => u.writePlain a v
    | (u, false) => (u, 1)
  else s.writePlain a v

/-- `GU_RECORDS`, `CP_SPECS`, `CP_LAYERS` and `CE_QUEUE.BASE` of a READY context (R705). -/
def State.writeContext (s : State) (a : Nat) (v : Word) : State × Nat :=
  let x := (a % 0x100_0000 - 0x1_0000) / 0x1000
  if s.ctxState x ≠ ctxReady then s.writePlain a v
  else if a = Reg.ceQueue x then
    (s.setFld a Fld.ceQueueTail (Fld.ceQueueTail.get v), bit (Fld.ceQueueBase.get v ≠ s.fld a Fld.ceQueueBase))
  else (s, 1)

/-- `PM_CONFIG.TJ_THROTTLE` (R693). -/
def State.writeThermal (s : State) (a : Nat) (v : Word) : State × Nat :=
  let c := Fld.pmConfigTjThrottle.get v
  if c < 85 ∨ 100 < c then (s, 1) else s.writePlain a v

/-- `SN_SUSPECT[n]`: a 1 in `VALID` removes the entry (R473). -/
def State.writeSuspect (s : State) (a : Nat) (v : Word) : State × Nat :=
  let n := (a - Reg.snSuspect 0) / 8
  if Fld.snSuspectValid.get (s.w1cMask a v) = 1 ∧ s.suspectValid n then (s.removeSuspect n, 0) else (s, 0)

/-! ### Protected registers (R628–R630, R635) -/

/-- The flash copy of the protection block: the block and its tag (assumption 117). -/
def State.protectionCopy (s : State) : List Byte :=
  let b := s.protectionBlock
  b ++ shake 32 (derive Config.deviceSecret "PROTECT" 32 [] ++ b)

/-- A flash device takes a new block into the slot that does not hold the old one (R644). -/
def withBlock (f : Flash) (old new : List Byte) : Flash :=
  if f.slot0.take 704 = old then { f with slot1 := new } else { f with slot0 := new }

/-- Every GENERAL region under the ephemeral key ceases to be valid (R629). -/
def State.closePlain (s : State) : State :=
  (List.range 16).foldl (fun t n =>
    if s.useOf n = useGeneral ∧ ¬s.flag (Reg.dtRegionA n) Fld.dtRegionAKeySel then t.setFld (Reg.dtRegionA n) Fld.dtRegionAValid 0 else t) s

/-- Applies one protected value (R629). -/
def State.applyProtected (s : State) (a : Nat) (v : Word) : State × Nat :=
  if a = Reg.rtFloor then
    let f := s.floors
    let base := Fld.rtFloorBase.get v
    let over_ := Fld.rtFloorOverlay.get v
    if base < Fld.rtFloorBase.get f ∨ over_ < Fld.rtFloorOverlay.get f ∨ imgSvn (s.co.image.getD []) < base then (s, 1)
    else ({ s with rt := { s.rt with floorFuses := some (BitVec.ofNat 64 (base * 2 ^ 32 + over_)) } }, 0)
  else if a = Reg.rtIsolation then (s.setReg a (s.merged a (v ||| 0x8421)), 0)
  else if a = Reg.rtEncrypt then
    let t := s.setReg a (s.merged a v)
    (if t.flag a Fld.rtEncryptPlainGeneral then t else t.closePlain, 0)
  else if a = Reg.rtDebug then
    let t := if Fld.rtDebugLevel.get v = 1 then s.eraseJobKeys.redrawProvisioning else s
    (t.setReg a (t.merged a v), 0)
  else (s.setReg a (s.merged a v), 0)

/-- A grant has been applied: the block goes to both flash devices, backup first, a fuse is burnt, the approval
nonce redrawn and the grant gone (R630, R635). -/
def State.sealGrant (s before : State) : State :=
  let old := before.protectionCopy
  let t := { s with rt := { s.rt with fuses := s.rt.fuses + 1, grant := none } }
  let new := t.protectionCopy
  let u := { t with co := { t.co with flash1 := withBlock t.co.flash1 old new, flash0 := withBlock t.co.flash0 old new } }
  (u.redrawNonce.measure).count Reg.rtApprovals 1

/-! ### `CS_WRITE` (R593) -/

/-- One pair of a `CS_WRITE` whose pairs are `ps`; `granted` tells whether the protected ones have their grant. -/
def State.writePair (s : State) (granted : Bool) (ps : List (Nat × Word)) (a : Nat) (v : Word) : State × Nat :=
  match writeKind a with
  | .generic => s.writeGeneric a v
  | .protected_ => if granted then s.applyProtected a v else (s, 2)
  | .alias_ => s.writeAlias a v
  | .region => s.writeRegion a v
  | .keeper => s.writeKeeper a v
  | .enable => s.writeEnable a v
  | .domain => s.writeDomain a v
  | .window => s.writeWindow ps a v
  | .ipv6 => s.writePlain a v
  | .scrub => s.writeScrub a v
  | .event => s.writeEvent a v
  | .context => s.writeContext a v
  | .thermal => s.writeThermal a v
  | .suspect => s.writeSuspect a v

/-- The pairs of a body: offset and value. -/
def CmdSlot.pairs (c : CmdSlot) : List (Nat × Word) :=
  (List.range (c.arg 0 1 + 1)).map (fun i => (c.arg (1 + 16 * i) 8 - controlBase, BitVec.ofNat 64 (c.arg (9 + 16 * i) 8)))

/-- Every address of a body is an aligned one of control space. -/
def CmdSlot.pairsInside (c : CmdSlot) : Bool := (List.range (c.arg 0 1 + 1)).all (fun i => inControl (c.arg (1 + 16 * i) 8) 1)

/-- The protected pairs of a `CS_WRITE` have a grant that equals them (R635). -/
def State.grantCovers (s : State) (ps : List (Nat × Word)) : Bool :=
  match s.rt.grant with
  | none => false
  | some g => decide (coursesSince s.course g.at_ < 65536) && decide (g.pairs = ps.filter (fun p => protectedReg p.1)) && decide (g.pairs ≠ [])

/-- All pairs in their order, with their outcomes. -/
def State.writePairs (s : State) (granted : Bool) (all : List (Nat × Word)) : List (Nat × Word) → State × List Nat
  | [] => (s, [])
  | (a, v) :: rest =>
    let (t, o) := s.writePair granted all a v
    let (u, os) := t.writePairs granted all rest
    (u, o :: os)

/-- The whole of a `CS_WRITE`. -/
def State.csWrite (s : State) (ps : List (Nat × Word)) : State × List Nat :=
  let granted := s.grantCovers ps
  let (t, os) := s.writePairs granted ps ps
  let u := if t.ipv6 = s.ipv6 then t else t.detectGlobal
  (if granted then u.sealGrant s else u, os)

/-- What a `CS_WRITE` command does. -/
def csWriteDone (s : State) (c : CmdSlot) : Done :=
  if 64 ≤ c.arg 0 1 ∨ c.body.length ≠ 1 + 16 * (c.arg 0 1 + 1) then Done.refuse s stBadParam
  else if c.pairsInside then
    let (t, os) := s.csWrite c.pairs
    Done.ok t (os.map (fun o => BitVec.ofNat 8 o))
  else Done.refuse s stAddress

/-- The roots of trust agree on a `CS_WRITE`: they are asked where it names a protected register (R607, R635). -/
def CmdSlot.writeAgreed (c : CmdSlot) : Bool := c.agree || c.pairs.all (fun p => !protectedReg p.1)

/-- `CS_WRITE`. -/
def execCsWrite (s : State) : Host.Outcome State Fault Refusal := runTrusted CmdSlot.writeAgreed 0x11 csWriteDone s

/-- The `CS_WRITE` first in the interpreter's order names registers of one kind only. -/
def State.writesOnly (s : State) (k : WriteKind) : Bool :=
  match s.cmd.queue with
  | [] => false
  | c :: _ => decide (c.opcode.toNat = 0x11) && c.pairs.all (fun p => decide (writeKind p.1 = k))

/-- A row of the opcode table for the writes of one kind: the `CS_WRITE` that holds only such pairs. -/
def kindRow (k : WriteKind) (s : State) : Host.Outcome State Fault Refusal := if s.writesOnly k then execCsWrite s else .next s

/-- `GENERIC_REGISTER_WRITE` (R10). -/
def execGenericRegisterWrite (s : State) : Host.Outcome State Fault Refusal := kindRow .generic s
/-- `PROTECTED_WRITE` (R635). -/
def execProtectedWrite (s : State) : Host.Outcome State Fault Refusal := kindRow .protected_ s
/-- `PR_ALIAS_WRITE` (R296). -/
def execPrAliasWrite (s : State) : Host.Outcome State Fault Refusal := kindRow .alias_ s
/-- `DT_REGION_WRITE` (R264). -/
def execDtRegionWrite (s : State) : Host.Outcome State Fault Refusal := kindRow .region s
/-- `SK_CONFIG_WRITE` (R383). -/
def execSkConfigWrite (s : State) : Host.Outcome State Fault Refusal := kindRow .keeper s
/-- `LIFELINE_ENABLE` (R439). -/
def execLifelineEnable (s : State) : Host.Outcome State Fault Refusal := kindRow .enable s
/-- `LE_DOMAIN_WRITE` (R438). -/
def execLeDomainWrite (s : State) : Host.Outcome State Fault Refusal := kindRow .domain s
/-- `HP_WINDOW_WRITE` (R574). -/
def execHpWindowWrite (s : State) : Host.Outcome State Fault Refusal := kindRow .window s
/-- `HP_IPV6_WRITE` (R713). -/
def execHpIpv6Write (s : State) : Host.Outcome State Fault Refusal := kindRow .ipv6 s
/-- `SCRUB_HOURS_WRITE` (R711). -/
def execScrubHoursWrite (s : State) : Host.Outcome State Fault Refusal := kindRow .scrub s
/-- `EVENT_ENTRY_ARM` (R718). -/
def execEventEntryArm (s : State) : Host.Outcome State Fault Refusal := kindRow .event s
/-- `CONTEXT_TABLE_WRITE` (R705). -/
def execContextTableWrite (s : State) : Host.Outcome State Fault Refusal := kindRow .context s
/-- `TJ_THROTTLE_WRITE` (R693). -/
def execTjThrottleWrite (s : State) : Host.Outcome State Fault Refusal := kindRow .thermal s
/-- `SUSPECT_REMOVE` (R473). -/
def execSuspectRemove (s : State) : Host.Outcome State Fault Refusal := kindRow .suspect s

end Sys2Proof.Machine
end

