-- ==== Sys2Proof/Machine/Steps.lean ====
section
/-! DEFINITION. The commands of the step keeper and the event tables: arming a step, replays, scheduling and
cancelling events (R373, R374, R392, R396-R398, R402-R405, R417, R530, R591, R594, R595, R602, R723). -/

namespace Sys2Proof.Machine

/-! ### Arming (R392, R594) -/

/-- Partitions whose table holds entries of the job: those that hold a job context. -/
def State.jobParts (s : State) : List Nat :=
  (List.range 4).filter (fun p => s.jobContexts.any (fun x => decide (ctxPartition x = p)))

/-- Step u has been decided on this device: a diagnosis of it, which sets its word to ARMED, arms no step of the job (R402, R596). -/
def State.decidedStep (s : State) (u : BitVec 32) : Bool :=
  match s.sk.decidedThrough with
  | none => false
  | some v => decide (u.toNat ≤ v.toNat)

/-- A held entry's step is armed and not yet decided or aborted (R347, R591, R596). -/
def State.stepOpen (s : State) (e : JournalEntry) : Bool :=
  let st := s.stepStateOf e.step
  decide (stepArmed ≤ st) && decide (st ≤ stepEnded) && !s.decidedStep e.step

/-- A step is armed. -/
def State.anyArmed (s : State) : Bool := s.heldEntries.any (fun e => s.stepOpen e)

/-- An extent lies wholly in one GENERAL region (R594). -/
def State.inOneGeneral (s : State) (a n : Nat) : Bool :=
  (List.range 16).any (fun r => s.regionOpen r && decide (s.useOf r = useGeneral) && decide (s.regionBase r ≤ a) &&
    decide (a + n ≤ s.regionBase r + s.regionBytes r))

/-- The status of R392 for a `STEP_ARM` of step u; `OK` where it accepts. -/
def State.armStatus (s : State) (u : BitVec 32) : Nat :=
  if s.journalUsable = false ∨ s.flag Reg.skStatus Fld.skStatusRebuilding then stSkNoRegion
  else if u = 0xFFFFFFFF then stSkStepLimit
  else if s.sk.reference.isSome ∧ s.sk.reference ≠ some (u - 1) then stSkOrder
  else if (SMap.get none s.sk.own (u.toNat % 8)).isSome ∨ 8 ≤ s.heldEntries.length then stSkFull
  else stOk

/-- The status of the tests of R594 in their order. -/
def State.stepArmStatus (s : State) (u : BitVec 32) (course : Course) (batch granules : Nat) : Nat :=
  if granules = 0 ∨ s.inOneGeneral batch (64 * granules) = false then stBadParam
  else if s.job.loaded = false ∨ (s.jobState ≠ jobRunning ∧ (s.jobState ≠ jobAborted ∨ s.sk.restored = false)) then stState
  else if s.armStatus u ≠ stOk then s.armStatus u
  else if s.farEnough course 0 = false then stTbLate
  else if s.jobParts.any (fun p => (s.freeEntry p).isNone) then stTbTableFull
  else stOk

/-- A new entry of a slot. -/
def freshEntry (u : BitVec 32) (course : Course) (batch granules : Nat) (seeds : List Byte) : JournalEntry where
  step := u
  startCourse := course
  batchAddr := batch
  batchGranules := granules
  seeds := seeds
  recorded := false
  localDone := false
  copyDone := false
  copyLeft := 0
  durable := false
  unmirrored := false
  refused := false
  replay := false
  started := false
  decided := false
  captured := []

/-- The word of a slot at an arm (R596). -/
def armedWord (u : BitVec 32) (replay unmirrored : Bool) : Word :=
  BitVec.ofNat 64 (u.toNat * 2 ^ 32 + stepArmed * 2 ^ 28 + bit replay * 2 ^ 5 + bit unmirrored)

/-- Arms a `STEP_START` in the lowest free entry of each partition that holds a job context. -/
def State.armStarts (s : State) (u : BitVec 32) (course : Course) : State :=
  s.jobParts.foldl (fun t p => match t.freeEntry p with
    | none => t
    | some n => t.armEntry p n actStepStart 0 u.toNat course 0) s

/-- An accepted `STEP_ARM`. The first after `JOB_LOAD` starts from the boundary before its step. -/
def State.armStep (s : State) (u : BitVec 32) (course : Course) (batch granules : Nat) (seeds : List Byte) : State :=
  let t := s.setEntry (u.toNat % 8) (some (freshEntry u course batch granules seeds))
  let b := if s.sk.reference.isNone then some (u - 1) else s.sk.boundary
  let w := { t with sk := { t.sk with reference := some u, boundary := b, restored := false } }
  let v := (w.setFld Reg.skStatus Fld.skStatusLastArmed u.toNat).setFld Reg.rvStatus Fld.rvStatusJobState jobRunning
  (v.setStepWord (u.toNat % 8) (armedWord u false false)).armStarts u course

/-- What a refusal counts: a full journal (R392), a late start (R374). -/
def State.countRefusal (s : State) (status : Nat) : State :=
  if status = stSkFull then s.count Reg.skRefusedFull 1 else if status = stTbLate then s.count Reg.tbLateWrites 1 else s

/-- `STEP_ARM` (R594). -/
def execStepArm (s : State) : Host.Outcome State Fault Refusal :=
  runCommand 0x30 (sized 88 fun t c =>
    let u := BitVec.ofNat 32 (c.arg 0 4)
    let course := c.arg 4 8
    let status := t.stepArmStatus u (BitVec.ofNat 48 course) (c.arg 12 8) (c.arg 20 4)
    if 2 ^ 48 ≤ course then Done.refuse t stBadParam
    else if status ≠ stOk then Done.refuse (t.countRefusal status) status
    else Done.ok (t.armStep u (BitVec.ofNat 48 course) (c.arg 12 8) (c.arg 20 4) (c.body.drop 24)) (beBytes 1 (u.toNat % 8))) s

/-! ### Records applied (R397, R403) -/

/-- Bytes of a context section (R386). -/
def sectionBytes64 (g l : Nat) : Nat := (0x20 + 64 * g + 16 * l + 63) / 64 * 64

/-- Writes a context section of the record of step u into the tables of context y, for the contexts that `to` maps;
what follows the sections is left. -/
def State.applySections (s : State) (u : BitVec 32) (to_ : Nat → Option Nat) : List Nat → List Byte → State × List Byte
  | [], b => (s, b)
  | x :: xs, b =>
    let g := leNat ((b.drop 0x10).take 4)
    let l := leNat ((b.drop 0x14).take 2)
    let rest := b.drop (sectionBytes64 g l)
    match to_ x with
    | none => s.applySections u to_ xs rest
    | some y =>
      let t := (s.store (s.fld (Reg.guRecords y) Fld.guRecordsBase * 64) ((b.drop 0x20).take (64 * g))).setReg
        (Reg.guLossScale y) (BitVec.ofNat 64 (leNat ((b.drop 8).take 8)))
      let w := (oneTo l).foldl (fun v i =>
        let e := layerEntryOf ((b.drop (0x20 + 64 * g + 16 * (i - 1))).take 16)
        v.evaluateInto y i u e e.capNext e.release) t
      w.applySections u to_ xs rest

/-- Writes the capture extents back to their addresses. -/
def State.applyExtents (s : State) : List (Nat × Nat × Nat) → List Byte → State
  | [], _ => s
  | (_, a, n) :: es, b => (s.storeExtent a (b.take n)).applyExtents es (b.drop n)

/-- The record of step u in a slot is applied to the contexts that `to` maps. -/
def State.applyRecord (s : State) (slot : Nat) (u : BitVec 32) (to_ : Nat → Option Nat) : State :=
  let b := s.slotRecord slot
  let mask := leNat ((b.drop 0x24).take 2)
  let (t, rest) := s.applySections u to_ ((List.range 16).filter (fun x => mask.testBit x)) (b.drop 0x1000)
  t.applyExtents (t.skExtents false) rest

/-! ### Recovery replay (R396–R398) -/

/-- The device stands at boundary u, or retains it beside the boundary after it (R26, R28). -/
def State.holdsBoundary (s : State) (u : BitVec 32) : Bool :=
  decide (s.sk.boundary = some u) || (decide (s.sk.boundary = some (u + 1)) && decide (s.sk.prevBoundary = some u))

/-- Cancels the armed `STEP_START` entries of some steps, and forgets those that have fired and wait. -/
def State.cancelStarts (s : State) (of : Nat → Bool) : State :=
  let t := (List.range 4).foldl (fun u p => (List.range 64).foldl (fun v n =>
    if v.evArmed p n && decide (v.evAction p n = actStepStart) && of (v.evParam p n) then v.disarm p n else v) u) s
  { t with tb := { t.tb with handed := t.tb.handed.filter (fun h => !(decide (h.action = actStepStart) && of h.param)) } }

/-- Discards the arms and entries of every step after s, and the partner copies of the same steps (R397). -/
def State.discardAfter (s : State) (u : BitVec 32) : State :=
  let later (v : BitVec 32) : Bool := decide (u.toNat < v.toNat)
  let t := s.cancelStarts (fun n => decide (u.toNat < n))
  (List.range 8).foldl (fun w j =>
    let a := match SMap.get none w.sk.own j with
      | none => w
      | some e => if later e.step then w.releaseOwn e.step else w
    match SMap.get none a.sk.copies j with
    | none => a
    | some v => if later v then a.releaseCopy v else a) t

/-- The collective engine reclaims the job's buffers, unless an epoch advance has (R530). -/
def State.reclaimJob (s : State) : State :=
  if s.ce.abortHold then s.reclaimAll else s

/-- The device returns to boundary u (R26–R28, assumption 156). -/
def State.returnTo (s : State) (u : BitVec 32) : State :=
  let t := { s.backSnapshots (fun v => decide (v.toNat ≤ u.toNat)) with sk := { s.sk with updateHeld := false } }
  if s.sk.boundary = some u then t else t.voidBoundary

/-- The status of the tests of R397. A spare that has just been filled has no entry of the step: it takes the record from
its partner (R400, assumption 169). -/
def State.replayStatus (s : State) (u : BitVec 32) (course : Course) : Nat :=
  if ((s.entryOf u).isNone ∧ s.sk.filled = false) ∨ s.holdsBoundary (u - 1) = false then stSkNotHeld
  else if s.farEnough course 0 = false then stTbLate
  else if s.jobParts.any (fun p => ((s.discardAfter u).freeEntry p).isNone) then stTbTableFull
  else stOk

/-- The `STEP_START` of a replay is armed in the reserved entries, without a lead; past its course it fires in the next stitch. -/
def State.armReserved (s : State) (u : BitVec 32) (course : Course) : State :=
  let t := s.jobParts.foldl (fun v p => match SMap.get none s.sk.reserved p with
    | none => v
    | some n => if reached v.course course then v.armSoon p n actStepStart 0 u.toNat course 0 else v.armEntry p n actStepStart 0 u.toNat course 0) s
  { t with sk := { t.sk with reserved := [] } }

/-- Steps 4 and 5 of R397: the record of u, found good in its slot, is applied, the batch and the seeds are the record's, and
the step is armed; the result slot completes. -/
def State.resumeReplay (s : State) (u : BitVec 32) : State :=
  let t := s.applyRecord (u.toNat % 8) u some
  let r := rebuiltEntry u (t.slotRecord (u.toNat % 8))
  let w := match t.entryOf u with
    | none => t
    | some e => (t.setEntry (u.toNat % 8) (some { e with
        batchAddr := r.batchAddr, batchGranules := r.batchGranules, seeds := r.seeds
        recorded := true, localDone := true, durable := true, replay := true, started := false, decided := false })).armReserved u e.startCourse
  let v := (w.count Reg.skReplays 1)
  match v.cmd.replaySlot with
  | none => v
  | some n => { v.completeResult n stOk (beBytes 4 u.toNat) with cmd := { (v.completeResult n stOk (beBytes 4 u.toNat)).cmd with replaySlot := none } }

/-- Neither copy passes: the reserved entries are freed and the job is ABORTED again (R397, assumption 157). -/
def State.failReplay (s : State) (u : BitVec 32) : State :=
  let t := { s with sk := { s.sk with reserved := [], replaying := none, awaitingRecord := false } }
  let w := ((t.setFld Reg.skStatus Fld.skStatusReplay 0).setFld Reg.rvStatus Fld.rvStatusJobState jobAborted).setStepField u fldStepState stepAborted
  match w.cmd.replaySlot with
  | none => w
  | some n => { w.completeResult n stSkBadRecord [] with cmd := { (w.completeResult n stSkBadRecord []).cmd with replaySlot := none } }

/-- Step 3 of R397: the local record, or else a read of the partner's copy into the own slot (assumption 158). -/
def State.readRecord (s : State) (u : BitVec 32) : State :=
  let j := u.toNat % 8
  if s.recordGood j u then s.resumeReplay u
  else
    let t := s.count Reg.skBadRecords 1
    if t.partnerPresent && decide (0 < t.skSlotBytes) then
      { (t.count Reg.skPartnerReads 1).sendReads t.partner epStepKeeper (t.skSlotAddr (8 + j)) (t.skSlotAddr j) t.skSlotBytes .record with
        sk := { t.sk with awaitingRecord := true } }
    else (t.failReplay u)

/-- An earlier replay that still awaits its record gives way to the one accepted now (assumption 159). -/
def State.dropReplay (s : State) : State :=
  let t := (s.dropReads (fun f => decide (f = .record))).discardPackets (fun o => match o with
    | .read tag => s.fab.reads.any (fun r => decide (r.tag.toNat = tag) && decide (r.purpose = .record))
    | _ => false)
  let w := { t with sk := { t.sk with awaitingRecord := false, reserved := [] } }
  match w.cmd.replaySlot with
  | none => w
  | some n => { w.completeResult n stSkBadRecord [] with cmd := { (w.completeResult n stSkBadRecord []).cmd with replaySlot := none } }

/-- An accepted recovery replay of step u, its result slot n. -/
def State.beginReplay (s : State) (u : BitVec 32) (course : Course) (n : Nat) : State :=
  let t0 := (if s.sk.awaitingRecord then s.dropReplay else s).tearAll
  let t1 := t0.discardAfter u
  let held := t1.jobParts.foldl (fun m p => SMap.set none m p (t1.freeEntry p)) []
  let t2 := { t1 with sk := { t1.sk with reserved := held } }.cancelStarts (fun k => decide (k = u.toNat))
  let t3 := (t2.rewindJob.reclaimJob).returnTo (u - 1)
  let e := (t3.entryOf u).getD (freshEntry u course 0 0 [])
  let t4 := t3.setEntry (u.toNat % 8) (some { e with startCourse := course, replay := true, started := false, decided := false })
  let t5 := { t4 with
    sk := { t4.sk with
      reference := some u, replaying := some u, restored := false, filled := false, decidedThrough := some (u - 1) }
    sn := { t4.sn with failedSteps := t4.sn.failedSteps.filter (fun v => decide (v.toNat < u.toNat)) }
    ce := { t4.ce with vector := [], durationFixed := [], contributed := t4.ce.contributed.filter (fun v => decide (v.toNat < u.toNat)) }
    cmd := { t4.cmd with replaySlot := some n } }
  let t6 := ((t5.setFld Reg.skStatus Fld.skStatusLastArmed u.toNat).setFld Reg.skStatus Fld.skStatusReplay 1).setFld
    Reg.rvStatus Fld.rvStatusJobState jobRunning
  (t6.setStepWord (u.toNat % 8) (armedWord u true e.unmirrored)).readRecord u

/-! ### Diagnosis replay (R402–R405) -/

/-- The journalled context whose section a diagnosis context takes: the lowest of its partition in the record
(assumption 160). -/
def State.diagSource (s : State) (slot y : Nat) : Option Nat :=
  let mask := leNat (((s.slotRecord slot).drop 0x24).take 2)
  (List.range 16).find? (fun x => mask.testBit x && decide (ctxPartition x = ctxPartition y))

/-- An accepted diagnosis replay of step u in context y, its result slot n: its step is the last accepted, and its word is ARMED with
`REPLAY` (R406, R596). -/
def State.beginDiagnosis (s : State) (u : BitVec 32) (course : Course) (y entry n : Nat) : State :=
  let j := u.toNat % 8
  let a := (s.setFld Reg.skStatus Fld.skStatusLastArmed u.toNat).setStepWord j (armedWord u true (match s.entryOf u with
    | none => false
    | some e => e.unmirrored))
  if s.recordGood j u then
    let src := s.diagSource j y
    let t := a.applyRecord j u (fun x => if some x = src then some y else none)
    { t with cmd := { t.cmd with diagnosis := some ⟨n, y, u⟩ } }.armEntry (ctxPartition y) entry actStepStart y u.toNat course 0
  else (a.count Reg.skBadRecords 1).completeResult n stSkBadRecord []

/-! ### `STEP_REPLAY` -/

/-- What a `STEP_REPLAY` of a diagnosis does. Its start is armed with the lead that R374 asks of all but R32 and R397. -/
def diagnosisDone (t : State) (c : CmdSlot) : Done :=
  let u := BitVec.ofNat 32 (c.arg 0 4)
  let course := c.arg 4 8
  let y := c.arg 13 1
  if 15 < y ∨ 2 ^ 48 ≤ course then Done.refuse t stBadParam
  else if t.isDiag y = false ∨ t.ctxState y ≠ ctxHalted ∨ t.cmd.diagnosis.isSome then Done.refuse t stState
  else if t.farEnough (BitVec.ofNat 48 course) 0 = false then Done.refuse (t.count Reg.tbLateWrites 1) stTbLate
  else match t.freeEntry (ctxPartition y) with
    | none => Done.refuse t stTbTableFull
    | some n => deferred t c (fun w k => w.beginDiagnosis u (BitVec.ofNat 48 course) y n k)

/-- What a `STEP_REPLAY` of a recovery does; any other kind draws `BAD_PARAM`. -/
def replayDone (t : State) (c : CmdSlot) : Done :=
  let u := BitVec.ofNat 32 (c.arg 0 4)
  let course := c.arg 4 8
  if c.arg 12 1 ≠ 0 ∨ 15 < c.arg 13 1 ∨ 2 ^ 48 ≤ course then Done.refuse t stBadParam
  else if t.job.loaded = false ∨ (t.jobState ≠ jobRunning ∧ t.jobState ≠ jobAborted) then Done.refuse t stState
  else if t.replayStatus u (BitVec.ofNat 48 course) ≠ stOk then
    let st := t.replayStatus u (BitVec.ofNat 48 course)
    Done.refuse t st
  else deferred t c (fun w k => w.beginReplay u (BitVec.ofNat 48 course) k)

/-- The command first in the interpreter's order is a `STEP_REPLAY` of the diagnosis kind. -/
def State.diagnosisFirst (s : State) : Bool :=
  match s.cmd.queue with
  | [] => false
  | c :: _ => decide (c.opcode.toNat = 0x31) && decide (c.body.length = 14) && decide (c.arg 12 1 = 1)

/-- `STEP_REPLAY` of the recovery kind. -/
def execStepReplay (s : State) : Host.Outcome State Fault Refusal :=
  if s.diagnosisFirst then .next s else runCommand 0x31 (sized 14 replayDone) s

/-- `DIAGNOSIS_REPLAY`: a `STEP_REPLAY` of the diagnosis kind (R403). -/
def execDiagnosisReplay (s : State) : Host.Outcome State Fault Refusal :=
  if s.diagnosisFirst then runCommand 0x31 (sized 14 diagnosisDone) s else .next s

/-- The partner's copy of the record has arrived in the own slot: one that passes goes on with steps 4 and 5, whatever has become of
the job; one that fails ends the replay (R397, R408). -/
def State.recordArrived (s : State) : State :=
  match s.sk.replaying with
  | none => { s with sk := { s.sk with awaitingRecord := false, reserved := [] } }
  | some u =>
    let j := u.toNat % 8
    let t := { s.store (s.skSlotAddr j + 6) (zeroBytes 2) with sk := { s.sk with awaitingRecord := false } }
    if t.recordGood j u then t.resumeReplay u else (t.count Reg.skBadRecords 1).failReplay u

/-- `READ_RESP` (R308, R516): delivered to its return address; one whose tag is no longer awaited is discarded. The
last of a record that a replay reads from the partner lets the replay go on (R397). -/
def execReadResp (s : State) : Host.Outcome State Fault Refusal :=
  match s.takeArrived (fun p => decide (p.ty = tyReadResp) && s.epOpen p.dstEp) with
  | none => .next s
  | some (_, p, t) =>
    act s s.running
      (if t.replyStale p then t.count (genStale (domainOfEp p.dstEp)) 1
        else t.accept p true (fun u =>
          match u.fab.reads.find? (fun w => decide (w.tag = p.epoch)) with
          | none => u
          | some w =>
            let v := (u.landData p).readLanded w p.payload.length
            if w.purpose = .record ∧ v.sk.awaitingRecord ∧ v.fab.reads.all (fun r => decide (r.purpose ≠ .record)) then v.recordArrived
            else v))

/-! ### Event tables (R373, R374, R595) -/

/-- The actions that the host schedules (R595). -/
def hostActions : List Nat := [actOverlaySwitch, actSnapshot, actSwatchWindow, actContextSwitch]

/-- `EVENT_SCHEDULE`. -/
def execEventSchedule (s : State) : Host.Outcome State Fault Refusal :=
  runCommand 0x32 (sized 17 fun t c =>
    let k := c.arg 0 1
    let action := c.arg 1 1
    let course := BitVec.ofNat 48 (c.arg 3 8)
    let stitch := c.arg 11 2
    if 4 < k ∨ 15 < c.arg 2 1 ∨ 2 ^ 48 ≤ c.arg 3 8 then Done.refuse t stBadParam
    else if 2560 ≤ stitch then Done.refuse (t.count Reg.tbLateWrites 1) stBadParam
    else if action = actSwatchWindow ∧ windowAdmitted k (c.arg 13 4) = false then Done.refuse t stBadParam
    else if action = actOverlaySwitch ∧ t.cmd.stagedMode.isNone ∧ t.cmd.stagedSite.isNone then Done.refuse t stState
    else if hostActions.contains action = false ∨ actionAdmitted k action = false then Done.refuse t stTbBadAction
    else if t.farEnough course stitch = false then Done.refuse (t.count Reg.tbLateWrites 1) stTbLate
    else match t.freeEntry k with
      | none => Done.refuse t stTbTableFull
      | some n => Done.ok (t.armEntry k n action (c.arg 2 1) (c.arg 13 4) course stitch) (beBytes 1 n)) s

/-- An entry that was armed as this stitch began has fired or been missed in it: a cancel of this stitch comes before that (R587). -/
def State.firedNow (s : State) (k n : Nat) : Bool :=
  let was := SMap.get 0 s.cmd.stitchRegs (evA k n)
  decide (Fld.tbPeventAArmed.get was = 1) && !s.evArmed k n &&
    (decide (Fld.tbPeventAFired.get was < s.fld (evA k n) Fld.tbPeventAFired) ||
      decide (Fld.tbPeventAMissed.get was < s.fld (evA k n) Fld.tbPeventAMissed))

/-- `EVENT_CANCEL`: an entry that fires in this stitch survives it (R587). -/
def execEventCancel (s : State) : Host.Outcome State Fault Refusal :=
  runCommand 0x33 (sized 2 fun t c =>
    let k := c.arg 0 1
    let n := c.arg 1 1
    if 4 < k ∨ 63 < n then Done.refuse t stBadParam
    else if t.evArmed k n && !t.evDue k n then Done.ok (t.disarm k n) []
    else if t.evArmed k n || t.firedNow k n then Done.ok t []
    else Done.refuse t stState) s

/-- The end point of a step is past on this device: it has contributed or decided it (R417). -/
def State.endPassed (s : State) (u : BitVec 32) : Bool :=
  s.ce.contributed.contains u || (match s.sk.decidedThrough with
    | none => false
    | some v => decide (u.toNat ≤ v.toNat)) || (decide (s.jobStep = u) && s.endReached)

/-- `LIFELINE_ARM` (R417). -/
def execLifelineArm (s : State) : Host.Outcome State Fault Refusal :=
  runCommand 0x40 (sized 4 fun t c =>
    let u := BitVec.ofNat 32 (c.arg 0 4)
    if t.leEnabled = false then Done.refuse t stLeDisabled
    else if t.endPassed u then Done.refuse t stLeLate
    else Done.ok { t with le := { t.le with armed := t.le.armed ++ [u] } } []) s

end Sys2Proof.Machine
end

