-- ==== Sys2Proof/Machine/Jobs.lean ====
section
/-! DEFINITION. Loading and unloading a job, and binding a device off its job (R345-R348, R418, R419, R591, R635,
R657-R659). -/

namespace Sys2Proof.Machine

/-! ### The mapping descriptor (R345, R346) -/

/-- The values that draw `BAD_PARAM`. -/
def mappingFormed (m : List Byte) : Bool :=
  decide (mapNat m 0 2 = 1) && decide (mapNat m 0x14 4 = 0) && decide (mapNat m 0x28 24 = 0) &&
    (List.range 5).all (fun k => decide (mapByte m (2 + 2 * k) < 8)) && decide (mapByte m 0x0C ≤ 15) &&
    decide (1 ≤ mapByte m 0x0D) && decide (mapByte m 0x0D ≤ 64) && decide (1 ≤ mapNat m 0x0E 2) && decide (mapNat m 0x0E 2 ≤ 4096)

/-- Axes that dimension d carries. -/
def axesOn (m : List Byte) (d : Nat) : List Axis := ((List.range 5).map (mapAxis m)).filter (fun a => decide (a.dim = d))

/-- The axes of one dimension fit it: their extents multiply to its extent, and it carries at most two, one of two
being `INNER`. -/
def axesFit (m : List Byte) (d extent : Nat) : Bool :=
  let as := axesOn m d
  decide ((as.map Axis.extent).foldl (· * ·) 1 = extent) && decide (as.length ≤ 2) && (decide (as.length ≠ 2) || as.any Axis.inner)

/-- The data axis has an even extent and a dimension of its own. -/
def dataAxisFits (m : List Byte) : Bool :=
  let a := mapAxis m 0
  !a.inner && decide (a.extent % 2 = 0) && decide (a.dim < 3) && decide ((axesOn m a.dim).length = 1)

/-- The refusals `MAP_REFUSED` of R346. The replica count is the data extent (assumption 165). -/
def State.mappingFits (s : State) (m : List Byte) : Bool :=
  let r := (mapAxis m 0).extent
  s.flag Reg.prTorus Fld.prTorusValid && (List.range 3).all (fun d => axesFit m d (s.extent d)) &&
    (axesOn m 3).all (fun a => decide (a.extent = 1) && !a.inner) && dataAxisFits m &&
    decide (r ≤ mapNat m 0x0E 2) && decide (mapNat m 0x0E 2 ≤ r * mapByte m 0x0D)

/-- A mapping load comes while a context of the job, loaded or to be loaded, is READY, or while a step is armed (R347). -/
def State.jobBusy (s : State) (mask : BitVec 16) : Bool :=
  s.anyArmed || (List.range 16).any (fun x => (s.inJob x || bitOf mask x) && decide (s.ctxState x = ctxReady))

/-! ### What a job leaves (assumption 166) -/

/-- Held own slots and partner copies are released (R658). -/
def State.releaseSlots (s : State) : State :=
  let t := if s.journalUsable then
      (List.range 8).foldl (fun u j =>
        let v := if (SMap.get none u.sk.own j).isSome then u.clearMagic j else u
        if (SMap.get none v.sk.copies j).isSome then v.clearMagic (8 + j) else v) s
    else s
  let w := { t with sk := { t.sk with own := [], copies := [], incoming := none } }
  (w.setFld Reg.skStatus Fld.skStatusHeld 0).setFld Reg.skStatus Fld.skStatusPartnerHeld 0

/-- Work of the lifeline engine for a command ends with no lifeline. -/
def State.endLeWork (s : State) (slot : Option Nat) : State :=
  match slot with
  | none => s
  | some n => s.completeResult n stLeNone []

/-- A replay that is still to begin ends without its record, and a diagnosis is given up. -/
def State.endReplays (s : State) : State :=
  let t := if s.sk.awaitingRecord then s.dropReplay else s
  match t.cmd.diagnosis with
  | none => t
  | some d => { t.completeResult d.slot stSkBadRecord [] with cmd := { (t.completeResult d.slot stSkBadRecord []).cmd with diagnosis := none } }

/-- The units that number steps, collectives and generations start anew (R27, R333, R348, R392, R418, R419). Journal slots stay
held, step words keep their states and `LAST_ARMED` its step: no rule ends them here (R392, R406, R596). A snapshot in progress goes
on, and one that waits is of the next job's first boundary (R449). -/
def State.freshJob (s : State) : State :=
  let a := ((s.tearAll.endLeWork (s.le.restore.map RestoreWork.slot)).endLeWork (s.le.fill.map FillWork.slot)).endReplays
  let b := a.cancelStarts (fun _ => true)
  let c := { b with
    sk := { StepKeeper.reset with own := b.sk.own, copies := b.sk.copies, incoming := b.sk.incoming }
    ce := { Collective.reset with reclaimed := b.ce.reclaimed }
    le := { Lifeline.reset with
      exchange := b.le.exchange, snapshot := b.le.snapshot, holdUpdate := b.le.holdUpdate
      snapshotDue := b.le.snapshotDue.map (fun (d : SnapshotDue) => { d with armed := false, boundary := none })
      baseZero := true, parityZero := true, buddySince := some b.course }
    sn := { b.sn with failedSteps := [], failedTiles := [] }
    rv := { b.rv with advance := none }
    cmd := { b.cmd with lastDecided := 0, replaySlot := none } }
  let d := (c.setFld Reg.skStatus Fld.skStatusCurBuf 0).setFld Reg.skStatus Fld.skStatusReplay 0
  let e := ((d.setFld Reg.skStatus Fld.skStatusUnmirrored 0).setReg Reg.ceUnmirrored 0).setReg Reg.ceEpoch 0
  let f := (e.setReg Reg.leGen 0).setFld Reg.leStatus Fld.leStatusProtection 0
  f.fillBitmaps

/-! ### `JOB_LOAD` and `JOB_UNLOAD` -/

/-- The job that the command brings is loaded. -/
def State.loadJob (s : State) (m : List Byte) (mask : BitVec 16) : State :=
  let a := s.freshJob
  let b := { a with
    job := ⟨true, m, mask⟩
    fab := { a.fab with faultMap := [], ownRecords := 0 }
    rt := { a.rt with grant := none } }
  let c := (b.fixForms).setFld Reg.rvStatus Fld.rvStatusJobState jobRunning
  { c with ce := { c.ce with plan := c.equalPlan, planStep := 0 } }

/-- `JOB_LOAD`: mapping descriptor 64 B, job context mask 2 B. -/
def execJobLoad (s : State) : Host.Outcome State Fault Refusal :=
  runCommand 0x20 (sized 66 fun t c =>
    let m := c.body.take 64
    let mask := BitVec.ofNat 16 (c.arg 64 2)
    if !mappingFormed m then Done.refuse t stBadParam
    else if t.jobBusy mask ∨ t.mappingFits m = false then Done.refuse t stMapRefused
    else Done.ok (t.loadJob m mask) []) s

/-- A context of the job stops and becomes FREE. -/
def State.dismiss (s : State) (x : Nat) : State := if s.ctxState x = ctxFree then s else (s.resetContext x).freeContext x

/-- The mapping is removed: no job is loaded. -/
def State.removeJob (s : State) : State := { s.freshJob with job := Job.none }.setFld Reg.rvStatus Fld.rvStatusJobState jobIdle

/-- `JOB_UNLOAD`. -/
def execJobUnload (s : State) : Host.Outcome State Fault Refusal :=
  runCommand 0x21 (sized 0 fun t _ =>
    if t.anyArmed ∨ t.le.cuts ≠ [] ∨ t.le.fill.isSome ∨ t.le.restore.isSome then Done.refuse t stState
    else Done.ok (t.jobContexts.foldl State.dismiss t).removeJob []) s

/-! ### Bind-off (R657-R659) -/

/-- A step of the job is ARMED, JOURNALLED or RUNNING. -/
def State.stepUnderWay (s : State) : Bool :=
  s.heldEntries.any (fun e => decide (stepArmed ≤ s.stepStateOf e.step) && decide (s.stepStateOf e.step ≤ stepRunning) && !s.decidedStep e.step)

/-- What draws `STATE`; a bind-off that is under way does so too (assumption 167). -/
def State.bindOffBarred (s : State) : Bool :=
  !s.job.loaded || (s.stepUnderWay && decide (s.jobState = jobRunning)) || decide (s.lePhase ≠ 0) || s.cmd.diagnosis.isSome ||
    s.cmd.bindOff.isSome

/-- `VALID` is cleared in every tier region. -/
def State.closeRegions (s : State) : State := (List.range 16).foldl (fun t n => t.setFld (Reg.dtRegionA n) Fld.dtRegionAValid 0) s

/-- Steps 1 to 4 of R658, with its result slot. -/
def State.bindOff (s : State) (n : Nat) : State :=
  let a := ((s.jobContexts.foldl State.dismiss s).releaseSlots).setFld Reg.skConfig Fld.skConfigSlotSize 0
  let b := (a.setFld Reg.leConfig Fld.leConfigEnable 0).setFld Reg.leGroup Fld.leGroupValid 0
  let c := b.eraseJobKeys.closeRegions
  { c with cmd := { c.cmd with bindOff := some n }, le := { c.le with exchange := none } }

/-- `BIND_OFF`. -/
def execBindOff (s : State) : Host.Outcome State Fault Refusal :=
  runCommand 0xA0 (sized 0 fun t c => if t.bindOffBarred then Done.refuse t stState else deferred t c State.bindOff) s

/-- Bytes of all HBM and of every core store (R232, R658). -/
def bytesZeroed : Nat := 0x100_0000_0000 + 160 * 0xC0_0000

/-- All HBM and every core store read 0, without poison; HBM's pages have been written (R252, R254, R658). -/
def State.zeroMemories (s : State) : State :=
  let t := { s with
    mem := s.mem.filter (fun c => !(inHbm c.1 || inCoreStore c.1))
    poison := s.poison.filter (fun g => !(inHbm (g.1 * 64) || inCoreStore (g.1 * 64))) }
  (List.range 4).foldl (fun u p =>
    let d := u.dirtyOf p
    let all : Bitmap := ⟨true, []⟩
    { u with dirty := SMap.set Dirty.zero u.dirty p (if d.active = 0 then { d with hbm0 := all } else { d with hbm1 := all }) }) t

/-- `BIND_OFF_COMPLETE`: steps 5 and 6 are done, and the result slot completes (R659). -/
def execBindOffComplete (s : State) : Host.Outcome State Fault Refusal :=
  match s.cmd.bindOff with
  | none => .next s
  | some n =>
    let t := s.zeroMemories.removeJob
    let u := t.completeResult n stOk (beBytes 8 t.course.toNat ++ beBytes 8 bytesZeroed)
    act s (s.running && !s.inReset 5) { u with cmd := { u.cmd with bindOff := none } }

end Sys2Proof.Machine
end

