-- ==== Sys2Proof/Machine/Lifelines.lean ====
section
/-! DEFINITION. Cuts: the base image, page deltas and their coding, delta slots, reports and timeouts
(R31, R33, R254-R256, R409-R411, R414, R415, R417, R418, R420-R425, R430, R431). -/

namespace Sys2Proof.Machine

/-! ### The base image (R410, R411) -/

/-- A logical page: the address of its physical page, that of the second buffer's for a pair, whether the page is
protected now, and whether its shard was adopted since the last commit. -/
structure LogicalPage where
  addr : Nat
  second : Option Nat
  live : Bool
  fresh : Bool
  deriving DecidableEq, Repr

/-- Pages of one buffer of extent n. -/
def State.extentPages (s : State) (n : Nat) : Nat := s.fld (Reg.leExtent n) Fld.leExtentLenM1 + 1

/-- The logical pages of extent n. -/
def State.pagesOfExtent (s : State) (n : Nat) : List LogicalPage :=
  let r := Reg.leExtent n
  let a := s.fld r Fld.leExtentAddr * pageBytes
  let len := s.extentPages n
  let mirror := s.flag r Fld.leExtentMirror
  if s.flag r Fld.leExtentValid then
    (List.range len).map (fun i => {
      addr := a + i * pageBytes
      second := if s.flag r Fld.leExtentPair then some (a + (len + i) * pageBytes) else none
      live := !mirror || s.le.adopted
      fresh := mirror && s.le.adoptedNew })
  else []

/-- The base image's pages, at most `BASE_PAGES`. -/
def State.logicalPages (s : State) : List LogicalPage := ((List.range 32).flatMap s.pagesOfExtent).take s.basePages

/-- The physical page that a boundary's buffer gives a logical page. -/
def LogicalPage.at_ (g : LogicalPage) (buf : Nat) : Nat := if buf = 0 then g.addr else g.second.getD g.addr

/-- A page of zeros. -/
def zeroPage : List Byte := zeroBytes pageBytes

/-- A logical page's content at the boundary that a buffer holds. -/
def State.imagePage (s : State) (buf : Nat) (g : LogicalPage) : List Byte := if g.live then s.load (g.at_ buf) pageBytes else zeroPage

/-- Marks by partition hold the page at an address (R254, R255). -/
def marksPage (ms : List (Bitmap × Bitmap)) (a : Nat) : Bool :=
  let p := partitionOf a
  if inHbm a then (marksAt ms p).1.has ((a - hbmBase p) / pageBytes) else (marksAt ms p).2.has ((a - tierBase p) / pageBytes)

/-- A logical page is dirty for a cut (R421). Where the base counts as zero every page is (R433, assumption 170). -/
def State.pageDirty (s : State) (c : Cut) (g : LogicalPage) : Bool :=
  let ms := s.marksOf c
  g.fresh || s.le.baseZero || marksPage ms g.addr || (match g.second with
    | none => false
    | some a => marksPage ms a)

/-- Page n of the HBM base, zero where the base counts as zero. -/
def State.basePage (s : State) (n : Nat) : List Byte :=
  if s.le.baseZero then zeroPage else s.load (s.hbmBaseArea + n * pageBytes) pageBytes

/-! ### Coding a page delta (R422) -/

/-- A list cut into runs of `n`. -/
def chunksOf (n : Nat) : Nat → List Byte → List (List Byte)
  | 0, _ => []
  | k + 1, b => b.take n :: chunksOf n k (b.drop n)

/-- Leading zero bytes of a little-endian word of 8 bytes. -/
def leadingZeros (w : List Byte) : Nat := (w.reverse.takeWhile (· = 0)).length

/-- A 64-byte block: z, then the 8 − z low bytes of its eight words. -/
def codeBlock (b : List Byte) : List Byte :=
  let ws := chunksOf 8 8 b
  let z := (ws.map leadingZeros).foldl min 8
  BitVec.ofNat 8 z :: ws.flatMap (fun w => w.take (8 - z))

/-- The coding of a page. -/
def codePage (b : List Byte) : List Byte := (chunksOf 64 1024 b).flatMap codeBlock

/-- `RAW` and the payload of a page delta. -/
def codeDelta (b : List Byte) : Bool × List Byte := let c := codePage b; if pageBytes < c.length then (true, b) else (false, c)

/-- Decodes `n` blocks. -/
def decodeBlocks : Nat → List Byte → List Byte
  | 0, _ => []
  | n + 1, b =>
    let k := 8 - (b.headD 0).toNat
    (chunksOf k 8 (b.drop 1)).flatMap (fun w => w ++ zeroBytes (8 - k)) ++ decodeBlocks n (b.drop (1 + 8 * k))

/-- The page delta of a payload. -/
def decodeDelta (raw : Bool) (b : List Byte) : List Byte := if raw then b else decodeBlocks 1024 b

/-! ### A delta slot (R415, R423, R424) -/

/-- A delta page as a cut writes it: number, `RAW`, payload and check. -/
structure DeltaPage where
  page : Nat
  raw : Bool
  payload : List Byte
  check : List Byte
  deriving DecidableEq, Repr

/-- The index entry of a delta page. -/
def DeltaPage.entry (d : DeltaPage) : List Byte :=
  d.check ++ leBytes 4 (bit d.raw * 2 ^ 31 + d.payload.length) ++ leBytes 4 d.page

/-- The delta pages of a cut, in increasing order of page (R420, R421). -/
def State.deltaPages (s : State) (c : Cut) : List DeltaPage :=
  (s.logicalPages.zipIdx).filterMap (fun p =>
    if s.pageDirty c p.1 then
      let new := s.imagePage c.buf p.1
      let delta := xorBytes new (s.basePage p.2)
      if delta.all (· = 0) then none
      else
        let (raw, payload) := codeDelta delta
        some ⟨p.2, raw, payload, check64 new⟩
    else none)

/-- The sections of the skein of boundary u: those of the durable record of step u + 1, or the live tables (R423). -/
def State.skeinSections (s : State) (u : BitVec 32) : List Byte :=
  match s.entryOf (u + 1) with
  | none => s.recordSections (u + 1) s.captureLayers
  | some e => if e.durable then (s.slotRecord ((u + 1).toNat % 8)).drop 0x1000 else s.recordSections (u + 1) s.captureLayers

/-- `n` bytes, cut or filled with zeros. -/
def padTo (n : Nat) (b : List Byte) : List Byte := b.take n ++ zeroBytes (n - b.length)

/-- The bytes of a delta slot up to `LEN`; what its parts leave free is written as zeros (assumption 171). -/
def State.skeinBytes (s : State) (state : Nat) (c : Cut) (sections : List Byte) (ds : List DeltaPage) : List Byte :=
  let payloads := ds.flatMap (fun d => padTo64 d.payload)
  let len := (1 + s.sectionPages + s.indexPages) * pageBytes + payloads.length
  padTo pageBytes (slotHeader state c.gen.toNat c.step.toNat c.fromGen.toNat ds.length len) ++
    padTo (s.sectionPages * pageBytes) sections ++ padTo (s.indexPages * pageBytes) (ds.flatMap DeltaPage.entry) ++ payloads

/-- Δ: the bytes that a cut writes (R379, assumption 171). -/
def deltaCount (sections : List Byte) (ds : List DeltaPage) : Nat :=
  pageBytes + sections.length + 16 * ds.length + (ds.map (fun d => (padTo64 d.payload).length)).foldl (· + ·) 0

/-- The digest of a skein's slot bytes, `STATE` taken as 0 (R424). -/
def skeinDigest (b : List Byte) : List Byte := shake 32 (b.take 4 ++ zeroBytes 4 ++ b.drop 8)

/-- The delta slot that does not hold the latest committed generation (R420). -/
def State.nextSlot (s : State) : Nat :=
  let a := s.slotAddr 0
  if s.slotField a 0 4 = 0x4C46_444C ∧ s.slotField a 4 4 = slotCommitted ∧ s.slotField a 8 4 = s.fld Reg.leGen Fld.leGenGen then 1 else 0

/-! ### Phases of a cut (R420) -/

/-- The scheduled cut that may begin: the update of its boundary has completed, as that of every boundary before the current one
has (R31, assumption 172). -/
def State.cutReady (s : State) (u : BitVec 32) : Bool :=
  s.updateDone u || (match s.sk.boundary with
    | none => false
    | some v => decide (u.toNat < v.toNat))

/-- The buffer that holds boundary u (R26, R27). -/
def State.bufferOf (s : State) (u : BitVec 32) : Nat :=
  let cur := s.fld Reg.skStatus Fld.skStatusCurBuf
  if s.sk.boundary = some u ∨ s.sk.lastApplied = false then cur else 1 - cur

/-- A cut begins, of the buffer that has held its boundary since the decision of its step: the bitmaps are swapped in one stitch
(R27, R255). -/
def State.beginCut (s : State) (u g : BitVec 32) (c : Course) (buf : Nat) : State :=
  let cut : Cut := ⟨g, u, c, buf, 0, 0, 0, 0, [], none, none, none⟩
  let k := s.keepMarks
  let t := { k with le := { k.le with due := k.le.due.filter (fun d => decide (d.2.1 ≠ g)), cuts := k.le.cuts ++ [cut] } }
  t.swapBitmaps

/-- `LIFELINE_CUT` (R31, R420). A device that takes part in cuts no longer gives the cut up. -/
def execLifelineCut (s : State) : Host.Outcome State Fault Refusal :=
  match s.takeHanded 4 actLifelineCut with
  | none => .next s
  | some (h, t) =>
    let u := BitVec.ofNat 32 h.param
    match t.le.due.find? (fun d => decide (d.1 = u)) with
    | none => act s (s.running && !s.inReset 4 && !s.inReset 5) t
    | some (_, g, c, buf) =>
      act s (s.running && !s.inReset 4 && !s.inReset 5 && (s.cutReady u || !s.cutsHere))
        (if s.cutsHere then t.beginCut u g c buf
          else { t with le := { t.le with due := t.le.due.filter (fun d => decide (d.2.1 ≠ g)) } })

/-- What a cut reads its sections from (R423): the durable record of the next step, or the live tables, each as address and
bytes. -/
def State.sectionSources (s : State) (u : BitVec 32) : List (Nat × Nat) :=
  let live := s.journalled.flatMap (fun x =>
    (s.fld (Reg.guRecords x) Fld.guRecordsBase * 64, 64 * s.fld (Reg.guRecords x) Fld.guRecordsCount) ::
      (oneTo (s.layerCount x)).map (fun l => (s.layerAt x (u.toNat % 2) l, 16))) ++ (s.skExtents false).map (fun c => c.2)
  match s.entryOf (u + 1) with
  | none => live
  | some e =>
    let j := (u + 1).toNat % 8
    if e.durable then [(s.skSlotAddr j + 0x1000, min (recordLen (s.load (s.skSlotAddr j) 0x1000)) s.skSlotBytes - 0x1000)] else live

/-- The first poisoned granule that a cut would read: of its dirty pages, of their pages in the base, or of its sections
(R425, R430). -/
def State.cutPoison (s : State) (c : Cut) : Option Nat :=
  let dirty := (s.logicalPages.zipIdx).filter (fun p => s.pageDirty c p.1)
  let pages := (dirty.filter (fun p => p.1.live)).map (fun p => (p.1.at_ c.buf, pageBytes))
  let bases := if s.le.baseZero then [] else dirty.map (fun p => (s.hbmBaseArea + p.2 * pageBytes, pageBytes))
  s.firstPoison (pages ++ bases ++ s.sectionSources c.step)

/-- Requests to a region wait: a partition whose tier it reaches is in reset (R266). -/
def State.regionWaits (s : State) (r : Nat) : Bool := s.memWaits (s.regionBase r) (s.regionBytes r)

/-- Requests to one of the lifeline engine's regions or to its base area wait (R266, R534). -/
def State.leWaits (s : State) : Bool :=
  s.regionWaits (s.leRegion Fld.leConfigSkein) || s.regionWaits (s.leRegion Fld.leConfigBuddy) ||
    s.regionWaits (s.leRegion Fld.leConfigParity) || s.memWaits s.hbmBaseArea (s.basePages * pageBytes)

/-- The report of a poisoned granule that the lifeline engine consumes (R481). -/
def State.lePoison (s : State) (g : Nat) : State :=
  s.report { Report.bare clsPoisonConsumed (enginePath 16) with address := BitVec.ofNat 64 g, detail := leBytes 8 g }

/-- Every fold that the device performs is done (R420, R429). -/
def State.foldsDone (s : State) : Bool := s.le.fold.isNone && !s.ownFoldDue && s.buddyFoldDue.isNone

/-- Phases 2 and 3 of the first cut: slot, sections and deltas are written to both copies, and the digest is formed. -/
def State.writeCut (s : State) (c : Cut) : State :=
  let from_ := if s.le.baseZero then 0 else BitVec.ofNat 32 (s.fld Reg.leGen Fld.leGenGen)
  let d := { c with slot := s.nextSlot, phase := 4, fromGen := from_ }
  let sections := s.skeinSections c.step
  let ds := s.deltaPages c
  let b := s.skeinBytes slotWriting d sections ds
  let t := { s.store (s.slotAddr d.slot) b with fab := { s.fab with buddyLost := false } }
  let u := if t.partnerPresent then t.buddyWrite (t.buddySlotAddr d.slot) b (t.slotAddr d.slot) else t
  let e := { d with len := b.length, digest := skeinDigest b }
  let w := { u with le := { u.le with cuts := u.le.cuts.map (fun (x : Cut) => if x.gen = c.gen then e else x) } }
  (w.countWork Reg.leDeltaBytes (deltaCount sections ds) 65536).releaseUpdate

/-- `CUT_DELTA_WRITE`: the cut before has committed or torn, and every fold is done; a poisoned granule tears the cut. -/
def execCutDeltaWrite (s : State) : Host.Outcome State Fault Refusal :=
  match s.le.cuts with
  | [] => .next s
  | c :: _ =>
    act s (s.running && !s.inReset 4 && !s.inReset 5 && decide (c.phase = 0) && s.foldsDone && s.skeinOpen &&
        !s.leWaits)
      (match s.cutPoison c with
        | some g => ((s.tear c.gen).lePoison g).releaseUpdate
        | none => s.writeCut c)

/-! ### Reports and manifests (R425-R427, R284) -/

/-- Present members of the group, in order of index. -/
def State.presentMembers (s : State) : List Nat :=
  (List.range s.groupSize).filter (fun n => s.flag (Reg.leMember n) Fld.leMemberValid && s.flag (Reg.leMember n) Fld.leMemberPresent)

/-- This device's index. -/
def State.ownIndex (s : State) : Nat := s.fld Reg.leGroup Fld.leGroupIndex

/-- The leader's index. -/
def State.leaderIndex (s : State) : Nat := s.presentMembers.headD 0

/-- This device leads its group. -/
def State.isLeader (s : State) : Bool := decide (s.leaderIndex = s.ownIndex)

/-- `LE_GROUP.ID`. -/
def State.groupId (s : State) : Nat := s.fld Reg.leGroup Fld.leGroupId

/-- The seed of the job signing key: of the job key that the SKEIN region names (R427, R609, assumption 173). -/
def State.signingSeed (s : State) : Option (List Byte) :=
  match s.rt.jobKeys.find? (fun k => decide (k.ident.toNat = s.fld (Reg.dtRegionA (s.leRegion Fld.leConfigSkein)) Fld.dtRegionAKeyId)) with
  | none => none
  | some k => some (derive k.key "SIGN" 57 [])

/-- A manifest entry (R426). -/
def manifestEntry (coord : Nat) (present : Bool) (step gen from_ len : Nat) (digest : List Byte) : List Byte :=
  leBytes 2 coord ++ leBytes 2 (bit present) ++ leBytes 4 step ++ leBytes 4 gen ++ leBytes 4 from_ ++ leBytes 8 len ++ zeroBytes 8 ++ fitTo 32 digest

/-- Entry n of a manifest. -/
def entryAt (m : List Byte) (n : Nat) : List Byte := (m.drop (0x40 + 64 * n)).take 64

/-- A manifest of the form of R426. -/
def manifestFormed (m : List Byte) : Bool :=
  decide (leNat (m.take 4) = 0x4C46_4D4E) && decide (leNat ((m.drop 4).take 2) = 1) &&
    decide (m.length = manifestLength (leNat ((m.drop 0x10).take 1)))

/-- A manifest's signature passes (R426, R610). -/
def State.manifestSigned (s : State) (m : List Byte) : Bool :=
  let n := leNat ((m.drop 0x10).take 1)
  match s.signingSeed with
  | none => false
  | some seed => manifestFormed m && Config.ed448Verify (Config.publicKey seed) (ascii "MDN-SV1 MANIFEST") (m.take (0x40 + 64 * n)) (m.drop (0x40 + 64 * n))

/-- The entry of member n: its report, or for an absent one its last committed skein (R426, R429). -/
def State.entryFor (s : State) (gen : BitVec 32) (n : Nat) : List Byte :=
  let coord := s.fld (Reg.leMember n) Fld.leMemberLogical
  match s.le.reports.find? (fun r => decide (r.gen = gen) && decide (r.index = n)) with
  | some r => manifestEntry coord true r.step.toNat r.gen.toNat r.fromGen.toNat r.len r.digest
  | none =>
    let old := entryAt (s.manifestIn s.skeinBase (s.fld Reg.leGen Fld.leGenGen)) n
    manifestEntry coord false (leNat ((old.drop 4).take 4)) (leNat ((old.drop 8).take 4)) 0 0 ((old.drop 32).take 32)

/-- The manifest of a cut (R426), signed under a seed. -/
def State.manifestOf (s : State) (c : Cut) (seed : List Byte) : List Byte :=
  let n := s.groupSize
  let m := leBytes 4 0x4C46_4D4E ++ leBytes 2 1 ++ leBytes 2 s.groupId ++ leBytes 4 c.gen.toNat ++ leBytes 4 c.step.toNat ++ leBytes 1 n ++
    leBytes 1 (n - 2) ++ leBytes 2 s.epoch ++ leBytes 4 s.cfg.tag.toNat ++ leBytes 4 s.mappingTag.toNat ++ leBytes 4 s.basePages ++
    leBytes 8 c.course.toNat ++ zeroBytes 24 ++ (List.range n).flatMap (s.entryFor c.gen)
  m ++ fitTo 114 (Config.ed448Sign seed (ascii "MDN-SV1 MANIFEST") m)

/-- A short message of the lifeline engine: group, generation (R284). -/
def State.leMessage (s : State) (msg : Nat) (gen : BitVec 32) : List Byte := beBytes 1 msg ++ beBytes 2 s.groupId ++ beBytes 4 gen.toNat ++ zeroBytes 1

/-- A message to every present member but this device. -/
def State.tellMembers (s : State) (payload : List Byte) : State :=
  (s.presentMembers.filter (· ≠ s.ownIndex)).foldl (fun t n => t.sendLe (t.leCoord n) payload) s

/-- `STATE` of a cut's slot, here and at the partner. -/
def State.markSlots (s : State) (slot v : Nat) : State :=
  let t := s.setSlotState (s.slotAddr slot) v
  if t.partnerPresent then t.buddyWrite (t.buddySlotAddr slot) (t.load (t.slotAddr slot) 64) (t.slotAddr slot) else t

/-- The commit actions of R429 on this device for its reported cut, with the manifest in both regions (R427). -/
def State.commit (s : State) (c : Cut) (m : List Byte) : State :=
  let a := manifestAddr s.skeinBase c.gen.toNat
  let t := s.store a (padTo64 m)
  let u := if t.partnerPresent then t.buddyWrite (manifestAddr t.buddyBase c.gen.toNat) (padTo64 m) a else t
  let k := u.markSlots c.slot slotCommitted
  let v := if c.kept.isNone then k.clearOutgoing else k
  let w := { v with le := { v.le with
    cuts := v.le.cuts.filter (fun d => decide (d.gen ≠ c.gen))
    reports := v.le.reports.filter (fun r => decide (r.gen ≠ c.gen))
    adoptedNew := false, baseZero := false, fellBack := none
    fold := some ⟨c.gen, (List.range v.groupSize).foldl (fun (k : NatSet) i => NatSet.put k i true) []⟩ } }
  let x := (w.setReg Reg.leGen (BitVec.ofNat 64 (c.gen.toNat * 2 ^ 32 + c.step.toNat))).putHeader w.skeinBase c.fromGen.toNat c.gen.toNat 0
  let y := x.setFld Reg.leStatus Fld.leStatusProtection 1
  y.showPresent.count Reg.leCuts 1

/-- A manifest of this group reaches the device: a cut that has reported it commits. -/
def State.takeManifest (s : State) (m : List Byte) : State :=
  match s.le.cuts.find? (fun c => decide (c.gen.toNat = manifestGen m) && decide (c.phase = 5)) with
  | none => s
  | some c => s.commit c m

/-- The leader signs and sends the manifest of a generation once it holds every present member's report (R427). -/
def State.tryManifest (s : State) (gen : BitVec 32) : State :=
  match s.le.cuts.find? (fun c => decide (c.gen = gen) && decide (c.phase = 5)), s.signingSeed with
  | some c, some seed =>
    if s.isLeader ∧ s.presentMembers.all (fun n => s.le.reports.any (fun r => decide (r.gen = gen) && decide (r.index = n))) then
      let m := s.manifestOf c seed
      (s.tellMembers (beBytes 1 0x21 ++ beBytes 2 s.groupId ++ beBytes 4 gen.toNat ++ zeroBytes 1 ++ m)).commit c m
    else s
  | _, _ => s

/-- The writes to the partner's tier are acknowledged, and none was given up (R310, R420). -/
def State.buddyDone (s : State) : Bool :=
  !s.fab.buddyLost && s.fab.sendFlows.all (fun f => f.unacked.all (fun u => decide (u.owner ≠ .buddy))) && s.fab.held.all (fun h => decide (h.owner ≠ .buddy))

/-- Phase 4: both copies are WRITTEN and the skein is reported, to itself where this device leads. -/
def State.reportCut (s : State) (c : Cut) : State :=
  let e := { c with phase := 5, reportAt := some s.course }
  let t := { s.markSlots c.slot slotWritten with le := { (s.markSlots c.slot slotWritten).le with
    cuts := s.le.cuts.map (fun (x : Cut) => if x.gen = c.gen then e else x) } }
  if t.isLeader then
    { t with le := { t.le with reports := t.le.reports ++ [(⟨t.ownIndex, c.gen, c.step, c.fromGen, c.len, c.digest⟩ : SkeinReport)] } }.tryManifest c.gen
  else
    t.sendLe (t.leCoord t.leaderIndex) (beBytes 1 0x20 ++ beBytes 2 t.groupId ++ beBytes 1 t.ownIndex ++ zeroBytes 1 ++ beBytes 4 c.gen.toNat ++
      beBytes 4 c.step.toNat ++ beBytes 4 c.fromGen.toNat ++ beBytes 8 c.len ++ fitTo 32 c.digest ++ zeroBytes 7)

/-- `CUT_WRITTEN` (R420). -/
def execCutWritten (s : State) : Host.Outcome State Fault Refusal :=
  match s.le.cuts.find? (fun c => decide (c.phase = 4)) with
  | none => .next s
  | some c => act s (s.running && !s.inReset 4 && !s.inReset 5 && s.buddyDone && s.skeinOpen && !s.leWaits) (s.reportCut c)

/-- A received skein report. -/
def reportOf (b : List Byte) : SkeinReport where
  index := beNat ((b.drop 3).take 1)
  gen := BitVec.ofNat 32 (beNat ((b.drop 5).take 4))
  step := BitVec.ofNat 32 (beNat ((b.drop 9).take 4))
  fromGen := BitVec.ofNat 32 (beNat ((b.drop 13).take 4))
  len := beNat ((b.drop 17).take 8)
  digest := (b.drop 25).take 32

/-- A message of the lifeline engine of some length: one of another is dropped and counted (R284). It waits while the engine's regions
do (R266). -/
def State.leArrived (s : State) (msg len : Nat) (effect : State → Packet → State) : Host.Outcome State Fault Refusal :=
  match s.takeCtrl epLifeline msg with
  | none => .next s
  | some (_, p, t) =>
    act s (s.running && s.epOpen epLifeline && !s.leWaits)
      (if p.payload.length = len then t.accept p false (fun u => effect u p) else t.count Reg.prBadType 1)

/-- `SKEIN_REPORT` (R427). -/
def execSkeinReport (s : State) : Host.Outcome State Fault Refusal :=
  s.leArrived 0x20 64 (fun t p =>
    let r := reportOf p.payload
    if beNat ((p.payload.drop 1).take 2) = t.groupId ∧ t.isLeader ∧ ¬t.le.reports.any (fun q => decide (q.gen = r.gen) && decide (q.index = r.index)) then
      { t with le := { t.le with reports := t.le.reports ++ [r] } }.tryManifest r.gen
    else t)

/-! ### Tears (R430, R431) -/

/-- The group and generation of a short message. -/
def shortGroup (b : List Byte) : Nat := beNat ((b.drop 1).take 2)
/-- Its generation. -/
def shortGen (b : List Byte) : BitVec 32 := BitVec.ofNat 32 (beNat ((b.drop 3).take 4))

/-- A cut of a generation tears, and its reports are forgotten. -/
def State.tearCut (s : State) (g : BitVec 32) : State :=
  let t := s.tear g
  { t with le := { t.le with reports := t.le.reports.filter (fun r => decide (r.gen ≠ g)) } }.releaseUpdate

/-- `TEAR` (R284, R430). -/
def execTear (s : State) : Host.Outcome State Fault Refusal :=
  s.leArrived 0x23 8 (fun t p => if shortGroup p.payload = t.groupId then t.tearCut (shortGen p.payload) else t)

/-- `REPORT_TIMEOUT` (R430): the leader gives up a generation for which a present member has not reported. -/
def execReportTimeout (s : State) : Host.Outcome State Fault Refusal :=
  match s.le.cuts.find? (fun c => match c.reportAt with
    | none => false
    | some a => decide (65536 ≤ coursesSince s.course a)) with
  | none => .next s
  | some c =>
    act s (s.running && !s.inReset 4 && !s.inReset 5 && s.isLeader &&
        !s.presentMembers.all (fun n => s.le.reports.any (fun r => decide (r.gen = c.gen) && decide (r.index = n))))
      ((s.tellMembers (s.leMessage 0x23 c.gen)).tearCut c.gen)

/-- `MANIFEST_WAIT_EXPIRY` (R430): members and partner are asked for the manifest. -/
def execManifestWaitExpiry (s : State) : Host.Outcome State Fault Refusal :=
  match s.le.cuts.find? (fun c => decide (c.queriedAt = none) && (match c.reportAt with
    | none => false
    | some a => decide (65536 ≤ coursesSince s.course a))) with
  | none => .next s
  | some c =>
    let t := s.tellMembers (s.leMessage 0x22 c.gen)
    let u := if t.partnerPresent then t.sendLe t.partner (t.leMessage 0x22 c.gen) else t
    act s (s.running && !s.inReset 4 && !s.inReset 5)
      { u with le := { u.le with cuts := u.le.cuts.map (fun (x : Cut) => if x.gen = c.gen then { x with queriedAt := some s.course } else x) } }

/-- `MANIFEST_TIMEOUT` (R430): nobody has answered within a further 4,096 courses. -/
def execManifestTimeout (s : State) : Host.Outcome State Fault Refusal :=
  match s.le.cuts.find? (fun c => match c.queriedAt with
    | none => false
    | some a => decide (4096 ≤ coursesSince s.course a)) with
  | none => .next s
  | some c => act s (s.running && !s.inReset 4 && !s.inReset 5) (s.tearCut c.gen)

end Sys2Proof.Machine
end

