-- ==== Sys2Proof/Machine/Folds.lean ====
section
/-! DEFINITION. Manifests as they arrive, folds and parity chains (R284, R427-R429, R432-R436, R440, R448). -/

namespace Sys2Proof.Machine

/-! ### The contents of a skein (R415, R422) -/

/-- A delta page as it is read back: number, delta and check, and where its payload lies in the slot, with its bytes. -/
structure SkeinPage where
  page : Nat
  delta : List Byte
  check : List Byte
  from_ : Nat
  bytes : Nat
  deriving DecidableEq, Repr

/-- The delta pages in a slot's bytes, where sections take `j` pages and the index `x`. -/
def skeinPages (j x : Nat) (b : List Byte) : List SkeinPage :=
  let index := (b.drop ((1 + j) * pageBytes)).take (x * pageBytes)
  let n := leNat ((b.drop 20).take 4)
  let r := (List.range n).foldl (fun (acc : List SkeinPage × Nat) i =>
    let e := (index.drop (16 * i)).take 16
    let w := leNat ((e.drop 8).take 4)
    let len := w % 2 ^ 31
    let at_ := acc.2
    (acc.1 ++ [⟨leNat (e.drop 12), decodeDelta (decide (2 ^ 31 ≤ w)) ((b.drop at_).take len), e.take 8, at_, len⟩],
      at_ + (len + 63) / 64 * 64)) ([], (1 + j + x) * pageBytes)
  r.1

/-- The bytes of a delta slot in use. -/
def State.slotBytes (s : State) (addr : Nat) : List Byte := s.load addr (s.slotField addr 24 8)

/-- The delta of page n, zeros where the skein has no entry for it. -/
def deltaOf (ps : List SkeinPage) (n : Nat) : List Byte :=
  match ps.find? (fun p => decide (p.page = n)) with
  | none => zeroPage
  | some p => p.delta

/-! ### Folding (R432, R433) -/

/-- One page's fold: what it becomes, and whether it matches neither its check nor its form before the fold. -/
def foldOne (base : List Byte) (p : SkeinPage) : List Byte × Bool :=
  if check64 base = p.check then (base, false)
  else
    let new := xorBytes base p.delta
    (new, decide (check64 new ≠ p.check))

/-- A skein is folded into a base; the pages that fail are counted. A skein that was cut over a zero base is folded into
one (assumption 174). Poison stays, and comes with a poisoned payload (R252, assumption 224). -/
def State.foldBase (s : State) (base slot : Nat) : State × Nat :=
  let t := if s.slotField slot 16 4 = 0 then
      (List.range s.basePages).foldl (fun u i => u.store (base + i * pageBytes) zeroPage) s
    else s
  (skeinPages s.sectionPages s.indexPages (s.slotBytes slot)).foldl (fun (acc : State × Nat) p =>
    let a := base + p.page * pageBytes
    let (new, failed) := foldOne (acc.1.load a pageBytes) p
    let bad := if acc.1.poisoned (slot + p.from_) p.bytes then List.replicate (pageBytes / 64) true else acc.1.poisonFlags a pageBytes
    (acc.1.storeCopied a new bad, acc.2 + bit failed)) (t, 0)

/-- Slots of generations before the latest committed one become FREE once every fold is done, here and at the partner
(R429, assumption 24). -/
def State.freeOlder (s : State) : State :=
  if s.foldsDone then
    (List.range 2).foldl (fun t j =>
      let a := t.slotAddr j
      if t.slotField a 0 4 = 0x4C46_444C ∧ t.slotField a 4 4 = slotCommitted ∧ t.slotField a 8 4 ≠ t.fld Reg.leGen Fld.leGenGen then
        t.markSlots j slotFree else t) s
  else s

/-- The work after a commit is done: the base is folded and every chain has passed. -/
def State.settleFold (s : State) : State :=
  match s.le.fold with
  | none => s.freeOlder
  | some f =>
    (if f.stripes = [] ∧ s.ownFoldDue = false then { s with le := { s.le with fold := none } } else s).freeOlder

/-- The own base takes the generation that is folded. -/
def State.foldOwn (s : State) : State :=
  let h := s.skeinBase
  let g := s.foldGen h
  let (t, fails) := match s.slotWith s.slotAddr g slotCommitted with
    | none => (s, 0)
    | some j => s.foldBase s.hbmBaseArea (s.slotAddr j)
  let u := (t.putHeader h g g t.basePages).countWork Reg.leCheckFail fails 1
  let v := if fails = 0 then u else { u with le := { u.le with baseZero := true } }
  v.settleFold

/-- The partner's base takes a generation. -/
def State.foldBuddy (s : State) (g : Nat) : State :=
  let h := s.buddyBase
  let (t, fails) := match s.slotWith s.buddySlotAddr g slotCommitted with
    | none => (s, 0)
    | some j => s.foldBase (h + pageBytes) (s.buddySlotAddr j)
  let m := t.manifestIn h g
  { (t.putHeader h g g t.basePages).countWork Reg.leCheckFail fails 1 with le := { t.le with buddySince := some (BitVec.ofNat 48 (manifestCourse m)) } }.settleFold

/-! ### Parity chains (R434, R435, R448) -/

/-- Multiplication by α = 2 in GF(2^8) with polynomial 0x11D (R434). -/
def gfDouble (b : Byte) : Byte := if b.msb then (b <<< 1) ^^^ 0x1D else b <<< 1

/-- Multiplication by α^j. -/
def gfScale : Nat → Byte → Byte
  | 0, b => b
  | j + 1, b => gfScale j (gfDouble b)

/-- The power of α that a byte other than 0 is. -/
def gfLog (b : Byte) : Nat := ((List.range 255).find? (fun j => decide (gfScale j 1 = b))).getD 0

/-- Division by α^j + α^l, j and l different below 255. -/
def gfDivide (j l : Nat) (b : Byte) : Byte := gfScale (255 - gfLog (gfScale j 1 ^^^ gfScale l 1)) b

/-- The fragment of member i that stripe t holds, in a group of n; k or more for a holder. -/
def fragmentOf (n i t : Nat) : Nat := (t + 2 * n - i - 1) % n

/-- The power of α of member i in stripe t. -/
def powerOf (n i t : Nat) : Nat := (i + 2 * n - t - 2) % n

/-- A set's generation and completion flag in the PARITY header (R414, assumption 43). -/
def State.paritySet (s : State) (k : Nat) : Nat × Nat := (leNat (s.load (s.parityBase + 8 * k) 4), leNat (s.load (s.parityBase + 8 * k + 4) 4))

/-- The set that holds the latest complete generation, if one does; those of a former job count as none (R419). -/
def State.completeSet (s : State) : Option Nat :=
  if s.le.parityZero then none
  else
  let (g0, f0) := s.paritySet 0
  let (g1, f1) := s.paritySet 1
  if f0 = 1 ∧ (f1 ≠ 1 ∨ g1 ≤ g0) then some 0 else if f1 = 1 then some 1 else none

/-- A delta page of the skein of a slot is poisoned. -/
def State.deltaBad (s : State) (slot : Nat) (ps : List SkeinPage) (n : Nat) : Bool :=
  match ps.find? (fun p => decide (p.page = n)) with
  | none => false
  | some p => s.poisoned (slot + p.from_) p.bytes

/-- Granules of some of the pages of a fragment, all of each (R252). -/
def granulesOfPages (pages : Nat) (bad : Nat → Bool) : List Nat :=
  ((List.range pages).filter bad).flatMap (fun i => (List.range (pageBytes / 64)).map (fun g => i * (pageBytes / 64) + g))

/-- This device's fragment of the delta of a generation against what the parity sets hold: the pages of fragment f, poison with
them. A skein cut over a zero base while the sets hold an earlier base takes that base along (R433, R435, assumption 245). -/
def State.fragmentDelta (s : State) (gen f : Nat) : ChainDelta :=
  match s.slotWith s.slotAddr gen slotCommitted with
  | none => ⟨zeroBytes (s.fragmentPages * pageBytes), []⟩
  | some j =>
    let slot := s.slotAddr j
    let ps := skeinPages s.sectionPages s.indexPages (s.slotBytes slot)
    let at_ (i : Nat) : Nat := f * s.fragmentPages + i
    let overBase := decide (s.slotField slot 16 4 = 0) && s.completeSet.isSome
    let old (i : Nat) : List Byte :=
      if overBase && decide (at_ i < s.basePages) then s.load (s.hbmBaseArea + at_ i * pageBytes) pageBytes else zeroPage
    let oldBad (i : Nat) : Bool :=
      overBase && decide (at_ i < s.basePages) && s.poisoned (s.hbmBaseArea + at_ i * pageBytes) pageBytes
    ⟨(List.range s.fragmentPages).flatMap (fun i => xorBytes (deltaOf ps (at_ i)) (old i)),
      granulesOfPages s.fragmentPages (fun i => s.deltaBad slot ps (at_ i) || oldBad i)⟩

/-- The chains of this device still need the base as it was before the fold: they carry a skein that was cut over a zero base
(assumption 245). -/
def State.chainsNeedBase (s : State) : Bool :=
  match s.le.fold with
  | none => false
  | some f =>
    let n := s.groupSize
    s.completeSet.isSome && (List.range n).any (fun t => NatSet.has f.stripes t && decide (fragmentOf n s.ownIndex t < n - 2)) &&
      (match s.slotWith s.slotAddr f.gen.toNat slotCommitted with
        | none => false
        | some j => decide (s.slotField (s.slotAddr j) 16 4 = 0))

/-- Present data members of stripe t, in increasing power. -/
def State.chainMembers (s : State) (t : Nat) : List Nat :=
  let n := s.groupSize
  (List.range n).filterMap (fun j => s.presentMembers.find? (fun i => decide (powerOf n i t = j) && decide (fragmentOf n i t < n - 2)))

/-- First byte of fragment P (0) or Q (1) of a parity set. -/
def State.parityAddr (s : State) (set_ q : Nat) : Nat := s.parityBase + (1 + (2 * set_ + q) * s.fragmentPages) * pageBytes

/-- The PARITY region can be read (R262, R265). -/
def State.parityOpen (s : State) : Bool :=
  s.regionOpen (s.leRegion Fld.leConfigParity) && decide (s.useOf (s.leRegion Fld.leConfigParity) = useParity)

/-- A holder writes its fragment of the new set: the old one XORed with the chain's result, poison of either with it (R252, R435). A
region of another use is not written (R265). -/
def State.writeParity (s : State) (gen q : Nat) (delta : ChainDelta) : State :=
  if s.parityOpen then
    let n := s.fragmentPages * pageBytes
    let (old, oldBad) := match s.completeSet with
      | none => (zeroBytes n, List.replicate (n / 64) false)
      | some k => (s.load (s.parityAddr k q) n, s.poisonFlags (s.parityAddr k q) n)
    let new := match s.completeSet with
      | some 0 => 1
      | _ => 0
    let t := if s.le.parityZero then s.store (s.parityBase + 8 * (1 - new)) (zeroBytes 8) else s
    (t.storeCopied (t.parityAddr new q) (xorBytes old (padTo n delta.bytes)) ((oldBad.zipIdx).map (fun p => p.1 || delta.bad.contains p.2))).store
      (t.parityBase + 8 * new) (leBytes 4 gen ++ leBytes 4 0)
  else s

/-- The set of a generation is complete. -/
def State.completeParity (s : State) (gen : Nat) : State :=
  if s.parityOpen then
    let t := (List.range 2).foldl (fun t k => if t.paritySet k = (gen, 0) then t.store (t.parityBase + 8 * k + 4) (leBytes 4 1) else t) s
    { t with le := { t.le with parityZero := false } }
  else s

/-- Two deltas of a chain added, the second times α^j. -/
def chainPlus (a b : ChainDelta) (j : Nat) : ChainDelta := ⟨xorBytes a.bytes (b.bytes.map (gfScale j)), a.bad ++ b.bad⟩

/-- A delta cut or filled with zeros to a fragment's size. -/
def chainSized (size : Nat) (a : ChainDelta) : ChainDelta := ⟨padTo size a.bytes, a.bad⟩

/-- A stripe's chain passes this device: a data member adds its fragment and passes the deltas on, a holder writes
its fragment of the new set. -/
def State.passChain (s : State) (f : Fold) (t : Nat) (p q : ChainDelta) : State :=
  let n := s.groupSize
  let i := s.ownIndex
  let size := s.fragmentPages * pageBytes
  let left := NatSet.put f.stripes t false
  let s1 := { s with le := { s.le with fold := some { f with stripes := left } } }
  if fragmentOf n i t < n - 2 then
    let ms := s.chainMembers t
    let first := decide (ms.headD 0 = i)
    let own := s.fragmentDelta f.gen.toNat (fragmentOf n i t)
    let zero : ChainDelta := ⟨zeroBytes size, []⟩
    let pOut := chainPlus (if first then zero else chainSized size p) own 0
    let qOut := chainPlus (if first then zero else chainSized size q) own (powerOf n i t)
    let to_ := match (ms.dropWhile (· ≠ i)).drop 1 with
      | m :: _ => [m]
      | [] => [t, (t + 1) % n].filter s.presentMembers.contains
    { s1 with le := { s1.le with passed := s1.le.passed ++ [(⟨f.gen, t, to_, pOut, qOut⟩ : ChainPass)] } }
  else
    let s2 := if i = t then s1.writeParity f.gen.toNat 0 p else s1.writeParity f.gen.toNat 1 q
    if NatSet.has left i ∨ NatSet.has left ((i + n - 1) % n) then s2 else s2.completeParity f.gen.toNat

/-- Once every chain has passed, and every parity set of the group is complete, the members are protected as a group
(R436, assumption 175). -/
def State.endChains (s : State) (groupDone : Bool) : State :=
  let passed := match s.le.fold with
    | none => true
    | some f => decide (f.stripes = [])
  (if passed && groupDone && decide (s.fld Reg.leStatus Fld.leStatusProtection = 1) then s.setFld Reg.leStatus Fld.leStatusProtection 2
    else s).settleFold

/-- `FOLD_COMPLETE`: a fold of the own base, or of the partner's, ends. -/
def execFoldComplete (s : State) : Host.Outcome State Fault Refusal :=
  let open_ := s.running && !s.inReset 4 && !s.inReset 5 && !s.leWaits
  if s.ownFoldDue then act s (open_ && !s.chainsNeedBase) s.foldOwn
  else match s.buddyFoldDue with
    | none => .next s
    | some g => act s open_ (s.foldBuddy g)

/-- `PARITY_CHAIN`: the running deltas of a stripe's chain reach this device; `groupDone` tells that every parity set
of the generation in the group is complete (assumption 175), which may come after the device's last chain. -/
def execParityChain (stripe : Fin 16) (p q : ChainDelta) (groupDone : Bool) (s : State) : Host.Outcome State Fault Refusal :=
  let open_ := s.running && !s.inReset 4 && !s.inReset 5 && !s.leWaits
  match s.le.fold with
  | none => act s (open_ && groupDone) (s.endChains true)
  | some f =>
    if NatSet.has f.stripes stripe.val then act s (open_ && s.skeinOpen) ((s.passChain f stripe.val p q).endChains groupDone)
    else act s (open_ && groupDone) (s.endChains true)

/-! ### Manifests that arrive (R427, R429, R440) -/

/-- The tags of a manifest are those in force (R440). -/
def State.manifestTags (s : State) (m : List Byte) : Bool :=
  decide (leNat ((m.drop 0x14).take 4) = s.cfg.tag.toNat) && decide (leNat ((m.drop 0x18).take 4) = s.mappingTag.toNat)

/-- A restore ends without effect. -/
def State.endRestore (s : State) (status : Nat) : State :=
  match s.le.restore with
  | none => s
  | some w => ({ s with le := { s.le with restore := none } }.completeResult w.slot status [])

/-- Manifests whose signature fails count among the root of trust's (R636). -/
def State.countForged (s : State) (ms : List (List Byte)) : State :=
  s.count Reg.rtSigFails (ms.countP (fun m => manifestFormed m && s.signingSeed.isSome && !s.manifestSigned m))

/-- A restore that awaits its manifest takes one that passes; one with other tags ends it (R440). -/
def State.offerManifest (s0 : State) (w : RestoreWork) (m : List Byte) : State :=
  let s := s0.countForged [m]
  if s.manifestSigned m ∧ manifestGen m = w.gen.toNat then
    if s.manifestTags m then { s with le := { s.le with restore := some { w with manifest := m } } } else s.endRestore stLeBadManifest
  else s

/-- `MANIFEST` (R284, R429). It waits while the engine's regions do (R266). -/
def execManifest (s : State) : Host.Outcome State Fault Refusal :=
  match s.takeCtrl epLifeline 0x21 with
  | none => .next s
  | some (_, p, t) =>
    let m := p.payload.drop 8
    act s (s.running && s.epOpen epLifeline && !s.leWaits)
      (if p.payload.length = 8 + manifestLength (leNat ((m.drop 0x10).take 1)) then
        t.accept p false (fun u =>
          if shortGroup p.payload = u.groupId then
            match u.le.restore with
            | none => u.takeManifest m
            | some w => if w.manifest = [] then u.offerManifest w m else u
          else u)
      else t.count Reg.prBadType 1)

/-- The manifests that the regions hold of a generation's slot. -/
def State.storedManifests (s : State) (gen : Nat) : List (List Byte) :=
  ([(s.skeinOpen, s.skeinBase), (s.buddyOpen, s.buddyBase)].filter Prod.fst).map (fun r => s.manifestIn r.2 gen)

/-- A signed manifest of a group and generation that one of the regions holds. -/
def State.heldManifest (s : State) (group gen : Nat) : Option (List Byte) :=
  (s.storedManifests gen).find? (fun m => s.manifestSigned m && decide (manifestGen m = gen) && decide (manifestGroup m = group))

/-- `MANIFEST_QUERY` (R284): answered with the manifest if held. -/
def execManifestQuery (s : State) : Host.Outcome State Fault Refusal :=
  s.leArrived 0x22 8 (fun t0 p =>
    let t := t0.countForged (t0.storedManifests (shortGen p.payload).toNat)
    match t.heldManifest (shortGroup p.payload) (shortGen p.payload).toNat with
    | none => t
    | some m =>
      t.sendReliable (t.packetTo tyCtrl tcCT (p.src, p.srcSide) epLifeline epLifeline 0 0
        (beBytes 1 0x21 ++ beBytes 2 (shortGroup p.payload) ++ beBytes 4 (shortGen p.payload).toNat ++ zeroBytes 1 ++ m)) .literal .none none none)

end Sys2Proof.Machine
end

