-- ==== Sys2Proof/Machine/Restores.lean ====
section
/-! DEFINITION. Restores, spare fills, manifests read by the host, and snapshots (R440-R446, R449, R591, R602). -/

namespace Sys2Proof.Machine

/-! ### `LIFELINE_RESTORE` (R440, R591) -/

/-- A cut, a fold, a fill or a restore runs. -/
def State.leBusy (s : State) : Bool := decide (s.lePhase ≠ 0)

/-- A cut, a fold or a fill runs: what refuses a restore (R591). -/
def State.bars (s : State) : Bool :=
  decide (s.le.cuts ≠ []) || s.le.fold.isSome || s.ownFoldDue || s.buddyFoldDue.isSome || s.le.fill.isSome

/-- A restore of a generation begins: with the manifest at hand, or by asking members and partner for it. It takes the place of one
that still runs (assumption 178). -/
def State.startRestore (s : State) (gen : BitVec 32) (n : Nat) : State :=
  let w : RestoreWork := ⟨n, gen, [], s.course⟩
  let u := s.endRestore stLeNone
  let t := { u with le := { u.le with restore := some w } }
  match t.heldManifest t.groupId gen.toNat with
  | some m => t.offerManifest w m
  | none =>
    let u := t.tellMembers (t.leMessage 0x22 gen)
    if u.partnerPresent then u.sendLe u.partner (u.leMessage 0x22 gen) else u

/-- `LIFELINE_RESTORE`: generation 4 B. -/
def execLifelineRestore (s : State) : Host.Outcome State Fault Refusal :=
  runCommand 0x41 (sized 4 fun t c =>
    if t.bars then Done.refuse t stLeBusy else deferred t c (fun u n => u.startRestore (BitVec.ofNat 32 (c.arg 0 4)) n)) s

/-! ### `RESTORE_COMPLETE` (R441-R443) -/

/-- A skein's `STEP`, `GEN` and digest match the entry of member n (R441). -/
def skeinMatches (m : List Byte) (n : Nat) (b : List Byte) : Bool :=
  let e := entryAt m n
  decide ((b.drop 12).take 4 = (e.drop 4).take 4) && decide ((b.drop 8).take 4 = (e.drop 8).take 4) && decide (skeinDigest b = (e.drop 32).take 32)

/-- The bytes of the own skein that matches a manifest, if one does; a slot with poison does not (assumption 224). -/
def State.ownSkein (s : State) (m : List Byte) : Option (List Byte) :=
  (((List.range 2).filter (fun j => !s.poisoned (s.slotAddr j) (s.slotField (s.slotAddr j) 24 8))).map (fun j => s.slotBytes (s.slotAddr j))).find?
    (skeinMatches m s.ownIndex)

/-- A page of an image, with its poisoned granules (R252). -/
structure ImagePage where
  bytes : List Byte
  bad : List Bool
  deriving DecidableEq, Repr

/-- A base and its header: base generation, fold generation and fold pointer (R414). -/
structure BaseState where
  baseGen : Nat
  foldGen : Nat
  pointer : Nat
  deriving DecidableEq, Repr

/-- The generation in which page n of a base stands. -/
def BaseState.stands (h : BaseState) (n : Nat) : Nat := if n < h.pointer then h.foldGen else h.baseGen

/-- A skein that leads from one generation of a base to another: both, and its pages (R415, R441). -/
structure SkeinLink where
  gen : Nat
  fromGen : Nat
  pages : List SkeinPage
  deriving DecidableEq, Repr

/-- The link that a slot's bytes hold. -/
def linkOf (j x : Nat) (b : List Byte) : SkeinLink := ⟨leNat ((b.drop 8).take 4), leNat ((b.drop 16).take 4), skeinPages j x b⟩

/-- The link brings every page of a base of `p` pages to generation r: a page that stands elsewhere stands at the link's other end,
or the link was cut over a zero base (R433, R441). -/
def BaseState.leads (h : BaseState) (r p : Nat) (l : SkeinLink) : Bool :=
  (List.range p).all (fun n => decide (h.stands n = r) || (decide (l.gen = r) && (decide (l.fromGen = h.stands n) || decide (l.fromGen = 0))) ||
    (decide (l.fromGen = r) && decide (l.gen = h.stands n)))

/-- Page n of a base for generation r: as it stands, or with the link's skein XORed in where the fold has not reached it, or
has passed it; over a zero base the skein's page alone (R441). -/
def BaseState.pageFor (h : BaseState) (r : Nat) (l : SkeinLink) (n : Nat) (page : List Byte) : List Byte :=
  if h.stands n = r then page
  else if l.fromGen = 0 then deltaOf l.pages n
  else xorBytes page (deltaOf l.pages n)

/-- A skein is whole: it matches this device's entry in the manifest of its generation (R441). -/
def State.linkWhole (s : State) (m : List Byte) (r : Nat) (b : List Byte) : Bool :=
  let g := leNat ((b.drop 8).take 4)
  if g = r then skeinMatches m s.ownIndex b
  else match s.heldManifest s.groupId g with
    | none => false
    | some later => skeinMatches later s.ownIndex b

/-- Of the skeins beside a base, that of generation r and that which the base folds, the first that is whole and leads to r. -/
def State.linkFor (s : State) (m : List Byte) (r : Nat) (h : BaseState) (bs : List (List Byte)) : Option SkeinLink :=
  (bs.find? (fun b => s.linkWhole m r b && h.leads r s.basePages (linkOf s.sectionPages s.indexPages b))).map
    (linkOf s.sectionPages s.indexPages)

/-- The header of the own base. -/
def State.ownBase (s : State) : BaseState := ⟨s.baseGen s.skeinBase, s.foldGen s.skeinBase, s.foldPointer s.skeinBase⟩

/-- The slot bytes of the skein that the own base folds. -/
def State.ownFolding (s : State) : List Byte :=
  match (List.range 2).find? (fun j => decide (s.slotField (s.slotAddr j) 8 4 = s.foldGen s.skeinBase) &&
      !s.poisoned (s.slotAddr j) (s.slotField (s.slotAddr j) 24 8)) with
  | none => []
  | some j => s.slotBytes (s.slotAddr j)

/-- The device's own SKEIN region is whole for generation r of a manifest: the bytes of its skein, and the link by which its base
comes to r. -/
def State.ownWhole (s : State) (m : List Byte) (r : Nat) : Option (List Byte × SkeinLink) :=
  match s.ownSkein m with
  | none => none
  | some b => (s.linkFor m r s.ownBase [b, s.ownFolding]).map (fun l => (b, l))

/-- The base image of the own device for generation r, by page; no link comes from a poisoned slot. -/
def State.ownImage (s : State) (r : Nat) (l : SkeinLink) (n : Nat) : ImagePage :=
  let a := s.hbmBaseArea + n * pageBytes
  ⟨s.ownBase.pageFor r l n (s.load a pageBytes), s.poisonFlags a pageBytes⟩

/-- Page n of an image. -/
def pageOfImage (b : List Byte) (n : Nat) : List Byte := padTo pageBytes (b.drop (n * pageBytes))

/-- The header of the base that the partner holds. -/
def shareBase (h : BuddyShare) : BaseState := ⟨h.baseGen, h.foldGen, h.pointer⟩

/-- The partner's BUDDY region is whole for generation r of a manifest: the link by which its base comes to r. -/
def State.shareWhole (s : State) (m : List Byte) (r : Nat) (h : BuddyShare) : Option SkeinLink :=
  if skeinMatches m s.ownIndex h.skein then s.linkFor m r (shareBase h) [h.skein, h.folding] else none

/-- The base image that the partner's BUDDY region gives for generation r. -/
def shareImage (h : BuddyShare) (r : Nat) (l : SkeinLink) (n : Nat) : ImagePage :=
  ⟨(shareBase h).pageFor r l n (pageOfImage h.base n),
    (List.range (pageBytes / 64)).map (fun i => h.bad.contains (n * (pageBytes / 64) + i))⟩

/-! ### Stripes of a generation (R434, R442) -/

/-- Members of stripe t that hold a data fragment of it. -/
def dataMembers (n t : Nat) : List Nat := (List.range n).filter (fun i => decide (fragmentOf n i t < n - 2))

/-- Every stripe of a group of n is restorable: its whole data members and its complete holders number at least k. -/
def restorable (n : Nat) (whole holders : List Nat) : Bool :=
  (List.range n).all (fun t =>
    decide (n - 2 ≤ (dataMembers n t).countP whole.contains + ([t, (t + 1) % n].countP holders.contains)))

/-- Fragment of member i in stripe t from what the chains leave of P and Q (R434), poison of what it is solved from with it
(R252). -/
def solveFragment (n i t : Nat) (whole holders : List Nat) (p q : ChainDelta) : ChainDelta :=
  let j := powerOf n i t
  match (dataMembers n t).find? (fun m => decide (m ≠ i) && !whole.contains m) with
  | none => if holders.contains t then p else ⟨q.bytes.map (gfScale (255 - j)), q.bad⟩
  | some m =>
    let l := powerOf n m t
    ⟨(xorBytes q.bytes (p.bytes.map (gfScale l))).map (gfDivide j l), p.bad ++ q.bad⟩

/-- Fragment f of the base image that the chains rebuild. -/
def State.rebuiltFragment (s : State) (whole holders : List Nat) (chains : List (ChainDelta × ChainDelta)) (f : Nat) : ChainDelta :=
  let n := s.groupSize
  let i := s.ownIndex
  let size := s.fragmentPages * pageBytes
  let (p, q) := chains.getD f (⟨[], []⟩, ⟨[], []⟩)
  solveFragment n i ((i + 1 + f) % n) whole holders (chainSized size p) (chainSized size q)

/-- Page n of that image. -/
def State.rebuiltPage (s : State) (whole holders : List Nat) (chains : List (ChainDelta × ChainDelta)) (n : Nat) : ImagePage :=
  let d := s.rebuiltFragment whole holders chains (n / s.fragmentPages)
  let i := n % s.fragmentPages
  ⟨pageOfImage d.bytes i, (List.range (pageBytes / 64)).map (fun g => d.bad.contains (i * (pageBytes / 64) + g))⟩

/-- Members whose parity set of a generation is complete: those that tell it, and this device. -/
def State.holdersOf (s : State) (r : Nat) (told : List (Fin 16)) : List Nat :=
  (told.map Fin.val).filter (fun m => decide (m ≠ s.ownIndex)) ++
    (if (List.range 2).any (fun k => decide (s.paritySet k = (r, 1))) then [s.ownIndex] else [])

/-- The sections in a skein's bytes. -/
def State.sectionsOf (s : State) (b : List Byte) : List Byte := (b.drop pageBytes).take (s.sectionPages * pageBytes)

/-- The image is written into the base area and into every protected extent, both buffers of a pair, poison with it. -/
def State.writeImage (s : State) (image : Nat → ImagePage) : State :=
  let put (u : State) (a n : Nat) : State := u.storeCopied a (image n).bytes (image n).bad
  let t := (List.range s.basePages).foldl (fun u n => put u (u.hbmBaseArea + n * pageBytes) n) s
  (s.logicalPages.zipIdx).foldl (fun u p =>
    if p.1.live then
      let v := put u p.1.addr p.2
      match p.1.second with
      | none => v
      | some a => put v a p.2
    else u) t

/-- Every generation after r is voided in a region: its slot there becomes FREE and its manifest slot 0 (R443). -/
def State.voidIn (s : State) (base : Nat) (addr : Nat → Nat) (r : Nat) : State :=
  let t := (List.range 2).foldl (fun (u : State) j =>
    if u.slotField (addr j) 0 4 = 0x4C46_444C ∧ r < u.slotField (addr j) 8 4 then u.setSlotState (addr j) slotFree else u) s
  (List.range 2).foldl (fun (u : State) k =>
    let m := u.manifestIn base k
    if leNat (m.take 4) = 0x4C46_4D4E ∧ r < manifestGen m then u.store (manifestAddr base k) (zeroBytes (manifestLength 16)) else u) t

/-- The base of the partner that the BUDDY region holds goes back to generation r where the skein it has folded was cut from r
(assumption 232). -/
def State.unfoldBuddy (s : State) (r : Nat) : State :=
  let h := s.buddyBase
  match s.slotWith s.buddySlotAddr (s.baseGen h) slotCommitted with
  | none => s
  | some j =>
    let slot := s.buddySlotAddr j
    if s.slotField slot 16 4 = r ∧ s.baseGen h ≠ r then
      ((skeinPages s.sectionPages s.indexPages (s.slotBytes slot)).foldl (fun t p =>
        let a := h + pageBytes + p.page * pageBytes
        t.storeCopied a (xorBytes (t.load a pageBytes) p.delta) (t.poisonFlags a pageBytes)) s).putHeader h r r s.basePages
    else s

/-- The parity sets of every generation after r are complete no longer (assumption 232). -/
def State.voidParity (s : State) (r : Nat) : State :=
  if s.parityOpen then
    (List.range 2).foldl (fun (u : State) k => if r < (u.paritySet k).1 then u.store (u.parityBase + 8 * k) (zeroBytes 8) else u) s
  else s

/-- Every generation after r is voided on the device: in its SKEIN region, and as the partner's in its BUDDY region, whose base goes
back to generation r (R443, assumption 232). -/
def State.voidGenerations (s : State) (r : Nat) : State :=
  let t := (s.voidIn s.skeinBase s.slotAddr r).voidParity r
  if t.buddyOpen then (t.unfoldBuddy r).voidIn t.buddyBase t.buddySlotAddr r else t

/-- The restore itself (R443). -/
def State.restoreTo (s : State) (w : RestoreWork) (image : Nat → ImagePage) (sections : List Byte) (rebuilt : Nat) : State :=
  let u := BitVec.ofNat 32 (manifestStep w.manifest)
  let r := w.gen.toNat
  let a := ((s.discardAfter u).rewindJob).writeImage image
  let (b, rest) := a.applySections (u + 1) some a.journalled sections
  let c := (b.applyExtents (b.skExtents false) rest).fillBitmaps
  let d := c.voidGenerations r
  let e := (d.setReg Reg.leGen (BitVec.ofNat 64 (r * 2 ^ 32 + u.toNat))).putHeader d.skeinBase r r d.basePages
  let f := ((e.setFld Reg.skStatus Fld.skStatusCurBuf 0).count Reg.leRestores 1).countWork Reg.leRebuiltPages rebuilt 1
  let g := { f.backSnapshots (fun _ => false) with
    le := { (f.backSnapshots (fun _ => false)).le with restore := none, fold := none, baseZero := false, parityZero := false, buddySince := none, fellBack := none }
    sk := { f.sk with
      reference := some u, boundary := some u, prevBoundary := none, decidedThrough := some u, lastApplied := false, updateHeld := false
      restored := true, filled := false } }
  (g.completeResult w.slot stOk (beBytes 4 u.toNat ++ beBytes 4 r ++ beBytes 4 s.logicalPages.length ++ beBytes 4 rebuilt))

/-- A generation that cannot be restored: `LE_FALLBACK`, or `LE_NONE` where it is an earlier one than that which fell back before
(R442). -/
def State.failRestore (s : State) (w : RestoreWork) : State :=
  match s.le.fellBack.filter (fun g => decide (w.gen.toNat < g.toNat)) with
  | some _ => s.endRestore stLeNone
  | none =>
    let t := (s.endRestore stLeFallback).count Reg.leFallbacks 1
    { t with le := { t.le with fellBack := some w.gen } }

/-- A restore with its manifest at hand: the share is taken from its source where every stripe of the group is restorable, and
otherwise the restore fails (R442). -/
def State.finishRestore (s : State) (w : RestoreWork) (whole holders : List Nat)
    (image : Nat → ImagePage) (sections : List Byte) (pages : Nat) : State :=
  if restorable s.groupSize whole holders then s.restoreTo w image sections pages else s.failRestore w

/-- `RESTORE_COMPLETE`: the share comes from its source, which must be whole as R441 says; only a device whose own slot and
whose partner's are not whole is rebuilt. Where no manifest has come within 4,096 courses the restore ends (assumption 176). -/
def execRestoreComplete (shares : RestoreShares) (s : State) : Host.Outcome State Fault Refusal :=
  match s.le.restore with
  | none => .next s
  | some w =>
    let open_ := s.running && !s.inReset 4 && !s.inReset 5 && !s.leWaits
    let r := w.gen.toNat
    let others := (shares.whole.map Fin.val).filter (fun m => decide (m ≠ s.ownIndex))
    let hs := s.holdersOf r shares.holders
    if w.manifest = [] then act s (open_ && decide (4096 ≤ coursesSince s.course w.since)) (s.endRestore stLeBadManifest)
    else match shares.source, s.ownWhole w.manifest r with
      | .own, some (b, l) => act s open_ (s.finishRestore w (s.ownIndex :: others) hs (s.ownImage r l) (s.sectionsOf b) 0)
      | .partner h, none => match s.shareWhole w.manifest r h with
        | none => .next s
        | some l => act s open_ (s.finishRestore w (s.ownIndex :: others) hs (shareImage h r l) (s.sectionsOf h.skein) 0)
      | .rebuilt chains sections, none =>
        act s open_ (s.finishRestore w others hs
          (s.rebuiltPage others hs chains) sections s.basePages)
      | _, _ => .next s

/-! ### `SPARE_FILL` (R445, R446) -/

/-- Entry i of the fill table: source, destination, bytes and whether the partner is its source. -/
structure FillEntry where
  src : Nat
  dst : Nat
  bytes : Nat
  fromPartner : Bool
  deriving DecidableEq, Repr

/-- The fill table. -/
def State.fillTable (s : State) : List FillEntry :=
  let base := s.fld Reg.leFill Fld.leFillBase * 64
  (List.range (s.fld Reg.leFill Fld.leFillCount)).map (fun i =>
    let a := base + 32 * i
    let pages := s.leAt (a + 16) 4 * (if s.leAt (a + 21) 1 % 2 = 1 then 2 else 1)
    ⟨s.leAt a 8, s.leAt (a + 8) 8, pages * pageBytes, decide (s.leAt (a + 20) 1 = 1)⟩)

/-- The twin: the next present member in + on the data ring (R446). -/
def State.twin (s : State) : BitVec 15 :=
  let ps := s.presentOn 0
  s.memberAt 0 (((ps.filter (fun q => decide (s.position 0 < q))) ++ ps).headD 0)

/-- What the fill takes from the partner beside its table (assumption 177): base and SKEIN from its BUDDY region,
the BUDDY region from its base and SKEIN; source, destination, bytes. -/
def State.lifelineCopies (s : State) : List FillEntry :=
  let slots := 2 * s.slotPages * pageBytes
  [⟨s.buddyBase + pageBytes, s.hbmBaseArea, s.basePages * pageBytes, true⟩, ⟨s.buddyBase, s.skeinBase, pageBytes, true⟩,
    ⟨s.buddySlotAddr 0, s.slotAddr 0, slots, true⟩, ⟨s.hbmBaseArea, s.buddyBase + pageBytes, s.basePages * pageBytes, true⟩,
    ⟨s.skeinBase, s.buddyBase, pageBytes, true⟩, ⟨s.slotAddr 0, s.buddySlotAddr 0, slots, true⟩]

/-- A fill begins: every source is asked for its bytes. -/
def State.startFill (s : State) (n : Nat) : State :=
  let es := s.fillTable ++ s.lifelineCopies
  let t := es.zipIdx.foldl (fun u (p : FillEntry × Nat) =>
    u.sendReads (if p.1.fromPartner then u.partner else u.twin) epLifeline p.1.src p.1.dst p.1.bytes (.fill p.2)) s
  let w : FillWork := ⟨n, s.fillTable.length, (es.map FillEntry.bytes).foldl (· + ·) 0⟩
  { t with le := { t.le with fill := some w } }.showFill

/-- `SPARE_FILL`. One while the engine works draws `LE_BUSY` (assumption 178). -/
def execSpareFill (s : State) : Host.Outcome State Fault Refusal :=
  runCommand 0x42 (sized 0 fun t c => if t.leBusy then Done.refuse t stLeBusy else deferred t c State.startFill) s

/-- The latest committed generation that the SKEIN slots hold, with its step. -/
def State.filledGen (s : State) : Nat × Nat :=
  (List.range 2).foldl (fun (m : Nat × Nat) j =>
    let a := s.slotAddr j
    if s.slotField a 0 4 = 0x4C46_444C ∧ s.slotField a 4 4 = slotCommitted ∧ m.1 < s.slotField a 8 4 then
      (s.slotField a 8 4, s.slotField a 12 4) else m) (0, 0)

/-- A parity set is written, with its mark in the PARITY header (R414, R446, assumption 43). -/
def State.putParitySet (s : State) (k : Nat) (p : ParitySet) : State :=
  if s.parityOpen then
    let n := 2 * s.fragmentPages * pageBytes
    (s.storeCopied (s.parityAddr k 0) (padTo n p.bytes) ((List.range (n / 64)).map p.bad.contains)).store (s.parityBase + 8 * k)
      (leBytes 4 p.gen.toNat ++ leBytes 4 (bit p.whole))
  else s

/-- `FILL_COMPLETE`: every read has landed. `peer` is what the partner tells beside (R27, R400, R418), and `sets`
the parity sets that the chains of the group's members gave (assumption 177). -/
def execFillComplete (peer : FillPeer) (sets : ParitySets) (s : State) : Host.Outcome State Fault Refusal :=
  match s.le.fill with
  | none => .next s
  | some w =>
    let (g, u) := s.filledGen
    let t := (s.putParitySet 0 sets.set0).putParitySet 1 sets.set1
    let v := (t.setFld Reg.skStatus Fld.skStatusCurBuf peer.curBuf.val).setReg Reg.leGen (BitVec.ofNat 64 (g * 2 ^ 32 + u))
    let x := { v with
      le := { v.le with
        fill := none, lastGen := BitVec.ofNat 32 (max v.le.lastGen.toNat (max peer.lastGen.toNat g)), baseZero := decide (g = 0)
        parityZero := decide (g = 0), buddySince := none }
      sk := { v.sk with
        filled := true, boundary := peer.boundary, prevBoundary := peer.prevBoundary, lastApplied := peer.applied } }
    act s (s.running && !s.inReset 4 && !s.inReset 5 && !s.leWaits && !s.fab.reads.any ReadWait.isFill)
      ((x.completeResult w.slot stOk (fillBody w.total w.total w.bytes)))

/-! ### `MANIFEST_READ` -/

/-- `MANIFEST_READ`: region 1 B, manifest slot 1 B. A region that cannot be read gives no bytes (assumption 179). -/
def execManifestRead (s : State) : Host.Outcome State Fault Refusal :=
  runCommand 0x43 (sized 2 fun t c =>
    if 1 < c.arg 0 1 ∨ 1 < c.arg 1 1 then Done.refuse t stBadParam
    else
      let (open_, base) := if c.arg 0 1 = 0 then (t.skeinOpen, t.skeinBase) else (t.buddyOpen, t.buddyBase)
      Done.ok t (if open_ then t.manifestIn base (c.arg 1 1) else [])) s

/-! ### Snapshots (R449) -/

/-- The logical pages of the extents that snapshots copy. -/
def State.snapshotPages (s : State) : List LogicalPage :=
  (List.range 32).flatMap (fun n => if s.flag (Reg.leExtent n) Fld.leExtentSnap then s.pagesOfExtent n else [])

/-- The region of a snapshot is one of its use and large enough. -/
def State.snapshotFits (s : State) (r : Nat) : Bool :=
  s.regionOpen r && decide (s.useOf r = useSnapshot) && decide ((s.snapshotPages.length + 1) * pageBytes ≤ s.regionBytes r)

/-- What a snapshot into a region reads or writes lies in a partition in reset (R266, R534). -/
def State.snapshotWaits (s : State) (r : Nat) : Bool :=
  s.regionWaits r || s.snapshotPages.any (fun p => s.memWaits p.addr pageBytes || (match p.second with
    | none => false
    | some a => s.memWaits a pageBytes))

/-- A snapshot of boundary u into a region begins: the pages from 1 onward are written and the next update is held. -/
def State.beginSnapshot (s : State) (r : Nat) (u : BitVec 32) : State :=
  if s.snapshotFits r then
    let base := s.regionBase r
    let t := (s.snapshotPages.zipIdx).foldl (fun v p =>
      let dst := base + (p.2 + 1) * pageBytes
      if p.1.live then v.copyBytes (p.1.at_ (s.bufferOf u)) dst pageBytes else v.store dst zeroPage) s
    { t with le := { t.le with snapshot := ⟨r, u, 1⟩, holdUpdate := true } }
  else { s with le := { s.le with snapshot := ⟨r, u, 3⟩ } }.releaseUpdate

/-- The boundary that a waiting snapshot takes now: the one fixed for it, or the one that stands when its update has completed
since the event. -/
def State.snapshotBoundary (s : State) (d : SnapshotDue) : Option (BitVec 32) :=
  match d.boundary with
  | some u => some u
  | none => if d.armed then s.doneBoundary else none

/-- `SNAPSHOT`: an event that has fired waits for the first boundary whose update completes at or after it (the one from which a job
starts completes none) and for the
snapshot before it; then the copy is made. -/
def execSnapshot (s : State) : Host.Outcome State Fault Refusal :=
  let open_ := s.running && !s.inReset 4 && !s.inReset 5
  match s.takeHanded 4 actSnapshot with
  | some (h, t) => act s open_ { t with le := { t.le with snapshotDue := t.le.snapshotDue ++ [⟨h.param % 16, t.sk.boundary.isSome && t.doneBoundary.isNone, none⟩] } }
  | none =>
    match s.le.snapshotDue with
    | [] => .next s
    | d :: rest =>
      match s.snapshotBoundary d with
      | none => .next s
      | some u => act s (open_ && !s.le.holdUpdate && !s.snapshotWaits d.region) ({ s with le := { s.le with snapshotDue := rest } }.beginSnapshot d.region u)

/-- Page 0 of a snapshot. -/
def State.snapshotHeader (s : State) (pages : Nat) (digest : List Byte) : List Byte :=
  leBytes 4 0x534E_4150 ++ leBytes 4 s.le.snapshot.step.toNat ++ leBytes 4 s.cfg.tag.toNat ++ leBytes 4 s.mappingTag.toNat ++ leBytes 4 pages ++
    zeroBytes 12 ++ digest

/-- `SNAPSHOT_COMPLETE`: page 0 is written last and the held update goes. -/
def execSnapshotComplete (s : State) : Host.Outcome State Fault Refusal :=
  let r := s.le.snapshot.region
  let n := s.snapshotPages.length
  let base := s.regionBase r
  let t := s.store base (s.snapshotHeader n (shake 32 (s.load (base + pageBytes) (n * pageBytes))))
  act s (s.running && !s.inReset 4 && !s.inReset 5 && s.le.holdUpdate && !s.regionWaits r)
    ({ t with le := { t.le with snapshot := { t.le.snapshot with state := 2 }, holdUpdate := false } }.releaseUpdate)

end Sys2Proof.Machine
end

