-- ==== Sys2Proof/Machine/PortH.lean ====
section
/-! DEFINITION. Port H beside FCP and RoCEv2: its link, pauses, announcements, addresses and the frames that it answers
(R550, R554, R556, R558-R562, R713). -/

namespace Sys2Proof.Machine

/-- Port H takes frames of the network layer: its link is UP. -/
def State.portHUp (s : State) : Bool := s.running && s.hp.linkUp && !s.inReset 4 && !s.inReset 5

/-! ### Pauses (R554, R556) -/

/-- `HP_STATUS.PAUSED`: bit 0 `PCP_CMD`, bit 1 `PCP_BULK`. -/
def State.showPaused (s : State) : State := s.setFld Reg.hpStatus Fld.hpStatusPaused (bit (s.hpPaused 0) + 2 * bit (s.hpPaused 1))

/-- A received pause of one class: `q` quanta of 512 bit times at 800 Gb/s, 8/5 of a stitch each; 0 resumes. -/
def State.pauseClass (s : State) (cls q : Nat) : State :=
  { s with hp := { s.hp with pausedUntil := SMap.set 0 s.hp.pausedUntil cls (s.now + (8 * q + 4) / 5) } }

/-- `PFC_FRAME`: the priorities that the frame names, with their quanta. -/
def execPfcFrame (named : BitVec 8) (quanta : List (BitVec 16)) (s : State) : Host.Outcome State Fault Refusal :=
  let t := (List.range 2).foldl (fun u cls =>
    if bitOf named (s.priorityOf cls) then u.pauseClass cls (quanta.getD (s.priorityOf cls) 0).toNat else u) s
  act s s.portHUp t.showPaused.flushWaiting

/-- `PFC_PAUSE_EXPIRY`: a pause has run out. -/
def execPfcPauseExpiry (s : State) : Host.Outcome State Fault Refusal :=
  act s (s.running && decide (s.fld Reg.hpStatus Fld.hpStatusPaused ≠ bit (s.hpPaused 0) + 2 * bit (s.hpPaused 1))) s.showPaused.flushWaiting

/-- `XOFF_REPEAT`: 20 µs after the last XOFF of a class another leaves, or XON once the free space, `room`, has risen
enough (R554). -/
def execXoffRepeat (bulk : Bool) (room : Nat) (s : State) : Host.Outcome State Fault Refusal :=
  let cls := bit bulk
  let due := decide (SMap.get 0 s.hp.lastXoff cls + 50000 ≤ s.now)
  if xonAbove cls < room then act s (s.portHUp && s.xoff cls) (s.setRoom cls room)
  else act s (s.portHUp && s.xoff cls && due)
    ((if bulk then { s with hp := { s.hp with freeBulk := room } } else { s with hp := { s.hp with freeCmd := room } }).sendPfc cls true)

/-! ### Announcements (R561) -/

/-- The body of an announcement. -/
def State.announceBody (s : State) : List Byte :=
  keyDigest identityKey ++ fitTo 16 (ascii "MDN-SV1 A1") ++ beBytes 2 (s.fld Reg.prTorus Fld.prTorusPhys) ++
    beBytes 1 (s.fld Reg.prTorus Fld.prTorusSide) ++ zeroBytes 29

/-- `ANNOUNCE`: every second (2.5 · 10⁹ stitches) until a session exists. -/
def execAnnounce (s : State) : Host.Outcome State Fault Refusal :=
  let due := match s.hp.announcedAt with
    | none => true
    | some a => decide (a + 2_500_000_000 ≤ s.now)
  let t := s.send (.announce (fcpDatagram fcpAnnounce 0 0 0 0 0 1 true 0 s.announceBody))
  act s (s.hostOpen && s.hp.session.isNone && s.flag Reg.hpConfig Fld.hpConfigAnnounce && s.hp.localOk && due)
    { t with hp := { t.hp with announcedAt := some s.now } }

/-! ### Addresses (R558, R559, R713) -/

/-- The device's link-local or global IPv6 address (R558, R559). -/
def State.hostAddress (s : State) (here : Bool) : BitVec 128 := if here then linkLocalAddr else BitVec.ofNat 128 s.ipv6

/-- Courses of 60 s. -/
def minuteCourses : Nat := 58_593_750

/-- The path of port H in logs. -/
def portHPath : BitVec 32 := enginePath 12

/-- Detection has found an address in use. -/
def State.addressConflict (s : State) (linkLocal : Bool) : State :=
  let t := if linkLocal then
      { s with hp := { s.hp with dadLocal := false, localOk := false, dadRetryAt := some (s.course + BitVec.ofNat 48 minuteCourses) } }.setFld
        Reg.hpStatus Fld.hpStatusDadLinkLocal 1
    else { s with hp := { s.hp with dadGlobal := false, globalOk := false } }.setFld Reg.hpStatus Fld.hpStatusDadGlobal 1
  t.report (Report.bare clsHostAddressConflict portHPath)

/-- Detection of the link-local address begins. -/
def State.detectLocal (s : State) : State :=
  { s with hp := { s.hp with dadLocal := true, localOk := false, dadRetryAt := none } }.send (.dadProbe linkLocalAddr)

/-- `HOST_LINK_UP`: training ends; detection of the link-local address begins, and that of a global one that is still to
be tested. Port H trains from phase 3 of cast-on (R640). -/
def execHostLinkUp (s : State) : Host.Outcome State Fault Refusal :=
  let t := { s with hp := { s.hp with linkUp := true } }.setFld Reg.hpStatus Fld.hpStatusLink 2
  let u := t.detectLocal
  let phase := s.fld Reg.castonStatus Fld.castonStatusPhase
  act s (s.running && !s.hp.linkUp && !s.inReset 4 && !s.inReset 5 && decide (3 ≤ phase) && decide (phase ≤ 8))
    (if u.hp.dadGlobal then u.send (.dadProbe (BitVec.ofNat 128 u.ipv6)) else u)

/-- `DAD_RETRY`: 60 s after a conflict of the link-local address. -/
def execDadRetry (s : State) : Host.Outcome State Fault Refusal :=
  match s.hp.dadRetryAt with
  | none => .next s
  | some c => act s (s.portHUp && reached s.course c) s.detectLocal

/-- `DAD_PASS`: detection ends without a conflict. -/
def execDadPass (linkLocal : Bool) (s : State) : Host.Outcome State Fault Refusal :=
  if linkLocal then
    act s (s.portHUp && s.hp.dadLocal)
      ({ s with hp := { s.hp with dadLocal := false, localOk := true } }.setFld Reg.hpStatus Fld.hpStatusDadLinkLocal 0)
  else act s (s.portHUp && s.hp.dadGlobal) { s with hp := { s.hp with dadGlobal := false, globalOk := true } }

/-- `NEIGHBOR_DISCOVERY`: a frame about the link-local or the global address (R559, R713). A node that has the address or
detects it too makes a detection under way fail; in use, the address is advertised. -/
def execNeighborDiscovery (frame : Frame) (kind : NdKind) (s : State) : Host.Outcome State Fault Refusal :=
  act s (s.portHUp && decide (frame.to_.val < 2)) (match s.unprotect frame with
    | (t, false) => t
    | (t, true) =>
      let here := decide (frame.to_.val = 0)
      let detecting := if here then t.hp.dadLocal else t.hp.dadGlobal
      match kind with
      | .advert => if detecting then t.addressConflict here else t
      | .probe => if detecting then t.addressConflict here else if t.addressed frame then t.send (.neighborAdvert frame.from_ (t.hostAddress here)) else t
      | .solicit => if t.addressed frame then t.send (.neighborAdvert frame.from_ (t.hostAddress here)) else t)

/-- `ARP` (R559). -/
def execArp (frame : Frame) (s : State) : Host.Outcome State Fault Refusal :=
  act s (s.portHUp && decide (frame.to_.val = 2)) (match s.unprotect frame with
    | (t, false) => t
    | (t, true) => if t.addressed frame then t.send (.arpReply frame.from_ (BitVec.ofNat 32 (t.fld Reg.hpIpv4 Fld.hpIpv4Addr))) else t)

/-- Courses of a second, rounded up. -/
def secondCourses : Nat := 976_563

/-- `ECHO_REQUEST`: answered at no more than 100 per second (R559). -/
def execEchoRequest (frame : Frame) (s : State) : Host.Outcome State Fault Refusal :=
  act s s.portHUp (match s.unprotect frame with
    | (t, false) => t
    | (t, true) =>
      let recent := t.hp.echoes.filter (fun c => decide (coursesSince t.course c < secondCourses))
      if t.addressed frame ∧ recent.length < 100 then
        { t.send (.echoReply frame.from_) with hp := { (t.send (.echoReply frame.from_)).hp with echoes := recent ++ [t.course] } }
      else t)

end Sys2Proof.Machine
end

