-- ==== Sys2Proof/Machine/Rdma.lean ====
section
/-! DEFINITION. RoCEv2 on port H: queue pairs, requests, responses and congestion (R265, R552, R557, R560, R566,
R570-R577). -/

namespace Sys2Proof.Machine

/-! ### Queue pairs (R570) -/

/-- Queue pair of a number. -/
def State.qp (s : State) (n : Nat) : Option QueuePair := SMap.get none s.hp.qps n

/-- Writes a queue pair. -/
def State.setQp (s : State) (n : Nat) (q : Option QueuePair) : State := { s with hp := { s.hp with qps := SMap.set none s.hp.qps n q } }

/-- Numbers of the device's queue pairs: the two special ones apart (assumption 182). -/
def qpNumbers : List Nat := (List.range 64).map (· + 2)

/-- A new queue pair. -/
def freshQp (hostQpn : Nat) (psnIn psnOut : BitVec 24) (mtu : Nat) (c : Course) : QueuePair where
  hostQpn := hostQpn
  psn := psnIn
  psnOut := psnOut
  mtu := mtu
  error := false
  rate := fullRate
  lastCnp := c
  lastCnpSent := none
  message := none
  sinceAck := 0
  reads := []
  nextAt := 0

/-- `QP_CREATE`: host QPN 3 B, first PSN to the device 3 B, from the device 3 B, path MTU 1 B, coded as InfiniBand codes
1,024, 2,048 and 4,096 bytes (assumption 182). -/
def execQpCreate (s : State) : Host.Outcome State Fault Refusal :=
  runCommand 0x70 (sized 10 fun t c =>
    let mtu := c.arg 9 1
    if mtu < 3 ∨ 5 < mtu then Done.refuse t stBadParam
    else match qpNumbers.find? (fun n => (t.qp n).isNone) with
      | none => Done.refuse t stNoQp
      | some n =>
        Done.ok (t.setQp n (some (freshQp (c.arg 0 3) (BitVec.ofNat 24 (c.arg 3 3)) (BitVec.ofNat 24 (c.arg 6 3)) (2 ^ (mtu + 7)) t.course)))
          (beBytes 3 n)) s

/-- `QP_DESTROY`: device QPN 3 B; reads outstanding are abandoned, and WRITEs that have been
accepted complete unacknowledged (R575). -/
def execQpDestroy (s : State) : Host.Outcome State Fault Refusal :=
  runCommand 0x71 (sized 3 fun t c =>
    if (t.qp (c.arg 0 3)).isNone then Done.refuse t stState
    else Done.ok { t.setQp (c.arg 0 3) none with hp := { (t.setQp (c.arg 0 3) none).hp with
      heldWrites := t.hp.heldWrites.map (fun (h : HeldWrite) => if h.qp = c.arg 0 3 then { h with ack := false } else h) } } []) s

/-! ### Windows and memory (R265, R575) -/

/-- The window that a remote key names. -/
def State.windowOf (s : State) (rkey : BitVec 32) : Option Nat :=
  (List.range 32).find? (fun n => s.flag (Reg.hpWindowA n) Fld.hpWindowAValid && decide (s.fld (Reg.hpWindowB n) Fld.hpWindowBRkey = rkey.toNat))

/-- The uses that host RDMA may write, and those that it may read (R265). -/
def rdmaUse (write : Bool) (use : Nat) : Bool :=
  if write then decide (use = useGeneral) || decide (use = useSkein) else decide (use ≠ useJournal) && decide (use < 7)

/-- Host RDMA reaches an extent (R76, R232, R265). -/
def State.rdmaReach (s : State) (write : Bool) (a n : Nat) : Bool := hbmRange a n || (tierRange a n && s.tierAdmits (rdmaUse write) 17 a n)

/-- A request is one that R575 accepts. -/
def State.rdmaAllowed (s : State) (write : Bool) (h : RdmaHeader) : Bool :=
  let a := h.addr.toNat
  match s.windowOf h.rkey with
  | none => false
  | some n =>
    let lo := s.fld (Reg.hpWindowA n) Fld.hpWindowABase * 4096
    decide (a < 2 ^ 48) && (if write then s.flag (Reg.hpWindowA n) Fld.hpWindowAWrite else s.flag (Reg.hpWindowA n) Fld.hpWindowARead) &&
      decide (lo ≤ a) && decide (a + h.len ≤ lo + s.fld (Reg.hpWindowB n) Fld.hpWindowBLen * 4096) && s.rdmaReach write a h.len

/-- A granule is one that host RDMA sees in plaintext: of HBM, or of a GENERAL region under the ephemeral key. -/
def State.rdmaPlain (s : State) (a : Nat) : Bool :=
  if inTier a then
    match s.regionAt a with
    | none => false
    | some r => decide (s.useOf r = useGeneral) && !s.flag (Reg.dtRegionA r) Fld.dtRegionAKeySel
  else true

/-- The parts of an extent by granule: first byte and bytes. -/
def partsOf (a n : Nat) : List (Nat × Nat) :=
  (granulesOf a n).map (fun g => (max a (64 * g), min (a + n) (64 * g + 64) - max a (64 * g)))

/-- Writes the bytes of a request, plaintext or as they are stored. -/
def State.rdmaStore (s : State) (a : Nat) (bs : List Byte) : State :=
  (partsOf a bs.length).foldl (fun t p =>
    let part := (bs.drop (p.1 - a)).take p.2
    if t.rdmaPlain p.1 then t.store p.1 part else t.storeStored p.1 part) s

/-- Reads the bytes of a response. -/
def State.rdmaLoad (s : State) (a n : Nat) : List Byte :=
  (partsOf a n).flatMap (fun p => if s.rdmaPlain p.1 then s.load p.1 p.2 else s.loadStored p.1 p.2)

/-! ### Requests (R570, R572, R575, R576) -/

/-- A NAK leaves and the queue pair enters the error state; all but those of sequence are counted. -/
def State.nak (s : State) (to_ : Peer) (n : Nat) (q : QueuePair) (psn : BitVec 24) (code : RdmaNak) : State :=
  ((s.setQp n (some { q with error := true, message := none, reads := [] })).send (.rdmaNak to_ q.hostQpn psn.toNat code)).count Reg.hpRdmaNaks 1

/-- A part of a WRITE lands: its bytes are stored and counted, and its ACK leaves (R572). -/
def State.landWrite (s : State) (w : HeldWrite) : State :=
  let t := (s.rdmaStore w.addr w.data).countUnits Reg.hpRdmaBytes w.data.length 65536
  if w.ack then t.send (.rdmaAck w.to_ w.hostQpn w.psn.toNat) else t

/-- An accepted part of a WRITE lands, or waits, because its target is in reset or an earlier one of its queue pair waits
(R266). -/
def State.offerWrite (s : State) (w : HeldWrite) : State :=
  if s.hp.heldWrites.any (fun h => decide (h.qp = w.qp)) || s.memWaits w.addr w.data.length then
    { s with hp := { s.hp with heldWrites := s.hp.heldWrites ++ [w] } }
  else s.landWrite w

/-- The parts that wait go as far as they may, in their order. -/
def State.resumeWrites (s : State) : State := s.hp.heldWrites.foldl State.offerWrite { s with hp := { s.hp with heldWrites := [] } }

/-- A packet before the expected one is acknowledged again, as far as its queue pair's WRITEs have landed. -/
def State.ackAgain (s : State) (to_ : Peer) (n : Nat) (q : QueuePair) : State :=
  let next := match s.hp.heldWrites.find? (fun h => decide (h.qp = n)) with
    | none => q.psn
    | some h => h.psn
  (s.setQp n (some { q with sinceAck := 0 })).send (.rdmaAck to_ q.hostQpn (next - 1).toNat)

/-- A marked packet draws a CNP, at most one per queue pair in 50 µs (R570). -/
def State.notify (s : State) (to_ : Peer) (n : Nat) (marked : Bool) : State :=
  match s.qp n with
  | none => s
  | some q =>
    let due := match q.lastCnpSent with
      | none => true
      | some a => decide (a + 125_000 ≤ s.now)
    if marked && due then (s.setQp n (some { q with lastCnpSent := some s.now })).send (.cnp to_ q.hostQpn) else s

/-- A part of a WRITE is one that the message in progress awaits, with a payload of the right length. -/
def partFits (q : QueuePair) (part : WritePart) (h : RdmaHeader) (n : Nat) : Bool :=
  match part, q.message with
  | .first, none => decide (n = q.mtu) && decide (q.mtu < h.len)
  | .only, none => decide (n = h.len) && decide (n ≤ q.mtu)
  | .middle, some (_, left) => decide (n = q.mtu) && decide (q.mtu < left)
  | .last, some (_, left) => decide (n = left) && decide (n ≤ q.mtu)
  | _, _ => false

/-- A part opens a message. -/
def opens (part : WritePart) : Bool := decide (part = .first) || decide (part = .only)

/-- A part of a WRITE at the expected number: tested as it arrives (R575), then written, counted, and acknowledged at the end of
its message and every 64 packets. -/
def State.takePart (s : State) (to_ : Peer) (n : Nat) (q : QueuePair) (part : WritePart) (h : RdmaHeader) (data : List Byte) : State :=
  if !partFits q part h data.length then s.nak to_ n q h.psn .invalidRequest
  else if opens part && !s.rdmaAllowed true h then s.nak to_ n q h.psn .remoteAccess
  else
    let (a, left) := if opens part then (h.addr.toNat, h.len) else q.message.getD (0, 0)
    let due := decide (part = .last) || decide (part = .only) || decide (63 ≤ q.sinceAck)
    (s.setQp n (some { q with
      psn := q.psn + 1, sinceAck := if due then 0 else q.sinceAck + 1
      message := if part = .first ∨ part = .middle then some (a + data.length, left - data.length) else none })).offerWrite
      ⟨n, to_, q.hostQpn, a, data, h.psn, due⟩

/-- How a packet's number stands to the expected one: before it, it is a duplicate. -/
def behind (psn expected : BitVec 24) : Bool := decide (2 ^ 23 ≤ (psn - expected).toNat)

/-- A RoCEv2 frame that the port has accepted, on a queue pair that is not in error. -/
def State.onQp (s : State) (f : Frame) (h : RdmaHeader) (effect : State → QueuePair → State) : State :=
  if s.hp.session.isNone then s.count Reg.hpRxDropped 1
  else match s.receive f 1 with
    | (t, false) => t
    | (t, true) =>
      if !t.addressed f then t
      else match t.qp h.qpn with
        | none => t
        | some q => if q.error then t else (effect t q).notify f.from_ h.qpn h.marked

/-- A READ waits behind the WRITEs of its queue pair that arrived before it and wait. -/
def State.behindWrite (s : State) (n psn : Nat) : Bool :=
  s.hp.heldWrites.any (fun h => decide (h.qp = n) && behind h.psn (BitVec.ofNat 24 psn))

/-- Packets that answer a READ of some bytes. -/
def responsePackets (mtu n : Nat) : Nat := max 1 ((n + mtu - 1) / mtu)

/-- A READ that has been accepted waits for its turn; at most 16 may. -/
def State.takeRead (s : State) (to_ : Peer) (n : Nat) (q : QueuePair) (h : RdmaHeader) (again : Bool) : State :=
  if q.message.isSome ∨ 16 ≤ q.reads.length then s.nak to_ n q h.psn .invalidRequest
  else if !s.rdmaAllowed false h then s.nak to_ n q h.psn .remoteAccess
  else
    let job : RdmaReadJob := ⟨to_, h.addr.toNat, h.len, h.psn.toNat⟩
    s.setQp n (some { q with
      reads := q.reads ++ [job], psn := if again then q.psn else q.psn + BitVec.ofNat 24 (responsePackets q.mtu h.len), nextAt := max q.nextAt s.now })

/-- The next response of queue pair n leaves, if its rate and that of the port let it: its data, or a NAK at a poisoned
granule (R571, R575, R576). -/
def State.sendResponse (s : State) (n : Nat) : State :=
  match s.qp n with
  | none => s
  | some q =>
    match q.reads with
    | [] => s
    | j :: rest =>
      let len := min q.mtu j.left
      if s.now < q.nextAt ∨ s.now < s.hp.txFree ∨ s.memWaits j.addr len ∨ s.behindWrite n j.psn ∨ s.hp.linkUp = false then s
      else if s.poisoned j.addr len then
        (s.nak j.to_ n q (BitVec.ofNat 24 j.psn) .remoteOperational).count Reg.hpPoisonReads 1
      else
        let more := if j.left ≤ q.mtu then rest else { j with addr := j.addr + len, left := j.left - len, psn := (j.psn + 1) % 2 ^ 24 } :: rest
        let t := s.setQp n (some { q with reads := more, nextAt := s.now + sendTime len q.rate })
        (t.send (.rdmaData j.to_ q.hostQpn j.psn (s.rdmaLoad j.addr len))).countUnits Reg.hpRdmaBytes len 65536

/-- A packet of a number that is not the expected one: a WRITE before it is acknowledged again, one after it refused. -/
def State.outOfSequence (s : State) (to_ : Peer) (q : QueuePair) : State := s.send (.rdmaNak to_ q.hostQpn q.psn.toNat .sequence)

/-- A part of a WRITE message, or a request that is not supported, by its number (R570, R575, R576). -/
def State.takeWrite (s : State) (to_ : Peer) (q : QueuePair) (h : RdmaHeader) (part : WritePart) (data : List Byte) : State :=
  if h.psn = q.psn then
    (if part = .unsupported then s.nak to_ h.qpn q h.psn .invalidRequest else s.takePart to_ h.qpn q part h data)
  else if behind h.psn q.psn then s.ackAgain to_ h.qpn q
  else s.outOfSequence to_ q

/-- `RDMA_WRITE`: a part of a WRITE message, or a request that is not supported (R570). -/
def execRdmaWrite (frame : Frame) (header : RdmaHeader) (part : WritePart) (data : List Byte) (s : State) : Host.Outcome State Fault Refusal :=
  act s s.hostOpen (s.onQp frame header (fun t q => t.takeWrite frame.from_ q header part data))

/-- The WRITEs that wait go on, and every queue pair sends what is due. -/
def State.respondAll (s : State) : State := qpNumbers.foldl State.sendResponse s.resumeWrites

/-- `RDMA_READ`: accepted at its arrival; its responses leave at the queue pair's rate, the first at once. One before the expected
number is answered again. -/
def execRdmaRead (frame : Frame) (header : RdmaHeader) (s : State) : Host.Outcome State Fault Refusal :=
  act s s.hostOpen (s.onQp frame header (fun t q =>
    if header.psn = q.psn ∨ behind header.psn q.psn = true then
      (t.takeRead frame.from_ header.qpn q header (decide (header.psn ≠ q.psn))).sendResponse header.qpn
    else t.outOfSequence frame.from_ q))

/-! ### Congestion (R571) -/

/-- `CNP`: the rate of a queue pair is halved, down to 1 GB/s. -/
def execCnp (frame : Frame) (header : RdmaHeader) (s : State) : Host.Outcome State Fault Refusal :=
  act s s.hostOpen (s.onQp frame header (fun t q => t.setQp header.qpn (some { q with rate := max 1024 (q.rate / 2), lastCnp := t.course })))

/-- A queue pair whose rate is due to rise. -/
def State.rateDue (s : State) : Option (Nat × QueuePair) :=
  qpNumbers.findSome? (fun n => match s.qp n with
    | none => none
    | some q => if q.rate < fullRate ∧ 64 ≤ coursesSince s.course q.lastCnp then some (n, q) else none)

/-- `CNP_RATE_RAISE`: 64 courses have passed without a CNP. -/
def execCnpRateRaise (s : State) : Host.Outcome State Fault Refusal :=
  match s.rateDue with
  | none => .next s
  | some (n, q) => act s s.running (s.setQp n (some { q with rate := min fullRate (q.rate + q.rate / 8), lastCnp := s.course }))

end Sys2Proof.Machine
end

