-- ==== Sys2Proof/Machine/PowerManager.lean ====
section
/-! DEFINITION. The power manager: AVSBus samples, the envelope and thermal limits, the throttle duty, setpoints, rail
faults and junction readings (R668–R687, R693–R696). -/

namespace Sys2Proof.Machine

/-! ### Samples (R664, R668–R670, R679) -/

/-- Maximum current of a rail of `PM_RAIL`, in units of 50 mA (R664). -/
def railMaxCurrent (n : Nat) : Nat := [42000, 42000, 8000, 12800, 42000, 42000, 3600, 7680].getD n 0

/-- Rails whose setpoint the device moves (R668, R671). -/
def isCoreRail (n : Nat) : Bool := decide (n = 0) || decide (n = 1) || decide (n = 4) || decide (n = 5)

/-- Setpoint of a rail in millivolts: the one requested, or the nominal voltage of a rail that the device does not
set (R664). -/
def State.railSetpoint (s : State) (n : Nat) : Nat :=
  if isCoreRail n then s.fld (Reg.pmRail n) Fld.pmRailSetpoint else if n = 7 then 1050 else 750

/-- A rail is read, or its maximum current at its setpoint stands for it (R670). The state, and the power of the rail
in units of 50 µW. -/
def State.readRail (s : State) (n : Nat) (r : Option RailReading) : State × Nat :=
  match r with
  | some v =>
    ((s.setFld (Reg.pmRail n) Fld.pmRailVoltage v.voltage.toNat).setFld (Reg.pmRail n) Fld.pmRailCurrent v.current.toNat,
      v.voltage.toNat * v.current.toNat)
  | none => (s.count (Reg.pmAvsErrors n) 1, railMaxCurrent n * s.railSetpoint n)

/-- The four rails of a bus. -/
def State.readBus (s : State) (bus : Nat) (rails : List (Option RailReading)) : State × Nat :=
  (List.range 4).foldl (fun p i =>
    let (t, w) := p.1.readRail (4 * bus + i) (rails.getD i none)
    (t, p.2 + w)) (s, 0)

/-- Sum of numbers. -/
def sumOf (xs : List Nat) : Nat := xs.foldl (· + ·) 0

/-- A sample joins the last 63 of its bus (R679). -/
def State.addSample (s : State) (bus w : Nat) : State :=
  if bus = 0 then { s with pm := { s.pm with samples0 := (w :: s.pm.samples0).take 64 } }
  else { s with pm := { s.pm with samples1 := (w :: s.pm.samples1).take 64 } }

/-- The fixed allowance of the tray rails, in units of 50 µW. -/
def trayAllowance : Nat := 180 * 20000

/-- P_avg of R679 in units of 50 µW, as a fraction: numerator and denominator. -/
def State.averagePower (s : State) : Nat × Nat :=
  let n0 := max 1 s.pm.samples0.length
  let n1 := max 1 s.pm.samples1.length
  (sumOf s.pm.samples0 * n1 + sumOf s.pm.samples1 * n0 + trayAllowance * n0 * n1, n0 * n1)

/-- `PM_STATUS.POWER_W` shows P_avg. -/
def State.showPower (s : State) : State :=
  let p := s.averagePower
  s.setFld Reg.pmStatus Fld.pmStatusPowerW (p.1 / (p.2 * 20000))

/-- The rails have setpoints: cast-on phase 0 has ended (R665). -/
def State.powered (s : State) : Bool := s.running && decide (s.fld (Reg.pmRail 0) Fld.pmRailSetpoint ≠ 0)

/-- `AVS_SAMPLE`: every 16 courses a bus reads its four rails; a rail whose second read failed too has none (R670). -/
def execAvsSample (bus : Fin 2) (rails : List (Option RailReading)) (s : State) : Host.Outcome State Fault Refusal :=
  let (t, w) := s.readBus bus.val rails
  act s (s.powered && s.periodic (tmrAvs bus.val) 16) (((t.addSample bus.val w).showPower).ran (tmrAvs bus.val))

/-! ### The limits and the throttle duty (R680–R682) -/

/-- Watts of the envelope in force (R35). -/
def State.envelopeWatts (s : State) : Nat :=
  match s.fld Reg.pmConfig Fld.pmConfigEnvelope with
  | 0 => 4500
  | 1 => 5400
  | _ => 6000

/-- The throttle duty follows the two limits, and `PM_STATUS` shows it and which of them limits (R682, R694). -/
def State.setLimits (s : State) (e t : Nat) : State :=
  let old := s.fld Reg.pmStatus Fld.pmStatusDuty
  let new := min e t
  let u := { s with pm := { s.pm with
    envelopeLimit := e, thermalLimit := t
    dutyBefore := if new = old ∨ s.pm.dutyChanged = some s.course then s.pm.dutyBefore else old
    dutyChanged := if new = old then s.pm.dutyChanged else some s.course } }
  (u.setFld Reg.pmStatus Fld.pmStatusDuty new).setFld Reg.pmStatus Fld.pmStatusLimiter
    (bit (decide (e < 16)) + 2 * bit (decide (t < 16)))

/-- The envelope limit's next step, of an average power `p / q` and an envelope `w` in the same unit (R680). -/
def envelopeNext (p q w d : Nat) : Nat :=
  if w * q < p then max (d - 1) 4 else if 20 * p < 19 * w * q then min (d + 1) 16 else d

/-- `ENVELOPE_STEP` (R680). -/
def execEnvelopeStep (s : State) : Host.Outcome State Fault Refusal :=
  let p := s.averagePower
  act s (s.powered && s.periodic tmrEnvelope 1024 && decide (s.stitch = 0))
    ((s.setLimits (envelopeNext p.1 p.2 (s.envelopeWatts * 20000) s.pm.envelopeLimit) s.pm.thermalLimit).ran tmrEnvelope)

/-- The largest of some readings in 1/16 °C; `none` of no reading. -/
def hottest (m : List (BitVec 16)) : Option Int :=
  m.foldl (fun b v => match b with
    | none => some v.toInt
    | some x => some (max x v.toInt)) none

/-- Readings of the dies. -/
def State.dieReadings (s : State) : List (BitVec 16) := SMap.getList 0 s.pm.dieTemp 0 6

/-- Readings of the HBM4 stacks. -/
def State.stackReadings (s : State) : List (BitVec 16) := SMap.getList 0 s.pm.stackTemp 0 16

/-- The hottest junction, in 1/16 °C. -/
def State.junction (s : State) : Int := (hottest s.dieReadings).getD 0

/-- The hottest stack, in 1/16 °C. -/
def State.hottestStack (s : State) : Int := (hottest s.stackReadings).getD 0

/-- The thermal limit's next step (R681): temperatures and threshold in 1/16 °C. -/
def thermalNext (junction stack throttle : Int) (d : Nat) : Nat :=
  if throttle ≤ junction ∨ 95 * 16 ≤ stack then max (d - 1) 4
  else if junction < throttle - 2 * 16 ∧ stack < 93 * 16 then min (d + 1) 16
  else d

/-- `THERMAL_STEP` (R681). -/
def execThermalStep (s : State) : Host.Outcome State Fault Refusal :=
  let throttle : Int := (s.fld Reg.pmConfig Fld.pmConfigTjThrottle : Int) * 16
  act s (s.powered && s.periodic tmrThermal 16 && decide (s.stitch = 0))
    ((s.setLimits s.pm.envelopeLimit (thermalNext s.junction s.hottestStack throttle s.pm.thermalLimit)).ran tmrThermal)

/-! ### Setpoints (R671, R721) -/

/-- Lower bounds of the junction bands, in 1/16 °C: of band 1, 2 and 3. -/
def bandBound (b : Nat) : Int := [(0 : Int), 40 * 16, 70 * 16, 90 * 16].getD b 0

/-- One step of leaving a band downwards. -/
def bandDown (t : Int) (b : Nat) : Nat := if 0 < b ∧ t ≤ bandBound b - 2 * 16 then b - 1 else b

/-- The band that a partition is in once its hottest junction reads `t`. -/
def nextBand (t : Int) (b : Nat) : Nat :=
  let reached := ([1, 2, 3].filter (fun i => decide (bandBound i ≤ t))).length
  if b < reached then reached else bandDown t (bandDown t (bandDown t b))

/-- Target setpoint of partition p in a band, in millivolts: the fuses hold codes 0 to 28. -/
def bandTarget (p b : Nat) : Nat :=
  let v := Config.fusedVTable p
  let f := match b with
    | 0 => Fld.pmVtableBand0
    | 1 => Fld.pmVtableBand1
    | 2 => Fld.pmVtableBand2
    | _ => Fld.pmVtableBand3
  680 + 5 * min 28 (f.get v)

/-- One step of 5 mV towards a target. -/
def stepTowards (v target : Nat) : Nat := if v < target then v + 5 else if target < v then v - 5 else v

/-- `SETPOINT_STEP` of partition p's rail (R671). -/
def execSetpointStep (p : Fin 4) (s : State) : Host.Outcome State Fault Refusal :=
  let n := coreRail p.val
  act s (s.powered && s.periodic (tmrSetpoint p.val) 1024)
    ((s.setFld (Reg.pmRail n) Fld.pmRailSetpoint
      (stepTowards (s.fld (Reg.pmRail n) Fld.pmRailSetpoint) (bandTarget p.val (SMap.get 0 s.pm.band p.val)))).ran (tmrSetpoint p.val))

/-! ### Rail faults (R673, R687) -/

/-- `FAULT_N` is held asserted; a pulsing ends in it (R687). -/
def State.holdFaultN (s : State) : State := { s with pm := { s.pm with faultN := true, faultPulsing := false } }

/-- A failed cast-on begins to pulse `FAULT_N`, unless a request for a power cycle holds it (R687). -/
def State.pulseFaultN (s : State) : State :=
  if s.pm.faultN && !s.pm.faultPulsing then s
  else { s with pm := { s.pm with faultN := true, faultPulsing := true, pulseAt := s.co.elapsed } }

/-- The power manager's path on a die. -/
def powerPath (die : Nat) : BitVec 32 := unitPath die 20 0xFF 0 0

/-- `VR_FAULT`: the rail fault input of partition p has been low for 1 µs (R673). -/
def execVrFault (p : Fin 4) (s : State) : Host.Outcome State Fault Refusal :=
  let t := { s with pm := { s.pm with fenced := NatSet.put s.pm.fenced p.val true, issueStopped := true } }
  let u := (t.report (Report.bare clsRailFault (powerPath p.val))).setFld Reg.rvStatus Fld.rvStatusCause 0xD
  act s s.running (if u.job.loaded then u.retire else u).holdFaultN

/-- `FAULT_N_PULSE`: 10 ms after it last changed, a pulsing `FAULT_N` changes (R687). -/
def execFaultNPulse (s : State) : Host.Outcome State Fault Refusal :=
  act s (s.pm.powerOk && s.pm.perstN && !s.tripped && s.pm.faultPulsing && decide (25000000 ≤ s.co.elapsed - s.pm.pulseAt))
    { s with pm := { s.pm with faultN := !s.pm.faultN, pulseAt := s.co.elapsed } }

/-! ### Junctions (R671, R683, R684) -/

/-- A temperature in 1/16 °C as the 12-bit fields of `PM_STATUS` hold it, in 1/8 °C (R694). -/
def eighths (t : Int) : Nat := (t / 2 % 4096).toNat

/-- The readings are taken in: registers and bands follow. -/
def State.takeReadings (s : State) (junctions stackTemps : List (BitVec 16)) : State :=
  let t := { s with pm := { s.pm with
    dieTemp := SMap.ofList 0 (fitHot 6 junctions), stackTemp := SMap.ofList 0 (fitHot 16 stackTemps) } }
  let u := { t with pm := { t.pm with
    band := SMap.ofList 0 ((List.range 4).map (fun p => nextBand (SMap.get 0 t.pm.dieTemp p).toInt (SMap.get 0 t.pm.band p))) } }
  (u.setFld Reg.pmStatus Fld.pmStatusTjMax (eighths u.junction)).setFld Reg.pmStatus Fld.pmStatusThbmMax (eighths u.hottestStack)
where
  /-- The first n readings; a sensor of which none is given reads 0. -/
  fitHot (n : Nat) (xs : List (BitVec 16)) : List (BitVec 16) := (List.range n).map (fun i => xs.getD i 0)

/-- A die that holds the hottest junction, the lowest of several. -/
def State.hottestDie (s : State) : Nat :=
  ((List.range 6).find? (fun d => decide ((SMap.get 0 s.pm.dieTemp d).toInt = s.junction))).getD 0

/-- An excursion past 100 °C is logged once for each time that the junction has been below 99 °C (R683). -/
def State.excursions (s : State) : State :=
  if s.junction < 99 * 16 then { s with pm := { s.pm with cooled := true } }
  else if 100 * 16 ≤ s.junction ∧ s.pm.cooled = true then
    { s with pm := { s.pm with cooled := false } }.report (Report.bare clsThermal (powerPath s.hottestDie))
  else s

/-- The trip at 115 °C, or of a stack at 105 °C (R684). -/
def State.tripIfHot (s : State) : State :=
  if 115 * 16 ≤ s.junction ∨ 105 * 16 ≤ s.hottestStack then
    { s with tripped := true, pm := { s.pm with thermtripN := true, issueStopped := true } }
  else s

/-- `JUNCTION_READ`: the sensors of the six dies and the sixteen stacks, in 1/16 °C (R683, R684). -/
def execJunctionRead (junctions stackTemps : List (BitVec 16)) (s : State) : Host.Outcome State Fault Refusal :=
  act s (s.running && s.periodic tmrJunction 1) (((s.takeReadings junctions stackTemps).excursions.tripIfHot).ran tmrJunction)

end Sys2Proof.Machine
end

