-- ==== Sys2Proof/Machine/CastOn.lean ====
section
/-! DEFINITION. Cast-on: the edges of `PERST_N` and `PWR_OK`, and the phases with their images, tests and failures
(R627, R637–R654, R688). -/

namespace Sys2Proof.Machine

/-! ### Power cycles (R637, R638, R688) -/

/-- What outlives every loss of power or assertion of `PERST_N`: fuses, flash and DRAM repairs are outside the device's
logic (R638, R667). What the model itself holds, its waiting commands, its free values and the frames that have left, is
no state of the device. -/
def State.powerCycled (s : State) : State :=
  { State.reset with
    pending := s.pending
    free := s.free
    rt := { Trust.reset with fuses := s.rt.fuses, floorFuses := s.rt.floorFuses }
    hp := { HostPort.reset with out := s.hp.out }
    co := { CastOn.reset with flash0 := s.co.flash0, flash1 := s.co.flash1 }
    pm := { Power.reset with powerOk := s.pm.powerOk, perstN := s.pm.perstN } }

/-- `PERST_N_ASSERT`: everything but a trip is discarded; the trip ends with `PWR_OK` (R638, R684). -/
def execPerstNAssert (s : State) : Host.Outcome State Fault Refusal :=
  let t := s.powerCycled
  act s s.pm.perstN
    { t with tripped := s.tripped, pm := { t.pm with perstN := false, thermtripN := s.pm.thermtripN, issueStopped := s.tripped } }

/-- `PWR_OK_DEASSERT` (R638, R684). -/
def execPwrOkDeassert (s : State) : Host.Outcome State Fault Refusal :=
  let t := s.powerCycled
  act s s.pm.powerOk { t with pm := { t.pm with powerOk := false } }

/-- `PERST_N_RISE`: the straps are sampled and cast-on begins if `PWR_OK` is asserted; `STRAP_TEST` at 1 fails it at once
(R637, R688). The tray controller may have programmed either flash device before (R639). -/
def execPerstNRise (power : Bool) (straps : Straps) (flash0 flash1 : Option Flash) (s : State) : Host.Outcome State Fault Refusal :=
  let t := { s with
    pm := { s.pm with perstN := true, powerOk := power }
    co := { CastOn.reset with
      flash0 := flash0.getD s.co.flash0, flash1 := flash1.getD s.co.flash1, eightLane := straps.eightLane, flash33 := straps.flash33 } }
  let begun := { t with alive := true, co := { t.co with active := true } }.showStrict
  act s (!s.pm.perstN)
    (if !power || s.tripped then t
    else if straps.test then t.pulseFaultN
    else begun.setFld Reg.hpStatus Fld.hpStatusMode (bit straps.eightLane))

/-! ### Phases (R640, R641) -/

/-- `CASTON_STATUS.PHASE`. -/
def State.phase (s : State) : Nat := s.fld Reg.castonStatus Fld.castonStatusPhase

/-- Sets it. -/
def State.setPhase (s : State) (n : Nat) : State := s.setFld Reg.castonStatus Fld.castonStatusPhase n

/-- The next phase begins. -/
def State.enterPhase (s : State) (n : Nat) : State := { s.setPhase n with co := { s.co with phaseAt := s.co.elapsed } }

/-- Cast-on ends short of ready, in a state that `PHASE` names (R627, R646, R652). -/
def State.castOnFailed (s : State) (n : Nat) : State :=
  { (s.setPhase n).pulseFaultN with co := { (s.setPhase n).pulseFaultN.co with active := false } }

/-- DDR5 data rate in MT/s (R246). -/
def State.ddrRate (s : State) : Nat := [6400, 7200, 8000, 8800].getD (Config.ddrSpeed s.co.site).val 6400

/-- The populated tier in bytes, over the partitions (R247). -/
def State.tierBytes (s : State) : Nat := sumOf ((List.range 4).map (fun p => s.fld (Reg.dtPop p) Fld.dtPopSize * 0x1_0000))

/-- The maximum of a phase, in stitches (R640): of phase 5, 3 T / (0.75 D) with D = 96 B × the data rate. -/
def State.phaseMax (s : State) : Nat → Nat
  | 0 => 250000000
  | 1 => 2000000000
  | 2 => 1750000000
  | 3 => 750000000
  | 4 => 10000000000
  | 5 => s.tierBytes * 10000 / (96 * s.ddrRate)
  | _ => 1500000000

/-- Stitches that the phase has lasted. -/
def State.phaseTime (s : State) : Nat := s.co.elapsed - s.co.phaseAt

/-- An L4 is due. -/
def State.chipResetDue (s : State) : Bool := s.rv.due.any (fun d => decide (d.level = 4))

/-- A cast-on phase is in progress. -/
def State.inPhase (s : State) : Bool := s.running && s.co.active && !s.inReset domChip && !s.chipResetDue

/-- A fault that ends the attempt by L4 (R641, R649, R650). -/
def State.castOnFatal (s : State) (u : BitVec 32) : State :=
  (s.report (Report.bare clsUnitFailed u)).dueReset 4 domChip 0x0C

/-- `CASTON_PHASE_TIMEOUT`: the phase has passed its maximum; `unit_` is the unit that did not finish (R641). -/
def execCastonPhaseTimeout (unit_ : BitVec 32) (s : State) : Host.Outcome State Fault Refusal :=
  act s (s.inPhase && decide (s.phaseMax s.phase < s.phaseTime)) (s.strictReset.castOnFatal unit_)

/-! ### Phase 0: clock, fuses and the root of trust -/

/-- The course counter starts, the `VCORE` rails are at their default, and the keys and nonces of a cast-on are drawn
(R608, R609, R640, R671). -/
def State.endPhase0 (s : State) : State :=
  let t := [0, 1, 4, 5].foldl (fun u n => u.setFld (Reg.pmRail n) Fld.pmRailSetpoint 800) { s with tb := Timebase.reset, timers := [] }
  let u := t.eraseJobKeys.redrawProvisioning.redrawNonce
  ({ u.drawn with rt := { u.rt with castonNonce := u.freeNow } }).enterPhase 1

/-! ### Phase 1: images and the protection block (R627, R645) -/

/-- A flash device can be read: 1 to 4 Gib, at the voltage strapped (R643, assumption 221). -/
def State.readable (s : State) (f : Flash) : Bool :=
  f.ok && decide (1 ≤ f.gib ∧ f.gib ≤ 4) && decide (f.volts33 = s.co.flash33)

/-- The base image of a flash device: what stands in its 96 MiB (R644). -/
def flashBase (f : Flash) : List Byte := f.base.take 0x600_0000

/-- The site overlay of a flash device: what stands in its 1 MiB (R644). -/
def flashSite (f : Flash) : List Byte := f.site.take 0x10_0000

/-- Stitches to read n bytes of a flash device: 400 MB/s where it declares 8D-8D-8D, else 6.25 MB/s (R643). -/
def readTime (f : Flash) (n : Nat) : Nat := if f.declares8D then 25 * n / 4 else 400 * n

/-- Stitches that phase 1 reads flash for: the base image of each device that it tries, and of the device it selects the
overlay; from each that can be read, both protection block slots (R627, R645, assumption 221). -/
def State.flashTime (s : State) : Nat :=
  let slots := fun (f : Flash) => if s.readable f then readTime f 8192 else 0
  let base := fun (f : Flash) => if s.readable f then readTime f (flashBase f).length else 0
  let first := decide (s.readable s.co.flash0 ∧ s.imageFault 0 (flashBase s.co.flash0) = 0)
  let rest := if first then readTime s.co.flash0 (flashSite s.co.flash0).length
    else base s.co.flash1 + (if s.readable s.co.flash1 then readTime s.co.flash1 (flashSite s.co.flash1).length else 0)
  slots s.co.flash0 + slots s.co.flash1 + base s.co.flash0 + rest

/-- What `PRIMARY_ERR` says of a device's base image: 7 where it cannot be read (R653). -/
def State.baseFault (s : State) (f : Flash) : Nat := if s.readable f then s.imageFault 0 (flashBase f) else 7

/-- A refused base image is counted under R614; one that cannot be read is none. -/
def State.countBase (s : State) (fault : Nat) : State := if fault = 7 then s else s.countImage fault

/-- The tag of a flash copy of the protection block passes. -/
def blockTagged (c : List Byte) : Bool :=
  decide ((c.drop 672).take 32 = shake 32 (derive Config.deviceSecret "PROTECT" 32 [] ++ c.take 672))

/-- A slot holds a copy of the protection block: it is long enough and has been written (R644). -/
def blockWritten (c : List Byte) : Bool := decide (704 ≤ c.length) && decide (c.take 4 ≠ [0xFF, 0xFF, 0xFF, 0xFF])

/-- A flash copy of the protection block, the first 704 bytes of its slot, qualifies: its tag passes and its version is the
device's or the next (R627, assumption 117). -/
def State.copyQualifies (s : State) (c : List Byte) : Bool :=
  decide (704 ≤ c.length) && blockTagged c && (decide (leNat (c.take 8) = s.rt.fuses) || decide (leNat (c.take 8) = s.rt.fuses + 1))

/-- The four slots, as far as their devices can be read. -/
def State.blockSlots (s : State) : List (List Byte) :=
  let f := fun (d : Flash) => if s.readable d then [d.slot0, d.slot1] else []
  f s.co.flash0 ++ f s.co.flash1

/-- The highest qualifying copy of the four slots (R644). -/
def State.bestCopy (s : State) : Option (List Byte) :=
  (s.blockSlots.filter s.copyQualifies).foldl (fun (b : Option (List Byte)) c => match b with
    | none => some c
    | some d => if leNat (d.take 8) < leNat (c.take 8) then some c else some d) none

/-- The protection registers take a block's values, and the next fuse is burnt for a version of one more (R627,
R628). -/
def State.acceptBlock (s : State) (c : List Byte) : State :=
  let word := fun (i : Nat) => BitVec.ofNat 64 (leNat ((c.drop (8 * i)).take 8))
  let t := { s with rt := { s.rt with fuses := leNat (c.take 8) } }
  let u := (t.setReg Reg.rtIsolation (t.merged Reg.rtIsolation (word 2 ||| 0x8421))).setReg Reg.rtEncrypt (t.merged Reg.rtEncrypt (word 3))
  (List.range 80).foldl (fun v i => v.setReg (Reg.rtKey (i / 8) (i % 8)) (word (4 + i))) u

/-- A site overlay stands in a device's flash (R644). -/
def sitePresent (f : Flash) : Bool := decide (f.site ≠ []) && decide (f.site.take 4 ≠ [0xFF, 0xFF, 0xFF, 0xFF])

/-- A warning of the root of trust on an image. -/
def imageReport (fault : Nat) : Report := { Report.bare clsImageFallback trustPath with syndrome := BitVec.ofNat 64 fault }

/-- The site overlay of the device selected is kept for the end of cast-on, and its `CAPABLE` bars the device from becoming its
own master until then (R654), or it is ignored, counted and logged (R645). -/
def State.takeSite (s : State) (f : Flash) : State :=
  if !sitePresent f then s
  else
    let e := s.imageFault 2 (flashSite f)
    if e = 0 then
      { s with co := { s.co with site := some (flashSite f) } }.setFld Reg.tbConfig Fld.tbConfigCapable
        (bit (Config.siteCapable (imgPayload (flashSite f))))
    else (s.countImage e).report (imageReport e)

/-- The base image runs; the protection block, whose copies' tags that fail are counted (R636), and the site overlay follow. -/
def State.runImage (s : State) (f : Flash) : State :=
  let t := { s with co := { s.co with image := some (flashBase f) } }.count Reg.rtSigFails
    (s.blockSlots.countP (fun c => blockWritten c && !blockTagged c))
  match t.bestCopy with
  | none => t.castOnFailed 0xA
  | some c => (((t.acceptBlock c).takeSite f).measure).enterPhase 2

/-- Phase 1 ends (R645, R646). -/
def State.endPhase1 (s : State) : State :=
  let e0 := s.baseFault s.co.flash0
  let e1 := s.baseFault s.co.flash1
  let t := (s.setFld Reg.castonStatus Fld.castonStatusSource 0).setFld Reg.castonStatus Fld.castonStatusPrimaryErr e0
  if e0 = 0 then t.runImage s.co.flash0
  else if e1 = 0 then
    (((t.countBase e0).setFld Reg.castonStatus Fld.castonStatusSource 1).report (imageReport e0)).runImage s.co.flash1
  else (((t.countBase e0).countBase e1).setFld Reg.castonStatus Fld.castonStatusFailPhase 1).castOnFailed 9

/-! ### Phases 2 and 3: self-test, firmware, training of the ports -/

/-- The core stores are zero, and the training of port H and of the Parium ports begins (R640, R648). -/
def State.endPhase2 (s : State) : State :=
  let t := { s with
    mem := s.mem.filter (fun c => !inCoreStore c.1)
    poison := s.poison.filter (fun g => !inCoreStore (g.1 * 64)) }
  (t.trainPorts.setFld Reg.hpStatus Fld.hpStatusLink 1).enterPhase 3

/-- The interpreter answers (R647). -/
def State.endPhase3 (s : State) : State := { s with co := { s.co with commands := true } }.enterPhase 4

/-! ### Phase 4: memory training (R247, R649, R650, R711) -/

/-- The device supports the module: a registered DIMM with ECC and no 3DS stacks, of x4 DRAMs of 16, 24, 32 or 64 Gb, in 1 or 2
ranks (R246). -/
def dimmSupported (d : Dimm) : Bool :=
  decide (d.kind = .rdimm) && d.ecc && !d.stacked && decide (d.width = 4) && decide (d.density ∈ [16, 24, 32, 64]) &&
    decide (d.ranks = 1 ∨ d.ranks = 2)

/-- Capacity in bytes: a rank has 16 DRAMs of data, eight on each subchannel (R246). -/
def dimmBytes (d : Dimm) : Nat := d.ranks * d.density * 2 ^ 31

/-- The device supports what a channel holds: at most two DIMMs, each supported (R246). -/
def channelSupported (ds : List Dimm) : Bool := decide (ds.length ≤ 2) && ds.all dimmSupported

/-- Capacity of a channel: the sum over its DIMMs (R247). -/
def channelBytes (ds : List Dimm) : Nat := sumOf (ds.map dimmBytes)

/-- `DT_POP` of partition p, from its channels' capacities. -/
def State.populate (s : State) (p : Nat) (caps : List Nat) : State :=
  let c := fun i => caps.getD (3 * p + i) 0
  let least := min (c 0) (min (c 1) (c 2))
  let a := Reg.dtPop p
  ((s.setFld a Fld.dtPopSize (3 * least / 0x1_0000)).setFld a Fld.dtPopAbsent (bit (decide (least = 0)))).setFld a Fld.dtPopMismatch
    (bit (decide (least < c 0 ∨ least < c 1 ∨ least < c 2)))

/-- Phase 4 ends: listed rows are repaired, a failed stack or a row past repair ends the attempt, a channel that fails
counts as empty, and so does one whose DIMMs the device does not support (assumption 222). -/
def State.endPhase4 (s : State) (channels : List (List Dimm)) (failed : List (Fin 12)) (stack : Option (Fin 16)) (unrepaired : List Nat) : State :=
  let stuck := s.co.repairs.filter unrepaired.contains
  let t := { s with co := { s.co with repairs := stuck } }.setFld Reg.castonStatus Fld.castonStatusRepairs
    (s.fld Reg.castonStatus Fld.castonStatusRepairs + (s.co.repairs.length - stuck.length))
  let holds := fun (n : Nat) => channels.getD n []
  let bad := fun (n : Nat) => failed.any (fun f => decide (f.val = n)) || !channelSupported (holds n)
  let u := ((List.range 12).filter bad).foldl (fun v n => v.report (Report.bare clsMemTraining (channelPath n 0))) t
  let dead := (stack.toList.map (fun k => unitPath (k.val / 4) 7 0xFF k.val 0)) ++ stuck.map (fun a => s.memoryPath (a * 64))
  if dead ≠ [] then dead.foldl State.castOnFatal u
  else
    let caps := (List.range 12).map (fun n => if bad n then 0 else channelBytes (holds n))
    let w := { u with co := { u.co with
      dimm0 := SMap.ofList 0 ((List.range 12).map (fun n => if bad n then 0 else channelBytes ((holds n).take 1))) } }
    ((List.range 4).foldl (fun v p => v.populate p caps) w).enterPhase 5

/-! ### Phase 5: memory test (R648, R650) -/

/-- Every granule of HBM and of the tier is written as stored zeros. -/
def State.zeroStored (s : State) : State :=
  { s with
    mem := s.mem.filter (fun c => !(inHbm c.1 || inTier c.1))
    seals := []
    poison := s.poison.filter (fun g => !(inHbm (g.1 * 64) || inTier (g.1 * 64)))
    co := { s.co with patterned := false } }

/-- Pass 1 has written every word of HBM and of the tier as its address XOR the pattern: what stood there is gone (R648). -/
def State.patterned (s : State) : State := { s.zeroStored with co := { s.zeroStored.co with patterned := true } }

/-- Phase 5 ends: corrected errors are logged; a granule that fails is an uncorrectable error while strict, and the row
that holds it is listed for repair, and the memories hold pass 1's pattern. The swatches run under the envelope of the site overlay (R651). -/
def State.endPhase5 (s : State) (corrected : List Nat) (bad : Option Nat) (miscompare : Bool) : State :=
  let t := (corrected.filter (fun g => s.coded (g * 64))).foldl (fun u g => u.memCorrected (g * 64)) s
  match bad with
  | some g =>
    let u := { t.patterned with co := { t.patterned.co with repairs := t.co.repairs ++ [g] } }
    if miscompare then u.drawn.report (u.memoryReport clsMemUncorrected (g * 64)) else u.memUncorrected (g * 64)
  | none =>
    let site := s.co.site.map (fun i => (⟨true, i⟩ : Overlay))
    (t.zeroStored.setFld Reg.pmConfig Fld.pmConfigEnvelope (s.settingsOf none site).envelope).enterPhase 6

/-! ### Phase 6 and ready (R651–R654) -/

/-- Every unit of R468 on the device. -/
def allUnits : List (BitVec 32) := (List.range 10).flatMap unitsOfKind

/-- Every bit of every dirty bitmap is 1 (R654). -/
def State.allDirty (s : State) : State :=
  let full : Bitmap := ⟨true, []⟩
  { s with dirty := (List.range 4).foldl (fun m p => SMap.set Dirty.zero m p ⟨full, full, full, full, 0⟩) [] }

/-- The device is ready. -/
def State.becomeReady (s : State) (currents : List Nat) : State :=
  let site := s.co.site.map (fun i => (⟨true, i⟩ : Overlay))
  let t := { s.allDirty with
    co := { s.co with active := false }
    pm := { s.pm with arrayCurrent := SMap.ofList 0 ((List.range 4).map (fun p => currents.getD p 0)) } }
  let u := ((t.setPhase 7).setFld Reg.castonStatus Fld.castonStatusSite (bit site.isSome)).setFld Reg.castonStatus
    Fld.castonStatusReadyMs (s.co.elapsed / 2500000)
  (u.putInForce none site).applySite

/-- A unit that failed its swatch is marked FAILED (R652). -/
def State.markFailed (s : State) (u : BitVec 32) : State :=
  match s.suspectOf u with
  | none => s.unitFailed u
  | some n => if s.flag (Reg.snSuspect n) Fld.snSuspectFailed then s else s.unitFailed u

/-- The swatches of a unit in phase 6: of a core store one for each 1 MiB region, whose number is the sub-instance (R468, R480,
R651). -/
def phaseSwatches (u : BitVec 32) : List (BitVec 32) :=
  if bitsOf u 28 24 = 3 ∧ bitsOf u 15 8 = 0xFF then (List.range 12).map (fun i => u + BitVec.ofNat 32 i) else [u]

/-- Phase 6 ends: the swatches of every unit are done; those named have failed. -/
def State.endPhase6 (s : State) (failed : List (BitVec 32)) (currents : List Nat) : State :=
  let bad := allUnits.filter (fun n => (phaseSwatches n).any failed.contains)
  let t := allUnits.foldl (fun u n => (phaseSwatches n).foldl (fun v r => v.swatchDone ⟨n, !failed.contains r⟩) u) s
  if bad = [] then t.becomeReady currents
  else ((bad.foldl State.markFailed t).setFld Reg.castonStatus Fld.castonStatusFailPhase 6).castOnFailed 8

/-- A phase's end, with what it found; a report of another phase ends none. Phase 1 does not end on an outcome on which
the roots of trust disagree (R607). -/
def State.endPhase (s : State) (report : PhaseReport) : State :=
  match s.phase, report with
  | 0, .quiet => s.endPhase0
  | 1, .quiet => s.endPhase1
  | 1, .disagreement => s.trustDisagrees
  | 2, .quiet => s.endPhase2
  | 3, .quiet => s.endPhase3
  | 4, .training channels failed stack unrepaired => s.endPhase4 channels failed stack unrepaired
  | 5, .memory corrected bad miscompare => s.endPhase5 corrected bad miscompare
  | 6, .swatches failed currents => s.endPhase6 failed currents
  | _, _ => s

/-- Swatches none of which failed. -/
def cleanSwatches : PhaseReport → Bool
  | .swatches failed _ => decide (failed = [])
  | _ => false

/-- The phase has had the time that its work takes: phase 1 reads flash first (R640, R643), and a phase 6 without a failure
has held the arrays at full duty for 500 ms (R651). -/
def State.workDone (s : State) (report : PhaseReport) : Bool :=
  decide (s.phase ≠ 1 ∨ report = .disagreement ∨ s.flashTime ≤ s.phaseTime) &&
    decide (s.phase ≠ 6 ∨ cleanSwatches report = false ∨ 1250000000 ≤ s.phaseTime)

/-- `CASTON_PHASE_END` (R640). -/
def execCastonPhaseEnd (report : PhaseReport) (s : State) : Host.Outcome State Fault Refusal :=
  act s (s.inPhase && decide (s.phaseTime ≤ s.phaseMax s.phase) && s.workDone report) (s.endPhase report)

end Sys2Proof.Machine
end

