-- ==== Sys2Proof/Machine/Vector.lean ====
section
/-! DEFINITION. The vector instructions (R51, R52, R129, R147–R152, R725). -/

namespace Sys2Proof.Machine

/-- The elements of lanes 0 to `n − 1` of a register: one a lane, or two for B16 (R51). -/
def Core.elems (k : Core) (r : Nat) (f : Fmt) (n : Nat) : List Nat :=
  (List.range n).flatMap (fun l =>
    let v := (k.lane r l).toNat
    if f = .b16 then [v % 65536, v / 65536] else [v])

/-- Writes element `i` of a register in a format; the other half of a B16 lane keeps its value. -/
def Core.setElem (k : Core) (r : Nat) (f : Fmt) (i code : Nat) : Core :=
  if f = .b16 then
    let v := (k.lane r (i / 2)).toNat
    let u := if i % 2 = 0 then v / 65536 * 65536 + code % 65536 else v % 65536 + code % 65536 * 65536
    k.setLane r (i / 2) (BitVec.ofNat 32 u)
  else k.setLane r i (BitVec.ofNat 32 code)

/-- Writes elements from element 0 upward. -/
def Core.setElems (k : Core) (r : Nat) (f : Fmt) (codes : List Nat) : Core :=
  codes.zipIdx.foldl (fun j p => j.setElem r f p.2 p.1) k

/-- F32 or B16; none for the other defined formats (R129). -/
def vecFmt (code : Nat) : Option Fmt :=
  match Fmt.ofCode code with
  | some .b16 => some .b16
  | some .f32 => some .f32
  | _ => none

/-- A vector instruction on registers alone: its effect on the core in its format, or `FORMAT_MISMATCH`
(R129). -/
def vecOp (f : Fmt → QEntry → Core → Core) (c _x : Nat) (e : QEntry) (s : State) : AtIssue :=
  match vecFmt (vfmt e.word) with
  | none => .fault .formatMismatch 0
  | some fmt => .done (s.modCore c (f fmt e))

/-- Applies a function of up to three elements, element by element (R149, R150). -/
def lanewise (op : Num → Num → Num → Num) (fmt : Fmt) (e : QEntry) (k : Core) : Core :=
  let w := e.word
  let n := vlanes w
  let a := k.elems (va w) fmt n
  let b := k.elems (vb w) fmt n
  let d := k.elems (vc w) fmt n
  let r := (a.zip (b.zip d)).map (fun p => fmt.encode (op (fmt.decode p.1) (fmt.decode p.2.1) (fmt.decode p.2.2)))
  k.setElems (vd w) fmt r

/-- `V.LD`: lanes loaded as they stand (R51). -/
def vLd (c x : Nat) (e : QEntry) (s : State) : AtIssue :=
  match vecFmt (vfmt e.word) with
  | none => .fault .formatMismatch 0
  | some _ =>
    let n := vlanes e.word
    let bs := s.load (storeAt c (vaddr e.word)) (4 * n)
    let k' := (List.range n).foldl
      (fun k l => k.setLane (vd e.word) l (BitVec.ofNat 32 (leNat ((bs.drop (4 * l)).take 4)))) (s.core c)
    s.checked c x [(vaddr e.word, 4 * n)] [] [] (s.setCore c k')

/-- `V.ST`: elements written in the target format, non-finite ones counted (R51, R147, R148). -/
def vSt (c x : Nat) (e : QEntry) (s : State) : AtIssue :=
  match vecFmt (vfmt e.word), vecFmt (vtarget e.word) with
  | some f, some g =>
    let xs := ((s.core c).elems (va e.word) f (vlanes e.word)).map f.decode
    let bs := xs.flatMap (fun v => leBytes g.bytes (g.encode v))
    let bad := xs.countP (fun v => !(g.decode (g.encode v)).isFinite)
    s.checked c x [] [(vaddr e.word, bs.length)] []
      ((s.store (storeAt c (vaddr e.word)) bs).addNonFinite x bad)
  | _, _ => .fault .formatMismatch 0

/-- Pairs adjacent partial sums, each addition rounded; one without a partner passes up (R52). -/
def pairSums (fmt : Fmt) : List Num → List Num
  | a :: b :: r => roundTo fmt.precision (Num.add a b) :: pairSums fmt r
  | [a] => [a]
  | [] => []

/-- The tree of R52: `k` levels. -/
def treeSum (fmt : Fmt) : Nat → List Num → List Num
  | 0, xs => xs
  | k + 1, xs => treeSum fmt k (pairSums fmt xs)

/-- `V.RSUM` (R52). A lone element is written as the format encodes it (assumption 214). -/
def rsum (fmt : Fmt) (e : QEntry) (k : Core) : Core :=
  let xs := (k.elems (va e.word) fmt (vlanes e.word)).map fmt.decode
  k.setElem (vd e.word) fmt 0 (fmt.encode ((treeSum fmt 11 xs).headD Num.zero))

/-- `V.RMAX` (R52, R151). -/
def rmax (fmt : Fmt) (e : QEntry) (k : Core) : Core :=
  let m := vmag e.word
  match (k.elems (va e.word) fmt (vlanes e.word)).map fmt.decode with
  | [] => k
  | a :: r => k.setElem (vd e.word) fmt 0 (fmt.encode (r.foldl (pick true m) (if m then a.abs else a)))

/-- `V.CVT` (R725, R148): a copy when the target names the source's format. Each non-finite value that is
converted is counted (R146). -/
def vCvt (c x : Nat) (e : QEntry) (s : State) : AtIssue :=
  match vecFmt (vfmt e.word), vecFmt (vtarget e.word) with
  | some f, some g =>
    let k := s.core c
    let n := vlanes e.word
    if f = g then
      .done (s.setCore c ((List.range n).foldl (fun j l => j.setLane (vd e.word) l (k.lane (va e.word) l)) k))
    else
      let xs := ((k.elems (va e.word) f n).take n).map f.decode
      .done ((s.setCore c (k.setElems (vd e.word) g (xs.map g.encode))).addNonFinite x (xs.countP (fun v => !v.isFinite)))
  | _, _ => .fault .formatMismatch 0

/-- `V.LD`. -/
def execVLd (core : Fin 160) (s : State) : Host.Outcome State Fault Refusal :=
  execIssue .vector (2, 0) vLd core.val s

/-- `V.ST`. -/
def execVSt (core : Fin 160) (s : State) : Host.Outcome State Fault Refusal :=
  execIssue .vector (2, 1) vSt core.val s

/-- `V.FMA`: one rounding of the exact `VA` × `VB` + `VC` (R150). -/
def execVFma (core : Fin 160) (s : State) : Host.Outcome State Fault Refusal :=
  execIssue .vector (2, 2) (vecOp (lanewise (fun a b d => Num.add (Num.mul a b) d))) core.val s

/-- `V.ADD`. -/
def execVAdd (core : Fin 160) (s : State) : Host.Outcome State Fault Refusal :=
  execIssue .vector (2, 3) (vecOp (lanewise (fun a b _ => Num.add a b))) core.val s

/-- `V.MUL`. -/
def execVMul (core : Fin 160) (s : State) : Host.Outcome State Fault Refusal :=
  execIssue .vector (2, 4) (vecOp (lanewise (fun a b _ => Num.mul a b))) core.val s

/-- `V.MAX` (R151). -/
def execVMax (core : Fin 160) (s : State) : Host.Outcome State Fault Refusal :=
  execIssue .vector (2, 5) (vecOp (fun f e k => lanewise (fun a b _ => pick true (vmag e.word) a b) f e k)) core.val s

/-- `V.MIN` (R151). -/
def execVMin (core : Fin 160) (s : State) : Host.Outcome State Fault Refusal :=
  execIssue .vector (2, 6) (vecOp (fun f e k => lanewise (fun a b _ => pick false (vmag e.word) a b) f e k)) core.val s

/-- `V.SCALE`: `SA` holds an F32 in its low half (R51), as it stands at the issue (assumption 251). -/
def execVScale (core : Fin 160) (s : State) : Host.Outcome State Fault Refusal :=
  execIssue .vector (2, 7)
    (vecOp (fun f e k =>
      let sa := Fmt.f32.decode ((k.sreg (vsa e.word)).toNat % 2 ^ 32)
      lanewise (fun a _ d => Num.add (Num.mul a sa) d) f e k)) core.val s

/-- `V.RSQ` (R152). -/
def execVRsq (core : Fin 160) (s : State) : Host.Outcome State Fault Refusal :=
  execIssue .vector (2, 8) (vecOp (fun f e k => lanewise (fun a _ _ => rsqrt f.precision a) f e k)) core.val s

/-- `V.RSUM`. -/
def execVRsum (core : Fin 160) (s : State) : Host.Outcome State Fault Refusal :=
  execIssue .vector (2, 9) (vecOp rsum) core.val s

/-- `V.RMAX`. -/
def execVRmax (core : Fin 160) (s : State) : Host.Outcome State Fault Refusal :=
  execIssue .vector (2, 10) (vecOp rmax) core.val s

/-- `V.CVT`. -/
def execVCvt (core : Fin 160) (s : State) : Host.Outcome State Fault Refusal :=
  execIssue .vector (2, 11) vCvt core.val s

end Sys2Proof.Machine
end

