-- ==== Sys2Proof/Machine/Dispatch.lean ====
section
/-! DEFINITION. One arm per command: the one definition is a table of direct calls. -/

namespace Sys2Proof.Machine

/-- The effect of a command on everything but the queue of waiting commands. -/
def exec (i : Instr) (s : State) : Host.Outcome State Fault Refusal :=
  match i with
  | .dispatch core => Sys2Proof.Machine.execDispatch core s
  | .cSeti core => Sys2Proof.Machine.execCSeti core s
  | .cAddi core => Sys2Proof.Machine.execCAddi core s
  | .cLoop core => Sys2Proof.Machine.execCLoop core s
  | .cJump core => Sys2Proof.Machine.execCJump core s
  | .maLoadw core => Sys2Proof.Machine.execMaLoadw core s
  | .maMul core => Sys2Proof.Machine.execMaMul core s
  | .maDrain core => Sys2Proof.Machine.execMaDrain core s
  | .vLd core => Sys2Proof.Machine.execVLd core s
  | .vSt core => Sys2Proof.Machine.execVSt core s
  | .vFma core => Sys2Proof.Machine.execVFma core s
  | .vAdd core => Sys2Proof.Machine.execVAdd core s
  | .vMul core => Sys2Proof.Machine.execVMul core s
  | .vMax core => Sys2Proof.Machine.execVMax core s
  | .vMin core => Sys2Proof.Machine.execVMin core s
  | .vScale core => Sys2Proof.Machine.execVScale core s
  | .vRsq core => Sys2Proof.Machine.execVRsq core s
  | .vRsum core => Sys2Proof.Machine.execVRsum core s
  | .vRmax core => Sys2Proof.Machine.execVRmax core s
  | .vCvt core => Sys2Proof.Machine.execVCvt core s
  | .gQuant core => Sys2Proof.Machine.execGQuant core s
  | .gPrepass core => Sys2Proof.Machine.execGPrepass core s
  | .mCopy core => Sys2Proof.Machine.execMCopy core s
  | .moveTransfer core channel => Sys2Proof.Machine.execMoveTransfer core channel s
  | .cNop core => Sys2Proof.Machine.execCNop core s
  | .cRaise core => Sys2Proof.Machine.execCRaise core s
  | .cRraise core => Sys2Proof.Machine.execCRraise core s
  | .cYield core => Sys2Proof.Machine.execCYield core s
  | .cHalt core => Sys2Proof.Machine.execCHalt core s
  | .instructionComplete core n parity => Sys2Proof.Machine.execInstructionComplete core n parity s
  | .cablePathWork core => Sys2Proof.Machine.execCablePathWork core s
  | .lowRankWork core => Sys2Proof.Machine.execLowRankWork core s
  | .checkClose core fault => Sys2Proof.Machine.execCheckClose core fault s
  | .ctxLoad => Sys2Proof.Machine.execCtxLoad s
  | .contextSelect core => Sys2Proof.Machine.execContextSelect core s
  | .quantumExpiry core => Sys2Proof.Machine.execQuantumExpiry core s
  | .contextSaveRestore core => Sys2Proof.Machine.execContextSaveRestore core s
  | .ctxFree => Sys2Proof.Machine.execCtxFree s
  | .ctxSwitch => Sys2Proof.Machine.execCtxSwitch s
  | .gapForewarning core => Sys2Proof.Machine.execGapForewarning core s
  | .tensionFall core => Sys2Proof.Machine.execTensionFall core s
  | .tensionStepDown core => Sys2Proof.Machine.execTensionStepDown core s
  | .streamRampStep core => Sys2Proof.Machine.execStreamRampStep core s
  | .eventForewarning p => Sys2Proof.Machine.execEventForewarning p s
  | .lstepClear p => Sys2Proof.Machine.execLstepClear p s
  | .serveBlockClose stream => Sys2Proof.Machine.execServeBlockClose stream s
  | .serveBlockStart stream => Sys2Proof.Machine.execServeBlockStart stream s
  | .serveBlockDone stream => Sys2Proof.Machine.execServeBlockDone stream s
  | .scrub granule found => Sys2Proof.Machine.execScrub granule found s
  | .blockSend port => Sys2Proof.Machine.execBlockSend port s
  | .blockReceive port block fate => Sys2Proof.Machine.execBlockReceive port block fate s
  | .replayTimeout port => Sys2Proof.Machine.execReplayTimeout port s
  | .peerSilent port => Sys2Proof.Machine.execPeerSilent port s
  | .portTrainingStep port found delay roundTrip => Sys2Proof.Machine.execPortTrainingStep port found delay roundTrip s
  | .linkKeyChange port requested => Sys2Proof.Machine.execLinkKeyChange port requested s
  | .packetRoute input vc => Sys2Proof.Machine.execPacketRoute input vc s
  | .write => Sys2Proof.Machine.execWrite s
  | .readReq => Sys2Proof.Machine.execReadReq s
  | .readResp => Sys2Proof.Machine.execReadResp s
  | .raise_ => Sys2Proof.Machine.execRaise s
  | .e2eAck => Sys2Proof.Machine.execE2eAck s
  | .e2eRetransmit => Sys2Proof.Machine.execE2eRetransmit s
  | .flowIdleFree sender key => Sys2Proof.Machine.execFlowIdleFree sender key s
  | .fault => Sys2Proof.Machine.execFault s
  | .hello => Sys2Proof.Machine.execHello s
  | .finish agree => Sys2Proof.Machine.execFinish agree s
  | .finishTimeout port => Sys2Proof.Machine.execFinishTimeout port s
  | .coll => Sys2Proof.Machine.execColl s
  | .grant => Sys2Proof.Machine.execGrant s
  | .return_ => Sys2Proof.Machine.execReturn s
  | .reduceScatter x => Sys2Proof.Machine.execReduceScatter x s
  | .allReduce x => Sys2Proof.Machine.execAllReduce x s
  | .allGather x => Sys2Proof.Machine.execAllGather x s
  | .ringPass x => Sys2Proof.Machine.execRingPass x s
  | .descriptorComplete n => Sys2Proof.Machine.execDescriptorComplete n s
  | .collectiveTimeout n => Sys2Proof.Machine.execCollectiveTimeout n s
  | .reclaimHoldEnd x => Sys2Proof.Machine.execReclaimHoldEnd x s
  | .stepEndContribute => Sys2Proof.Machine.execStepEndContribute s
  | .stepEndSum parts => Sys2Proof.Machine.execStepEndSum parts s
  | .beaconSend => Sys2Proof.Machine.execBeaconSend s
  | .beacon fraction => Sys2Proof.Machine.execBeacon fraction s
  | .parentTimeout => Sys2Proof.Machine.execParentTimeout s
  | .masterElection => Sys2Proof.Machine.execMasterElection s
  | .freeRunTimeout => Sys2Proof.Machine.execFreeRunTimeout s
  | .eventFire table n => Sys2Proof.Machine.execEventFire table n s
  | .resetRelease released => Sys2Proof.Machine.execResetRelease released s
  | .overlaySwitch => Sys2Proof.Machine.execOverlaySwitch s
  | .lifelineCut => Sys2Proof.Machine.execLifelineCut s
  | .snapshot => Sys2Proof.Machine.execSnapshot s
  | .swatchWindow table => Sys2Proof.Machine.execSwatchWindow table s
  | .swatchWindowEnd table results => Sys2Proof.Machine.execSwatchWindowEnd table results s
  | .contextSwitch p => Sys2Proof.Machine.execContextSwitch p s
  | .stepStart p => Sys2Proof.Machine.execStepStart p s
  | .journalRecord => Sys2Proof.Machine.execJournalRecord s
  | .journalDurable => Sys2Proof.Machine.execJournalDurable s
  | .partnerCopy => Sys2Proof.Machine.execPartnerCopy s
  | .copyRefused => Sys2Proof.Machine.execCopyRefused s
  | .cutDeltaWrite => Sys2Proof.Machine.execCutDeltaWrite s
  | .cutWritten => Sys2Proof.Machine.execCutWritten s
  | .skeinReport => Sys2Proof.Machine.execSkeinReport s
  | .manifest => Sys2Proof.Machine.execManifest s
  | .manifestQuery => Sys2Proof.Machine.execManifestQuery s
  | .tear => Sys2Proof.Machine.execTear s
  | .manifestTimeout => Sys2Proof.Machine.execManifestTimeout s
  | .reportTimeout => Sys2Proof.Machine.execReportTimeout s
  | .foldComplete => Sys2Proof.Machine.execFoldComplete s
  | .parityChain stripe p q groupDone => Sys2Proof.Machine.execParityChain stripe p q groupDone s
  | .domainTags => Sys2Proof.Machine.execDomainTags s
  | .tagExchangeTimeout => Sys2Proof.Machine.execTagExchangeTimeout s
  | .restoreComplete shares => Sys2Proof.Machine.execRestoreComplete shares s
  | .fillComplete peer sets => Sys2Proof.Machine.execFillComplete peer sets s
  | .unitDue kind => Sys2Proof.Machine.execUnitDue kind s
  | .ladderWindow => Sys2Proof.Machine.execLadderWindow s
  | .fsrSummary => Sys2Proof.Machine.execFsrSummary s
  | .waitForSample troubles => Sys2Proof.Machine.execWaitForSample troubles s
  | .heartbeat => Sys2Proof.Machine.execHeartbeat s
  | .abort_ => Sys2Proof.Machine.execAbort s
  | .mapRequest => Sys2Proof.Machine.execMapRequest s
  | .mapReply => Sys2Proof.Machine.execMapReply s
  | .epochAdvanceReceive => Sys2Proof.Machine.execEpochAdvanceReceive s
  | .epochApply => Sys2Proof.Machine.execEpochApply s
  | .epochDigestTimeout => Sys2Proof.Machine.execEpochDigestTimeout s
  | .originForget => Sys2Proof.Machine.execOriginForget s
  | .resetL0 => Sys2Proof.Machine.execResetL0 s
  | .resetL1 => Sys2Proof.Machine.execResetL1 s
  | .resetL2 => Sys2Proof.Machine.execResetL2 s
  | .resetL3 => Sys2Proof.Machine.execResetL3 s
  | .resetL4 => Sys2Proof.Machine.execResetL4 s
  | .resetLimitExpiry domain => Sys2Proof.Machine.execResetLimitExpiry domain s
  | .watchEnd domain => Sys2Proof.Machine.execWatchEnd domain s
  | .dumpUnitTimeout n => Sys2Proof.Machine.execDumpUnitTimeout n s
  | .isolationLimit => Sys2Proof.Machine.execIsolationLimit s
  | .fcpDatagram frame bytes => Sys2Proof.Machine.execFcpDatagram frame bytes s
  | .pfcFrame named quanta => Sys2Proof.Machine.execPfcFrame named quanta s
  | .xoffRepeat bulk room => Sys2Proof.Machine.execXoffRepeat bulk room s
  | .announce => Sys2Proof.Machine.execAnnounce s
  | .neighborDiscovery frame kind => Sys2Proof.Machine.execNeighborDiscovery frame kind s
  | .arp frame => Sys2Proof.Machine.execArp frame s
  | .echoRequest frame => Sys2Proof.Machine.execEchoRequest frame s
  | .rdmaWrite frame header part data => Sys2Proof.Machine.execRdmaWrite frame header part data s
  | .rdmaRead frame header => Sys2Proof.Machine.execRdmaRead frame header s
  | .cnp frame header => Sys2Proof.Machine.execCnp frame header s
  | .cnpRateRaise => Sys2Proof.Machine.execCnpRateRaise s
  | .hostLinkUp => Sys2Proof.Machine.execHostLinkUp s
  | .dadRetry => Sys2Proof.Machine.execDadRetry s
  | .macsecPreviousAnEnd => Sys2Proof.Machine.execMacsecPreviousAnEnd s
  | .sessionLapse => Sys2Proof.Machine.execSessionLapse s
  | .sessionOpenLapse => Sys2Proof.Machine.execSessionOpenLapse s
  | .statusRead => Sys2Proof.Machine.execStatusRead s
  | .identityGet => Sys2Proof.Machine.execIdentityGet s
  | .attest => Sys2Proof.Machine.execAttest s
  | .sessionOpen => Sys2Proof.Machine.execSessionOpen s
  | .sessionConfirm agree => Sys2Proof.Machine.execSessionConfirm agree s
  | .sessionRekey => Sys2Proof.Machine.execSessionRekey s
  | .sessionClose => Sys2Proof.Machine.execSessionClose s
  | .approvalSubmit agree => Sys2Proof.Machine.execApprovalSubmit agree s
  | .approvalWindowEnd => Sys2Proof.Machine.execApprovalWindowEnd s
  | .grantLapse => Sys2Proof.Machine.execGrantLapse s
  | .jobKeyProvision agree => Sys2Proof.Machine.execJobKeyProvision agree s
  | .csRead => Sys2Proof.Machine.execCsRead s
  | .csWrite => Sys2Proof.Machine.execCsWrite s
  | .genericRegisterWrite => Sys2Proof.Machine.execGenericRegisterWrite s
  | .protectedWrite => Sys2Proof.Machine.execProtectedWrite s
  | .prAliasWrite => Sys2Proof.Machine.execPrAliasWrite s
  | .dtRegionWrite => Sys2Proof.Machine.execDtRegionWrite s
  | .skConfigWrite => Sys2Proof.Machine.execSkConfigWrite s
  | .lifelineEnable => Sys2Proof.Machine.execLifelineEnable s
  | .leDomainWrite => Sys2Proof.Machine.execLeDomainWrite s
  | .hpWindowWrite => Sys2Proof.Machine.execHpWindowWrite s
  | .hpIpv6Write => Sys2Proof.Machine.execHpIpv6Write s
  | .scrubHoursWrite => Sys2Proof.Machine.execScrubHoursWrite s
  | .eventEntryArm => Sys2Proof.Machine.execEventEntryArm s
  | .contextTableWrite => Sys2Proof.Machine.execContextTableWrite s
  | .tjThrottleWrite => Sys2Proof.Machine.execTjThrottleWrite s
  | .suspectRemove => Sys2Proof.Machine.execSuspectRemove s
  | .jobLoad => Sys2Proof.Machine.execJobLoad s
  | .jobUnload => Sys2Proof.Machine.execJobUnload s
  | .overlayStage => Sys2Proof.Machine.execOverlayStage s
  | .stepArm => Sys2Proof.Machine.execStepArm s
  | .stepReplay => Sys2Proof.Machine.execStepReplay s
  | .diagnosisReplay => Sys2Proof.Machine.execDiagnosisReplay s
  | .eventSchedule => Sys2Proof.Machine.execEventSchedule s
  | .eventCancel => Sys2Proof.Machine.execEventCancel s
  | .lifelineArm => Sys2Proof.Machine.execLifelineArm s
  | .lifelineRestore => Sys2Proof.Machine.execLifelineRestore s
  | .spareFill => Sys2Proof.Machine.execSpareFill s
  | .manifestRead => Sys2Proof.Machine.execManifestRead s
  | .epochAdvance => Sys2Proof.Machine.execEpochAdvance s
  | .faultDeclare => Sys2Proof.Machine.execFaultDeclare s
  | .isolationReport => Sys2Proof.Machine.execIsolationReport s
  | .dumpRead => Sys2Proof.Machine.execDumpRead s
  | .dumpRelease => Sys2Proof.Machine.execDumpRelease s
  | .logRead => Sys2Proof.Machine.execLogRead s
  | .fsrRead => Sys2Proof.Machine.execFsrRead s
  | .fsrFree => Sys2Proof.Machine.execFsrFree s
  | .qpCreate => Sys2Proof.Machine.execQpCreate s
  | .qpDestroy => Sys2Proof.Machine.execQpDestroy s
  | .serveOpen => Sys2Proof.Machine.execServeOpen s
  | .serveSubmit => Sys2Proof.Machine.execServeSubmit s
  | .serveClose => Sys2Proof.Machine.execServeClose s
  | .resultRead => Sys2Proof.Machine.execResultRead s
  | .resultRelease => Sys2Proof.Machine.execResultRelease s
  | .resultLeaseEnd n => Sys2Proof.Machine.execResultLeaseEnd n s
  | .bindOff => Sys2Proof.Machine.execBindOff s
  | .perstNRise power straps flash0 flash1 => Sys2Proof.Machine.execPerstNRise power straps flash0 flash1 s
  | .perstNAssert => Sys2Proof.Machine.execPerstNAssert s
  | .pwrOkDeassert => Sys2Proof.Machine.execPwrOkDeassert s
  | .castonPhaseEnd report => Sys2Proof.Machine.execCastonPhaseEnd report s
  | .castonPhaseTimeout unit_ => Sys2Proof.Machine.execCastonPhaseTimeout unit_ s
  | .avsSample bus rails => Sys2Proof.Machine.execAvsSample bus rails s
  | .envelopeStep => Sys2Proof.Machine.execEnvelopeStep s
  | .thermalStep => Sys2Proof.Machine.execThermalStep s
  | .setpointStep p => Sys2Proof.Machine.execSetpointStep p s
  | .vrFault p => Sys2Proof.Machine.execVrFault p s
  | .junctionRead junctions stackTemps => Sys2Proof.Machine.execJunctionRead junctions stackTemps s
  | .pfcPauseExpiry => Sys2Proof.Machine.execPfcPauseExpiry s
  | .dadPass linkLocal => Sys2Proof.Machine.execDadPass linkLocal s
  | .faultNPulse => Sys2Proof.Machine.execFaultNPulse s
  | .snapshotComplete => Sys2Proof.Machine.execSnapshotComplete s
  | .bindOffComplete => Sys2Proof.Machine.execBindOffComplete s
  | .overlayStageComplete agree => Sys2Proof.Machine.execOverlayStageComplete agree s
  | .manifestWaitExpiry => Sys2Proof.Machine.execManifestWaitExpiry s

end Sys2Proof.Machine
end

