-- ==== Sys2Proof/Machine/Idle.lean ====
section
/-! DEFINITION. What a step does when no command waits: an event of the scheduled-event tables whose time has come fires;
otherwise one cycle passes (R5, R356, R375, assumption 104). A cycle advances the counters of time, the counters that
count cycles or courses, and what the device does by itself at a rate. -/

namespace Sys2Proof.Machine

/-- `PERST_N` is high with `PWR_OK`. -/
def State.poweredUp (s : State) : Bool := s.pm.perstN && s.pm.powerOk

/-- The course counter runs: from the end of cast-on phase 0 (R640), and through a reset. -/
def State.clockRuns (s : State) : Bool := s.running && !(s.co.active && decide (s.phase = 0) && !s.inReset domChip)

/-! ### Counts by cycle (R127, R222, R225, R336, R354, R546, R579) -/

/-- The head of a core's matrix queue is an `MA.MUL` that streams; its entry. -/
def Core.mulHead (k : Core) : Option QEntry :=
  match k.qMatrix with
  | [] => none
  | e :: _ => if opOf e.word = opMul ∧ arrayMask e.word ≠ 0 then some e else none

/-- What withholds an `MA.MUL` that meets every other condition of R57: 1 the duty, 2 the cable path's backlog, 3 the
low-rank unit's; 0 nothing, or more. -/
def State.withheld (s : State) (c : Nat) : Nat :=
  let k := s.core c
  match s.activeCtx c, k.mulHead with
  | some x, some e =>
    if !s.tokenReady c x .matrix e.word then 0
    else if k.holds e then (if s.cycleGranted c e.word then 0 else 1)
    else if !s.cycleGranted c e.word then 0
    else if { k with cableQ := [] }.holds e then 2
    else if { k with lrcQ := [] }.holds e then 3
    else 0
  | _, _ => 0

/-- A core runs tension rows in this cycle (R117, R682, assumption 188). -/
def State.tensionCycle (s : State) (c : Nat) : Bool :=
  (s.core c).gapSince.isSome && s.dutyGrants && decide (s.stitch % 16 < (s.core c).tensionDuty)

/-- The cycle's counts of one core. -/
def State.countCore (s : State) (c : Nat) : State :=
  let t := if s.tensionCycle c then s.count (Reg.maTensionCycles c) 1 else s
  match s.withheld c with
  | 1 => t.count (Reg.maPacedCycles c) 1
  | 2 => t.count (Reg.cpBacklogCycles c) 1
  | 3 => t.count (Reg.lrcBacklogCycles c) 1
  | _ => t

/-- A cycle of work is done on the cable path's oldest tile that has work left (R221). -/
def passTile : List CableTile → List CableTile
  | [] => []
  | t :: r => if t.cycles = 0 then t :: passTile r else { t with cycles := t.cycles - 1 } :: r

/-- The item with a cycle of its work done. -/
def LrcWork.passed : LrcWork → LrcWork
  | .stage q a f r rows kv fmt act sc n => .stage q a f r rows kv fmt act sc (n - 1)
  | .close q a n => .close q a (n - 1)

/-- A cycle of work is done on the low-rank unit's oldest item that has work left (R225). -/
def passLrc : List LrcWork → List LrcWork
  | [] => []
  | w :: r => if w.cycles = 0 then w :: passLrc r else w.passed :: r

/-- A cycle of a core's side units (R221, R225). -/
def State.passWork (s : State) (c : Nat) : State :=
  s.modCore c (fun k => { k with cableQ := passTile k.cableQ, lrcQ := passLrc k.lrcQ })

/-- A cycle of one core: its counts, its stream and its side units. -/
def State.passCore (s : State) (c : Nat) : State := ((s.countCore c).passStream c).passWork c

/-- A packet of a running descriptor is ready and waits for a buffer (R336). -/
def State.windowWaits (s : State) : Bool :=
  s.ce.running.any (fun r => !r.lost && !s.heldBack r.ctx &&
    ((decide ((r.way .plus).granted = 0) && (s.nextPacket r true).isSome) ||
      (decide ((r.way .minus).granted = 0) && (s.nextPacket r false).isSome) ||
      (r.toPartner && decide (r.partner.granted = 0) && decide (r.partner.sent < r.total .partner true) && r.sumsDone true && r.sumsDone false)))

/-- A reliable packet for a new destination is held for a free flow entry (R546). -/
def State.flowWaits (s : State) : Bool :=
  decide (4096 ≤ s.fab.sendFlows.length) && s.fab.held.any (fun h => (s.flowTo (destKey h.packet.dst h.packet.dstSide)).isNone)

/-- One cycle of the cores, and its counts. -/
def State.countCycle (s : State) : State :=
  let t := s.cores.foldl (fun u p => u.passCore p.1) s
  let u := if s.windowWaits then t.count Reg.ceWindowWaitCycles 1 else t
  let v := if s.flowWaits then u.count Reg.prFlowWaitCycles 1 else u
  if s.hpPaused 0 || s.hpPaused 1 then v.count Reg.hpPausedCycles 1 else v

/-! ### Counts by course (R269, R380, R696) -/

/-- The course completes a scrub period (R250, assumption 189). -/
def State.scrubEnds (s : State) : Bool :=
  decide (s.course.toNat % (s.fld Reg.scrubHours Fld.scrubHoursHours * hourCourses) = 0)

/-- The counts of the course that begins, the choice of the timebase's parent, and a course of the dump rings. -/
def State.countCourse (s : State) : State :=
  let t := if s.tbState = tbHoldover then s.count Reg.tbHoldoverCourses 1 else s
  let u := if s.pm.envelopeLimit < 16 then t.count Reg.pmEnvelopeCourses 1 else t
  let v := if s.pm.thermalLimit < 16 then u.count Reg.pmThermalCourses 1 else u
  (if s.scrubEnds then (List.range 4).foldl (fun w p => w.count (Reg.scrubPasses p) 1) v else v).reviewParent.passDump

/-! ### A cycle -/

/-- Course time advances by one stitch (R5): the units that arm events take their entries after the commands of the stitch that ends
(R702), and the registers are those that a write of the new stitch finds (R587). -/
def State.advance (s0 : State) : State :=
  let s1 := s0.takeEntries
  let s := { s1 with cmd := { s1.cmd with stitchRegs := s1.regs, stepsWritten := [] } }
  if s.tb.stitch < 2559 then { s with tb := { s.tb with stitch := s.tb.stitch + 1 } }
  else { s with tb := { s.tb with stitch := 0, course := s.tb.course + 1 } }.countCourse.eventCourses

/-- A long read goes on where the interpreter works (R592). -/
def State.passRead (s : State) : State :=
  if s.running && s.interpreted && !s.inReset 4 && !s.inReset 5 then s.readOn else s

/-- Cores that are asked to switch have stopped dispatching by the next stitch (R73, R75). -/
def State.stopSwitching (s : State) : State :=
  { s with cores := s.cores.map (fun (p : Nat × Core) => (p.1, { p.2 with stopped := p.2.stopped || p.2.switch_.isSome })) }

/-- One cycle passes: the cores and their side units work, counts and time advance, reads of port H go on, and neighbours
that have come up are asked for their fault maps. -/
def State.cycle (s : State) : State :=
  let t := { s with co := { s.co with elapsed := s.co.elapsed + 1 } }
  if s.clockRuns then (((((t.countCycle.stopSwitching.drainResidues.advance).flushWaiting).passRead).respondAll).askMaps).pumpAll else t

/-- The device with no command waiting. -/
def State.idle (s : State) : State :=
  if !s.poweredUp then s
  else if s.running then
    match s.nextDue with
    | some (t, n) => s.entryTime t n
    | none => s.cycle
  else s.cycle

end Sys2Proof.Machine
end

