-- ==== Sys2Proof/Safety.lean ====
section
/-! DEFINITION. What the claims of this model speak of: a sound state, in which the tables of memory and registers stand in
their canonical form and course time counts as R5 says, and a step that completes. -/

namespace Sys2Proof.Machine

/-- The canonical form of memory: addresses strictly rising, no listed byte equal to what an unlisted address reads as. -/
def memoryWf (m : List Host.Cell) : Bool := SMap.wf 0 m

/-- A sound state: memory and the register table are canonical, and the stitch lies within the course (R5). -/
def State.Sound (s : State) : Prop := memoryWf s.mem = true ∧ SMap.wf 0 s.regs = true ∧ s.tb.stitch < 2560

/-- A sound state in which the commands `q` wait. -/
def State.Kept (q : List Instr) (s : State) : Prop := s.pending = q ∧ s.Sound

/-- At most core `c` differs. -/
def onlyCore (c : Nat) (s t : State) : Prop := t = { s with cores := t.cores } ∧ ∀ d, d ≠ c → t.core d = s.core d

/-- The lanewise vector instructions: row, operation code, and what a lane of the result is, of three elements and the
core's scalar registers, in a format of precision `p` (R51, R150–R152). -/
def vectorRows (core : Fin 160) (p : Nat) (w : IWord) : List (Instr × (Nat × Nat) × (Core → Num → Num → Num → Num)) :=
  [(.vFma core, (2, 2), fun _ a b d => Num.add (Num.mul a b) d),
   (.vAdd core, (2, 3), fun _ a b _ => Num.add a b),
   (.vMul core, (2, 4), fun _ a b _ => Num.mul a b),
   (.vMax core, (2, 5), fun _ a b _ => pick true (vmag w) a b),
   (.vMin core, (2, 6), fun _ a b _ => pick false (vmag w) a b),
   (.vScale core, (2, 7), fun k a _ d => Num.add (Num.mul a (Fmt.f32.decode ((k.sreg (vsa w)).toNat % 2 ^ 32))) d),
   (.vRsq core, (2, 8), fun _ a _ _ => rsqrt p a)]

/-- Command `c`, of opcode `op`, stands first among the accepted ones, before `rest`, and the interpreter can carry it
out (R589, R647). -/
def State.commanded (s : State) (op : Nat) (c : CmdSlot) (rest : List CmdSlot) : Prop :=
  s.cmd.queue = c :: rest ∧ c.opcode.toNat = op ∧ s.running = true ∧ s.interpreted = true ∧ s.inReset 4 = false ∧
    s.inReset 5 = false ∧ s.cmd.reading = none ∧ (s.ready = true ∨ earlyClass op = true)

/-- The state in which the first command's effect is formed: it has left the queue. -/
def State.popped (s : State) (rest : List CmdSlot) : State := { s with cmd := { s.cmd with queue := rest } }

/-- The commands that act outside memory and the cores: timers, the host link, sessions, queue pairs, results, books, power
and event tables. -/
def outsideCores : Instr → Bool
  | .lstepClear _ | .serveBlockClose _ | .reclaimHoldEnd _ | .overlaySwitch | .lifelineCut | .tagExchangeTimeout
  | .heartbeat | .epochDigestTimeout | .originForget | .watchEnd _ | .dumpUnitTimeout _ | .pfcFrame _ _ | .xoffRepeat _ _
  | .announce | .arp _ | .echoRequest _ | .cnp _ _ | .cnpRateRaise | .hostLinkUp | .dadRetry | .macsecPreviousAnEnd
  | .sessionLapse | .sessionOpenLapse | .identityGet | .attest | .sessionOpen | .sessionRekey | .sessionClose
  | .approvalSubmit _ | .approvalWindowEnd | .grantLapse | .overlayStage | .eventSchedule | .eventCancel | .lifelineArm
  | .manifestRead | .dumpRead | .dumpRelease | .fsrFree | .qpCreate | .qpDestroy | .serveSubmit | .serveClose
  | .resultRelease | .resultLeaseEnd _ | .avsSample _ _ | .envelopeStep | .thermalStep | .setpointStep _ | .pfcPauseExpiry
  | .dadPass _ | .faultNPulse | .overlayStageComplete _ => true
  | _ => false

end Sys2Proof.Machine
end

