-- ==== Sys2Proof/Certificates/Slice0/Obligations.lean ====
section
/-! DEFINITION. What is claimed of the model: one proposition per claim. A claim that rests on a choice of the model, not
on a rule of the spec, says so. -/

open Sys2Proof Sys2Proof.Machine

/-- With command c at the front of the queue of waiting commands and the rest behind it, a step answers what the command's meaning answers on the state with the rest waiting. The queue of waiting commands is the model's own. -/
def Obligations.StepRunsTheFrontCommand : Prop :=
  ∀ (c : Instr) (rest : List Instr) (s : State),
    step { s with pending := c :: rest } = exec c { s with pending := rest }

/-- With no command waiting a step answers a next state: the state that course time alone brings. Before power and PERST_N allow anything that is the same state. What an idle step does is the model's choice (assumption 104). -/
def Obligations.StepOnEmptyQueueIdles : Prop :=
  ∀ s : State, s.pending = [] →
    step s = .next s.idle ∧ (s.poweredUp = false → step s = .next s)

/-- In the state before the first cast-on nothing is carried out, no command waits, no memory byte, token, poison mark or register of a core is set, TB_STATUS shows FREE_RUN at course 0, and RW registers with a non-zero reset value in the register tables hold it (SCRUB_HOURS 24, PM_CONFIG.TJ_THROTTLE 100 and ENVELOPE E60). That memory and core registers read 0 then is the model's choice (log entries 8 and 9). -/
def Obligations.ResetLeavesTheSpecsValues : Prop :=
  State.reset.running = false ∧ State.reset.pending = [] ∧ State.reset.cmd.queue = [] ∧ State.reset.course = 0 ∧
    State.reset.stitch = 0 ∧ State.reset.fld Reg.scrubHours Fld.scrubHoursHours = 24 ∧
    State.reset.fld Reg.pmConfig Fld.pmConfigTjThrottle = 100 ∧ State.reset.fld Reg.pmConfig Fld.pmConfigEnvelope = 2 ∧
    (∀ a, State.reset.byte a = 0) ∧ (∀ c x tok, State.reset.token c x tok = 0) ∧ (∀ g, NatSet.has State.reset.poison g = false) ∧
    ∀ c, State.reset.core c = Core.reset

/-- Before the first cast-on memory and the register table stand in their canonical form and the stitch lies within a course. -/
def Obligations.ResetIsSound : Prop := State.reset.Sound

/-- From every sound state, whatever command stands at the front of the queue, a step that answers a next state answers a sound one: memory and registers stay in canonical form (so that equal contents are equal data) and the stitch stays below 2,560 (R5). -/
def Obligations.EveryStepKeepsASoundState : Prop :=
  ∀ s t : State, s.Sound → step s = .next t → t.Sound

/-- Whatever a command does, the queue of the commands waiting behind it stands, so that every command is carried out in the order of its arrival. The queue is the model's own. -/
def Obligations.CommandsLeaveTheWaitingOnes : Prop :=
  ∀ (c : Instr) (s t : State), s.Sound → exec c s = .next t → t.pending = s.pending

/-- Whatever its operands and the state, a command that acts on timers, the host link, sessions, queue pairs, results, books, power or event tables leaves every byte of memory, every poison mark, every token and every core as it was. -/
def Obligations.OutsideCommandsLeaveMemoryAndCores : Prop :=
  ∀ (c : Instr) (s t : State), outsideCores c = true → exec c s = .next t →
    (∀ a, t.byte a = s.byte a) ∧ (∀ g, NatSet.has t.poison g = NatSet.has s.poison g) ∧
      (∀ c x tok, t.token c x tok = s.token c x tok) ∧ ∀ c, t.core c = s.core c

/-- For every command, ill-formed ones included, and every state the model answers a next state: the device never stops, and no row of the command table is refused. -/
def Obligations.NoCommandStops : Prop := ∀ (c : Instr) (s : State), ∃ t, exec c s = .next t

/-- A write accepted at a memory outside the tier reads back byte by byte, leaves every byte outside it, leaves every register, clears the poison of each granule it covers whole and leaves that of every other granule. -/
def Obligations.MemoryReadsAsWritten : Prop :=
  ∀ (s : State) (a : Nat) (bs : List Byte), inTier a = false →
    (∀ i, i < bs.length → (s.store a bs).byte (a + i) = bs.getD i 0) ∧
    (∀ b, b < a ∨ a + bs.length ≤ b → (s.store a bs).byte b = s.byte b) ∧
    (∀ r, (s.store a bs).reg r = s.reg r) ∧
    (∀ g, g ∈ granulesOf a bs.length → coversGranule a bs.length g = true → NatSet.has (s.store a bs).poison g = false) ∧
    (∀ g, coversGranule a bs.length g = false ∨ g ∉ granulesOf a bs.length →
      NatSet.has (s.store a bs).poison g = NatSet.has s.poison g)

/-- Of n events (n at least 1) that come while a counter has not advanced in its cycle, its COUNT takes one at once, modulo 2^48, and its residue the others, up to 65,535; events that come while it has advanced are added to its residue, up to 65,535. OVF becomes 1 when the count passes 2^48 - 1 or the residue reaches 65,535, and otherwise stands; every other register and residue stands. A cycle that passes then lets every counter that holds a residue advance by one of it. SMap.get 0 s.counted a is the model's own: 0 while the counter a has not advanced in the cycle, else one more than its residue. -/
def Obligations.CountersCountAndWrap : Prop :=
  (∀ (s : State) (a n : Nat), 0 < n →
    (SMap.get 0 s.counted a = 0 →
      (s.count a n).fld a Fld.counterCount = (s.fld a Fld.counterCount + 1) % 2 ^ 48 ∧
      ((s.count a n).fld a Fld.counterOvf =
        if 2 ^ 48 ≤ s.fld a Fld.counterCount + 1 ∨ 65536 ≤ n then 1 else s.fld a Fld.counterOvf) ∧
      SMap.get 0 (s.count a n).counted a = 1 + min (n - 1) 65535) ∧
    (∀ r, SMap.get 0 s.counted a = 1 + r →
      (s.count a n).fld a Fld.counterCount = s.fld a Fld.counterCount ∧
      ((s.count a n).fld a Fld.counterOvf = if 65535 ≤ r + n then 1 else s.fld a Fld.counterOvf) ∧
      SMap.get 0 (s.count a n).counted a = 1 + min (r + n) 65535) ∧
    ∀ b, b ≠ a → (s.count a n).reg b = s.reg b ∧ SMap.get 0 (s.count a n).counted b = SMap.get 0 s.counted b) ∧
  ∀ (s : State) (a : Nat), (s.counted.map (·.1)).Nodup →
    s.drainResidues.reg a = (if 1 < SMap.get 0 s.counted a then counterAdd (s.reg a) 1 else s.reg a) ∧
      SMap.get 0 s.drainResidues.counted a = SMap.get 0 s.counted a - 1

/-- When a core may dispatch and the word at its pattern counter is legal, lies in no poisoned granule and is the instruction named, the row completes: C.SETI writes IMM to SREG and C.ADDI adds it modulo 2^64, both going on at the next word; C.LOOP takes 1 from SREG and goes on at TARGET while that is not 0; C.JUMP goes on at TARGET. Nothing but that core changes, no other scalar register of it, and no queue of it. -/
def Obligations.FrontEndInstructionsAtDispatch : Prop :=
  ∀ (core : Fin 160) (s : State) (x : Nat) (w : IWord), s.dispatching core.val = some x →
    w = s.patternWord x (s.core core.val).pc → s.fetchPoisoned x (s.core core.val).pc = false → legalWord w = true →
    ∀ k, k = s.core core.val →
    (opOf w = opSeti → exec (.cSeti core) s =
      .next (s.setCore core.val { k with sregs := SMap.set 0 k.sregs (sregOf w) (immOf w), pc := k.pc + 1 })) ∧
    (opOf w = opAddi → exec (.cAddi core) s =
      .next (s.setCore core.val
        { k with sregs := SMap.set 0 k.sregs (sregOf w) (k.sreg (sregOf w) + immOf w), pc := k.pc + 1 })) ∧
    (opOf w = opLoop → exec (.cLoop core) s =
      .next (s.setCore core.val { k with
        sregs := SMap.set 0 k.sregs (sregOf w) (k.sreg (sregOf w) - 1)
        pc := if k.sreg (sregOf w) - 1 = 0 then k.pc + 1 else targetOf w })) ∧
    (opOf w = opJump → exec (.cJump core) s = .next (s.setCore core.val { k with pc := targetOf w }))

/-- When a core may dispatch and the word at its pattern counter is legal, lies in no poisoned granule, is none of the front end's own and finds fewer than 16 entries in the queue of its class, DISPATCH completes: the word enters that queue behind the others with the next sequence number and its place in the pattern, and the pattern counter goes on by one. The other queues and everything outside that core stand. -/
def Obligations.DispatchQueuesTheNextInstruction : Prop :=
  ∀ (core : Fin 160) (s : State) (x : Nat) (w : IWord), s.dispatching core.val = some x →
    w = s.patternWord x (s.core core.val).pc → s.fetchPoisoned x (s.core core.val).pc = false → legalWord w = true →
    frontEnd w = false → ((s.core core.val).queue (queueOf w)).length < 16 →
    ∃ t, exec (.dispatch core) s = .next t ∧ onlyCore core.val s t ∧
      (t.core core.val).queue (queueOf w) =
        (s.core core.val).queue (queueOf w) ++ [⟨(s.core core.val).nextSeq, (s.core core.val).pc, w⟩] ∧
      (∀ q, q ≠ queueOf w → (t.core core.val).queue q = (s.core core.val).queue q) ∧
      (t.core core.val).pc = (s.core core.val).pc + 1 ∧ (t.core core.val).issued = (s.core core.val).issued ∧
      (t.core core.val).sregs = (s.core core.val).sregs ∧ (t.core core.val).vregs = (s.core core.val).vregs

/-- When the head of a queue may issue, the state its effect is formed in has that head out of the queue and among the issued instructions (a matrix instruction with array mask 0, which completes at its issue, is not among them), WAIT_CNT taken from the token it waits on, every other token of the core and of every other core, every register, every byte of memory and every other core as they were. -/
def Obligations.IssueTakesTheHeadAndItsWait : Prop :=
  ∀ (s : State) (c x : Nat) (q : Queue) (e : QEntry) (op : Nat × Nat), s.issuable c q op = some (x, e) →
    opOf e.word = op ∧ ((s.issuing c x q e).core c).issued = (if (opOf e.word).1 = 1 ∧ arrayMask e.word = 0 then (s.core c).issued else (s.core c).issued ++ [⟨q, e⟩]) ∧
    (s.core c).queue q = e :: ((s.issuing c x q e).core c).queue q ∧
    waitCnt e.word ≤ s.token c x (waitTok e.word) ∧
    (s.issuing c x q e).token c x (waitTok e.word) = s.token c x (waitTok e.word) - waitCnt e.word ∧
    (∀ k, k ≠ tokenKey c x (waitTok e.word) → SMap.get 0 (s.issuing c x q e).tokens k = SMap.get 0 s.tokens k) ∧
    (∀ a, (s.issuing c x q e).reg a = s.reg a) ∧ (∀ a, (s.issuing c x q e).byte a = s.byte a) ∧
    ∀ d, d ≠ c → (s.issuing c x q e).core d = s.core d

/-- When the named instruction is the head of the control queue and may issue, its row completes with the head out of its queue and its wait subtracted; C.NOP and C.HALT do nothing else; C.RAISE raises TOKEN of the core by AMOUNT; C.RRAISE with a COORD inside the torus sends the raise to the core, context and token it names; C.YIELD requests a switch where another context qualifies and does nothing else where none does. Each raises its own token at issue where RAISE_AT says so. -/
def Obligations.QueuedControlInstructionsComplete : Prop :=
  ∀ (core : Fin 160) (s : State) (x : Nat) (e : QEntry) (i : State), i = s.issuing core.val x .control e →
    (s.issuable core.val .control opNop = some (x, e) →
      exec (.cNop core) s = .next (i.raisedAtIssue core.val x e)) ∧
    (s.issuable core.val .control opHalt = some (x, e) →
      exec (.cHalt core) s = .next (i.raisedAtIssue core.val x e)) ∧
    (s.issuable core.val .control opRaise = some (x, e) →
      exec (.cRaise core) s = .next ((i.raiseToken core.val x (bitsOf e.word 95 90) (bitsOf e.word 89 74)
        (.core core.val e.pc e.word)).raisedAtIssue core.val x e)) ∧
    (s.issuable core.val .control opRraise = some (x, e) → i.inExtents (BitVec.ofNat 15 (bitsOf e.word 95 81)) = true →
      i.isDiag x = false →
      exec (.cRraise core) s = .next ((i.sendRaise (BitVec.ofNat 15 (bitsOf e.word 95 81)) (bitsOf e.word 80 73)
        (bitsOf e.word 72 69) (bitsOf e.word 68 63) (bitsOf e.word 62 47) (BitVec.ofNat 8 core.val)
        (.rraise core.val x e.seq)).raisedAtIssue core.val x e)) ∧
    (s.issuable core.val .control opYield = some (x, e) → (i.noteYield core.val x).nextContext core.val = none →
      exec (.cYield core) s = .next ((i.noteYield core.val x).raisedAtIssue core.val x e)) ∧
    (s.issuable core.val .control opYield = some (x, e) → ((i.noteYield core.val x).nextContext core.val).isSome = true →
      exec (.cYield core) s =
        .next (((i.noteYield core.val x).requestSwitch core.val (.gaveUp false)).raisedAtIssue core.val x e))

/-- When a V.FMA, V.ADD, V.MUL, V.MAX, V.MIN, V.SCALE or V.RSQ in F32 is the head of the vector queue and may issue, its row completes. Every participating lane of VD holds the F32 code of the instruction's exact result for that lane's operands (VA times VB plus VC; VA plus VB; VA times VB; the larger or smaller, or of the magnitudes with MAG; VA times the low half of SA plus VC; the reciprocal square root), rounded once; every other lane and register of the core stands, and outside the core only the instruction's wait and raise act. -/
def Obligations.VectorLanesInF32 : Prop :=
  ∀ (core : Fin 160) (s : State) (x : Nat) (e : QEntry) (i : Instr) (op : Nat × Nat) (f : Core → Machine.Num → Machine.Num → Machine.Num → Machine.Num),
    (i, op, f) ∈ vectorRows core 24 e.word →
    s.issuable core.val .vector op = some (x, e) → vecFmt (vfmt e.word) = some .f32 →
    ∃ k, exec i s = .next (((s.issuing core.val x .vector e).setCore core.val k).raisedAtIssue core.val x e) ∧
      k = { (s.issuing core.val x .vector e).core core.val with vregs := k.vregs } ∧
      ∀ r l, l < 512 → k.lane r l =
        if r = vd e.word ∧ l < vlanes e.word then
          BitVec.ofNat 32 (Fmt.f32.encode (f (s.core core.val) (Fmt.f32.decode ((s.core core.val).lane (va e.word) l).toNat)
            (Fmt.f32.decode ((s.core core.val).lane (vb e.word) l).toNat)
            (Fmt.f32.decode ((s.core core.val).lane (vc e.word) l).toNat)))
        else (s.core core.val).lane r l

/-- When a V.FMA, V.ADD, V.MUL, V.MAX, V.MIN, V.SCALE or V.RSQ in B16 is the head of the vector queue and may issue, its row completes. Both halves of every participating lane of VD hold the B16 codes of the results for the same halves of the operands' lanes, low half for low half; every other lane and register of the core stands, and outside the core only the instruction's wait and raise act. -/
def Obligations.VectorLanesInB16 : Prop :=
  ∀ (core : Fin 160) (s : State) (x : Nat) (e : QEntry) (i : Instr) (op : Nat × Nat)
    (f : Core → Machine.Num → Machine.Num → Machine.Num → Machine.Num),
    (i, op, f) ∈ vectorRows core 8 e.word →
    s.issuable core.val .vector op = some (x, e) → vecFmt (vfmt e.word) = some .b16 →
    ∃ k, exec i s = .next (((s.issuing core.val x .vector e).setCore core.val k).raisedAtIssue core.val x e) ∧
      k = { (s.issuing core.val x .vector e).core core.val with vregs := k.vregs } ∧
      ∀ r l, l < 512 → ∀ a b d : Nat × Nat,
        a = (((s.core core.val).lane (va e.word) l).toNat % 65536, ((s.core core.val).lane (va e.word) l).toNat / 65536) →
        b = (((s.core core.val).lane (vb e.word) l).toNat % 65536, ((s.core core.val).lane (vb e.word) l).toNat / 65536) →
        d = (((s.core core.val).lane (vc e.word) l).toNat % 65536, ((s.core core.val).lane (vc e.word) l).toNat / 65536) →
        k.lane r l =
          if r = vd e.word ∧ l < vlanes e.word then
            BitVec.ofNat 32
              (Fmt.b16.encode (f (s.core core.val) (Fmt.b16.decode a.1) (Fmt.b16.decode b.1) (Fmt.b16.decode d.1)) % 65536 +
                Fmt.b16.encode (f (s.core core.val) (Fmt.b16.decode a.2) (Fmt.b16.decode b.2) (Fmt.b16.decode d.2)) % 65536 * 65536)
          else (s.core core.val).lane r l

/-- When a V.RSUM or V.RMAX in F32 or B16 is the head of the vector queue and may issue, its row completes and writes element 0 of VD: V.RSUM the pairwise tree sum of the participating elements, each addition rounded, V.RMAX their largest, or the largest magnitude with MAG. The other elements and registers of the core stand, and outside the core only the wait and the raise act. -/
def Obligations.VectorReductions : Prop :=
  ∀ (core : Fin 160) (s : State) (x : Nat) (e : QEntry) (f : Fmt) (i : State) (k : Core) (xs : List Machine.Num),
    i = s.issuing core.val x .vector e → k = i.core core.val → vecFmt (vfmt e.word) = some f →
    xs = (k.elems (va e.word) f (vlanes e.word)).map f.decode →
    (s.issuable core.val .vector (2, 9) = some (x, e) →
      exec (.vRsum core) s = .next ((i.setCore core.val (k.setElem (vd e.word) f 0
        (f.encode ((treeSum f 11 xs).headD Machine.Num.zero)))).raisedAtIssue core.val x e)) ∧
    (s.issuable core.val .vector (2, 10) = some (x, e) → ∀ a r, xs = a :: r →
      exec (.vRmax core) s = .next ((i.setCore core.val (k.setElem (vd e.word) f 0
        (f.encode (r.foldl (pick true (vmag e.word)) (if vmag e.word then a.abs else a))))).raisedAtIssue core.val x e))

/-- When the named instruction is the head of the vector queue, may issue, has formats F32 or B16, and its extent lies in the context's allotment and, for V.LD, in no poisoned granule, its row completes. V.LD writes each participating lane of VD from the four bytes of core store at ADDR plus four times the lane; V.ST writes the elements of VA, converted to the target format, to core store at ADDR and counts the non-finite ones of the context; V.CVT copies lanes where the formats agree and else writes the converted elements from element 0 and counts the non-finite ones it converts. -/
def Obligations.VectorMemoryAndConversion : Prop :=
  ∀ (core : Fin 160) (s : State) (x : Nat) (e : QEntry) (f : Fmt) (i : State) (k : Core),
    i = s.issuing core.val x .vector e → k = i.core core.val → vecFmt (vfmt e.word) = some f →
    (s.issuable core.val .vector (2, 0) = some (x, e) → i.inAllotment x (vaddr e.word) (4 * vlanes e.word) = true →
      i.firstPoison [(coreBase core.val + vaddr e.word, 4 * vlanes e.word)] = none →
      ∃ j, exec (.vLd core) s = .next ((i.setCore core.val j).raisedAtIssue core.val x e) ∧ j = { k with vregs := j.vregs } ∧
        ∀ r l, l < 512 → j.lane r l = if r = vd e.word ∧ l < vlanes e.word then
          BitVec.ofNat 32 (i.leAt (coreBase core.val + vaddr e.word + 4 * l) 4) else k.lane r l) ∧
    (∀ g xs bs, vecFmt (vtarget e.word) = some g → xs = (k.elems (va e.word) f (vlanes e.word)).map f.decode →
      bs = xs.flatMap (fun v => leBytes g.bytes (g.encode v)) → s.issuable core.val .vector (2, 1) = some (x, e) →
      i.inAllotment x (vaddr e.word) bs.length = true →
      exec (.vSt core) s = .next (((i.store (coreBase core.val + vaddr e.word) bs).addNonFinite x
        (xs.countP (fun v => !(g.decode (g.encode v)).isFinite))).raisedAtIssue core.val x e)) ∧
    (∀ g, vecFmt (vtarget e.word) = some g → s.issuable core.val .vector (2, 11) = some (x, e) →
      (f = g → ∃ j, exec (.vCvt core) s = .next ((i.setCore core.val j).raisedAtIssue core.val x e) ∧
        j = (List.range (vlanes e.word)).foldl (fun q l => q.setLane (vd e.word) l (k.lane (va e.word) l)) k) ∧
      (f ≠ g → ∀ xs, xs = ((k.elems (va e.word) f (vlanes e.word)).take (vlanes e.word)).map f.decode →
        exec (.vCvt core) s = .next (((i.setCore core.val (k.setElems (vd e.word) g (xs.map g.encode))).addNonFinite x
          (xs.countP (fun v => !v.isFinite))).raisedAtIssue core.val x e)))

/-- When the named instruction is the head of the matrix queue and may issue, its row completes. Where it selects no array nothing but its issue happens, an MA.MUL counted. Where it selects an array and meets none of the cases of its format and address tests, of the allotment and of poison: MA.LOADW puts into the named slot of each selected array the tile read at ADDR plus 0x4000 per array, with its format and columns and, in a format with scales, the 256 B16 scales read at ADDR2 plus 0x200 per array (in B16 the scales stand), nothing else of the core changing but those slots of those arrays; MA.MUL has the effect that State.mulEffect gives its job, in which its core counts one more MA.MUL and its stream is held for the instruction's stream cycles, a row of it for its share of those without a check; MA.DRAIN has the effect that State.drainEffect gives it. -/
def Obligations.MatrixInstructionsAtIssue : Prop :=
  ∀ (core : Fin 160) (s : State) (x : Nat) (e : QEntry) (i : State) (k : Core) (w : IWord),
    i = s.issuing core.val x .matrix e → k = i.core core.val → w = e.word →
    (arrayMask w = 0 →
      (s.issuable core.val .matrix opLoadw = some (x, e) → exec (.maLoadw core) s = .next (i.raisedAtIssue core.val x e)) ∧
      (s.issuable core.val .matrix opMul = some (x, e) → exec (.maMul core) s =
        .next ((i.setCore core.val { k with checkIndex := k.checkIndex + 1 }).raisedAtIssue core.val x e)) ∧
      (s.issuable core.val .matrix opDrain = some (x, e) → exec (.maDrain core) s = .next (i.raisedAtIssue core.val x e))) ∧
    (∀ tiles scales, arrayMask w ≠ 0 → s.issuable core.val .matrix opLoadw = some (x, e) → matrixFmt w ≠ 5 →
      ncolsM1 w < tileWidth ((Fmt.ofCode (matrixFmt w)).getD .t4) →
      tiles = (selected w).map (fun a => (matrixAddr w + a * 0x4000, tileBytes (matrixFmt w))) →
      scales = (if matrixFmt w = 4 then [] else (selected w).map (fun a => (matrixAddr2 w + a * 0x200, 0x200))) →
      i.outside x (tiles ++ scales) = false → i.firstPoison ((tiles ++ scales).map (fun p => (storeAt core.val p.1, p.2))) = none →
      ∃ j, exec (.maLoadw core) s = .next ((i.setCore core.val j).raisedAtIssue core.val x e) ∧ j = { k with arrays := j.arrays } ∧
        (∀ a, a ∉ selected w → j.array a = k.array a) ∧
        ∀ a, a ∈ selected w → a < k.arrays.length →
          (∀ n, n ≠ wslot w → (j.array a).slot n = (k.array a).slot n) ∧
          ((j.array a).slot (wslot w)).loaded = true ∧
          ((j.array a).slot (wslot w)).fmt = matrixFmt w ∧ ((j.array a).slot (wslot w)).nvalidM1 = ncolsM1 w ∧
          ((j.array a).slot (wslot w)).tile =
            SMap.ofList 0 (slotBytes (matrixFmt w) (i.load (storeAt core.val (matrixAddr w + a * 0x4000)) (tileBytes (matrixFmt w)))) ∧
          ((j.array a).slot (wslot w)).scales =
            if matrixFmt w = 4 then ((k.array a).slot (wslot w)).scales
            else SMap.ofList 0 ((List.range 256).map (fun n => BitVec.ofNat 16
              (leNat (((i.load (storeAt core.val (matrixAddr2 w + a * 0x200)) 0x200).drop (2 * n)).take 2))))) ∧
    (∀ j, arrayMask w ≠ 0 → s.issuable core.val .matrix opMul = some (x, e) → j = i.mulJob core.val x w →
      (∀ p ∈ i.mulCases core.val x w j, p.1 = false) → (streamFmt w j = .b16 ∨ 0x200 ≤ streamAt w j) →
      i.outside x (i.mulReads core.val e j) = false →
      i.firstPoison ((i.mulReads core.val e j).map (fun p => (storeAt core.val p.1, p.2))) = none →
      exec (.maMul core) s = .next ((i.mulEffect core.val x e j).raisedAtIssue core.val x e) ∧
      ∃ t : State, i.mulEffect core.val x e j = t.setCore core.val { t.core core.val with
        checkIndex := (t.core core.val).checkIndex + 1, streamSeq := e.seq
        streamLeft := streamCycles w i.cfg.compat j.fallback (i.isChecked core.val x w)
        streamRow := streamCycles w i.cfg.compat j.fallback false / rowsOf w }) ∧
    (∀ f dst, arrayMask w ≠ 0 → s.issuable core.val .matrix opDrain = some (x, e) → f = (Fmt.ofCode (matrixFmt w)).getD .f32 →
      (matrixFmt w = 2 ∨ f = .f32 ∨ f = .b16) → grecOf w ≤ i.fld (Reg.guRecords x) Fld.guRecordsCount →
      (matrixFmt w ≠ 2 ∨ grecOf w = 0 ∨ i.poisoned (i.recordAddr x (grecOf w)) 64 = false) →
      dst = (matrixAddr w, rowsOf w * (selected w).length * (ncolsM1 w + 1) * f.bytes) →
      i.outside x (dst :: (if matrixFmt w = 2 then [(matrixAddr2 w, 2 * rowsOf w)] else [])) = false →
      exec (.maDrain core) s = .next ((i.drainEffect core.val x w).raisedAtIssue core.val x e))

/-- When the named instruction is the head of the gauge queue and may issue, meets none of the faults of its job and its extents lie in the allotment and in no poisoned granule, its row completes. G.QUANT has the effect that State.quantEffect gives its job; without outliers and residual that is its converted output and scales written, then, with a record named, the record's 64 bytes with the rotated source's largest magnitude and the saturations observed, then the counts. G.PREPASS, with outliers, first rewrites the static lists, and writes its record with the largest magnitude observed. Neither changes a token or a core beyond what the issue does. -/
def Obligations.GaugeInstructionsAtIssue : Prop :=
  ∀ (core : Fin 160) (s : State) (x : Nat) (e : QEntry) (i : State), i = s.issuing core.val x .gauge e →
    (∀ j given, s.issuable core.val .gauge opQuant = some (x, e) → j = i.gaugeJob x e.word false →
      (∀ p ∈ i.gaugeCases x e.word j, p.1 = false) → j.scalesAbove = true →
      given = (if j.mode = 2 then (if j.layout = 0 then j.scaleExtents.take 1 else j.scaleExtents) else []) →
      i.outside x (((j.src, j.rows * j.width * j.elem) :: given) ++ (j.outExtents ++ j.scaleExtents ++ j.cableExtents)) = false →
      i.firstPoison (((j.src, j.rows * j.width * j.elem) :: given).map (fun p => (storeAt core.val p.1, p.2)) ++ j.listExtents) = none →
      ∃ t : State, exec (.gQuant core) s = .next (t.raisedAtIssue core.val x e) ∧ t = i.quantEffect core.val x j ∧
        t.cores = i.cores ∧ t.tokens = i.tokens ∧
        (j.outlier = false → j.spec.res = false → ∀ src rot scales out u, src = i.gaugeSource core.val j → rot = j.rotated (i.withoutOutliers x j src) →
          scales = i.gaugeScales core.val j rot → out = j.convertAll j.fmt scales rot → u = i.gaugeWrite core.val j scales out →
          t = (if j.grec = 0 then u else u.store (u.recordAddr x j.grec) (recordBytes
            (observe j.rec_ (maxMagOf (rot.map maxMagOf)) (saturatedOf out) false))).gaugeCounts x (nonFiniteOf src rot out) (saturatedOf out) 0)) ∧
    (∀ j, s.issuable core.val .gauge opPrepass = some (x, e) → j = i.gaugeJob x e.word true →
      (∀ p ∈ i.gaugeCases x e.word j, p.1 = false) → i.outside x [(j.src, j.rows * j.width * j.elem)] = false →
      i.firstPoison ((storeAt core.val j.src, j.rows * j.width * j.elem) :: j.listExtents) = none →
      ∃ t u : State, exec (.gPrepass core) s = .next (t.raisedAtIssue core.val x e) ∧ t.cores = i.cores ∧ t.tokens = i.tokens ∧
        u = (if j.outlier then i.findOutliers j (i.gaugeSource core.val j) else i) ∧
        t = u.store (u.recordAddr x j.grec) (recordBytes (observe j.rec_
          (maxMagOf ((j.rotated (i.withoutOutliers x j (i.gaugeSource core.val j))).map maxMagOf)) 0 true)))

/-- When an M.COPY is the head of the move queue and may issue, and its extent is admitted and its context is no diagnosis context, its row completes and the move stands at the end of its channel's list, nothing else of the core changing. When a channel's next move may begin, on a core in no reset whose partition is not fenced, MOVE_TRANSFER completes: a move within the device none of whose memory has its controller in reset copies what is left of its bytes, poison with them, and has sent and landed all of them; where a controller is in reset the move goes on granule by granule, and a granule there, with a credit of the channel and one of the pool, is queued as a request with its tag, its addresses and, of a write, its data, and counts as sent and not as landed; a move to another device sends WRITE packets, and one from another device read requests, for what is left, as far as its channel has no more than 2,048 bytes out that way and not answered. -/
def Obligations.MovesAndTheirTransfer : Prop :=
  ∀ (core : Fin 160) (s : State),
    (∀ (x : Nat) (e : QEntry) (i : State), i = s.issuing core.val x .move e → s.issuable core.val .move opCopy = some (x, e) →
      i.moveAdmitted x core.val e.word = true → i.isDiag x = false →
      exec (.mCopy core) s = .next ((i.setCore core.val ((i.core core.val).setChannel (mchan e.word)
        ((i.core core.val).channel (mchan e.word) ++ [moveEntry i core.val e]))).raisedAtIssue core.val x e)) ∧
    (∀ (channel : Fin 4) (n : Nat) (m : MoveOp), nextMove ((s.core core.val).channel channel.val) = some n →
      ((s.core core.val).channel channel.val)[n]? = some m → s.running = true → s.coreClear core.val = true →
      NatSet.has s.pm.fenced (corePartition core.val) = false →
      exec (.moveTransfer core channel) s = .next (s.transfer core.val m) ∧
      (m.remote = false → s.memWaits m.devAddr m.len = false → s.transfer core.val m =
        (if m.toGlobal then s.copyBytes (m.coreAddr + m.sent) (m.devAddr + m.sent) (m.len - m.sent)
          else s.copyBytes (m.devAddr + m.sent) (m.coreAddr + m.sent) (m.len - m.sent)).modCore core.val
          (fun k => k.modMove m.seq (fun d => { d with sent := d.sent + (m.len - m.sent), landed := d.landed + (m.len - m.sent) }))) ∧
      (m.remote = false → s.memWaits m.devAddr m.len = true → s.transfer core.val m = s.requestAll core.val m.seq (m.len / 64)) ∧
      (m.remote = true → m.toGlobal = true → ∀ b, b = min (m.len - m.sent) (2048 - (s.core core.val).bytesOut m.seq true) →
        s.transfer core.val m =
          (s.modCore core.val (fun k => k.modMove m.seq (fun d =>
            { d with sent := d.sent + b, acks := d.acks + (b + 4095) / 4096 }))).sendWrites tcPT (BitVec.ofNat 15 m.coord)
              (endpointOf m.devAddr) (BitVec.ofNat 8 core.val) (m.coreAddr + m.sent) (m.devAddr + m.sent) b (.move core.val m.seq)) ∧
      (m.remote = true → m.toGlobal = false → ∀ b, b = min (m.len - m.sent) (2048 - (s.core core.val).bytesOut m.seq false) →
        s.transfer core.val m =
          (s.modCore core.val (fun k => k.modMove m.seq (fun d => { d with sent := d.sent + b }))).sendReads (BitVec.ofNat 15 m.coord)
            (BitVec.ofNat 8 core.val) (m.devAddr + m.sent) (m.coreAddr + m.sent) b (.move core.val m.seq))) ∧
    (∀ (m : MoveOp) (far pool : Nat), far = m.devAddr + m.sent →
      ((List.range 4).flatMap (s.core core.val).channel).find? (fun d => decide (d.seq = m.seq)) = some m → m.sent < m.len →
      s.memWaits far 64 = true → memPool far = some pool → (s.core core.val).bytesOut m.seq m.toGlobal < 2048 →
      s.hasCredit pool m.toGlobal (corePartition core.val) = true →
      s.requestGranule core.val m.seq = some (({ s with rv := { s.rv with requests := s.rv.requests ++
        [(⟨core.val, m.seq, (s.gen (corePartition core.val)).toNat, m.coreAddr + m.sent, far,
          if m.toGlobal then some (s.load (m.coreAddr + m.sent) 64, s.poisoned (m.coreAddr + m.sent) 64) else none⟩ : MemRequest)] } }).modCore
        core.val (fun k => k.modMove m.seq (fun d => { d with sent := d.sent + 64 }))))

/-- When the n-th issued instruction of a core may complete, in no reset, and is a vector, gauge or control instruction other than C.HALT, with no C.HALT issued before that waits, the row completes: the instruction is no longer among the issued ones, the others stand in their order, and its token, raised by RAISE_AT 0b10, is one higher in the stitch after, the other tokens, the registers and memory standing; with another RAISE_AT no token changes. A C.HALT that raises no token leaves the issued ones and, once every instruction before it has completed, its context halts on the core; until then the core notes that it waits. In every form, a matrix multiply, a move and a C.HALT included, the row completes with the completion's effect, and with a parity error of the core's state the fault of R476 after it. -/
def Obligations.CompletionOfAnInstruction : Prop :=
  ∀ (core : Fin 160) (s : State) (n : Nat) (i : Issued), (s.core core.val).issued[n]? = some i →
    s.running = true → s.coreClear core.val = true → (s.core core.val).mayComplete i = true →
    exec (.instructionComplete core n false) s = .next (s.complete core.val n i) ∧
    (∀ x, (s.core core.val).resident = some x → exec (.instructionComplete core n true) s =
      .next ((s.complete core.val n i).stateParity x core.val i.entry.pc i.entry.word)) ∧
    (∀ x, (s.core core.val).resident = some x → opOf i.entry.word ≠ opMul → opOf i.entry.word ≠ opCopy →
      opOf i.entry.word ≠ opHalt → i.queue ≠ .matrix → (s.core core.val).haltAt = none →
      (raiseAt i.entry.word = 2 → s.token core.val x (raiseTok i.entry.word) < 65535) →
      ∃ t, t = s.complete core.val n i ∧
        t.core core.val = { s.core core.val with issued := (s.core core.val).issued.eraseIdx n } ∧
        (∀ d, d ≠ core.val → t.core d = s.core d) ∧ (∀ a, t.reg a = s.reg a) ∧ (∀ a, t.byte a = s.byte a) ∧
        t.token core.val x (raiseTok i.entry.word) =
          s.token core.val x (raiseTok i.entry.word) + (if raiseAt i.entry.word = 2 then 1 else 0) ∧
        ∀ k, k ≠ tokenKey core.val x (raiseTok i.entry.word) → SMap.get 0 t.tokens k = SMap.get 0 s.tokens k) ∧
    (∀ x j, (s.core core.val).resident = some x → opOf i.entry.word = opHalt → i.queue = .control → raiseAt i.entry.word ≠ 2 →
      j = { s.core core.val with issued := (s.core core.val).issued.eraseIdx n, haltAt := some i.entry.seq } →
      ∃ t, onlyCore core.val s t ∧ t.core core.val = j ∧ exec (.instructionComplete core n false) s =
        .next (if j.fenceMet i.entry.seq = true then t.haltOn core.val x else t))

/-- On a core in no reset of a running device: CABLE_PATH_WORK, the cycles of the oldest tile of the cable path being over, adds what that tile contributes (a tile whose contributions are in already adds nothing) and takes it from the path; LOW_RANK_WORK, the cycles of the low-rank unit's oldest item being over, works off that stage, or settles the core at that close, and takes the item from the unit. Neither changes memory, a poison mark or a token. CHECK_CLOSE, with a checked tile that has completed, takes its comparison from the open ones; each comparison that its values fail fails, and without such and without a fault nothing else happens; a hardware fault of an array of the tile makes the comparison of its array and row fail too, where the values do not. -/
def Obligations.SideWorkOfACore : Prop :=
  ∀ (core : Fin 160) (s : State), s.running = true → s.coreClear core.val = true →
    (∀ w rest, (s.core core.val).cableQ = w :: rest → w.cycles = 0 →
      ∃ t : State, exec (.cablePathWork core) s = .next (t.setCore core.val { t.core core.val with cableQ := (t.core core.val).cableQ.tail }) ∧
        t = s.workCable core.val w ∧ (w.hasOutliers = false → t = s) ∧ t.mem = s.mem ∧ t.poison = s.poison ∧ t.tokens = s.tokens) ∧
    (∀ w rest, (s.core core.val).lrcQ = w :: rest → w.cycles = 0 →
      ∃ t : State, exec (.lowRankWork core) s = .next (t.setCore core.val { t.core core.val with lrcQ := (t.core core.val).lrcQ.tail }) ∧
        t.mem = s.mem ∧ t.poison = s.poison ∧ t.tokens = s.tokens ∧
        (∀ q arrays n, w = .close q arrays n → t = s.settle core.val) ∧
        (∀ q arrays u r rows kv f a b n, w = .stage q arrays u r rows kv f a b n → t = if r = 0 then s
          else s.lrcStage core.val arrays u r rows kv ((Fmt.ofCode f).getD .t4) a b)) ∧
    (∀ k t, (s.core core.val).checks.find? (fun d => d.completed) = some k →
      t = k.fails.foldl (fun v p => v.comparisonFailed core.val k p.1 p.2 s.cfg.compat s.sn.failedTiles)
        (s.setCore core.val { s.core core.val with checks := (s.core core.val).checks.erase k }) →
      exec (.checkClose core none) s = .next t ∧
      (k.fails = [] → t = s.setCore core.val { s.core core.val with checks := (s.core core.val).checks.erase k }) ∧
      ∀ f : CheckFault, exec (.checkClose core (some f)) s = .next (
        if f.array.val ∈ k.arrays ∧ (f.array.val, f.row.val) ∉ k.fails then
          t.comparisonFailed core.val k f.array.val f.row.val (f.dup || s.cfg.compat) s.sn.failedTiles else t))

/-- A core in no reset that has no switch pending, is in no window and has no resident (or a halted or faulted one) while another context qualifies completes CONTEXT_SELECT, and one whose READY resident has run for its quantum completes QUANTUM_EXPIRY: the switch is requested. With a switch pending, nothing issued and no window CONTEXT_SAVE_RESTORE completes: with a target that is not the resident and has never been resident since its load the core then holds that context at pattern counter 0 (or where the step keeper set it) with cleared registers and queues, and no switch pending but the one that waited. -/
def Obligations.ContextsChangeOnACore : Prop :=
  ∀ (core : Fin 160) (s : State) (k : Core), k = s.core core.val → s.running = true → s.coreClear core.val = true →
    (k.switch_ = none → k.inWindow = false → (k.resident = none ∨ k.halted = true ∨
        ∃ x, k.resident = some x ∧ s.ctxState x = ctxFaulted) → (s.nextContext core.val).isSome = true →
      (k.resident = none → exec (.contextSelect core) s = .next (s.requestSwitch core.val .select)) ∧
      (k.resident ≠ none → exec (.contextSelect core) s = .next (s.requestSwitch core.val .select))) ∧
    (∀ x, k.resident = some x → 0 < s.fld (Reg.ctxControl x) Fld.ctxControlQuantum →
      s.fld (Reg.ctxControl x) Fld.ctxControlQuantum ≤ coursesSince s.course k.residentSince → s.ctxState x = ctxReady →
      k.halted = false → (s.nextContext core.val).isSome = true →
      exec (.quantumExpiry core) s = .next (s.requestSwitch core.val .quantum)) ∧
    (∀ r, k.switch_ = some r → k.inWindow = false → k.issued = [] →
      exec (.contextSaveRestore core) s = .next (s.doSwitch core.val r) ∧
      (∀ x, s.switchTarget core.val r = some x → k.resident = none → (s.sideOf core.val x).resident = false →
        (s.doSwitch core.val r).core core.val = { k.cleared with
          resident := some x, residentSince := s.course, pc := (s.sideOf core.val x).pcOverride.getD 0
          switch_ := k.waitingSwitch, waitingSwitch := none, stopped := false }))

/-- A running device completes each row at its time. GAP_FOREWARNING of a core whose gap has reached 16 courses, whose tension runs and has not begun to fall and which is not forewarned, with no event of the partition within 33 courses: it marks the core forewarned, its fall due 16 courses later, and leaves the other cores; with nothing on the partition's pins it puts a fall code on LSTEP, to stand until the second course after that in which the fall ends; with a fall code standing the pins are as they were, until that course or the later one they had. TENSION_FALL at 32 courses of a forewarned gap whose fall is due takes one sixteenth from the tension duty, or from the throttle duty where that is less, and sets the next step floor(2560/d) cycles on; TENSION_STEP_DOWN takes one more at its cycle; STREAM_RAMP_STEP adds one sixteenth to the granted duty and sets the next 768 cycles on. EVENT_FOREWARNING of an event not yet forewarned notes it among those from whose course the stream is granted in full; with nothing or a fall code on the pins it puts a rise code on LSTEP until the second course after the event, and a core whose announced fall has not begun is forewarned no more; with a rise code standing, the pins and the cores are as they were. LSTEP_CLEAR puts 0 on LSTEP. The other registers stand but for the counts of forewarnings and of withdrawn ones, and no memory changes. That an event's rise code takes the place of a gap's fall code is log entry 210's choice. -/
def Obligations.GapsTensionAndForewarning : Prop :=
  ∀ (s : State), s.running = true →
    (∀ core : Fin 160, ∀ k d p e, k = s.core core.val → d = min k.tensionDuty (s.fld Reg.pmStatus Fld.pmStatusDuty) →
      p = corePartition core.val → e = s.fallEnd d →
      (s.gapReached core.val 16 = true → k.forewarned = false → k.tensionFalling = false →
        (k.tensionDuty ≠ 0 ∨ s.gapReached core.val 32 = false) → s.eventWithin p 33 = none →
        s.lstep p = 0 ∨ (8 ≤ s.lstep p ∧ s.lstep p < 12) →
        ∃ t, exec (.gapForewarning core) s = .next t ∧
          t.core core.val = { k with forewarned := true, fallDue := s.cycleNo + 16 * 2560 } ∧
          (∀ c, c ≠ core.val → t.core c = s.core c) ∧ (∀ a, t.byte a = s.byte a) ∧
          (∀ a, a ≠ Reg.pmRail (coreRail p) → a ≠ Reg.pmForewarnings (coreRail p) → t.reg a = s.reg a) ∧
          (s.lstep p = 0 → 8 ≤ t.lstep p ∧ t.lstep p < 12 ∧ SMap.get none t.pm.clearAt p = some (e + 2)) ∧
          (8 ≤ s.lstep p → t.lstep p = s.lstep p ∧ (SMap.get none t.pm.clearAt p = some (e + 2) ∨
            ∃ a, SMap.get none s.pm.clearAt p = some a ∧ SMap.get none t.pm.clearAt p = some a ∧ reached a (e + 2) = true))) ∧
      (s.gapReached core.val 32 = true → k.forewarned = true → k.tensionFalling = false → 0 < d → k.fallDue ≤ s.cycleNo →
        exec (.tensionFall core) s = .next (s.setCore core.val { k with
          recentDuty := d, tensionDuty := d - 1, tensionFalling := decide (1 < d), tensionNext := s.cycleNo + 2560 / d })) ∧
      (k.tensionFalling = true → k.tensionNext ≤ s.cycleNo →
        exec (.tensionStepDown core) s = .next (s.setCore core.val { k with
          tensionDuty := k.tensionDuty - 1, tensionFalling := decide (1 < k.tensionDuty),
          tensionNext := k.tensionNext + 2560 / k.recentDuty })) ∧
      (k.grantDuty < 16 → k.grantNext ≤ s.cycleNo →
        exec (.streamRampStep core) s = .next (s.setCore core.val { k with
          grantDuty := k.grantDuty + 1, grantNext := k.grantNext + 768 }))) ∧
    (∀ p : Fin 4,
      (∀ e, s.unwarnedEvent p.val = some e →
        ∃ t, exec (.eventForewarning p) s = .next t ∧
          SMap.get [] t.pm.fullGrant p.val = SMap.get [] s.pm.fullGrant p.val ++ [e] ∧ (∀ a, t.byte a = s.byte a) ∧
          (∀ a, a ≠ Reg.pmRail (coreRail p.val) → a ≠ Reg.pmForewarnings (coreRail p.val) → a ≠ Reg.pmWithdrawn (coreRail p.val) →
            t.reg a = s.reg a) ∧
          (s.lstep p.val < 12 → 12 ≤ t.lstep p.val ∧ t.lstep p.val < 16 ∧ SMap.get none t.pm.clearAt p.val = some (e + 2)) ∧
          (s.lstep p.val < 12 → 8 ≤ s.lstep p.val → ∀ c ∈ coresOfPartition p.val, (s.core c).forewarned = true →
            (s.core c).tensionFalling = false → 0 < (s.core c).tensionDuty → t.core c = { s.core c with forewarned := false }) ∧
          (s.lstep p.val < 8 ∨ 12 ≤ s.lstep p.val → ∀ c, t.core c = s.core c) ∧
          (12 ≤ s.lstep p.val → t.lstep p.val = s.lstep p.val)) ∧
      (∀ a, SMap.get none s.pm.clearAt p.val = some a → reached s.course a = true →
        ∃ t, exec (.lstepClear p) s = .next t ∧ t.lstep p.val = 0 ∧ SMap.get none t.pm.clearAt p.val = none ∧
          (∀ b, t.byte b = s.byte b) ∧ (∀ c, t.core c = s.core c) ∧
          ∀ b, b ≠ Reg.pmRail (coreRail p.val) → t.reg b = s.reg b))

/-- A running device completes each row of a stream at its time. SERVE_BLOCK_CLOSE moves the requests of the block that is due from the waiting ones to the end of the closed blocks: the first 128 by arrival, once the 128th has arrived, where it arrives no later than D courses after the first; otherwise, D courses after the first, with D not 0, those that arrived before that stitch, and with D = 0 those that arrived in the stitch of the first; SERVE_BLOCK_START, with the stream's context HALTED, no block running and no reset, takes the oldest closed block, copies its requests in and starts the context at the entry for the block's size; SERVE_BLOCK_DONE, with a block running and the context halted, finishes its requests and runs none, and with the context FAULTED completes every request of the stream as faulted and leaves it none. -/
def Obligations.ServingBlocks : Prop :=
  ∀ (stream : Fin 16) (s : State) (v : Stream), s.stream stream.val = some v → s.running = true →
    (∀ q rest, v.byArrival = q :: rest →
      (∀ r, rest[126]? = some r → r.arrives ≤ q.arrives + 2560 * v.deadline → r.arrives ≤ s.now →
        s.blockOf v = q :: rest.take 127) ∧
      (rest.length ≤ 126 → q.arrives + 2560 * v.deadline ≤ s.now → s.blockOf v = (q :: rest).filter (fun r =>
        if v.deadline = 0 then decide (r.arrives = q.arrives) else decide (r.arrives < q.arrives + 2560 * v.deadline)))) ∧
    (s.blockOf v ≠ [] → exec (.serveBlockClose stream) s = .next (s.setStream stream.val (some { v with
      waiting := v.waiting.filter (fun q => !(s.blockOf v).contains q), closed := v.closed ++ [s.blockOf v] }))) ∧
    (∀ b more, v.closed = b :: more → v.running = none → s.ctxState v.ctx = ctxHalted → s.inReset (ctxPartition v.ctx) = false →
      s.inReset 5 = false →
      exec (.serveBlockStart stream) s = .next ((((b.zipIdx).foldl (fun u q => u.placeRequest v q.2 q.1) s).enterAt v.ctx
        (BitVec.ofNat 32 (leNat (((b.zipIdx).foldl (fun u q => u.placeRequest v q.2 q.1) s).firmwareLoad
          (v.table + 512 * ctxPartition v.ctx + 4 * (b.length - 1)) 4)))).setStream stream.val
            (some { v with closed := more, running := some b }))) ∧
    (∀ b, v.running = some b → s.ctxState v.ctx = ctxHalted →
      exec (.serveBlockDone stream) s = .next ((((b.zipIdx).foldl (fun u q => u.finishRequest v q.2 q.1) s).setStream stream.val
        (some { v with running := none })).endStream stream.val)) ∧
    (∀ b, v.running = some b → s.ctxState v.ctx = ctxFaulted →
      exec (.serveBlockDone stream) s = .next (((s.completeFaulted v.slot (b ++ v.closed.flatten ++ v.waiting)).setStream stream.val
        (some { v with running := none, closed := [], waiting := [], faulted := true })).endStream stream.val))

/-- On a running device a scrub of a granule of coded memory that is not poisoned completes. One without error changes nothing; one with a corrected error leaves every poison mark, and of HBM counts the error for its stack and reports it; one past correction leaves the granule poisoned, and no other. No byte of memory, no token and no core changes in any case. -/
def Obligations.ScrubReadsAGranule : Prop :=
  ∀ (s : State) (g : Nat), s.running = true → s.coded (g * 64) = true → NatSet.has s.poison g = false →
    exec (.scrub g .none) s = .next s ∧
    (∃ t, exec (.scrub g .corrected) s = .next t ∧ t.poison = s.poison ∧ t.mem = s.mem ∧ t.tokens = s.tokens ∧ t.cores = s.cores ∧
      (inHbm (g * 64) = true → 
        t = (s.count (Reg.hbmCorrected (hbmStack (g * 64))) 1).drawn.report (s.memoryReport clsMemCorrected (g * 64)))) ∧
    ∃ t, exec (.scrub g .uncorrectable) s = .next t ∧ t.mem = s.mem ∧ t.tokens = s.tokens ∧ t.cores = s.cores ∧
      NatSet.has t.poison g = true ∧ ∀ h, h ≠ g → NatSet.has t.poison h = NatSet.has s.poison h

/-- On a running device, on a port on which blocks flow: outside fabric and chip resets, where the port replays, holds its packets back in a fast retrain, or has at most 2,000 flits waiting for acknowledgement, BLOCK_SEND completes with the sending of a block. A block that holds its packets back carries no new flit and joins none to those kept for replay; any other block sent anew moves SEQ on by 40, joins 40 flits to those kept for replay, and is the block the port last sent. BLOCK_RECEIVE completes for every block: the peer is heard now and the corrected symbols are counted; a code word past correction is counted and the block is bad; with none, a good CRC makes the block good and a failed one is counted and makes it bad; a bad block sets the port's NAK and nothing else. REPLAY_TIMEOUT completes 2,500 stitches after the last advance with flits unacknowledged, where the port does not hold its packets back: it replays from the oldest, counts it in PP_REPLAYS, reports it, and at the eighth without an advance retrains fast. PEER_SILENT completes 25,000 stitches after the peer was last heard and retrains the port fully. LINK_KEY_CHANGE completes on an UP port on request or after 2^40 packets under the key: a change is pending and nothing else changes; the next packet that is not a SESSION begins under the next key index with count 0 and the key phase turned. -/
def Obligations.LinkBlocksAndTimers : Prop :=
  ∀ (port : Fin 8) (s : State) (p : Port), p = s.port port.val → s.running = true →
    (s.inReset 4 = false → s.inReset 5 = false → s.linked port.val = true →
      (p.replayFrom.isSome = true ∨ p.holds = true ∨ p.replayBuf.length ≤ 2000 →
        exec (.blockSend port) s = .next (s.sendBlock port.val)) ∧
      (p.holds = true → ((s.sendBlock port.val).port port.val).replayBuf = p.replayBuf ∧
        ((s.sendBlock port.val).port port.val).txSeq = p.txSeq) ∧
      (p.holds = false → p.replayFrom = none → ∃ fs b, fs.length = 40 ∧
        ((s.sendBlock port.val).port port.val).replayBuf = p.replayBuf ++ fs ∧
        ((s.sendBlock port.val).port port.val).txSeq = p.txSeq + 40 ∧
        ((s.sendBlock port.val).port port.val).lastBlock = some b ∧ b.seq = p.txSeq ∧ b.flits = fs.map TxFlit.flit) ∧
      (∀ b f u, u = (s.setPort port.val { p with lastHeard := s.now }).countUnits (Reg.ppFecCorrected port.val) f.corrected 4 →
        (0 < f.uncorrectable → exec (.blockReceive port b f) s =
          .next ((u.count (Reg.ppFecUncorrected port.val) f.uncorrectable).badBlock port.val)) ∧
        (f.uncorrectable = 0 → f.crcOk = true → exec (.blockReceive port b f) s = .next (u.goodBlock port.val b)) ∧
        (f.uncorrectable = 0 → f.crcOk = false → exec (.blockReceive port b f) s =
          .next ((u.count (Reg.ppCrcErrors port.val) 1).badBlock port.val)))) ∧
    (∀ t : State, t.badBlock port.val = t.setPort port.val { t.port port.val with naking := true }) ∧
    (s.linked port.val = true → p.holds = false → p.replayBuf ≠ [] → p.unackedSince + 2500 ≤ s.now →
      ∀ t, t = ((s.setPort port.val { p with
          replayFrom := some 0, sameAckReplays := p.sameAckReplays + 1, unackedSince := s.now }).count
            (Reg.ppReplays port.val) 1).report (portReport clsLinkReplay port.val) →
        exec (.replayTimeout port) s = .next (if 8 ≤ p.sameAckReplays + 1 then t.retrainFast port.val else t)) ∧
    (s.linked port.val = true → p.lastHeard + 25000 ≤ s.now → exec (.peerSilent port) s = .next (s.retrainFull port.val)) ∧
    (∀ requested : Bool, s.portUp port.val = true → (requested = true ∨ 2 ^ 40 ≤ p.nonceTx.toNat) →
      exec (.linkKeyChange port requested) s = .next (s.setPort port.val { p with keyPending := true })) ∧
    (∀ q pk, q.keyPending = true → pk.ty ≠ tySession →
      (s.beginPacket port.val q pk).keyIndexTx = q.keyIndexTx + 1 ∧ (s.beginPacket port.val q pk).nonceTx = 1 ∧
      (s.beginPacket port.val q pk).keyPhaseTx = (!q.keyPhaseTx) ∧ (s.beginPacket port.val q pk).keyPending = false ∧
      (s.beginPacket port.val q pk).txBytes = s.sealed port.val true (q.keyIndexTx + 1) 0 pk)

/-- On a running device outside fabric and chip resets a port in training completes PORT_TRAINING_STEP. A failed step fails the training: a fast one becomes a full retrain, a full one marks the port FAILED. Steps 1 and 2 that end well enter the next; step 3 first writes its lanes to LANES_OK, enters step 4 with all 16 and fails with fewer; step 4 takes the measured delay and round trip; step 5 enters step 6 where the peer is verified; step 6 brings the port UP, with trainStep 0, where the resynchronisation is done both ways. HELLO and FINISH take the first such message of a link session: at step 5 of its port a HELLO is taken where the peer's share is not held, and a FINISH where the peer is not verified, a FINISH on whose outcome the roots of trust disagree being gone with an L4 due; any other is dropped. FINISH_TIMEOUT completes 10 ms (25,000,000 stitches) after the HELLO while the peer is not verified at step 5, and rejects the peer. -/
def Obligations.PortsTrainAndLinkSessions : Prop :=
  ∀ (port : Fin 8) (s : State), s.running = true →
    (s.inReset 4 = false → s.inReset 5 = false →
      (∀ lanes d r, (s.port port.val).trainStep = 1 ∨ (s.port port.val).trainStep = 2 →
        exec (.portTrainingStep port ⟨true, lanes⟩ d r) s = .next (s.enterStep port.val ((s.port port.val).trainStep + 1))) ∧
      (∀ ok lanes d r t, (s.port port.val).trainStep = 3 → t = s.setFld (Reg.ppStatus port.val) Fld.ppStatusLanesOk lanes.toNat →
        exec (.portTrainingStep port ⟨ok, lanes⟩ d r) s =
          .next (if ok = true ∧ lanes = 0xFFFF then t.enterStep port.val 4 else t.trainingFailed port.val)) ∧
      (∀ lanes d r, (s.port port.val).trainStep = 4 →
        exec (.portTrainingStep port ⟨true, lanes⟩ d r) s = .next (s.measured port.val d r)) ∧
      (∀ lanes d r l, (s.port port.val).trainStep = 5 → s.linkSession port.val = some l → l.verified = true →
        exec (.portTrainingStep port ⟨true, lanes⟩ d r) s = .next (s.enterStep port.val 6)) ∧
      (∀ lanes d r, (s.port port.val).trainStep = 6 → (s.port port.val).resyncLeft = 0 → (s.port port.val).rxResync = 8 →
        exec (.portTrainingStep port ⟨true, lanes⟩ d r) s = .next (s.portComesUp port.val)) ∧
      (∀ lanes d r, 1 ≤ (s.port port.val).trainStep → (s.port port.val).trainStep ≠ 3 →
        exec (.portTrainingStep port ⟨false, lanes⟩ d r) s = .next (s.trainingFailed port.val))) ∧
    s.trainingFailed port.val =
      (if (s.port port.val).fast = true then s.retrainFull port.val else s.failPort port.val) ∧
    ((s.portComesUp port.val).port port.val).trainStep = 0 ∧
    (∀ a t, s.inReset 4 = false → s.inReset 5 = false →
      (s.takeSession 1 = some (a, t) →
        (∀ l, t.linkSession a.port = some l → (t.port a.port).trainStep = 5 → l.theirs = none →
          exec .hello s = .next (t.takeHello a.port a.packet l)) ∧
        ((∀ l, t.linkSession a.port = some l → (t.port a.port).trainStep = 5 → l.theirs ≠ none) → exec .hello s = .next t)) ∧
      (s.takeSession 2 = some (a, t) →
        (∀ l, t.linkSession a.port = some l → (t.port a.port).trainStep = 5 → l.verified = false →
          exec (.finish true) s = .next (t.takeFinish a.port a.packet l) ∧ exec (.finish false) s = .next t.trustDisagrees) ∧
        (∀ agree, (∀ l, t.linkSession a.port = some l → (t.port a.port).trainStep = 5 → l.verified = true) →
          exec (.finish agree) s = .next t))) ∧
    (∀ l a, s.linkSession port.val = some l → l.helloAt = some a → (s.port port.val).trainStep = 5 → l.verified = false →
      a + 25000000 ≤ s.now → exec (.finishTimeout port) s = .next (s.rejectPeer port.val))

/-- On a running device outside fabric and chip resets whose torus is set, PACKET_ROUTE completes on the packet at the head of a virtual channel of an input. Once it has wholly arrived, a packet with a fault of its head (a reserved type, an age over 64 courses) or with no way left is dropped and counted; a packet that belongs to this device is delivered where a unit here owns it and is else counted as a bad type, its phase turned where it has reached its middle. Where the arbiter of the output port it wants grants it, it is forwarded there, wholly arrived or not. A link's own packet (BEACON, FAULT, SESSION) bound for a port that is no longer up leaves the input and is gone. -/
def Obligations.RoutingAPacket : Prop :=
  ∀ (input : Fin 9) (vc : Fin 8) (s : State) (p : Packet) (arriving : Bool), s.headAt input.val vc.val = some (p, arriving) →
    s.running = true → s.inReset 4 = false → s.inReset 5 = false → s.flag Reg.prTorus Fld.prTorusValid = true →
    (s.headFault p = if p.ty = 0 ∨ 0xB ≤ p.ty.toNat then some Reg.prBadType
      else if 64 < (s.stampNow - p.stamp).toNat then some Reg.prExpired else none) ∧
    (∀ counter, arriving = false → s.headFault p = some counter →
      exec (.packetRoute input vc) s = .next ((s.takeHead input.val vc.val).count counter 1)) ∧
    (s.headFault p = none →
      (s.hopAt input.val vc.val (s.turned p) = .gone → exec (.packetRoute input vc) s = .next (s.takeHead input.val vc.val)) ∧
      (arriving = false → s.hopAt input.val vc.val (s.turned p) = .unreachable →
        exec (.packetRoute input vc) s = .next ((s.takeHead input.val vc.val).count Reg.prUnreachable 1)) ∧
      (arriving = false → s.hopAt input.val vc.val (s.turned p) = .local_ →
        exec (.packetRoute input vc) s = .next (s.deliver input.val vc.val (s.turned p)) ∧
        (deliverable (s.turned p) = true → (s.deliver input.val vc.val (s.turned p)).fab.arrived =
          (s.takeHead input.val vc.val).fab.arrived ++ [(input.val, s.turned p)]) ∧
        (deliverable (s.turned p) = false → s.deliver input.val vc.val (s.turned p) =
          (s.takeHead input.val vc.val).count Reg.prBadType 1)) ∧
      (∀ o d, s.hopAt input.val vc.val (s.turned p) = .port o → s.granted o = some (input.val, vc.val, d) →
        exec (.packetRoute input vc) s = .next (s.forward input.val vc.val o (s.turned p) arriving d)))

/-- WRITE, READ_REQ and RAISE complete on the first packet of their kind that has arrived at an open endpoint of a running device (a WRITE to the step keeper's endpoint is no WRITE row's). Where its flow finds it fresh, it has its effect and is acknowledged. WRITE stores its bytes, poison with them, where the address admits them, and otherwise counts a refused remote access. READ_REQ is served and its tag kept; with 4,096 requests open it is only counted in PR_READ_BUSY and not acknowledged. RAISE adds its amount to its token where the context's mask holds the core, the raise is not late and the sum is at most 65,535; a core outside the mask and a late raise are counted and raise nothing. Where its flow finds it a duplicate it has no effect: it is counted in E2E_DUP and acknowledged again. Where it is of another generation it is dropped and counted as stale; with no free flow it is dropped and counted in PR_FLOW_FULL; beyond the window of 256 it is dropped. -/
def Obligations.ReliableArrivalsTakeEffectOnce : Prop :=
  ∀ (s t : State) (a : Nat) (p : Packet) (row : Instr) (ty : BitVec 4) (effect : State → State),
    (row, ty, effect) ∈ ([
      (.write, tyWrite, fun u => if u.remoteAdmitted p p.payload.length then u.storeCopied (packetAddress p) p.payload (packetPoison p)
        else u.count Reg.dtRemoteRefused 1),
      (.readReq, tyReadReq, fun u => u.serveRead p),
      (.raise_, tyRaise, fun u => u.remoteRaise p)] : List (Instr × BitVec 4 × (State → State))) →
    s.running = true →
    s.takeArrived (fun q => decide (q.ty = ty) && (decide (ty ≠ tyWrite) || decide (q.dstEp ≠ epStepKeeper)) && s.epOpen q.dstEp) = some (a, p, t) →
    (∀ f, t.judge p false = (.fresh, some f) → ty = tyReadReq → 4096 ≤ t.fab.readTable.length →
      exec row s = .next (t.count Reg.prReadBusy 1)) ∧
    (∀ f, t.judge p false = (.fresh, some f) → (ty = tyReadReq → t.fab.readTable.length < 4096) →
      exec row s = .next ((effect (t.putFlow (f.take p false t.course))).acknowledge p)) ∧
    (∀ f, t.judge p false = (.duplicate, some f) →
      exec row s = .next (((t.putFlow { f with lastActive := t.course }).count Reg.prE2eDup 1).acknowledge p)) ∧
    (∀ f, t.judge p false = (.stale, f) → exec row s = .next (t.count (genStale (domainOfEp p.dstEp)) 1)) ∧
    (∀ f, t.judge p false = (.full, f) → exec row s = .next (t.count Reg.prFlowFull 1)) ∧
    (∀ f, t.judge p false = (.beyond, f) → exec row s = .next t) ∧
    (∀ u : State, ∀ c x k n, c = p.dstEp.toNat → x = raisedCtx p → k = raisedTok p → n = raisedAmount p →
      (u.inMask x c = false → u.remoteRaise p = u.count (Reg.ctxTokenMisdirect (corePartition c)) 1) ∧
      (u.inMask x c = true → u.raiseLate p = true → u.remoteRaise p = u.count (Reg.ctxTokenLate (corePartition c)) 1) ∧
      (u.inMask x c = true → u.raiseLate p = false → u.token c x k + n ≤ 65535 →
        u.remoteRaise p = u.setToken c x k (u.token c x k + n)))

/-- On a running device READ_RESP completes on the first reply arrived at an open endpoint. One of an older generation is counted and dropped. A fresh one is acknowledged; where a read of its tag is open, its data land at their return address, poison with them, and the read advances; with no such read nothing else happens; the last reply of a journal record lets the replay that waits for it go on. A duplicate is counted and acknowledged again. Outside fabric and chip resets, E2E_ACK takes the packets it acknowledges off their flow, one of an older generation being counted and dropped; E2E_RETRANSMIT completes for the first packet 128 courses without acknowledgement: with fewer than eight tries it goes out again and is counted in E2E_RETX, after eight it is given up and counted in E2E_ABANDONED; FAULT completes on the first fault record arrived on a link: one of kind 0 or 1 is taken, stored if new and flooded on the other live torus ports, one of a reserved kind is dropped. FLOW_IDLE_FREE frees a sending flow with nothing unacknowledged after 256 courses, and what was held back is looked at again, and a receiving one after 512, and no other flow. -/
def Obligations.RepliesAcknowledgementsAndFlows : Prop :=
  ∀ (s : State), s.running = true →
    (∀ a p t, s.takeArrived (fun q => decide (q.ty = tyReadResp) && s.epOpen q.dstEp) = some (a, p, t) →
      (t.replyStale p = true → exec .readResp s = .next (t.count (genStale (domainOfEp p.dstEp)) 1)) ∧
      (∀ f u, t.replyStale p = false → t.judge p true = (.fresh, some f) → u = t.putFlow (f.take p true t.course) →
        (u.fab.reads.find? (fun w => decide (w.tag = p.epoch)) = none → exec .readResp s = .next (u.acknowledge p)) ∧
        (∀ w v, u.fab.reads.find? (fun w => decide (w.tag = p.epoch)) = some w →
          v = (u.storeCopied (packetAddress p) p.payload (packetPoison p)).readLanded w p.payload.length →
          exec .readResp s = .next (State.acknowledge
            (if w.purpose = .record ∧ v.sk.awaitingRecord = true ∧ (∀ r ∈ v.fab.reads, r.purpose ≠ .record)
              then v.recordArrived else v) p))) ∧
      (∀ f, t.replyStale p = false → t.judge p true = (.duplicate, some f) →
        exec .readResp s = .next (((t.putFlow { f with lastActive := t.course }).count Reg.prE2eDup 1).acknowledge p))) ∧
    (s.inReset 4 = false → s.inReset 5 = false →
      (∀ a p t, s.takeArrived (fun q => decide (q.ty = tyE2eAck)) = some (a, p, t) →
        (t.replyStale p = false →
          exec .e2eAck s = .next (t.takeAcks (srcKey p) (BitVec.ofNat 32 (bitsOf p.addr 41 10)) (bitsOf p.addr 9 0 + 1))) ∧
        (t.replyStale p = true → exec .e2eAck s = .next (t.count (genStale (domainOfEp p.dstEp)) 1))) ∧
      (∀ f u, s.overdue = some (f, u) →
        (8 ≤ u.tries → exec .e2eRetransmit s =
          .next (((s.forget f.dest u.seq).abandon u).count Reg.prE2eAbandoned 1).releaseHeld) ∧
        (u.tries < 8 → exec .e2eRetransmit s = .next (s.retransmit f u)) ∧
        (s.again u).retx = true ∧ (s.again u).stamp = s.stampNow ∧ (s.again u).e2eSeq = u.packet.e2eSeq) ∧
      (∀ a t r, s.takeLink (fun p => decide (p.ty = tyFault)) = some (a, t) → r = BitVec.ofNat 64 (beNat (a.packet.payload.take 8)) →
        (frKind r < 2 → exec .fault s = .next (t.takeFault r (some a.port)) ∧
          (t.fab.faultMap.any (sameFault r) = true → t.takeFault r (some a.port) = t)) ∧
        (2 ≤ frKind r → exec .fault s = .next t))) ∧
    (∀ key f, s.flowTo key = some f → f.unacked = [] → 256 ≤ coursesSince s.course f.lastActive →
      exec (.flowIdleFree true key) s = .next
        ({ s with fab := { s.fab with sendFlows := s.fab.sendFlows.filter (fun g => g.dest ≠ key) } }).releaseHeld) ∧
    (∀ key f, s.flowFrom key = some f → 512 ≤ coursesSince s.course f.lastActive →
      exec (.flowIdleFree false key) s = .next
        { s with fab := { s.fab with recvFlows := s.fab.recvFlows.filter (fun g => g.src ≠ key) } })

/-- Each of REDUCE_SCATTER, ALL_REDUCE, ALL_GATHER and RING_PASS completes for a context whose head descriptor may start and is of the row's operation (the reserved operations being REDUCE_SCATTER's, and faulting). A poisoned descriptor faults the context with POISON_CONSUMED and one whose wait names a foreign core or a field out of its range with FORMAT_MISMATCH; one whose wait is not met changes nothing. One whose wait is met and whose operation or axis is reserved faults the context with FORMAT_MISMATCH; one for which the staging buffers left are too few, or memory of which has its controller in reset, changes nothing. Any other passes its wait: where it had not, its buffers are reserved and granted to its neighbours, and a LAST descriptor fixes the duration. Where its own neighbours' grants are in, it then starts; where not, it waits. At its start one of a bad form faults the context with FORMAT_MISMATCH and one with an extent out of reach with ADDRESS and that extent, and each stays at the head; any other begins to run. -/
def Obligations.DescriptorsStart : Prop :=
  ∀ (x : Fin 16) (s : State) (row : Fin 16 → Instr) (ofOp : Nat → Bool) (slot : Nat) (d : Descriptor) (r : Running),
    (row, ofOp) ∈ ([
      (.reduceScatter, fun o => decide (o ≠ opAllReduce) && decide (o ≠ opAllGather) && decide (o ≠ opRingPass)),
      (.allReduce, fun o => decide (o = opAllReduce)), (.allGather, fun o => decide (o = opAllGather)),
      (.ringPass, fun o => decide (o = opRingPass))] : List ((Fin 16 → Instr) × (Nat → Bool))) →
    slot = s.fld (Reg.ceQueue x.val) Fld.ceQueueHead → d = s.descriptorAt x.val slot → r = s.asRunning x.val slot d →
    s.mayStart x.val = true → ofOp d.op = true →
    ∀ at_, at_ = s.fld (Reg.ceQueue x.val) Fld.ceQueueBase * 64 + slot * 64 →
    (s.poisoned at_ 64 = true → exec (row x) s = .next (s.contextFault x.val .poisonConsumed (.descriptor slot) at_)) ∧
    (s.poisoned at_ 64 = false → d.badWait x.val = true →
      exec (row x) s = .next (s.contextFault x.val .formatMismatch (.descriptor slot) 0)) ∧
    (s.poisoned at_ 64 = false → d.badWait x.val = false → s.descriptorReady x.val d = false → exec (row x) s = .next s) ∧
    (s.poisoned at_ 64 = false → d.badWait x.val = false → s.descriptorReady x.val d = true → d.badShape = true →
      exec (row x) s = .next (s.contextFault x.val .formatMismatch (.descriptor slot) 0)) ∧
    (s.poisoned at_ 64 = false → d.badWait x.val = false → s.descriptorReady x.val d = true → d.badShape = false →
      s.roomFor r = false ∨ s.memHeld r = true → exec (row x) s = .next s) ∧
    (s.poisoned at_ 64 = false → d.badWait x.val = false → s.descriptorReady x.val d = true → d.badShape = false →
      s.roomFor r = true → s.memHeld r = false →
      ∀ t, t = (if s.isOffered x.val r.seq then s else if d.last then (s.offer r).passLast x.val else s.offer r) →
        (t.grantsIn r = false → exec (row x) s = .next t) ∧
        (t.grantsIn r = true → d.badForm x.val r.extent = true →
          exec (row x) s = .next (t.contextFault x.val .formatMismatch (.descriptor slot) 0)) ∧
        (∀ e, t.grantsIn r = true → d.badForm x.val r.extent = false →
          r.extents.find? (fun e => decide (0 < e.2) && !t.reachable e.1 e.2) = some e →
          exec (row x) s = .next (t.contextFault x.val .address (.descriptor slot) e.1)) ∧
        (t.grantsIn r = true → d.badForm x.val r.extent = false →
          r.extents.find? (fun e => decide (0 < e.2) && !t.reachable e.1 e.2) = none → exec (row x) s = .next (t.begin_ r)))

/-- On a running device in no fabric swatch window of its own COLL completes on the first collective packet that has arrived and may be taken: of another epoch it is counted as stale; of no running descriptor, or from a side from which the descriptor takes none, as orphan; of a lost descriptor it is discarded; of any other its data is taken and the descriptor sends what it now may. GRANT and RETURN complete on the first such message at an open endpoint: fresh in its flow it gives its credits and is acknowledged, a duplicate is counted and acknowledged again. Outside fabric and chip resets, DESCRIPTOR_COMPLETE completes a running descriptor whose results are all written: it counts as completed, raises its token, and leaves the engine, with the buffers free that it reserved, once it has sent all that it passes on. COLLECTIVE_TIMEOUT loses a descriptor that is not done, has had no packet for the timeout and has none kept for it. RECLAIM_HOLD_END ends a reclaim 65 courses after it began, and nothing else changes. -/
def Obligations.DescriptorsRunAndEnd : Prop :=
  ∀ (s : State), s.running = true → s.ce.ownSwatch = false →
    (∀ a p t, s.takeArrived (fun p => decide (p.ty = tyColl) && s.epOpen p.dstEp && !s.collWaits p) = some (a, p, t) →
      (p.epoch.toNat ≠ t.epochNow → exec .coll s = .next (t.count Reg.ceEpochStale 1)) ∧
      (p.epoch.toNat = t.epochNow → t.runningIndex (collCtx p) (collSeq p) = none → exec .coll s = .next (t.count Reg.ceOrphanDropped 1)) ∧
      (∀ i r, p.epoch.toNat = t.epochNow → t.runningIndex (collCtx p) (collSeq p) = some i → t.ce.running[i]? = some r →
        (t.wayOfPacket r p = none → exec .coll s = .next (t.count Reg.ceOrphanDropped 1)) ∧
        (∀ w, t.wayOfPacket r p = some w → r.lost = true → exec .coll s = .next t) ∧
        (∀ w, t.wayOfPacket r p = some w → r.lost = false → exec .coll s = .next ((t.takeColl i w p).pumpAt i)))) ∧
    (∀ row msg grant a p t, (row, msg, grant) ∈ ([(.grant, 0x10, true), (.return_, 0x11, false)] : List (Instr × Nat × Bool)) →
      s.takeCtrl epCollective msg = some (a, p, t) → s.epOpen p.dstEp = true →
      (∀ f, t.judge p false = (.fresh, some f) →
        exec row s = .next (((t.putFlow (f.take p false t.course)).takeCredit p grant).acknowledge p)) ∧
      (∀ f, t.judge p false = (.duplicate, some f) →
        exec row s = .next (((t.putFlow { f with lastActive := t.course }).count Reg.prE2eDup 1).acknowledge p))) ∧
    (∀ n r, s.ce.running[n]? = some r → s.inReset 4 = false → s.inReset 5 = false → r.lost = false →
      (r.done = true → r.completed = false → r.allSent = false →
        exec (.descriptorComplete n) s = .next ((s.setRunning n { r with completed := true }).raiseFor r)) ∧
      (r.done = true → r.completed = false → r.allSent = true →
        exec (.descriptorComplete n) s = .next ({ s with ce := { s.ce with
          running := s.ce.running.eraseIdx n, buffersUsed := s.ce.buffersUsed - r.buffers } }.raiseFor r)) ∧
      (r.done = false → s.packetKept r = false → s.ceTimeoutCourses ≤ coursesSince s.course r.lastPacket →
        exec (.collectiveTimeout n) s = .next (s.loseAt n))) ∧
    (∀ (x : Fin 16) c, SMap.get none s.ce.reclaimed x.val = some c → 65 ≤ coursesSince s.course c →
      exec (.reclaimHoldEnd x) s = .next { s with ce := { s.ce with reclaimed := SMap.set none s.ce.reclaimed x.val none } })

/-- A running device completes, each under its conditions: BEACON_SEND, at a multiple of 64 courses outside the fabric reset, LOCKED, in HOLDOVER or as master, injects a beacon of its fields on every UP port, to the device at its other end. BEACON hears the first beacon received, of 16 bytes: its port's last beacon is kept with its time of arrival. PARENT_TIMEOUT, LOCKED and not master, with no beacon of its parent for 256 courses and no other parent, goes to HOLDOVER and changes nothing else. MASTER_ELECTION, where a row of R369 applies to a device that has been LOCKED since its reset and is not master, and FREE_RUN_TIMEOUT, where one applies to a device that has not been, is not master and has heard nothing for 4,096 courses, make the device master, the latter in term 0: term and master in force, LOCKED, role 1, 0 hops, no steering. EVENT_FIRE of the entry that is due next disarms it and hands its action over with FIRED set, the stream of the rails of a forewarned event being granted in full, or, where it is missed, marks it MISSED, counts and reports it; a missed start of a job step aborts the step. -/
def Obligations.CourseTimeAndMastership : Prop :=
  ∀ (s : State), s.running = true →
    (s.inReset 4 = false →
      (s.periodic tmrBeacon 64 = true → s.tbState = tbLocked ∨ s.tbState = tbHoldover ∨ s.isMaster = true →
        exec .beaconSend s = .next (((List.range 8).filter s.portUp).foldl
          (fun t n => t.drawn.injectBy (t.packetTo tyBeacon tcCT (t.linkPeer n) epTimebase epTimebase 0 0
            (t.beaconPayload (t.freeNow.truncate 8))) (some n)) (s.ran tmrBeacon))) ∧
      (∀ fraction a t, s.takeLink (fun p => decide (p.ty = tyBeacon)) = some (a, t) → a.packet.payload.length = 16 →
        exec (.beacon fraction) s = .next (t.hearBeacon a fraction.val))) ∧
    (∀ a, s.tbState = tbLocked → s.isMaster = false → s.tb.parentAt = some a → 256 ≤ coursesSince s.course a → s.parentPort = none →
      exec .parentTimeout s = .next (s.setFld Reg.tbStatus Fld.tbStatusState tbHoldover)) ∧
    (∀ v, s.electionTerm false = some v → s.isMaster = false → s.tb.locked = true →
      exec .masterElection s = .next (s.becomeMaster v)) ∧
    (∀ v, s.electionTerm true = some v → s.tb.locked = false → s.isMaster = false →
      4096 ≤ coursesSince s.course s.tb.quietSince → v = 0 ∧ exec .freeRunTimeout s = .next (s.becomeMaster v)) ∧
    (∀ v t, t = (((s.setMastership v s.phys).setTbState tbLocked).setFld Reg.tbStatus Fld.tbStatusRole 1).setFld
        Reg.tbStatus Fld.tbStatusHops 0 → s.becomeMaster v = { t with tb := { t.tb with steered := 0 } }) ∧
    (∀ table n, s.nextDue = some (table.val, n.val) →
      (∀ w u, s.missesNow table.val n.val = false → s.evAction table.val n.val ≠ actStepStart →
        s.evAction table.val n.val ≠ actSwatchWindow → w = (s.disarm table.val n.val).setFld (evA table.val n.val) Fld.tbPeventAFired 1 →
        u = (if forewarnedAction table.val (s.evAction table.val n.val) then (eventRails table.val).foldl State.grantInFull w else w) →
        exec (.eventFire table n) s = .next { u with tb := { u.tb with handed := u.tb.handed ++ [⟨table.val, s.evAction table.val n.val,
          s.evContext table.val n.val, s.evParam table.val n.val, s.course⟩] } }) ∧
      (∀ u, s.missesNow table.val n.val = true → s.evAction table.val n.val ≠ actStepStart →
        u = (((s.disarm table.val n.val).setFld (evA table.val n.val) Fld.tbPeventAMissed 1).count Reg.tbMissed 1).report
          (Report.bare clsEventMissed (enginePath 14)) → exec (.eventFire table n) s = .next u) ∧
      exec (.eventFire table n) s =
        .next (if s.missesNow table.val n.val then s.missEntry table.val n.val else s.fireEntry table.val n.val))

/-- On a running device the actions that event tables hand over complete. CONTEXT_SWITCH, outside resets of its partition and the chip, asks every core of the partition to switch to a READY context of that partition, and otherwise counts a refused switch and asks none. OVERLAY_SWITCH puts the staged overlays in force, and leaves none staged, once the job is idle or its boundary is done. STEP_START of a step that may start starts the device, and each train context of the partition that is not READY begins the step; the event stays handed over until all have begun; of a step no longer held it does nothing; of a diagnosis, outside resets of its partition, the fabric and the chip, it starts the diagnosis. SWATCH_WINDOW opens a window of its table where none is open and no core of it has work issued; SWATCH_WINDOW_END closes it at its end. RESET_RELEASE, 64 courses after the reset began and with its dump taken, puts the domain to its reset state, poisons the granules of writes that were lost and releases a domain that no table times; one that a table times is released so once its event is handed over, and before that its event is armed 18 courses ahead where none is armed. What one unit arms in a stitch takes, as the stitch ends, the lowest entry of its table that is free then; with none free it is handed over at once (log entries 96 and 134 say so of a full table). -/
def Obligations.HandedEventsTakeEffect : Prop :=
  ∀ (s : State), s.running = true →
    (∀ (p : Fin 4) h t, s.takeHanded p.val actContextSwitch = some (h, t) → s.inReset p.val = false → s.inReset 5 = false →
      (ctxPartition (h.param % 16) = p.val → t.ctxState (h.param % 16) = ctxReady →
        exec (.contextSwitch p) s = .next ((coresOfPartition p.val).foldl (fun t c => t.requestSwitch c (.named (h.param % 16))) t)) ∧
      (ctxPartition (h.param % 16) ≠ p.val ∨ t.ctxState (h.param % 16) ≠ ctxReady →
        exec (.contextSwitch p) s = .next (t.count (Reg.ctxSwitchRefused p.val) 1))) ∧
    (∀ h t, s.takeHanded 4 actOverlaySwitch = some (h, t) → s.jobState = jobIdle ∨ s.boundaryDone (BitVec.ofNat 32 h.param) = true →
      exec .overlaySwitch s = .next t.switchOverlays ∧ t.switchOverlays.cmd.stagedMode = none ∧ t.switchOverlays.cmd.stagedSite = none) ∧
    (∀ (p : Fin 4) h t, s.takeHanded p.val actStepStart = some (h, t) →
      (∀ e t1 u, s.diagnosisOf h = none → s.entryOf (BitVec.ofNat 32 h.param) = some e → s.stepMayStart p.val e = true →
        t1 = t.startDevice e h.course → u = (t1.trainContexts p.val).foldl (fun v x => v.beginContext e x) t1 →
        exec (.stepStart p) s = .next (if (t1.trainContexts p.val).all u.sk.begun.contains then u
          else { u with tb := { u.tb with handed := s.tb.handed } })) ∧
      (s.diagnosisOf h = none → s.entryOf (BitVec.ofNat 32 h.param) = none → exec (.stepStart p) s = .next t) ∧
      (∀ d, s.diagnosisOf h = some d → s.inReset p.val = false → s.inReset 4 = false → s.inReset 5 = false →
        exec (.stepStart p) s = .next (t.startDiagnosis d))) ∧
    (∀ (table : Fin 5) h u w v, s.takeHanded table.val actSwatchWindow = some (h, u) → s.window table.val = none →
      (∀ c, table.val < 4 → c ∈ coresOfPartition table.val → (s.core c).issued = []) →
      w = { start := h.course, length := h.param % 0x1_0000, kinds := h.param / 0x1_0000,
            region := SMap.get 0 s.sn.windowCount table.val % 12,
            residents := (if table.val < 4 then coresOfPartition table.val else []).map (fun c => (s.core c).resident) } →
      v = { u with sn := { u.sn with windows := SMap.set none u.sn.windows table.val (some w),
                                     windowCount := SMap.update 0 u.sn.windowCount table.val (· + 1) } } →
      exec (.swatchWindow table) s = .next (
        if table.val < 4 then (coresOfPartition table.val).foldl (fun x c => x.coreEnters c w.region) v
        else { v with ce := { v.ce with ownSwatch := true } })) ∧
    (∀ (table : Fin 5) results w, s.window table.val = some w → reached s.course (w.start + BitVec.ofNat 48 w.length) = true →
      exec (.swatchWindowEnd table results) s = .next (s.endWindow table.val w results)) ∧
    (∀ domain lost level cause b since, s.domainState domain = .inReset level cause b since →
      64 ≤ coursesSince s.course (BitVec.ofNat 48 since) → s.dumpOpen domain = false →
      (∀ (x y : State), x = s.resetDomain domain →
        y = (if level = 4 then x.setFld Reg.rvStatus Fld.rvStatusCause cause else x) →
        s.endReset level domain cause lost = (y.poisonLost level domain lost).release domain level cause) ∧
      (releaseTable level domain = none →
        exec (.resetRelease ⟨domain, lost⟩) s = .next (s.endReset level domain cause lost)) ∧
      (∀ t h u, releaseTable level domain = some t → s.takeHanded t actResetRelease = some (h, u) →
        exec (.resetRelease ⟨domain, lost⟩) s = .next (u.endReset level domain cause lost)) ∧
      (∀ t, releaseTable level domain = some t → s.takeHanded t actResetRelease = none → s.releaseArmed t = false →
        exec (.resetRelease ⟨domain, lost⟩) s =
          .next (s.armByUnit ⟨t, actResetRelease, (s.gen domain).toNat, s.course + 18, false⟩))) ∧
    (∀ a n, s.tb.arming = [a] → a.soon = false → ({ s with tb := { s.tb with arming := [] } } : State).freeEntry a.table = some n →
      s.takeEntries = ({ s with tb := { s.tb with arming := [] } }).armEntry a.table n a.action 0 a.param a.course 0) ∧
    (∀ a, s.tb.arming = [a] → ({ s with tb := { s.tb with arming := [] } } : State).freeEntry a.table = none →
      s.takeEntries = { s with tb := { s.tb with
        arming := [], handed := s.tb.handed ++ [(⟨a.table, a.action, 0, a.param, s.tb.course⟩ : Handed)] } })

/-- On a running device outside fabric and chip resets: JOURNAL_RECORD makes the record that is due where the journal is usable and waits for no reset. JOURNAL_DURABLE marks the step durable and JOURNALLED, counts it and shows UNMIRRORED exactly where its partner copy is not done. STEP_END_CONTRIBUTE of a step in progress of a running job completes once its end is reached, no packet of its digests is still to be acknowledged (or no partner is present) and no comparison of the step before is open: its vector is given, the step is ENDED, and memory, cores and every register but those of the step keeper are unchanged. STEP_END_SUM completes for the vectors of the other members, one for each on each axis in the order of R329, each of the length of the own vector: their sum with the own, field by field modulo the width, goes to the decision, and the bytes the device contributes, on each axis with other members, count in CE_BYTES_SUMMED; a sum of no parts is the own vector. PARTNER_COPY, with no part of the journal in a partition in reset, takes a packet of the partner's record and acknowledges it. COPY_REFUSED, of 8 bytes, shows the step it names UNMIRRORED and is acknowledged; of another length it is counted in PR_BAD_TYPE. -/
def Obligations.StepsAreRecordedAndDecided : Prop :=
  ∀ (s : State), s.running = true →
    (s.inReset 4 = false → s.inReset 5 = false →
      (∀ e, s.recordDue = some e → s.journalUsable = true → s.recordWaits = false → exec .journalRecord s = .next (s.makeRecord e)) ∧
      (∀ e m, s.durableDue = some e → m = (e.copyDone && !e.unmirrored) →
        exec .journalDurable s = .next ((((((s.setEntry (e.step.toNat % 8) (some { e with durable := true, unmirrored := !m })).setFld
          Reg.skStatus Fld.skStatusUnmirrored (bit (!m))).setStepField e.step fldStepUnmirrored (bit (!m))).count
            Reg.skRecords 1).setStepField e.step fldStepState stepJournalled))) ∧
      (∀ e, s.openStep = some e → s.job.loaded = true → s.jobState = jobRunning → s.endReached = true →
        (s.compareOpen e.step = false ∨ s.partnerPresent = false) → s.openTile (e.step - 1) = false →
        ∃ t : State, exec .stepEndContribute s = .next (t.setStepField e.step fldStepState stepEnded) ∧
          t.ce.contributed = s.ce.contributed ++ [e.step] ∧ t.ce.vector = s.stepVector e.step ∧ t.mem = s.mem ∧ t.regs = s.regs ∧
          t.cores = s.cores) ∧
      (∀ parts, s.ce.vector ≠ [] → s.jobState = jobRunning → parts.map List.length = sumAxes.map s.othersOn →
        (∀ ps ∈ parts, ∀ p ∈ ps, p.length = 64 + 4 * s.replicaCount) →
        exec (.stepEndSum parts) s = .next ((s.countUnits Reg.ceBytesSummed (s.ce.vector.length *
          (sumAxes.filter (fun k => decide (0 < s.othersOn k))).length) 65536).onSum s.awaitedStep (jobSum s.replicaCount s.ce.vector parts)))) ∧
    (∀ m own parts ps, jobSum m own [] = own ∧
      jobSum m own (ps :: parts) = jobSum m (ps.foldl (addVectors (vectorWidths m)) own) parts) ∧
    (∀ a p t f, s.takeCopy = some (a, p, t) → s.memWaits (s.regionBase s.journalRegion) (s.regionBytes s.journalRegion) = false →
      t.judge p false = (.fresh, some f) →
      exec .partnerCopy s = .next (((t.putFlow (f.take p false t.course)).takeCopyPacket p).acknowledge p)) ∧
    (∀ a p t, s.takeCtrl epStepKeeper 0x30 = some (a, p, t) → s.epOpen p.dstEp = true →
      (∀ f u v, p.payload.length = 8 → t.judge p false = (.fresh, some f) →
        u = BitVec.ofNat 32 (beNat ((p.payload.drop 1).take 4)) → v = t.putFlow (f.take p false t.course) →
        (∀ e, v.entryOf u = some e →
          exec .copyRefused s = .next ((((v.setEntry (u.toNat % 8) (some { e with unmirrored := true })).setFld
            Reg.skStatus Fld.skStatusUnmirrored 1).setStepField u fldStepUnmirrored 1).acknowledge p)) ∧
        (v.entryOf u = none → exec .copyRefused s = .next (v.acknowledge p))) ∧
      (p.payload.length ≠ 8 → exec .copyRefused s = .next (t.count Reg.prBadType 1)))

/-- On a running device outside fabric and chip resets, with no region of the lifeline in a partition in reset, each row of a cut completes under its conditions. LIFELINE_CUT begins the cut that is due, once its update is done or its boundary held, where the device takes part in cuts; where it does not, the cut is given up, and one no longer due is passed over. CUT_DELTA_WRITE writes the first cut, in phase 0, once folds are done and its region is open, or, where a granule it reads is poisoned, tears it and reports the poison. CUT_WRITTEN reports the written one once the partner has it. SKEIN_REPORT keeps at the leader a member's first report of a generation, and changes nothing on any other. MANIFEST takes a manifest of this group, for a restore that awaits one, or where no restore is under way for the cut; a restore that has its manifest takes no other. MANIFEST_QUERY answers with the manifest it asks for where the device holds it, and counts those it finds forged. TEAR tears a cut of this group and of no other. Each of these four is acknowledged, and one of a wrong length is counted in PR_BAD_TYPE. REPORT_TIMEOUT, at the leader with a report missing 65,536 courses after its own, tells the members and tears; MANIFEST_WAIT_EXPIRY, then, asks the members, and the partner where present, for the manifest; MANIFEST_TIMEOUT tears 4,096 courses after that query. -/
def Obligations.CutsAreWrittenAndReported : Prop :=
  ∀ (s : State), s.running = true → s.inReset 4 = false → s.inReset 5 = false → s.leWaits = false →
    (∀ h t u, s.takeHanded 4 actLifelineCut = some (h, t) → u = BitVec.ofNat 32 h.param →
      (t.le.due.find? (fun d => decide (d.1 = u)) = none → exec .lifelineCut s = .next t) ∧
      (∀ v g c b, t.le.due.find? (fun d => decide (d.1 = u)) = some (v, g, c, b) →
        (s.cutsHere = true → s.cutReady u = true → exec .lifelineCut s = .next (t.beginCut u g c b)) ∧
        (s.cutsHere = false → exec .lifelineCut s =
          .next { t with le := { t.le with due := t.le.due.filter (fun d => decide (d.2.1 ≠ g)) } }))) ∧
    (∀ c more, s.le.cuts = c :: more → c.phase = 0 → s.foldsDone = true → s.skeinOpen = true →
      (s.cutPoison c = none → exec .cutDeltaWrite s = .next (s.writeCut c)) ∧
      (∀ g, s.cutPoison c = some g → exec .cutDeltaWrite s = .next (((s.tear c.gen).lePoison g).releaseUpdate))) ∧
    (∀ c, s.le.cuts.find? (fun c => decide (c.phase = 4)) = some c → s.buddyDone = true → s.skeinOpen = true →
      exec .cutWritten s = .next (s.reportCut c)) ∧
    (∀ n p t f u, t.judge p false = (.fresh, some f) → u = t.putFlow (f.take p false t.course) →
      (s.takeCtrl epLifeline 0x20 = some (n, p, t) → s.epOpen epLifeline = true →
        (p.payload.length = 64 →
          (beNat ((p.payload.drop 1).take 2) = u.groupId → u.isLeader = true →
            (∀ q, q ∈ u.le.reports → q.gen = (reportOf p.payload).gen → q.index ≠ (reportOf p.payload).index) →
            exec .skeinReport s = .next (({ u with le := { u.le with reports := u.le.reports ++ [reportOf p.payload] } }.tryManifest
              (reportOf p.payload).gen).acknowledge p)) ∧
          (beNat ((p.payload.drop 1).take 2) ≠ u.groupId ∨ u.isLeader = false ∨
            (∃ q, q ∈ u.le.reports ∧ q.gen = (reportOf p.payload).gen ∧ q.index = (reportOf p.payload).index) →
            exec .skeinReport s = .next (u.acknowledge p))) ∧
        (p.payload.length ≠ 64 → exec .skeinReport s = .next (t.count Reg.prBadType 1))) ∧
      (s.takeCtrl epLifeline 0x21 = some (n, p, t) → s.epOpen epLifeline = true →
        ∀ m, m = p.payload.drop 8 →
        (p.payload.length = 8 + manifestLength (leNat ((m.drop 0x10).take 1)) →
          (shortGroup p.payload = u.groupId → u.le.restore = none → exec .manifest s = .next ((u.takeManifest m).acknowledge p)) ∧
          (∀ w, shortGroup p.payload = u.groupId → u.le.restore = some w → w.manifest = [] →
            exec .manifest s = .next ((u.offerManifest w m).acknowledge p)) ∧
          (∀ w, shortGroup p.payload = u.groupId → u.le.restore = some w → w.manifest ≠ [] → exec .manifest s = .next (u.acknowledge p)) ∧
          (shortGroup p.payload ≠ u.groupId → exec .manifest s = .next (u.acknowledge p))) ∧
        (p.payload.length ≠ 8 + manifestLength (leNat ((m.drop 0x10).take 1)) → exec .manifest s = .next (t.count Reg.prBadType 1))) ∧
      (s.takeCtrl epLifeline 0x22 = some (n, p, t) → s.epOpen epLifeline = true →
        (∀ v : State, v = u.countForged (u.storedManifests (shortGen p.payload).toNat) → p.payload.length = 8 → exec .manifestQuery s = .next ((match v.heldManifest (shortGroup p.payload) (shortGen p.payload).toNat with
          | none => v
          | some m => v.sendReliable (v.packetTo tyCtrl tcCT (p.src, p.srcSide) epLifeline epLifeline 0 0
            (beBytes 1 0x21 ++ beBytes 2 (shortGroup p.payload) ++ beBytes 4 (shortGen p.payload).toNat ++ zeroBytes 1 ++ m))
              .literal .none none none).acknowledge p)) ∧
        (p.payload.length ≠ 8 → exec .manifestQuery s = .next (t.count Reg.prBadType 1))) ∧
      (s.takeCtrl epLifeline 0x23 = some (n, p, t) → s.epOpen epLifeline = true →
        (p.payload.length = 8 →
          (shortGroup p.payload = u.groupId → exec .tear s = .next ((u.tearCut (shortGen p.payload)).acknowledge p)) ∧
          (shortGroup p.payload ≠ u.groupId → exec .tear s = .next (u.acknowledge p))) ∧
        (p.payload.length ≠ 8 → exec .tear s = .next (t.count Reg.prBadType 1)))) ∧
    (∀ c more a, s.le.cuts = c :: more →
      (c.queriedAt = some a → 4096 ≤ coursesSince s.course a → exec .manifestTimeout s = .next (s.tearCut c.gen)) ∧
      (c.reportAt = some a → 65536 ≤ coursesSince s.course a →
        (∀ i, s.isLeader = true → i ∈ s.presentMembers → (∀ r, r ∈ s.le.reports → r.gen = c.gen → r.index ≠ i) →
          exec .reportTimeout s = .next ((s.tellMembers (s.leMessage 0x23 c.gen)).tearCut c.gen)) ∧
        (∀ u t : State, c.queriedAt = none → u = s.tellMembers (s.leMessage 0x22 c.gen) →
          t = (if u.partnerPresent then u.sendLe u.partner (u.leMessage 0x22 c.gen) else u) →
          exec .manifestWaitExpiry s = .next { t with le := { t.le with
            cuts := t.le.cuts.map (fun (x : Cut) => if x.gen = c.gen then { x with queriedAt := some s.course } else x) } })))

/-- On a running device outside fabric and chip resets, with no region of the lifeline in a partition in reset: FOLD_COMPLETE folds the device's own generation where that is due and no chain still needs the base as it stands, and, with none of its own due, its buddy's. PARITY_CHAIN passes the stripe of the fold on where the stripe is still to pass and the region is open, and with no such stripe takes the news that the group is done. DOMAIN_TAGS takes a peer's tags and acknowledges them. TAG_EXCHANGE_TIMEOUT, 4,096 courses into the exchange, refuses the enable with code 5: ENABLE reads 0, REFUSE reads 5, the exchange is over, and memory and every other register are unchanged. RESTORE_COMPLETE without a manifest for 4,096 courses ends the restore as bad manifest. With the manifest the source is the device's own image where its own share is whole, a partner's share that is whole or chains and sections where it is not: where every stripe of the group is then restorable the share is restored from it, and otherwise the restore fails. FILL_COMPLETE, once no fill read is open, completes the fill's result with status OK; the fill is over, and the boundaries and CUR_BUF are the partner's. SNAPSHOT, handed over, is noted with its region; noted, it begins at its boundary while no snapshot holds the update and none of its memory waits for a reset. SNAPSHOT_COMPLETE of a snapshot that holds the update and whose region waits for none writes its header, shows state 2 and lets the update go. -/
def Obligations.FoldsRestoresAndSnapshots : Prop :=
  ∀ (s : State), s.running = true → s.inReset 4 = false → s.inReset 5 = false → s.leWaits = false →
    (s.ownFoldDue = true → s.chainsNeedBase = false → exec .foldComplete s = .next s.foldOwn) ∧
    (∀ g, s.ownFoldDue = false → s.buddyFoldDue = some g → exec .foldComplete s = .next (s.foldBuddy g)) ∧
    (∀ (stripe : Fin 16) p q,
      (∀ done f, s.le.fold = some f → NatSet.has f.stripes stripe.val = true → s.skeinOpen = true →
        exec (.parityChain stripe p q done) s = .next ((s.passChain f stripe.val p q).endChains done)) ∧
      ((∀ f, s.le.fold = some f → NatSet.has f.stripes stripe.val = false) →
        exec (.parityChain stripe p q true) s = .next (s.endChains true))) ∧
    (∀ n p t f, s.takeCtrl epLifeline 0x24 = some (n, p, t) → s.epOpen epLifeline = true → t.judge p false = (.fresh, some f) →
      exec .domainTags s = .next (((t.putFlow (f.take p false t.course)).takeTags p).acknowledge p)) ∧
    (∀ e, s.le.exchange = some e → 4096 ≤ coursesSince s.course e.since →
      ∃ t, exec .tagExchangeTimeout s = .next t ∧ t.fld Reg.leConfig Fld.leConfigEnable = 0 ∧ t.fld Reg.leStatus Fld.leStatusRefuse = 5 ∧
        t.le.exchange = none ∧ t.mem = s.mem ∧ ∀ r, r ≠ Reg.leConfig → r ≠ Reg.leStatus → t.reg r = s.reg r) ∧
    (∀ w whole holders others hs, s.le.restore = some w →
      others = (whole.map Fin.val).filter (fun m => decide (m ≠ s.ownIndex)) → hs = s.holdersOf w.gen.toNat holders →
      (∀ source, w.manifest = [] → 4096 ≤ coursesSince s.course w.since →
        exec (.restoreComplete ⟨source, whole, holders⟩) s = .next (s.endRestore stLeBadManifest)) ∧
      (w.manifest ≠ [] →
        (∀ b l, s.ownWhole w.manifest w.gen.toNat = some (b, l) →
          exec (.restoreComplete ⟨.own, whole, holders⟩) s = .next (if restorable s.groupSize (s.ownIndex :: others) hs
            then s.restoreTo w (s.ownImage w.gen.toNat l) (s.sectionsOf b) 0 else s.failRestore w)) ∧
        (∀ share l, s.ownWhole w.manifest w.gen.toNat = none → s.shareWhole w.manifest w.gen.toNat share = some l →
          exec (.restoreComplete ⟨.partner share, whole, holders⟩) s = .next (if restorable s.groupSize (s.ownIndex :: others) hs
            then s.restoreTo w (shareImage share w.gen.toNat l) (s.sectionsOf share.skein) 0 else s.failRestore w)) ∧
        (∀ chains sections, s.ownWhole w.manifest w.gen.toNat = none →
          exec (.restoreComplete ⟨.rebuilt chains sections, whole, holders⟩) s = .next (if restorable s.groupSize others hs
            then s.restoreTo w (s.rebuiltPage others hs chains) sections s.basePages else s.failRestore w)))) ∧
    (∀ peer set0 set1 w, s.le.fill = some w → (∀ r, r ∈ s.fab.reads → r.isFill = false) →
      ∃ x : State, exec (.fillComplete peer ⟨set0, set1⟩) s = .next (x.completeResult w.slot stOk (fillBody w.total w.total w.bytes)) ∧
        x.le.fill = none ∧ x.sk.filled = true ∧ x.sk.boundary = peer.boundary ∧ x.sk.prevBoundary = peer.prevBoundary ∧
        x.fld Reg.skStatus Fld.skStatusCurBuf = peer.curBuf.val) ∧
    (∀ h t, s.takeHanded 4 actSnapshot = some (h, t) → exec .snapshot s = .next
      { t with le := { t.le with snapshotDue := t.le.snapshotDue ++ [⟨h.param % 16, t.sk.boundary.isSome && t.doneBoundary.isNone, none⟩] } }) ∧
    (∀ d more u, s.takeHanded 4 actSnapshot = none → s.le.snapshotDue = d :: more → s.snapshotBoundary d = some u →
      s.le.holdUpdate = false → s.snapshotWaits d.region = false →
      exec .snapshot s = .next ({ s with le := { s.le with snapshotDue := more } }.beginSnapshot d.region u)) ∧
    (s.le.holdUpdate = true → s.regionWaits s.le.snapshot.region = false → ∃ t : State, exec .snapshotComplete s = .next t.releaseUpdate ∧ t.le.snapshot.state = 2 ∧
      t.le.holdUpdate = false ∧ t.mem = (s.store (s.regionBase s.le.snapshot.region) (s.snapshotHeader s.snapshotPages.length
        (shake 32 (s.load (s.regionBase s.le.snapshot.region + pageBytes) (s.snapshotPages.length * pageBytes))))).mem)

/-- A running device completes each at its time: UNIT_DUE sets the bit of a kind that is due in SN_CONFIG.DUE and leaves memory and every other register as they are; LADDER_WINDOW, every 2^20 courses, ends the window of each partition and forgets the cores' counts of the window; FSR_SUMMARY, every 3,515,625,000 courses (an hour), records a summary of the hour's counts and starts them anew; WAIT_FOR_SAMPLE, every 1,024 courses outside a chip reset, ages the cycles, stalls and troubles it finds and keeps the last four engine samples, counts the waits with no raiser, acts on each cycle that hangs, on each stall of STALL_SAMPLES samples or more, and on each trouble at its fourth sample (at each, for the kind numbered 10). -/
def Obligations.SentinelWindowsAndSamples : Prop :=
  ∀ (s : State), s.running = true →
    (∀ kind : Fin 10, s.kindDue kind.val = true → ∃ t, exec (.unitDue kind) s = .next t ∧ t = s.showDue kind.val true ∧
      (t.fld Reg.snConfig Fld.snConfigDue).testBit kind.val = true ∧ t.mem = s.mem ∧ (∀ r, r ≠ Reg.snConfig → t.reg r = s.reg r)) ∧
    (s.periodic tmrLadder (2 ^ 20) = true → ∃ t : State, t = [0, 1, 2, 3].foldl State.ladderEnds (s.ran tmrLadder) ∧
      exec .ladderWindow s = .next { t with sn := { t.sn with coreWindow := [] } }) ∧
    (s.periodic tmrSummary 3515625000 = true → ∃ t : State, t = (s.ran tmrSummary).addFsr 4 0 (enginePath 17) opNone 0
        (s.logStep (Report.bare 0 (enginePath 17))) s.sn.hourCounts [] ∧
      exec .fsrSummary s = .next { t with sn := { t.sn with hourCounts := [] } }) ∧
    (∀ troubles, s.inReset 5 = false → s.periodic tmrSample 1024 = true →
      ∃ t u : State, u.rv = { (s.ran tmrSample).rv with
          cycles := agedEdges s.rv.cycles (waitEdges s.allWaits s.raisers), stalls := s.agedWaits s.allWaits
          silent := s.agedTroubles troubles
          recent := ((s.ran tmrSample).rv.recent ++ [s.engineUse]).drop ((s.ran tmrSample).rv.recent.length - 3) } ∧
        t = ((hangsOf u.rv.cycles).foldl State.onCycle ((orphanWaits s.allWaits s.raisers).foldl
          (fun t w => t.count (Reg.rvOrphans (ctxPartition (t.markCtx w.mark))) 1) u)) ∧
        exec (.waitForSample troubles) s = .next ((List.range 11).foldl
          (fun t k => if (if k = 10 then decide (0 < SMap.get 0 u.rv.silent k) else decide (SMap.get 0 u.rv.silent k = 4)) then t.onTrouble k else t)
          ((u.rv.stalls.filter (fun w => decide (0 < s.fld Reg.rvConfig Fld.rvConfigStallSamples) &&
            decide (s.fld Reg.rvConfig Fld.rvConfigStallSamples ≤ w.2))).foldl (fun t w => t.onStall w.1) t)))

/-- On a running device outside chip reset, whose own sampling runs, HEARTBEAT at a multiple of 16,384 courses that has not had its beat advances HEARTBEAT by 1, modulo its width. It does nothing else but note that the beat is done. While chip reset stops the sampling, or between the multiples, it changes nothing. -/
def Obligations.TheHeartbeatAdvances : Prop :=
  ∀ (s : State),
    (s.running = true → s.inReset 5 = false → s.course.toNat % 16384 = 0 → s.timer tmrHeartbeat ≠ s.course →
      exec .heartbeat s = .next { s.ran tmrHeartbeat with rv := { s.rv with heartbeat := s.rv.heartbeat + 1 } }) ∧
    (s.running = false ∨ s.inReset 5 = true ∨ s.course.toNat % 16384 ≠ 0 ∨ s.timer tmrHeartbeat = s.course → exec .heartbeat s = .next s)

/-- On a running device outside fabric and chip resets: each message that is fresh in its flow is acknowledged. ABORT and the advance (EPOCH_ADVANCE_RECEIVE) of an origin and number already known have no further effect; new here they are remembered, and of this job's mapping, on a device whose job is loaded and neither RETIRED nor IDLE, they flood on, ABORT entering ABORTED where the job runs and the advance waiting for its map; of another mapping or on another device they have no further effect. MAP_REQUEST is answered with the fault map in up to three messages; MAP_REPLY takes each record of kind 0 or 1 and no other. EPOCH_APPLY applies the advance whose map matches, or at epoch 0xFFFF shows EPOCH_EXHAUSTED and drops it. EPOCH_DIGEST_TIMEOUT gives up, 4,096 courses on, an advance whose map does not match, with cause 8. ORIGIN_FORGET forgets origins 4,096 courses old and no others. -/
def Obligations.FleetMessagesAndEpochs : Prop :=
  ∀ (s : State), s.running = true → s.inReset 4 = false → s.inReset 5 = false →
    (∀ i p t f u m, t.judge p false = (.fresh, some f) → u = t.putFlow (f.take p false t.course) → m = rvMessageOf p.payload →
      (∀ row msg effect, (row, msg, effect) ∈ ([
          (.abort_, 1, fun v => if v.jobState = jobRunning then v.enterAborted m.cause m.originSeq m.step else v),
          (.epochAdvanceReceive, 4, fun v => v.awaitMap m)] : List (Instr × Nat × (State → State))) →
        s.takeRv msg = some (i, p, t) →
        (u.knowsOrigin m.origin m.originSeq = true → exec row s = .next (u.acknowledge p)) ∧
        (u.knowsOrigin m.origin m.originSeq = false →
          (u.job.loaded = true → m.mappingTag = u.mappingTag → u.jobState ≠ jobRetired → u.jobState ≠ jobIdle →
            exec row s = .next ((effect ((u.rememberOrigin m.origin m.originSeq).floodCtrl (rvMessageBytes m) (some i))).acknowledge p)) ∧
          (u.job.loaded = false ∨ m.mappingTag ≠ u.mappingTag ∨ u.jobState = jobRetired ∨ u.jobState = jobIdle →
            exec row s = .next ((u.rememberOrigin m.origin m.originSeq).acknowledge p)))) ∧
      (s.takeRv 2 = some (i, p, t) → exec .mapRequest s = .next (((recordRuns 3 u.fab.faultMap).foldl (fun v rs =>
        (v.sendRv (p.src, p.srcSide) { v.ownMessage 3 0 0 with records := rs }).numberMessage) u).acknowledge p)) ∧
      (s.takeRv 3 = some (i, p, t) → exec .mapReply s = .next ((m.records.foldl (fun v r =>
        if frKind r < 2 then v.takeFault r (some i) else v) u).acknowledge p))) ∧
    (∀ m c, s.rv.advance = some (m, c) →
      (s.mapMatches m = true → s.epoch = 0xFFFF →
        exec .epochApply s = .next { s.setFld Reg.ceEpoch Fld.ceEpochExhausted 1 with rv := { s.rv with advance := none } }) ∧
      (s.mapMatches m = true → s.epoch ≠ 0xFFFF → exec .epochApply s = .next (s.applyAdvance m)) ∧
      (s.mapMatches m = false → 4096 ≤ coursesSince s.course c →
        exec .epochDigestTimeout s = .next { s.setFld Reg.rvStatus Fld.rvStatusCause 8 with rv := { s.rv with advance := none } })) ∧
    (∀ p, p ∈ s.rv.remembered → 4096 ≤ coursesSince s.course p.2.2 →
      exec .originForget s = .next { s with rv := { s.rv with
        remembered := s.rv.remembered.filter (fun p => decide (coursesSince s.course p.2.2 < 4096)) } })

/-- On a running device with a reset due that is to run at level 0, 1, 2, 3 or 4 (the level it was due at, or a wider one to which a recurrence raises it), the row of that level, RESET_L0 to RESET_L4, completes. It takes the first such reset out of the due ones and begins it: afterwards its domain is in a reset of that level and cause. One whose domain a reset in progress of that level or a wider one already covers is taken out of the due ones, and nothing else changes. An L3 or L4 that stops the step of a running job first aborts it and begins two courses later, which let the ABORT leave (log entry 242's choice): then the row enters ABORTED and leaves the reset due. -/
def Obligations.DueResetsBegin : Prop :=
  ∀ (s : State) (row : Instr) (level : Nat) (d e : ResetDue),
    (row, level) ∈ ([(.resetL0, 0), (.resetL1, 1), (.resetL2, 2), (.resetL3, 3), (.resetL4, 4)] : List (Instr × Nat)) →
    s.running = true → s.dueAt level = some (d, e) → s.abortLeaves e = false →
    (s.absorbed e = false → s.mustAbort e = false →
      ∃ (t : State) (since at_ : Nat), exec row s = .next t ∧ t = { s with rv := { s.rv with due := s.rv.due.erase d } }.beginReset e ∧
        t.domainState e.domain = .inReset level e.cause since at_) ∧
    (s.absorbed e = true → exec row s = .next { s with rv := { s.rv with due := s.rv.due.erase d } }) ∧
    (s.absorbed e = false → s.mustAbort e = true → exec row s = .next ((s.abortFor e).ran tmrAbort))

/-- On a running device RESET_LIMIT_EXPIRY completes for a domain in a reset that has lasted longer than its level's limit: below level 4 the next wider level is due afterwards, in the domain and with the cause that it takes over, and nothing else changes; at level 4 FAULT_N is driven where AUTO_L5 is set, and nothing changes where it is clear. WATCH_END completes for a domain under watch whose release lies four samples or more back, with no sample to be taken in this course and no reset of the domain due: the domain is normal afterwards, and nothing else changes. -/
def Obligations.OverrunningAndWatchedResets : Prop :=
  ∀ (s : State) (domain : Nat), s.running = true →
    (∀ level cause since at_, s.domainState domain = .inReset level cause since at_ → resetLimit level < s.now - since →
      (∀ e, e = s.risen ⟨level, domain, cause⟩ → level ≠ 4 →
        exec (.resetLimitExpiry domain) s = .next { s with rv := { s.rv with
          due := if e ∈ s.rv.due then s.rv.due else s.rv.due ++ [e] } }) ∧
      (level = 4 → s.flag Reg.rvConfig Fld.rvConfigAutoL5 = true →
        exec (.resetLimitExpiry domain) s = .next { s with pm := { s.pm with faultN := true, faultPulsing := false } }) ∧
      (level = 4 → s.flag Reg.rvConfig Fld.rvConfigAutoL5 = false → exec (.resetLimitExpiry domain) s = .next s)) ∧
    (∀ level cause at_, s.domainState domain = .watch level cause at_ → 4 ≤ s.samplesSince (BitVec.ofNat 48 at_) →
      s.periodic tmrSample 1024 = false → (∀ d ∈ s.rv.due, d.domain ≠ domain) →
      exec (.watchEnd domain) s = .next (s.setDomain domain .normal) ∧ (s.setDomain domain .normal).domainState domain = .normal)

/-- On a running device DUMP_UNIT_TIMEOUT n completes where the dump in progress still reads more than n units and the first n, at the rate of the rings, and 100 us more have passed since the turn of the first: the first n units are read with their states, the next is recorded as UNREADABLE with no state, in the course of the row, the units after it are left to read, and RV_DUMP_UNREADABLE counts it; with no unit left to read the dump goes to its slot and the next starts, and otherwise nothing else happens. ISOLATION_LIMIT completes where a suspect runs and ISOLATE_COURSES times 16 courses are over, or the suspect is halted everywhere, has yielded on every core or is not READY: the next suspect runs, alone of those under suspicion, from this course on, or, with none left, none runs. -/
def Obligations.DumpsAndIsolationsGoOn : Prop :=
  ∀ (s : State), s.running = true →
    (∀ n t u, s.rv.dumping = some t → t.toRead[n]? = some u →
      98 + ((t.toRead.take n).map (fun u => ringCourses u.2)).foldl (· + ·) 0 ≤ coursesSince s.course t.turn →
      ∃ (v : State) (d : Dumping), v = (s.readUnits n).skipUnit.count Reg.rvDumpUnreadable 1 ∧
        v.rv.dumping = some d ∧ d.toRead = t.toRead.drop (n + 1) ∧ d.turn = s.course ∧
        d.dump.sections.getLast? = some (⟨u.1, 1, [], s.course⟩ : DumpSection) ∧
        d.dump.sections.map (fun x => x.unit_) = t.dump.sections.map (fun x => x.unit_) ++ (t.toRead.take (n + 1)).map (fun x => x.1) ∧
        (d.toRead ≠ [] → exec (.dumpUnitTimeout n) s = .next v) ∧
        (d.toRead = [] → exec (.dumpUnitTimeout n) s = .next (v.storeDump d.dump).nextDump)) ∧
    (∀ i x, s.rv.isolation = some i → i.current = some x →
      s.fld Reg.rvConfig Fld.rvConfigIsolateCourses * 16 ≤ coursesSince s.course i.since ∨ s.haltedEverywhere x = true ∨
        (∀ c ∈ s.coresOf x, NatSet.has i.yielded c = true) ∨ s.ctxState x ≠ ctxReady →
      exec (.isolationLimit) s = .next (s.nextSuspect i) ∧
      (∀ y rest, i.queue = y :: rest → (s.nextSuspect i).rv.isolation =
        some { i with queue := rest, current := some y, since := s.course, yielded := [] }) ∧
      (i.queue = [] → i.awaiting ≠ [] → (s.nextSuspect i).rv.isolation = some { i with current := none }))

/-- HOST_LINK_UP, on a running device outside fabric and chip resets with the link down and cast-on in phase 3 to 8, brings the link up, shows LINK 2 and starts detection of the link-local address, and of a global one still to be tested. With the link up, DAD_RETRY at its course starts detection of the link-local address again; DAD_PASS confirms the address under detection. A frame that fails protection is dropped. One that passes: an address-resolution request to the device's IPv4 address is answered once with that address; a neighbour solicitation to an address in use, or a probe of one, is answered once with an advertisement of it; an advertisement or a probe of an address under detection is a conflict, and any other advertisement changes nothing more; an echo request to an address in use is answered once where fewer than 100 were in the last second. A request to an address not in use changes nothing more. With commands open, FCP_DATAGRAM takes the bytes of an addressed datagram that the port receives, and no more than the reception of any other; ANNOUNCE, enabled, outside a session, with the address confirmed, and not within a second (2,500,000,000 stitches) of the last, sends the announcement and notes when. -/
def Obligations.HostFramesAreTaken : Prop :=
  ∀ (s : State) (frame : Frame),
    (s.running = true → s.hp.linkUp = false → s.inReset 4 = false → s.inReset 5 = false →
      3 ≤ s.fld Reg.castonStatus Fld.castonStatusPhase → s.fld Reg.castonStatus Fld.castonStatusPhase ≤ 8 →
      ∀ u, u = ({ s with hp := { s.hp with linkUp := true } }.setFld Reg.hpStatus Fld.hpStatusLink 2).detectLocal →
        exec .hostLinkUp s = .next (if u.hp.dadGlobal then u.send (.dadProbe (BitVec.ofNat 128 u.ipv6)) else u)) ∧
    (s.portHUp = true →
      (∀ c, s.hp.dadRetryAt = some c → reached s.course c = true → exec .dadRetry s = .next s.detectLocal) ∧
      (s.hp.dadLocal = true → exec (.dadPass true) s =
        .next ({ s with hp := { s.hp with dadLocal := false, localOk := true } }.setFld Reg.hpStatus Fld.hpStatusDadLinkLocal 0)) ∧
      (s.hp.dadGlobal = true → exec (.dadPass false) s = .next { s with hp := { s.hp with dadGlobal := false, globalOk := true } }) ∧
      (∀ t, s.unprotect frame = (t, false) →
        (frame.to_.val = 2 → exec (.arp frame) s = .next t) ∧
        (∀ kind, frame.to_.val < 2 → exec (.neighborDiscovery frame kind) s = .next t) ∧ exec (.echoRequest frame) s = .next t) ∧
      (∀ t, s.unprotect frame = (t, true) →
        (frame.to_.val = 2 → exec (.arp frame) s = .next (if t.addressed frame then
          t.send (.arpReply frame.from_ (BitVec.ofNat 32 (t.fld Reg.hpIpv4 Fld.hpIpv4Addr))) else t)) ∧
        (∀ here, here = decide (frame.to_.val = 0) → frame.to_.val < 2 →
          (exec (.neighborDiscovery frame .solicit) s =
            .next (if t.addressed frame then t.send (.neighborAdvert frame.from_ (t.hostAddress here)) else t)) ∧
          ((if here then t.hp.dadLocal else t.hp.dadGlobal) = true →
            exec (.neighborDiscovery frame .advert) s = .next (t.addressConflict here) ∧
            exec (.neighborDiscovery frame .probe) s = .next (t.addressConflict here)) ∧
          ((if here then t.hp.dadLocal else t.hp.dadGlobal) = false →
            exec (.neighborDiscovery frame .advert) s = .next t ∧
            exec (.neighborDiscovery frame .probe) s =
              .next (if t.addressed frame then t.send (.neighborAdvert frame.from_ (t.hostAddress here)) else t))) ∧
        (∀ recent u, recent = t.hp.echoes.filter (fun c => decide (coursesSince t.course c < secondCourses)) →
          u = t.send (.echoReply frame.from_) → exec (.echoRequest frame) s = .next (if t.addressed frame = true ∧ recent.length < 100
            then { u with hp := { u.hp with echoes := recent ++ [t.course] } } else t)))) ∧
    (s.hostOpen = true →
      (∀ bytes t, s.receive frame 0 = (t, true) →
        exec (.fcpDatagram frame bytes) s = .next (if t.addressed frame then t.takeDatagram frame bytes else t)) ∧
      (∀ bytes t, s.receive frame 0 = (t, false) → exec (.fcpDatagram frame bytes) s = .next t) ∧
      (s.hp.session = none → s.flag Reg.hpConfig Fld.hpConfigAnnounce = true → s.hp.localOk = true →
        (∀ a, s.hp.announcedAt = some a → a + 2_500_000_000 ≤ s.now) →
        ∀ t, t = s.send (.announce (fcpDatagram fcpAnnounce 0 0 0 0 0 1 true 0 s.announceBody)) →
          exec .announce s = .next { t with hp := { t.hp with announcedAt := some s.now } }))

/-- With the host link up, PFC_FRAME sets for each class whose priority it names a pause of its quanta, 8 stitches for each 5 quanta rounded up, shows the paused classes in HP_STATUS and sends the frames no longer held; a class not named keeps its pause. PFC_PAUSE_EXPIRY, on a running device when what HP_STATUS shows is no longer so, shows it and sends what is no longer held. XOFF_REPEAT, while the class is held off, notes the room given, releases the class where the room suffices, and otherwise, 50,000 stitches after the last, sends another XOFF. -/
def Obligations.HostFlowControl : Prop :=
  ∀ (s : State),
    (s.portHUp = true →
      (∀ named quanta (t u : State),
        t = (if bitOf named (s.priorityOf 0) then { s with hp := { s.hp with pausedUntil := SMap.set 0 s.hp.pausedUntil 0 (s.now + (8 * (quanta.getD (s.priorityOf 0) 0).toNat + 4) / 5) } } else s) →
        u = (if bitOf named (s.priorityOf 1) then { t with hp := { t.hp with pausedUntil := SMap.set 0 t.hp.pausedUntil 1 (t.now + (8 * (quanta.getD (s.priorityOf 1) 0).toNat + 4) / 5) } } else t) →
        exec (.pfcFrame named quanta) s = .next u.showPaused.flushWaiting) ∧
      (∀ bulk room, s.xoff (bit bulk) = true →
        (xonAbove (bit bulk) < room → exec (.xoffRepeat bulk room) s =
          .next ((if bulk then { s with hp := { s.hp with freeBulk := room } } else { s with hp := { s.hp with freeCmd := room } }).sendPfc
            (bit bulk) false)) ∧
        (room ≤ xonAbove (bit bulk) → SMap.get 0 s.hp.lastXoff (bit bulk) + 50000 ≤ s.now →
          exec (.xoffRepeat bulk room) s = .next ((if bulk then { s with hp := { s.hp with freeBulk := room } }
            else { s with hp := { s.hp with freeCmd := room } }).sendPfc (bit bulk) true)))) ∧
    (s.running = true → s.fld Reg.hpStatus Fld.hpStatusPaused ≠ bit (s.hpPaused 0) + 2 * bit (s.hpPaused 1) →
      exec .pfcPauseExpiry s = .next s.showPaused.flushWaiting)

/-- A frame of an open session that passes reception, is addressed to the device and names a queue pair without error completes, a marked one drawing its CNP: CNP halves the pair's rate down to 1 GB/s and notes the course. An RDMA_READ at the expected sequence number is taken and one behind it is answered again, the first response leaving where it may; one ahead is refused as out of sequence. An RDMA_WRITE at the expected number is taken, an unsupported request refused as invalid; one behind it is acknowledged again and one ahead refused. A part that is taken is tested first: one that does not fit the message draws Invalid Request, one that opens a message that R575 does not accept Remote Access Error; any other moves the expected number on and its bytes are offered to memory: they wait where an earlier part of the pair waits or their target is in reset, and otherwise they land at once, and with them leaves the ACK that is due. CNP_RATE_RAISE raises by one eighth, up to the full rate of 92 GB/s, the rate of the first pair below it that has had no CNP for 64 courses. Rates count in 1/1,024 GB/s (the model's unit). -/
def Obligations.QueuePairsOfTheHost : Prop :=
  ∀ (s t : State) (frame : Frame) (h : RdmaHeader) (q : QueuePair), s.hostOpen = true → s.hp.session ≠ none →
    s.receive frame 1 = (t, true) → t.addressed frame = true → t.qp h.qpn = some q → q.error = false →
    (exec (.cnp frame h) s = .next ((t.setQp h.qpn (some { q with rate := max 1024 (q.rate / 2), lastCnp := t.course })).notify
      frame.from_ h.qpn h.marked)) ∧
    (h.psn = q.psn → exec (.rdmaRead frame h) s =
      .next (((t.takeRead frame.from_ h.qpn q h false).sendResponse h.qpn).notify frame.from_ h.qpn h.marked)) ∧
    (h.psn ≠ q.psn → behind h.psn q.psn = true → exec (.rdmaRead frame h) s =
      .next (((t.takeRead frame.from_ h.qpn q h true).sendResponse h.qpn).notify frame.from_ h.qpn h.marked)) ∧
    (h.psn ≠ q.psn → behind h.psn q.psn = false → exec (.rdmaRead frame h) s =
      .next ((t.send (.rdmaNak frame.from_ q.hostQpn q.psn.toNat .sequence)).notify frame.from_ h.qpn h.marked)) ∧
    (∀ part data,
      (h.psn = q.psn → part = .unsupported → exec (.rdmaWrite frame h part data) s =
        .next ((t.nak frame.from_ h.qpn q h.psn .invalidRequest).notify frame.from_ h.qpn h.marked)) ∧
      (h.psn ≠ q.psn → behind h.psn q.psn = true → exec (.rdmaWrite frame h part data) s =
        .next ((t.ackAgain frame.from_ h.qpn q).notify frame.from_ h.qpn h.marked)) ∧
      (h.psn ≠ q.psn → behind h.psn q.psn = false → exec (.rdmaWrite frame h part data) s =
        .next ((t.send (.rdmaNak frame.from_ q.hostQpn q.psn.toNat .sequence)).notify frame.from_ h.qpn h.marked)) ∧
      (h.psn = q.psn → part ≠ .unsupported →
        (partFits q part h data.length = false → exec (.rdmaWrite frame h part data) s =
          .next ((t.nak frame.from_ h.qpn q h.psn .invalidRequest).notify frame.from_ h.qpn h.marked)) ∧
        (partFits q part h data.length = true → opens part = true → t.rdmaAllowed true h = false →
          exec (.rdmaWrite frame h part data) s =
            .next ((t.nak frame.from_ h.qpn q h.psn .remoteAccess).notify frame.from_ h.qpn h.marked)) ∧
        (∀ a left due (w : HeldWrite) (u : State), partFits q part h data.length = true → opens part = false ∨ t.rdmaAllowed true h = true →
          (a, left) = (if opens part then (h.addr.toNat, h.len) else q.message.getD (0, 0)) →
          due = (decide (part = .last) || decide (part = .only) || decide (63 ≤ q.sinceAck)) →
          w = ⟨h.qpn, frame.from_, q.hostQpn, a, data, h.psn, due⟩ →
          u = t.setQp h.qpn (some { q with psn := q.psn + 1, sinceAck := if due then 0 else q.sinceAck + 1
                                           message := if part = .first ∨ part = .middle then some (a + data.length, left - data.length) else none }) →
          exec (.rdmaWrite frame h part data) s = .next ((u.offerWrite w).notify frame.from_ h.qpn h.marked) ∧
          ((∃ x ∈ u.hp.heldWrites, x.qp = h.qpn) ∨ u.memWaits a data.length = true →
            u.offerWrite w = { u with hp := { u.hp with heldWrites := u.hp.heldWrites ++ [w] } }) ∧
          ((∀ x ∈ u.hp.heldWrites, x.qp ≠ h.qpn) → u.memWaits a data.length = false → u.offerWrite w = u.landWrite w)))) ∧
    (∀ n p, s.rateDue = some (n, p) → (p.rate < 92 * 1024 ∧ 64 ≤ coursesSince s.course p.lastCnp ∧ s.qp n = some p) ∧
      exec .cnpRateRaise s = .next (s.setQp n (some { p with rate := min (92 * 1024) (p.rate + p.rate / 8), lastCnp := s.course })))

/-- On a running device, at the end of its time: MACSEC_PREVIOUS_AN_END forgets the previous key and nothing else; SESSION_LAPSE, 16,777,216 courses after the last frame, ends the session and empties the reply cache; SESSION_OPEN_LAPSE, 65,536 courses on, drops the opening and nothing else; APPROVAL_WINDOW_END, past 585,938 courses, drops the approval, completes its result as expired and counts it; GRANT_LAPSE drops a grant 65,536 courses old and nothing else; RESULT_LEASE_END frees a complete slot whose lease is over and counts it, leaving every other slot. -/
def Obligations.SessionsGrantsAndLeasesEnd : Prop :=
  ∀ (s : State), s.running = true →
    (∀ e a, s.hp.session = some e → e.previousUntil = some a → reached s.course a = true →
      exec .macsecPreviousAnEnd s = .next { s with hp := { s.hp with session := some { e with previous := none, previousUntil := none } } }) ∧
    (∀ e, s.hp.session = some e → 16777216 ≤ coursesSince s.course e.lastFrame →
      exec .sessionLapse s = .next s.endSession ∧ s.endSession.hp.session = none ∧ s.endSession.cmd.cache = []) ∧
    (∀ o, s.hp.opening = some o → 65536 ≤ coursesSince s.course o.at_ →
      exec .sessionOpenLapse s = .next { s with hp := { s.hp with opening := none } }) ∧
    (∀ a, s.rt.approval = some a → 585938 < coursesSince s.course a.at_ →
      exec .approvalWindowEnd s = .next (({ s with rt := { s.rt with approval := none } }.completeResult a.slot stRtApprovalExpired []).count
        Reg.rtApprovalsExpired 1)) ∧
    (∀ g, s.rt.grant = some g → 65536 ≤ coursesSince s.course g.at_ →
      exec .grantLapse s = .next { s with rt := { s.rt with grant := none } }) ∧
    (∀ (n : Fin 64) r, s.resultSlot n.val = some r → r.isPartial = false → reached s.course r.leaseEnd = true →
      ∃ t : State, exec (.resultLeaseEnd n) s = .next (t.count Reg.resultExpired 1) ∧ t = s.setResult n.val none ∧
        t.resultSlot n.val = none ∧ ∀ m, m ≠ n.val → t.resultSlot m = s.resultSlot m)

/-- PERST_N_RISE while PERST_N is low raises it and samples power, the straps and the flash contents given; cast-on's own state is otherwise as at reset. With power, no latched trip and no test strap the device is then alive with cast-on active and HP_STATUS.MODE shows the strap's lane count; with the test strap FAULT_N pulses; without power or after a trip nothing more happens. PERST_N_ASSERT while PERST_N is high, and PWR_OK_DEASSERT while power is good, put the device back as before cast-on: registers, memory and cores as at reset, flash and fuses kept, and of the latched trip only the former keeps it. CASTON_PHASE_END in a running phase within its time, once the phase's work is done (phase 1 not before its flash can have been read, unless the roots of trust disagree; phase 6 with clean swatches not before 1,250,000,000 stitches), ends the phase with what the row reports. CASTON_PHASE_TIMEOUT past the time is fatal, the strict reset counted where none is due yet. FAULT_N_PULSE, with power good and PERST_N high after no trip, 25,000,000 stitches into a half of the pulse, turns FAULT_N and changes nothing else but the time of the turn. -/
def Obligations.CastOnBeginsAndRuns : Prop :=
  ∀ (s : State),
    (∀ power straps flash0 flash1 t, s.pm.perstN = false → t = { s with
        pm := { s.pm with perstN := true, powerOk := power },
        co := { CastOn.reset with flash0 := flash0.getD s.co.flash0, flash1 := flash1.getD s.co.flash1,
                                  eightLane := straps.eightLane, flash33 := straps.flash33 } } →
      (power = false ∨ s.tripped = true → exec (.perstNRise power straps flash0 flash1) s = .next t) ∧
      (power = true → s.tripped = false → straps.test = true →
        exec (.perstNRise power straps flash0 flash1) s = .next t.pulseFaultN) ∧
      (power = true → s.tripped = false → straps.test = false → exec (.perstNRise power straps flash0 flash1) s =
        .next ({ t with alive := true, co := { t.co with active := true } }.showStrict.setFld Reg.hpStatus Fld.hpStatusMode
          (bit straps.eightLane)))) ∧
    (s.pm.perstN = true → ∃ t, exec .perstNAssert s = .next t ∧ t.alive = false ∧ t.tripped = s.tripped ∧ t.pm.perstN = false ∧
      t.pm.powerOk = s.pm.powerOk ∧ t.regs = State.reset.regs ∧ t.mem = State.reset.mem ∧ t.cores = State.reset.cores ∧
      t.co.flash0 = s.co.flash0 ∧ t.co.flash1 = s.co.flash1 ∧ t.rt.fuses = s.rt.fuses) ∧
    (s.pm.powerOk = true → ∃ t, exec .pwrOkDeassert s = .next t ∧ t.alive = false ∧ t.tripped = false ∧ t.pm.powerOk = false ∧
      t.pm.perstN = s.pm.perstN ∧ t.regs = State.reset.regs ∧ t.mem = State.reset.mem ∧ t.cores = State.reset.cores ∧
      t.co.flash0 = s.co.flash0 ∧ t.co.flash1 = s.co.flash1 ∧ t.rt.fuses = s.rt.fuses) ∧
    (∀ report, s.inPhase = true → s.phaseTime ≤ s.phaseMax s.phase →
      (s.phase = 1 → report = .disagreement ∨ s.flashTime ≤ s.phaseTime) →
      (s.phase = 6 → cleanSwatches report = true → 1250000000 ≤ s.phaseTime) →
      exec (.castonPhaseEnd report) s = .next (s.endPhase report)) ∧
    (∀ unit_, s.inPhase = true → s.phaseMax s.phase < s.phaseTime →
      exec (.castonPhaseTimeout unit_) s = .next (s.strictReset.castOnFatal unit_)) ∧
    (s.pm.powerOk = true → s.pm.perstN = true → s.tripped = false → s.pm.faultPulsing = true → 25000000 ≤ s.co.elapsed - s.pm.pulseAt →
      exec .faultNPulse s = .next { s with pm := { s.pm with faultN := !s.pm.faultN, pulseAt := s.co.elapsed } })

/-- With the core rails up, at the first stitch of a multiple of 16 courses that has not had its step (the stitch is the model's place for it), THERMAL_STEP lowers the thermal limit by 1, not below 4, where the hottest junction is at or above TJ_THROTTLE or a stack is at or above 95 degrees; raises it by 1, not above 16, where the junction is below TJ_THROTTLE - 2 degrees and every stack below 93 degrees; and otherwise leaves it. At any other time it changes nothing. The envelope limit stands and a limit from 4 to 16 stays from 4 to 16. Readings stand in sixteenths of a degree (the model's unit); the hottest stack is the greatest of the stacks' readings. -/
def Obligations.ThermalLimitSteps : Prop :=
  ∀ (s : State) (throttle : Int), throttle = (s.fld Reg.pmConfig Fld.pmConfigTjThrottle : Int) * 16 → s.powered = true →
    4 ≤ s.pm.thermalLimit → s.pm.thermalLimit ≤ 16 →
    (s.course.toNat % 16 ≠ 0 ∨ s.timer tmrThermal = s.course ∨ s.stitch ≠ 0 → exec .thermalStep s = .next s) ∧
    (s.course.toNat % 16 = 0 → s.timer tmrThermal ≠ s.course → s.stitch = 0 →
    ∃ t, exec .thermalStep s = .next t ∧ t.pm.envelopeLimit = s.pm.envelopeLimit ∧ 4 ≤ t.pm.thermalLimit ∧ t.pm.thermalLimit ≤ 16 ∧
      (throttle ≤ s.junction ∨ 95 * 16 ≤ s.hottestStack → t.pm.thermalLimit = max (s.pm.thermalLimit - 1) 4) ∧
      (s.junction < throttle - 2 * 16 ∧ s.hottestStack < 93 * 16 → t.pm.thermalLimit = min (s.pm.thermalLimit + 1) 16) ∧
      (¬ (throttle ≤ s.junction ∨ 95 * 16 ≤ s.hottestStack) → ¬ (s.junction < throttle - 2 * 16 ∧ s.hottestStack < 93 * 16) →
        t.pm.thermalLimit = s.pm.thermalLimit))

/-- With the core rails up, each at its course: AVS_SAMPLE, every 16 courses, reads its bus, adds the sample of its watts and shows the average; ENVELOPE_STEP, at the first stitch of every 1,024 courses, lowers the envelope limit by 1, not below 4, above the envelope, raises it by 1, not above 16, below 0.95 of it, and otherwise leaves it, and DUTY shows the lesser of the two limits; SETPOINT_STEP, every 1,024 courses, moves the rail's setpoint by 5 mV towards its band's target, or leaves it there. On a running device VR_FAULT fences the partition, stops issue, reports the rail, shows cause 0xD, retires a loaded job and holds FAULT_N; JUNCTION_READ, every course, takes the readings, reports excursions and trips a hot device. -/
def Obligations.PowerIsSampledAndLimited : Prop :=
  ∀ (s : State),
    (∀ (bus : Fin 2) rails t w, s.readBus bus.val rails = (t, w) → s.powered = true → s.periodic (tmrAvs bus.val) 16 = true →
      exec (.avsSample bus rails) s = .next (((t.addSample bus.val w).showPower).ran (tmrAvs bus.val))) ∧
    (∀ p q e, s.averagePower = (p, q) → e = s.envelopeWatts * 20000 → s.powered = true → s.periodic tmrEnvelope 1024 = true → s.stitch = 0 →
      ∃ t : State, exec .envelopeStep s = .next (t.ran tmrEnvelope) ∧ t.pm.thermalLimit = s.pm.thermalLimit ∧
        (e * q < p → t.pm.envelopeLimit = max (s.pm.envelopeLimit - 1) 4) ∧
        (¬ e * q < p → 20 * p < 19 * e * q → t.pm.envelopeLimit = min (s.pm.envelopeLimit + 1) 16) ∧
        (¬ e * q < p → ¬ 20 * p < 19 * e * q → t.pm.envelopeLimit = s.pm.envelopeLimit) ∧
        t.fld Reg.pmStatus Fld.pmStatusDuty = min t.pm.envelopeLimit t.pm.thermalLimit % 32) ∧
    (∀ (p : Fin 4) v, v = s.fld (Reg.pmRail (coreRail p.val)) Fld.pmRailSetpoint → s.powered = true →
      s.periodic (tmrSetpoint p.val) 1024 = true →
      exec (.setpointStep p) s = .next ((s.setFld (Reg.pmRail (coreRail p.val)) Fld.pmRailSetpoint
        (if v < bandTarget p.val (SMap.get 0 s.pm.band p.val) then v + 5
          else if bandTarget p.val (SMap.get 0 s.pm.band p.val) < v then v - 5 else v)).ran (tmrSetpoint p.val))) ∧
    (∀ (p : Fin 4) (u : State), s.running = true → u = ({ s with pm := { s.pm with
        fenced := NatSet.put s.pm.fenced p.val true, issueStopped := true } }.report
          (Report.bare clsRailFault (powerPath p.val))).setFld Reg.rvStatus Fld.rvStatusCause 0xD →
      exec (.vrFault p) s = .next (if u.job.loaded then u.retire else u).holdFaultN ∧
        (if u.job.loaded then u.retire else u).holdFaultN.pm.faultN = true) ∧
    (∀ js ss, s.running = true → s.periodic tmrJunction 1 = true →
      exec (.junctionRead js ss) s = .next (((s.takeReadings js ss).excursions.tripIfHot).ran tmrJunction))

/-- A command of a fixed length whose body has another length is answered BAD_PARAM. A command of a class that waits for cast-on, first in the queue before READY, is answered BAD_PARAM where it has another length, and otherwise STATE or BAD_PARAM. In each case the command leaves the queue, the answer is sent and the state is otherwise that before the command. Without a first command, or with one of another opcode, or while the interpreter cannot run or still carries a register read out, the row changes nothing. -/
def Obligations.CommandsAreRefusedFirst : Prop :=
  ∀ (s : State) (row : Instr) (op len : Nat),
    (row, op, len) ∈ ([
      (.statusRead, 0x01, 0), (.identityGet, 0x02, 0), (.attest, 0x03, 32), (.sessionOpen, 0x04, 152), (.sessionConfirm true, 0x05, 148), (.sessionConfirm false, 0x05, 148),
      (.sessionRekey, 0x06, 0), (.sessionClose, 0x07, 0), (.jobKeyProvision true, 0x09, 252), (.jobKeyProvision false, 0x09, 252), (.csRead, 0x10, 10), (.jobLoad, 0x20, 66),
      (.jobUnload, 0x21, 0), (.ctxLoad, 0x22, 26), (.ctxFree, 0x23, 1), (.ctxSwitch, 0x24, 6), (.overlayStage, 0x25, 13),
      (.stepArm, 0x30, 88), (.eventSchedule, 0x32, 17), (.eventCancel, 0x33, 2), (.lifelineArm, 0x40, 4), (.lifelineRestore, 0x41, 4),
      (.spareFill, 0x42, 0), (.manifestRead, 0x43, 2), (.epochAdvance, 0x50, 8), (.faultDeclare, 0x51, 2), (.isolationReport, 0x52, 2),
      (.dumpRead, 0x53, 9), (.dumpRelease, 0x54, 1), (.logRead, 0x60, 11), (.fsrRead, 0x61, 2), (.fsrFree, 0x62, 2), (.qpCreate, 0x70, 10),
      (.qpDestroy, 0x71, 3), (.serveOpen, 0x80, 23), (.serveClose, 0x82, 1), (.resultRead, 0x90, 13), (.resultRelease, 0x91, 5),
      (.bindOff, 0xA0, 0)] : List (Instr × Nat × Nat)) →
    (∀ c rest, s.cmd.queue = c :: rest → c.opcode.toNat = op → s.running = true → s.interpreted = true → s.inReset 4 = false →
      s.inReset 5 = false → s.cmd.reading = none → s.ready = false → earlyClass op = false →
      (c.body.length ≠ len → exec row s = .next ((s.popped rest).replied s c stBadParam [])) ∧
      ∃ status, (status = stState ∨ status = stBadParam) ∧ exec row s = .next ((s.popped rest).replied s c status [])) ∧
    (∀ c rest, s.commanded op c rest → c.body.length ≠ len → exec row s = .next ((s.popped rest).replied s c stBadParam [])) ∧
    (s.cmd.queue = [] ∨ (∃ c rest, s.cmd.queue = c :: rest ∧ c.opcode.toNat ≠ op) ∨ s.interpreted = false ∨ s.cmd.reading ≠ none → exec row s = .next s)

/-- A command answered NO_RESULT_SLOT is neither counted nor cached, and its sequence number counts as not come. Any other answer stands, but for a reading command, in the cache of replies with its body's first 256 bytes, and counts CMD_ACCEPTED for a new command that is counted at its answer; no other register changes. In every case at least one frame is sent or waits to be, and memory, tokens and cores stand. Where no reserved opcode then stands first in the interpreter's order nothing else happens; otherwise those standing first are answered BAD_OPCODE, in their order, and have left it. -/
def Obligations.TheAnswerOfACommand : Prop :=
  ∀ (t s u : State) (c : CmdSlot) (status : Nat) (body : List Byte), u = t.answer s c status body →
    (status = stNoResultSlot → u.cmd.cache = t.cmd.cache ∧ u.regs = t.regs ∧ (c.prior = none → u.cmd = t.cmd) ∧
      (∀ q, c.prior = some q → u.cmd.queue = (withoutCommand q t.cmd.queue).2 ∧
        (if t.hp.session.isSome then u.cmd.seqSession else u.cmd.seqOpen) = (withoutCommand q t.cmd.queue).1)) ∧
    (status ≠ stNoResultSlot →
      u.regs = (if takesSlot c.opcode.toNat = true ∧ c.prior ≠ none then t.count Reg.cmdAccepted 1 else t).regs ∧ u.cmd.queue = t.cmd.queue ∧
      (readClass c.opcode.toNat = true → u.cmd.cache = t.cmd.cache) ∧
      (readClass c.opcode.toNat = false → (⟨c.seq, c.opcode, status, body.take 256⟩ : CachedReply) ∈ u.cmd.cache)) ∧
    u.mem = t.mem ∧ u.tokens = t.tokens ∧ u.cores = t.cores ∧
    t.hp.out.length + t.hp.waiting.length < u.hp.out.length + u.hp.waiting.length ∧
    ((∀ d more, u.cmd.queue = d :: more → opcodes.contains d.opcode.toNat = true) → t.replied s c status body = u) ∧
    t.replied s c status body = (u.cmd.queue.takeWhile (fun d => !opcodes.contains d.opcode.toNat)).foldl
      (fun v d => v.answer v d stBadOpcode [])
      { u with cmd := { u.cmd with queue := u.cmd.queue.dropWhile (fun d => !opcodes.contains d.opcode.toNat) } }

/-- A command the interpreter can carry out, of the right length and parameters, in a state that allows it, completes with status OK: it leaves the queue, has its effect, and its answer carries its body, where the halves of the root of trust agree on an outcome that is theirs. STATUS_READ, IDENTITY_GET, ATTEST and CS_READ have no effect; STATUS_READ answers the status page, IDENTITY_GET the certificate chain, ATTEST the signed attestation, CS_READ up to 64 registers; a longer CS_READ leaves the queue with its first 64 read and is carried on at 64 to a stitch, in each of which it reads on, and in the last answers all; SESSION_REKEY goes on to the next association number, whose keys are new and whose packet numbers start at 1, and answers it; SESSION_CLOSE ends the session; CS_WRITE writes its pairs in order and answers their outcomes; JOB_LOAD loads a formed mapping that fits; JOB_UNLOAD dismisses the job's contexts; CTX_LOAD loads a FREE context, CTX_FREE frees a HALTED or FAULTED one, CTX_SWITCH asks the cores named to switch to a READY one. -/
def Obligations.SessionAndJobCommands : Prop :=
  (∀ (s : State) (c : CmdSlot) (rest : List CmdSlot) (row : Instr) (op : Nat) (ok : State → Prop) (effect : State → State) (body : State → List Byte),
    (row, op, ok, effect, body) ∈ ([
      (.statusRead, 0x01, fun _ => c.body.length = 0, id, fun t => t.statusPage),
      (.identityGet, 0x02, fun _ => c.body.length = 0, id, fun _ => deviceChain),
      (.attest, 0x03, fun _ => c.body.length = 32 ∧ c.agree = true, id, fun t => cborArray [cborBytes (t.attestPayload c.body),
        cborBytes (fitTo 114 (Config.ed448Sign identitySeed (ascii "MDN-SV1 ATTEST") (t.attestPayload c.body)))]),
      (.sessionRekey, 0x06, fun t => c.body.length = 0 ∧ t.hp.session ≠ none ∧ c.agree = true,
        fun t => match t.hp.session with
          | none => t
          | some e => { t with hp := { t.hp with session := some { e with
              secret := derive e.secret "REKEY" 64 [], an := (e.an + 1) % 4, pn := 1, before := e.secret, previous := some e.an, previousUntil := none
              seenNew := false, highest := SMap.set 0 e.highest ((e.an + 1) % 4) 0 } } }.showSession,
        fun t => match t.hp.session with
          | none => []
          | some e => beBytes 1 ((e.an + 1) % 4)),
      (.sessionClose, 0x07, fun t => c.body.length = 0 ∧ t.hp.session ≠ none, State.endSession, fun _ => []),
      (.csRead, 0x10, fun _ => c.body.length = 10 ∧ c.arg 8 2 + 1 ≤ 64 ∧ inControl (c.arg 0 8) (c.arg 8 2 + 1) = true, id,
        fun t => (List.range (c.arg 8 2 + 1)).flatMap (fun i => beBytes 8 (t.readWord (c.arg 0 8 - controlBase + 8 * i)).toNat)),
      (.csWrite, 0x11, fun _ => c.arg 0 1 < 64 ∧ c.body.length = 1 + 16 * (c.arg 0 1 + 1) ∧ c.pairsInside = true ∧ c.writeAgreed = true,
        fun t => (t.csWrite c.pairs).1, fun t => (t.csWrite c.pairs).2.map (fun o => BitVec.ofNat 8 o)),
      (.jobLoad, 0x20, fun t => c.body.length = 66 ∧ mappingFormed (c.body.take 64) = true ∧
          t.jobBusy (BitVec.ofNat 16 (c.arg 64 2)) = false ∧ t.mappingFits (c.body.take 64) = true,
        fun t => t.loadJob (c.body.take 64) (BitVec.ofNat 16 (c.arg 64 2)), fun _ => []),
      (.jobUnload, 0x21, fun t => c.body.length = 0 ∧ t.anyArmed = false ∧ t.le.cuts = [] ∧ t.le.fill = none ∧ t.le.restore = none,
        fun t => (t.jobContexts.foldl State.dismiss t).removeJob, fun _ => []),
      (.ctxLoad, 0x22, fun t => c.body.length = 26 ∧ c.arg 0 1 < 16 ∧ c.arg 1 8 % 16 = 0 ∧ c.arg 1 8 < 2 ^ 48 ∧ c.arg 22 4 < 2 ^ 24 ∧
          c.arg 22 4 / 16 % 8 = 0 ∧ t.ctxState (c.arg 0 1) = ctxFree ∧ (c.arg 14 4 + c.arg 18 4) * 0x1_0000 ≤ 0xC0_0000,
        fun t => t.loadContext (c.arg 0 1) (c.arg 1 8) (c.arg 9 5) (c.arg 14 4) (c.arg 18 4) (c.arg 22 4), fun _ => []),
      (.ctxFree, 0x23, fun t => c.body.length = 1 ∧ c.arg 0 1 < 16 ∧ (t.ctxState (c.arg 0 1) = ctxHalted ∨ t.ctxState (c.arg 0 1) = ctxFaulted),
        fun t => t.freeContext (c.arg 0 1), fun _ => []),
      (.ctxSwitch, 0x24, fun t => c.body.length = 6 ∧ c.arg 0 1 < 16 ∧ t.ctxState (c.arg 0 1) = ctxReady,
        fun t => t.switchTo (c.arg 0 1) ((coresNear (c.arg 0 1)).filter (fun k => (c.arg 1 5).testBit (k % 40))), fun _ => [])] :
        List (Instr × Nat × (State → Prop) × (State → State) × (State → List Byte))) →
    s.commanded op c rest → ok (s.popped rest) →
    exec row s = .next ((effect (s.popped rest)).replied s c stOk (body (s.popped rest)))) ∧
  (∀ (s t : State) (c : CmdSlot) (rest : List CmdSlot), s.commanded 0x10 c rest → c.body.length = 10 → 64 < c.arg 8 2 + 1 → c.arg 8 2 + 1 ≤ 2048 →
    inControl (c.arg 0 8) (c.arg 8 2 + 1) = true → t = s.popped rest →
    exec .csRead s = .next { t with cmd := { t.cmd with reading := some ⟨c, t.readWords c 0 64⟩ } }) ∧
  (∀ (s t : State) (r : Reading) (ws : List Byte), s.cmd.reading = some r → t = { s with cmd := { s.cmd with reading := none } } →
    ws = r.words ++ s.readWords r.cmd (r.words.length / 8) (min 64 (r.cmd.arg 8 2 + 1 - r.words.length / 8)) →
    (r.cmd.arg 8 2 + 1 ≤ r.words.length / 8 + 64 → s.readOn = t.replied s r.cmd stOk ws) ∧
    (r.words.length / 8 + 64 < r.cmd.arg 8 2 + 1 → s.readOn = { s with cmd := { s.cmd with reading := some { r with words := ws } } }))

/-- SESSION_OPEN outside a session (one that has lapsed is ended first), its reserved bytes 0, answers OK and the opening waits with the host's key and the course; SESSION_CONFIRM of an opening under 65,536 courses old with an approved host key begins the session, counts it and answers the device's confirmation where the signature is good and the confirmation right, and otherwise counts and answers BAD_SIGNATURE; APPROVAL_SUBMIT of a formed record, after a submission whose window is over has ended, is answered, in this order, APPROVAL_EXPIRED where the record is not for this device and nonce, BAD_SIGNATURE where it is not signed, STATE where it is barred; the second of two approves, and the first takes a result slot and waits, or is answered NO_RESULT_SLOT. JOB_KEY_PROVISION of a new key by an enrolled owner holds the key where its signature is good and it opens, and otherwise counts and answers BAD_SIGNATURE. An outcome of these four, of ATTEST, of SESSION_REKEY or of a CS_WRITE of a protected register on which the halves of the root of trust disagree is discarded: the command is gone, no answer goes and an L4 is due; an outcome that a body's form, the state or a missing slot decides is none of theirs. What a signature, a key exchange or a cipher computes is left open by the model (opaque functions). -/
def Obligations.SessionsAreOpenedAndApproved : Prop :=
  ∀ (s t : State) (c : CmdSlot) (rest : List CmdSlot), t = s.popped rest →
    (∀ (v : State) secret eD nD ident tr, s.commanded 0x04 c rest → c.body.length = 152 → c.arg 145 7 = 0 → c.agree = true →
      v = t.lapseSession → v.hp.session = none →
      secret = drawnSecret v.free 56 → eD = fitTo 56 (Config.x448 secret []) → nD = drawnSecret (v.free + 7) 32 →
      ident = (Config.freeWord (v.free + 11)).truncate 32 →
      tr = shake 64 (c.body.take 56 ++ (c.body.drop 56).take 32 ++ (c.body.drop 88).take 57 ++ eD ++ nD ++ beBytes 4 ident.toNat) →
      exec .sessionOpen s = .next (State.replied { v with
        free := v.free + 12
        hp := { v.hp with opening := some ⟨(c.body.drop 88).take 57, tr,
          derive (Config.x448 secret (c.body.take 56)) "HOST SESSION" 64 tr, ident, v.course⟩ } } s c stOk
        (eD ++ nD ++ beBytes 4 ident.toNat ++ fitTo 114 (Config.ed448Sign identitySeed (ascii "MDN-SV1 SESSION") tr)))) ∧
    (∀ o, s.commanded 0x05 c rest → c.body.length = 148 → c.arg 146 2 = 0 → t.openingNow = some o → t.hostKeyRefused o.hostKey = false →
      exec (.sessionConfirm true) s = .next (
        if Config.ed448Verify o.hostKey (ascii "MDN-SV1 HOST") o.transcript (c.body.take 114) = true ∧
            (c.body.drop 114).take 32 = shake 32 (derive o.secret "CONFIRM H" 32 [] ++ o.transcript)
        then ((t.beginSession o).count Reg.rtSessions 1).replied s c stOk (shake 32 (derive o.secret "CONFIRM D" 32 [] ++ o.transcript))
        else (t.count Reg.rtSigFails 1).replied s c stRtBadSignature [])) ∧
    (∀ r, s.commanded 0x08 c rest → r = (c.body.drop 10).take (c.arg 8 2) → c.arg 0 1 < 2 → c.arg 1 7 = 0 →
      c.body.length = 10 + c.arg 8 2 + 114 → recordFormed r = true →
      ∀ u, u = (if t.approvalOver then t.endApproval else t) → exec (.approvalSubmit true) s = .next (
        if (r.drop 8).take 16 ≠ keyDigest identityKey ∨ (r.drop 0x18).take 16 ≠ u.rt.approvalNonce then
          u.replied s c stRtApprovalExpired []
        else if u.approvalSigned (c.arg 0 1) r (c.body.drop (10 + c.arg 8 2)) = false then
          (u.count Reg.rtSigFails 1).replied s c stRtBadSignature []
        else if u.approvalBarred (c.arg 0 1) r = true then u.replied s c stState []
        else match u.rt.approval, u.freeResult with
          | some a, _ => (u.approve a).replied s c stPending (beBytes 1 a.slot ++ zeroBytes 3 ++ beBytes 4 c.seq.toNat)
          | none, none => u.replied s c stNoResultSlot []
          | none, some n => State.replied { u.takeResult n c.opcode c.seq false with
              rt := { u.rt with approval := some ⟨r, c.arg 0 1, u.course, n⟩ } } s c stPending
                (beBytes 1 n ++ zeroBytes 3 ++ beBytes 4 c.seq.toNat))) ∧
    (∀ w, s.commanded 0x09 c rest → c.body.length = 252 → c.arg 0 2 ≠ 0 →
      w = derive (Config.x448 t.provisioningKey ((c.body.drop 2).take 56)) "WRAP" 44 ((c.body.drop 58).take 32) →
      (∀ k, k ∈ t.rt.jobKeys → k.ident.toNat ≠ c.arg 0 2) → t.rt.jobKeys.length < 4 → t.enrolled 0 = true →
      exec (.jobKeyProvision true) s = .next (
        if Config.ed448Verify (t.enrolledKey 0) (ascii "MDN-SV1 JOBKEY") (c.body.take 138) (c.body.drop 138) = false then
          (t.count Reg.rtSigFails 1).replied s c stRtBadSignature []
        else match Config.gcmOpen (w.take 32) (w.drop 32) (c.body.take 2) ((c.body.drop 90).take 48) with
          | none => (t.count Reg.rtSigFails 1).replied s c stRtBadSignature []
          | some key => State.replied ({ t with rt := { t.rt with
              jobKeys := t.rt.jobKeys ++ [(⟨BitVec.ofNat 16 (c.arg 0 2), fitTo 32 key⟩ : JobKey)] } }.resumeEngines) s c stOk [])) ∧
    (∀ row op ok, (row, op, ok) ∈ ([
        (.attest, 0x03, c.agree = false ∧ c.body.length = 32),
        (.sessionOpen, 0x04, c.agree = false ∧ c.body.length = 152 ∧ c.arg 145 7 = 0 ∧ t.lapseSession.hp.session = none),
        (.sessionConfirm false, 0x05, c.body.length = 148 ∧ c.arg 146 2 = 0 ∧ t.openingNow ≠ none),
        (.sessionRekey, 0x06, c.agree = false ∧ c.body.length = 0 ∧ t.hp.session ≠ none),
        (.approvalSubmit false, 0x08, c.arg 0 1 < 2 ∧ c.arg 1 7 = 0 ∧ c.body.length = 10 + c.arg 8 2 + 114 ∧
          recordFormed ((c.body.drop 10).take (c.arg 8 2)) = true ∧
          (((c.body.drop 10).take (c.arg 8 2)).drop 8).take 16 ≠ keyDigest identityKey),
        (.jobKeyProvision false, 0x09, c.body.length = 252 ∧ c.arg 0 2 ≠ 0 ∧ (∀ k, k ∈ t.rt.jobKeys → k.ident.toNat ≠ c.arg 0 2) ∧
          t.rt.jobKeys.length < 4),
        (.csWrite, 0x11, c.arg 0 1 < 64 ∧ c.body.length = 1 + 16 * (c.arg 0 1 + 1) ∧ c.pairsInside = true ∧ c.writeAgreed = false)] :
        List (Instr × Nat × Prop)) →
      s.commanded op c rest → ok → exec row s = .next t.trustDisagrees)

/-- A command that is answered later, allowed as it stands, takes a free result slot, starts its work and is answered PENDING with the slot's number and its sequence number; without a free slot it is answered NO_RESULT_SLOT and has no effect. OVERLAY_STAGE queues a staging, LIFELINE_RESTORE starts while no cut, fold or fill is in progress and SPARE_FILL while no lifeline work runs, STEP_REPLAY and DIAGNOSIS_REPLAY, of a course far enough ahead, begin a replay, BIND_OFF begins where it is not barred. OVERLAY_STAGE_COMPLETE stages a good image and answers its tag, and counts and answers the fault of a bad one, or, where the roots of trust disagree, discards the outcome; and BIND_OFF_COMPLETE zeroes the memories, removes the job and completes the slot with the course and the bytes zeroed. -/
def Obligations.DeferredCommandsTakeASlot : Prop :=
  (∀ (s : State) (c : CmdSlot) (rest : List CmdSlot) (row : Instr) (op : Nat) (ok : State → Prop) (work : State → Nat → State),
    (row, op, ok, work) ∈ ([
      (.overlayStage, 0x25, fun _ => c.body.length = 13 ∧ c.arg 0 1 < 2,
        fun u n => { u with cmd := { u.cmd with staging := u.cmd.staging ++ [⟨n, c.arg 0 1, c.arg 1 8, c.arg 9 4⟩] } }),
      (.stepReplay, 0x31, fun t => c.body.length = 14 ∧ c.arg 12 1 = 0 ∧ c.arg 13 1 ≤ 15 ∧ c.arg 4 8 < 2 ^ 48 ∧ t.job.loaded = true ∧
          (t.jobState = jobRunning ∨ t.jobState = jobAborted) ∧
          t.replayStatus (BitVec.ofNat 32 (c.arg 0 4)) (BitVec.ofNat 48 (c.arg 4 8)) = stOk,
        fun u n => u.beginReplay (BitVec.ofNat 32 (c.arg 0 4)) (BitVec.ofNat 48 (c.arg 4 8)) n),
      (.lifelineRestore, 0x41, fun t => c.body.length = 4 ∧ t.bars = false, fun u n => u.startRestore (BitVec.ofNat 32 (c.arg 0 4)) n),
      (.spareFill, 0x42, fun t => c.body.length = 0 ∧ t.leBusy = false, State.startFill),
      (.bindOff, 0xA0, fun t => c.body.length = 0 ∧ t.bindOffBarred = false, State.bindOff)] :
        List (Instr × Nat × (State → Prop) × (State → Nat → State))) →
    s.commanded op c rest → ok (s.popped rest) →
    ((s.popped rest).freeResult = none → exec row s = .next ((s.popped rest).replied s c stNoResultSlot [])) ∧
    (∀ n, (s.popped rest).freeResult = some n → exec row s =
      .next ((work ((s.popped rest).takeResult n c.opcode c.seq false) n).replied s c stPending
        (beBytes 1 n ++ zeroBytes 3 ++ beBytes 4 c.seq.toNat)))) ∧
  (∀ (s : State) (c : CmdSlot) (rest : List CmdSlot) (n k y : Nat), s.commanded 0x31 c rest → c.body.length = 14 → c.arg 12 1 = 1 →
    y = c.arg 13 1 → y ≤ 15 → c.arg 4 8 < 2 ^ 48 → (s.popped rest).isDiag y = true → (s.popped rest).ctxState y = ctxHalted →
    (s.popped rest).cmd.diagnosis = none → (s.popped rest).farEnough (BitVec.ofNat 48 (c.arg 4 8)) 0 = true →
    (s.popped rest).freeEntry (ctxPartition y) = some n → (s.popped rest).freeResult = some k →
    exec .diagnosisReplay s = .next ((((s.popped rest).takeResult k c.opcode c.seq false).beginDiagnosis (BitVec.ofNat 32 (c.arg 0 4))
      (BitVec.ofNat 48 (c.arg 4 8)) y n k).replied s c stPending (beBytes 1 k ++ zeroBytes 3 ++ beBytes 4 c.seq.toNat))) ∧
  (∀ (s t : State) (g : Staging) (more : List Staging), s.running = true → s.cmd.staging = g :: more →
    t = { s with cmd := { s.cmd with staging := more } } →
    exec (.overlayStageComplete false) s = .next t.trustDisagrees ∧
    (s.poisoned g.addr g.len = true → exec (.overlayStageComplete true) s = .next ((t.countImage 1).completeResult g.slot (imageStatus 1) [])) ∧
    (s.poisoned g.addr g.len = false → ∀ fault, fault = s.imageFault (g.kind + 1) (s.load g.addr g.len) →
      (g.kind = 0 → exec (.overlayStageComplete true) s = .next (
        if fault ≠ 0 then (t.countImage fault).completeResult g.slot (imageStatus fault) []
        else { t with cmd := { t.cmd with stagedMode := some ⟨false, s.load g.addr g.len⟩ } }.completeResult g.slot stOk
          (beBytes 4 (s.tagOf (some ⟨false, s.load g.addr g.len⟩) s.cmd.siteOverlay).toNat))) ∧
      (g.kind = 1 → exec (.overlayStageComplete true) s = .next (
        if fault ≠ 0 then (t.countImage fault).completeResult g.slot (imageStatus fault) []
        else { t with cmd := { t.cmd with stagedSite := some ⟨true, s.load g.addr g.len⟩ } }.completeResult g.slot stOk
          (beBytes 4 (s.tagOf s.cmd.modeOverlay (some ⟨true, s.load g.addr g.len⟩)).toNat))))) ∧
  (∀ (s t u : State) (n : Nat), s.running = true → s.inReset 5 = false → s.cmd.bindOff = some n → t = s.zeroMemories.removeJob →
    u = t.completeResult n stOk (beBytes 8 t.course.toNat ++ beBytes 8 bytesZeroed) →
    exec .bindOffComplete s = .next { u with cmd := { u.cmd with bindOff := none } })

/-- A command the interpreter can carry out, of the right length and parameters, in a state that allows it, completes with status OK: STEP_ARM arms the step and answers its slot; EVENT_SCHEDULE arms a free entry of the table and answers its number; EVENT_CANCEL disarms an armed entry, but leaves one that is due in this stitch or has fired in it; LIFELINE_ARM, lifelines enabled and the end not passed, adds the step to the armed ones; MANIFEST_READ answers the manifest of the area and slot named and has no effect; EPOCH_ADVANCE of an aborted job starts an advance; FAULT_DECLARE finds the fault of the device named; ISOLATION_REPORT of an awaited context notes it, and goes on once no suspect runs; DUMP_READ answers the bytes asked for of a dump's slot, as far as the slot goes (log entry 135's choice), and has no effect; DUMP_RELEASE marks a dump as read. -/
def Obligations.StepAndLifelineCommands : Prop :=
  ∀ (s t : State) (c : CmdSlot) (rest : List CmdSlot) (row : Instr) (op : Nat) (ok : Prop) (effect : State) (body : List Byte),
    t = s.popped rest →
    (row, op, ok, effect, body) ∈ ([
      (.stepArm, 0x30, c.body.length = 88 ∧ c.arg 4 8 < 2 ^ 48 ∧
          t.stepArmStatus (BitVec.ofNat 32 (c.arg 0 4)) (BitVec.ofNat 48 (c.arg 4 8)) (c.arg 12 8) (c.arg 20 4) = stOk,
        t.armStep (BitVec.ofNat 32 (c.arg 0 4)) (BitVec.ofNat 48 (c.arg 4 8)) (c.arg 12 8) (c.arg 20 4) (c.body.drop 24),
        beBytes 1 ((BitVec.ofNat 32 (c.arg 0 4)).toNat % 8)),
      (.eventCancel, 0x33, c.body.length = 2 ∧ c.arg 0 1 ≤ 4 ∧ c.arg 1 1 ≤ 63 ∧ t.evArmed (c.arg 0 1) (c.arg 1 1) = true ∧
          t.evDue (c.arg 0 1) (c.arg 1 1) = false, t.disarm (c.arg 0 1) (c.arg 1 1), []),
      (.eventCancel, 0x33, c.body.length = 2 ∧ c.arg 0 1 ≤ 4 ∧ c.arg 1 1 ≤ 63 ∧
          (if t.evArmed (c.arg 0 1) (c.arg 1 1) then t.evDue (c.arg 0 1) (c.arg 1 1) else t.firedNow (c.arg 0 1) (c.arg 1 1)) = true, t, []),
      (.lifelineArm, 0x40, c.body.length = 4 ∧ t.leEnabled = true ∧ t.endPassed (BitVec.ofNat 32 (c.arg 0 4)) = false,
        { t with le := { t.le with armed := t.le.armed ++ [BitVec.ofNat 32 (c.arg 0 4)] } }, []),
      (.manifestRead, 0x43, c.body.length = 2 ∧ c.arg 0 1 ≤ 1 ∧ c.arg 1 1 ≤ 1, t,
        if c.arg 0 1 = 0 then (if t.skeinOpen then t.manifestIn t.skeinBase (c.arg 1 1) else [])
          else (if t.buddyOpen then t.manifestIn t.buddyBase (c.arg 1 1) else [])),
      (.epochAdvance, 0x50, c.body.length = 8 ∧ t.jobState = jobAborted ∧ t.epoch ≠ 0xFFFF,
        t.originAdvance (BitVec.ofNat 32 (c.arg 0 4)) (BitVec.ofNat 32 (c.arg 4 4)), []),
      (.faultDeclare, 0x51, c.body.length = 2 ∧ c.arg 0 2 < 2 ^ 15, t.findFault 1 (BitVec.ofNat 15 (c.arg 0 2)) 0, []),
      (.dumpRead, 0x53, c.body.length = 9 ∧ c.arg 0 1 < 2 ∧ c.arg 5 4 ≤ 0x40_0000, t,
        fitTo (min (c.arg 5 4) (0x40_0000 - c.arg 1 4)) ((match t.dumpSlot (c.arg 0 1) with
          | none => []
          | some d => dumpBytes d).drop (c.arg 1 4))),
      (.dumpRelease, 0x54, c.body.length = 1 ∧ c.arg 0 1 < 2,
        match t.dumpSlot (c.arg 0 1) with
          | none => t
          | some d => t.setDump (c.arg 0 1) (some { d with unread := false }), [])] :
        List (Instr × Nat × Prop × State × List Byte)) ∨
    (∃ n, t.freeEntry (c.arg 0 1) = some n ∧ row = .eventSchedule ∧ op = 0x32 ∧
      ok = (c.body.length = 17 ∧ c.arg 0 1 ≤ 4 ∧ c.arg 2 1 ≤ 15 ∧ c.arg 3 8 < 2 ^ 48 ∧ c.arg 11 2 < 2560 ∧
        (c.arg 1 1 = actOverlaySwitch → t.cmd.stagedMode ≠ none ∨ t.cmd.stagedSite ≠ none) ∧ hostActions.contains (c.arg 1 1) = true ∧
        actionAdmitted (c.arg 0 1) (c.arg 1 1) = true ∧ (c.arg 1 1 = actSwatchWindow → windowAdmitted (c.arg 0 1) (c.arg 13 4) = true) ∧
        t.farEnough (BitVec.ofNat 48 (c.arg 3 8)) (c.arg 11 2) = true) ∧
      effect = t.armEntry (c.arg 0 1) n (c.arg 1 1) (c.arg 2 1) (c.arg 13 4) (BitVec.ofNat 48 (c.arg 3 8)) (c.arg 11 2) ∧
      body = beBytes 1 n) ∨
    (∃ i j u, t.rv.isolation = some i ∧ row = .isolationReport ∧ op = 0x52 ∧
      ok = (c.body.length = 2 ∧ c.arg 0 1 < 16 ∧ c.arg 1 1 < 2 ∧ i.awaiting.contains (c.arg 0 1) = true) ∧
      j = { i with
        awaiting := i.awaiting.filter (· ≠ c.arg 0 1)
        reproduced := if c.arg 1 1 = 1 then i.reproduced ++ [c.arg 0 1] else i.reproduced } ∧
      u = { t with rv := { t.rv with isolation := some j } } ∧
      effect = (if j.current.isSome ∨ t.inReset (256 + j.engine) then u.showIsolation j [] 1 else u.nextSuspect j) ∧ body = []) →
    s.commanded op c rest → ok → exec row s = .next (effect.replied s c stOk body)

/-- A command the interpreter can carry out, of the right length and parameters, in a state that allows it, completes with status OK: LOG_READ and FSR_READ answer entries of a log or the oldest summaries and have no effect; FSR_FREE drops the oldest summaries and shows how many stand; QP_CREATE makes the first free queue pair and answers its number; QP_DESTROY removes one, whose WRITEs that still wait for memory will land unacknowledged; SERVE_OPEN opens a stream with a result slot on a context that serves, halted; SERVE_SUBMIT adds requests to a stream; SERVE_CLOSE closes one; RESULT_READ answers the header and the bytes asked for of the slot that holds a result of that sequence number, its lease not over, and has no effect; RESULT_RELEASE frees it once it is complete. -/
def Obligations.BookAndHostCommands : Prop :=
  ∀ (s t : State) (c : CmdSlot) (rest : List CmdSlot), t = s.popped rest →
    (s.commanded 0x60 c rest → c.body.length = 11 → c.arg 0 1 ≤ 4 → c.arg 9 2 ≠ 0 → c.arg 9 2 ≤ 4096 →
      exec .logRead s = .next (t.replied s c stOk ((t.logEntries (c.arg 0 1) (c.arg 1 8) (c.arg 9 2)).flatMap logBytes))) ∧
    (s.commanded 0x61 c rest → c.body.length = 2 → c.arg 0 2 ≠ 0 → c.arg 0 2 ≤ 1024 →
      exec .fsrRead s = .next (t.replied s c stOk
        ((t.sn.fsr.take (c.arg 0 2)).flatMap (fun r => beBytes 2 (fsrBytes r).length ++ fsrBytes r)))) ∧
    (s.commanded 0x62 c rest → c.body.length = 2 → exec .fsrFree s = .next (State.replied
      ({ t with sn := { t.sn with fsr := t.sn.fsr.drop (c.arg 0 2) } }.setFld Reg.snConfig Fld.snConfigFsrCount
        (t.sn.fsr.drop (c.arg 0 2)).length) s c stOk [])) ∧
    (∀ n, s.commanded 0x70 c rest → c.body.length = 10 → 3 ≤ c.arg 9 1 → c.arg 9 1 ≤ 5 →
      qpNumbers.find? (fun n => (t.qp n).isNone) = some n → exec .qpCreate s = .next ((t.setQp n (some (freshQp (c.arg 0 3)
        (BitVec.ofNat 24 (c.arg 3 3)) (BitVec.ofNat 24 (c.arg 6 3)) (2 ^ (c.arg 9 1 + 7)) t.course))).replied s c stOk (beBytes 3 n))) ∧
    (s.commanded 0x71 c rest → c.body.length = 3 → t.qp (c.arg 0 3) ≠ none →
      exec .qpDestroy s = .next (State.replied { t.setQp (c.arg 0 3) none with hp := { (t.setQp (c.arg 0 3) none).hp with
        heldWrites := t.hp.heldWrites.map (fun (h : HeldWrite) => if h.qp = c.arg 0 3 then { h with ack := false } else h) } } s c stOk [])) ∧
    (∀ slot i, s.commanded 0x80 c rest → c.body.length = 23 → c.arg 0 1 < 16 →
      (inPartitionHbm (ctxPartition (c.arg 0 1)) (c.arg 3 8) (areaBytes (c.arg 11 4)) = true ∨
        t.inGeneral (c.arg 3 8) (areaBytes (c.arg 11 4)) = true) →
      t.cfg.mode = .serve → t.ctxState (c.arg 0 1) ≠ ctxFree → t.ctxState (c.arg 0 1) ≠ ctxFaulted →
      (∀ i v, i < 16 → t.stream i = some v → v.ctx ≠ c.arg 0 1) → t.freeResult = some slot →
      (List.range 16).find? (fun i => (t.stream i).isNone) = some i →
      exec .serveOpen s = .next ((((t.takeResult slot c.opcode c.seq true).setStream i (some {
        ctx := c.arg 0 1, deadline := c.arg 1 2, area := c.arg 3 8, granules := c.arg 11 4, table := c.arg 15 8, slot := slot
        waiting := [], closed := [], running := none, faulted := false, closing := false })).setHalted (c.arg 0 1)).replied s c stOk
          (beBytes 1 i ++ beBytes 1 slot))) ∧
    (∀ v k qs, s.commanded 0x81 c rest → k = c.arg 1 1 + 1 → qs = (List.range k).map (fun i => requestAt c.body i t.now) →
      2 ≤ c.body.length → k ≤ 128 → c.body.length = 2 + 32 * k → (∀ i, i < k → c.arg (30 + 32 * i) 4 = 0) →
      (∀ q, q ∈ qs → t.inGeneral q.input q.len = true) → t.stream (c.arg 0 1) = some v → v.closing = false →
      (v.faulted = false → exec .serveSubmit s =
        .next ((t.setStream (c.arg 0 1) (some { v with waiting := v.waiting ++ qs })).replied s c stOk [])) ∧
      (v.faulted = true → exec .serveSubmit s = .next ((t.completeFaulted v.slot qs).replied s c stOk []))) ∧
    (∀ v, s.commanded 0x82 c rest → c.body.length = 1 → t.stream (c.arg 0 1) = some v → v.closing = false →
      exec .serveClose s = .next (((t.setStream (c.arg 0 1) (some { v with closing := true })).endStream (c.arg 0 1)).replied s c stOk [])) ∧
    (∀ r, s.commanded 0x90 c rest → c.body.length = 13 → c.arg 0 1 < 64 → t.heldResult (c.arg 0 1) = some r →
      r.seq.toNat = c.arg 1 4 → exec .resultRead s = .next (t.replied s c stOk (resultHeader (c.arg 0 1) r ++
        SMap.getList 0 r.body (c.arg 5 4) (min (c.arg 9 4) (r.complete - c.arg 5 4))))) ∧
    (∀ r, s.commanded 0x91 c rest → c.body.length = 5 → c.arg 0 1 < 64 → t.heldResult (c.arg 0 1) = some r → r.isPartial = false →
      r.seq.toNat = c.arg 1 4 → exec .resultRelease s = .next ((t.setResult (c.arg 0 1) none).replied s c stOk []))

/-- Each row for the writes of one kind of register carries out the CS_WRITE first in the queue whose pairs all name registers of its kind, exactly as CS_WRITE does: where no pair names a protected register or the roots of trust agree, it leaves the queue, writes its pairs in order and answers one outcome byte a pair. A CS_WRITE with a pair of another kind is left to its own row and the row changes nothing. -/
def Obligations.RegisterWriteRows : Prop :=
  ∀ (s t : State) (c : CmdSlot) (rest : List CmdSlot) (row : Instr) (k : WriteKind), t = s.popped rest →
    (row, k) ∈ ([
      (.genericRegisterWrite, .generic), (.protectedWrite, .protected_), (.prAliasWrite, .alias_), (.dtRegionWrite, .region),
      (.skConfigWrite, .keeper), (.lifelineEnable, .enable), (.leDomainWrite, .domain), (.hpWindowWrite, .window),
      (.hpIpv6Write, .ipv6), (.scrubHoursWrite, .scrub), (.eventEntryArm, .event), (.contextTableWrite, .context),
      (.tjThrottleWrite, .thermal), (.suspectRemove, .suspect)] : List (Instr × WriteKind)) →
    (s.commanded 0x11 c rest → c.arg 0 1 < 64 → c.body.length = 1 + 16 * (c.arg 0 1 + 1) → c.pairsInside = true →
      (∀ p, p ∈ c.pairs → writeKind p.1 = k) → c.writeAgreed = true →
      exec row s = .next ((t.csWrite c.pairs).1.replied s c stOk ((t.csWrite c.pairs).2.map (fun o => BitVec.ofNat 8 o)))) ∧
    (∀ p, s.cmd.queue = c :: rest → p ∈ c.pairs → writeKind p.1 ≠ k → exec row s = .next s)
end

