-- ==== Sys2Proof/Laws/Tables.lean ====
section
/-! SUPPORT. What reading and writing a sparse table do: a read after a write, and the canonical form that every write
keeps. -/

-- Elaborated one after another: the package as one text holds thousands of lemmas, and each waiting one keeps a thread.
set_option Elab.async false

namespace Sys2Proof

/-- The canonical form as a proposition. -/
theorem SMap.wf_iff {α : Type} [DecidableEq α] (d : α) (m : SMap α) :
    SMap.wf d m = true ↔ m.Pairwise (fun a b => a.1 < b.1) ∧ ∀ p ∈ m, p.2 ≠ d := by
  simp [SMap.wf]

/-- The empty table is canonical. -/
@[simp] theorem SMap.wf_nil {α : Type} [DecidableEq α] (d : α) : SMap.wf d ([] : SMap α) = true := by simp [SMap.wf]

/-- A part of a canonical table is canonical. -/
theorem SMap.filter_wf {α : Type} [DecidableEq α] {d : α} {m : SMap α} (f : Nat × α → Bool) (h : SMap.wf d m = true) :
    SMap.wf d (m.filter f) = true := by
  rw [SMap.wf_iff] at h ⊢
  exact ⟨h.1.filter f, fun p hp => h.2 p (List.mem_filter.mp hp).1⟩

/-- Erasing a key keeps the canonical form. -/
theorem SMap.erase_wf {α : Type} [DecidableEq α] {d : α} {m : SMap α} (k : Nat) (h : SMap.wf d m = true) :
    SMap.wf d (SMap.erase m k) = true := SMap.filter_wf _ h

/-- What a place adds. -/
theorem SMap.mem_place {α : Type} (m : SMap α) (k : Nat) (v : α) (p : Nat × α) :
    p ∈ SMap.place m k v ↔ p = (k, v) ∨ p ∈ m := by
  induction m with
  | nil => simp [SMap.place]
  | cons q m ih =>
    unfold SMap.place
    split
    · simp
    · simp only [List.mem_cons, ih]
      tauto

/-- A place of a key that the table does not list keeps its order. -/
theorem SMap.place_sorted {α : Type} {m : SMap α} (k : Nat) (v : α) (h : m.Pairwise (fun a b => a.1 < b.1))
    (hk : ∀ p ∈ m, p.1 ≠ k) : (SMap.place m k v).Pairwise (fun a b => a.1 < b.1) := by
  induction m with
  | nil => simp [SMap.place]
  | cons q m ih =>
    rw [List.pairwise_cons] at h
    unfold SMap.place
    split
    · next hlt =>
      refine List.pairwise_cons.mpr ⟨fun p hp => ?_, List.pairwise_cons.mpr h⟩
      rcases List.mem_cons.mp hp with rfl | hp
      · exact hlt
      · exact Nat.lt_trans hlt (h.1 p hp)
    · next hge =>
      have hq : q.1 ≠ k := hk q (by simp)
      refine List.pairwise_cons.mpr ⟨fun p hp => ?_, ih h.2 (fun p hp => hk p (by simp [hp]))⟩
      rcases (SMap.mem_place m k v p).mp hp with rfl | hp
      · simp only; omega
      · exact h.1 p hp

/-- A write keeps the canonical form. -/
theorem SMap.set_wf {α : Type} [DecidableEq α] {d : α} {m : SMap α} (k : Nat) (v : α) (h : SMap.wf d m = true) :
    SMap.wf d (SMap.set d m k v) = true := by
  unfold SMap.set
  split
  · exact SMap.erase_wf k h
  · next hv =>
    have he := SMap.erase_wf k h
    rw [SMap.wf_iff] at he ⊢
    refine ⟨SMap.place_sorted k v he.1 (fun p hp => ?_), fun p hp => ?_⟩
    · simpa [SMap.erase] using (List.mem_filter.mp hp).2
    · rcases (SMap.mem_place _ k v p).mp hp with rfl | hp
      · exact hv
      · exact he.2 p hp

/-- Writing a list of values keeps the canonical form. -/
theorem SMap.setList_wf {α : Type} [DecidableEq α] {d : α} {m : SMap α} (k : Nat) (vs : List α) (h : SMap.wf d m = true) :
    SMap.wf d (SMap.setList d m k vs) = true := by
  induction vs generalizing m k with
  | nil => simpa [SMap.setList] using h
  | cons v vs ih => exact ih (k + 1) (SMap.set_wf k v h)

/-- A table without a key reads the default there. -/
theorem SMap.get_erase_same {α : Type} (d : α) (m : SMap α) (k : Nat) : SMap.get d (SMap.erase m k) k = d := by
  induction m with
  | nil => rfl
  | cons q m ih =>
    by_cases hq : q.1 = k
    · have : SMap.erase (q :: m) k = SMap.erase m k := by simp [SMap.erase, hq]
      rw [this, ih]
    · have : SMap.erase (q :: m) k = q :: SMap.erase m k := by simp [SMap.erase, hq]
      rw [this]
      obtain ⟨a, b⟩ := q
      simp only [SMap.get]
      rw [if_neg (by simpa using fun h => hq h.symm), ih]

/-- Erasing a key leaves every other key. -/
theorem SMap.get_erase_ne {α : Type} (d : α) (m : SMap α) {k j : Nat} (hj : j ≠ k) :
    SMap.get d (SMap.erase m k) j = SMap.get d m j := by
  induction m with
  | nil => rfl
  | cons q m ih =>
    obtain ⟨a, b⟩ := q
    by_cases hq : a = k
    · have : SMap.erase ((a, b) :: m) k = SMap.erase m k := by simp [SMap.erase, hq]
      rw [this, ih]
      simp only [SMap.get]
      rw [if_neg (by omega)]
    · have : SMap.erase ((a, b) :: m) k = (a, b) :: SMap.erase m k := by simp [SMap.erase, hq]
      rw [this]
      simp only [SMap.get, ih]

/-- A placed key reads its value where the table did not list it. -/
theorem SMap.get_place_same {α : Type} (d : α) (m : SMap α) (k : Nat) (v : α) (hk : ∀ p ∈ m, p.1 ≠ k) :
    SMap.get d (SMap.place m k v) k = v := by
  induction m with
  | nil => simp [SMap.place, SMap.get]
  | cons q m ih =>
    obtain ⟨a, b⟩ := q
    have ha : a ≠ k := hk (a, b) (by simp)
    unfold SMap.place
    split
    · simp [SMap.get]
    · simp only [SMap.get]
      rw [if_neg (by omega)]
      exact ih (fun p hp => hk p (by simp [hp]))

/-- A place leaves every other key. -/
theorem SMap.get_place_ne {α : Type} (d : α) (m : SMap α) {k j : Nat} (v : α) (hj : j ≠ k) :
    SMap.get d (SMap.place m k v) j = SMap.get d m j := by
  induction m with
  | nil => simp [SMap.place, SMap.get, hj]
  | cons q m ih =>
    obtain ⟨a, b⟩ := q
    unfold SMap.place
    split
    · simp [SMap.get, hj]
    · simp only [SMap.get, ih]

/-- A read after a write of the same key gives the value written. -/
@[simp] theorem SMap.get_set_same {α : Type} [DecidableEq α] (d : α) (m : SMap α) (k : Nat) (v : α) :
    SMap.get d (SMap.set d m k v) k = v := by
  unfold SMap.set
  split
  · next hv => rw [SMap.get_erase_same, hv]
  · exact SMap.get_place_same d _ k v (fun p hp => by simpa [SMap.erase] using (List.mem_filter.mp hp).2)

/-- A write leaves every other key. -/
theorem SMap.get_set_ne {α : Type} [DecidableEq α] (d : α) (m : SMap α) {k j : Nat} (v : α) (hj : j ≠ k) :
    SMap.get d (SMap.set d m k v) j = SMap.get d m j := by
  unfold SMap.set
  split
  · exact SMap.get_erase_ne d m hj
  · rw [SMap.get_place_ne d _ v hj, SMap.get_erase_ne d m hj]

/-- A read after any write. -/
theorem SMap.get_set {α : Type} [DecidableEq α] (d : α) (m : SMap α) (k j : Nat) (v : α) :
    SMap.get d (SMap.set d m k v) j = if j = k then v else SMap.get d m j := by
  split
  · next h => rw [h, SMap.get_set_same]
  · next h => exact SMap.get_set_ne d m v h

/-- A list of values leaves the keys below and above it. -/
theorem SMap.get_setList_ne {α : Type} [DecidableEq α] (d : α) (m : SMap α) (k j : Nat) (vs : List α)
    (h : j < k ∨ k + vs.length ≤ j) : SMap.get d (SMap.setList d m k vs) j = SMap.get d m j := by
  induction vs generalizing m k with
  | nil => rfl
  | cons v vs ih =>
    simp only [List.length_cons] at h
    rw [SMap.setList, ih _ _ (by omega), SMap.get_set_ne d m v (by omega)]

/-- A list of values reads back. -/
theorem SMap.get_setList_at {α : Type} [DecidableEq α] (d : α) (m : SMap α) (k i : Nat) (vs : List α) (h : i < vs.length) :
    SMap.get d (SMap.setList d m k vs) (k + i) = vs[i] := by
  induction vs generalizing m k i with
  | nil => simp at h
  | cons v vs ih =>
    rw [SMap.setList]
    cases i with
    | zero => rw [SMap.get_setList_ne d _ _ _ _ (by omega)]; simp
    | succ i =>
      have := ih (SMap.set d m k v) (k + 1) i (by simpa using h)
      simpa [Nat.add_assoc, Nat.add_comm 1 i] using this

/-- Adding a number to a set, or removing it, is seen in it. -/
@[simp] theorem NatSet.has_put_same (m : NatSet) (k : Nat) (b : Bool) : NatSet.has (NatSet.put m k b) k = b := by
  simp [NatSet.has, NatSet.put]

/-- Other numbers stay. -/
theorem NatSet.has_put_ne (m : NatSet) {k j : Nat} (b : Bool) (hj : j ≠ k) :
    NatSet.has (NatSet.put m k b) j = NatSet.has m j := SMap.get_set_ne _ _ _ hj

end Sys2Proof
end

