-- ==== Sys2Proof/Laws/Kept.lean ====
section
/-! SUPPORT. `State.Kept q s`: the commands `q` wait in `s` and `s` is sound. One lemma for each function of the model that
gives a state: from a kept state it gives a kept state. They are grouped in the files KeptUnits, KeptFabric, KeptJob,
KeptDevice and KeptHost in the order of the model's files; this file holds what all of them share. -/

-- Elaborated one after another: the package as one text holds thousands of lemmas, and each waiting one keeps a thread.
set_option Elab.async false

namespace Sys2Proof.Machine
variable {q : List Instr}

def keptOutcome (q : List Instr) : Host.Outcome State Fault Refusal → Prop
  | .next t => t.Kept q
  | _ => True
def keptIssue (q : List Instr) : AtIssue → Prop
  | .done t => t.Kept q
  | .fault _ _ => True
def keptOpt (q : List Instr) : Option State → Prop
  | some t => t.Kept q
  | none => True
@[simp] theorem keptOutcome_next (t : State) : keptOutcome q (.next t) = t.Kept q := rfl
@[simp] theorem keptOutcome_refused (r) : keptOutcome q (.refused r) = True := rfl
@[simp] theorem keptIssue_done (t : State) : keptIssue q (.done t) = t.Kept q := rfl
@[simp] theorem keptIssue_fault (a b) : keptIssue q (.fault a b) = True := rfl
@[simp] theorem keptOpt_some (t : State) : keptOpt q (some t) = t.Kept q := rfl
@[simp] theorem keptOpt_none : keptOpt q none = True := rfl
@[simp] theorem kept_update (t : State) (a b c d e f g h i j k l m n o p r u v w x y z z1 z2 z3) :
    State.Kept q (State.mk t.pending a t.tb t.mem b c d t.regs e f g h i j k l m n o p r u v w x y z z1 z2 z3) = State.Kept q t := propext ⟨fun h => h, fun h => h⟩
@[simp] theorem kept_update_tb (t : State) (co) (x1 x2 x3 x4 x5 x6 x7 x8 x9 x10 x11) (a b c d e f g h i j k l m n o p r u v w x y z z1 z2 z3) :
    State.Kept q (State.mk t.pending a (Timebase.mk co t.tb.stitch x1 x2 x3 x4 x5 x6 x7 x8 x9 x10 x11) t.mem b c d t.regs e f g h i j k l m n o p r u v w x y z z1 z2 z3) = State.Kept q t := propext ⟨fun h => h, fun h => h⟩
@[simp] theorem kept_ite {c : Prop} [Decidable c] {s t : State} : (if c then s else t).Kept q = (if c then s.Kept q else t.Kept q) := by
  split <;> rfl
@[simp] theorem kept_ite_fst {β : Type} {c : Prop} [Decidable c] {s t : State × β} : (if c then s else t).1.Kept q = (if c then s.1.Kept q else t.1.Kept q) := by
  split <;> rfl
@[simp] theorem keptOutcome_ite {c : Prop} [Decidable c] {s t} : keptOutcome q (if c then s else t) = if c then keptOutcome q s else keptOutcome q t := by
  split <;> rfl
@[simp] theorem keptIssue_ite {c : Prop} [Decidable c] {s t} : keptIssue q (if c then s else t) = if c then keptIssue q s else keptIssue q t := by
  split <;> rfl
@[simp] theorem kept_ite_state {c : Prop} [Decidable c] {s t : Done} : (if c then s else t).state.Kept q = (if c then s.state.Kept q else t.state.Kept q) := by
  split <;> rfl
@[simp] theorem keptOpt_ite {c : Prop} [Decidable c] {s t} : keptOpt q (if c then s else t) = if c then keptOpt q s else keptOpt q t := by
  split <;> rfl
@[simp] theorem foldl_kept {α : Type} {l : List α} {g : State → α → State} {s : State} (h0 : s.Kept q)
    (h : ∀ t x, t.Kept q → (g t x).Kept q) : (l.foldl g s).Kept q := by
  induction l generalizing s with
  | nil => exact h0
  | cons a l ih => exact ih (h _ _ h0)
@[simp] theorem foldr_kept {α : Type} {l : List α} {g : α → State → State} {s : State} (h0 : s.Kept q)
    (h : ∀ x t, t.Kept q → (g x t).Kept q) : (l.foldr g s).Kept q := by
  induction l with
  | nil => exact h0
  | cons a l ih => exact h _ _ ih
@[simp] theorem foldl_kept_fst {α β : Type} {l : List α} {g : State × β → α → State × β} {s : State × β} (h0 : s.1.Kept q)
    (h : ∀ t b x, t.Kept q → (g (t, b) x).1.Kept q) : (l.foldl g s).1.Kept q := by
  induction l generalizing s with
  | nil => exact h0
  | cons a l ih => exact ih (h s.1 s.2 a h0)
@[simp] theorem State.setReg_kept {s : State} (a : Nat) (v : Word) (h : s.Kept q) : (s.setReg a v).Kept q :=
  ⟨h.1, h.2.1, SMap.set_wf _ _ h.2.2.1, h.2.2.2⟩
@[simp] theorem State.putBytes_kept {s : State} (a : Nat) (v : List Byte) (h : s.Kept q) : (s.putBytes a v).Kept q :=
  ⟨h.1, SMap.setList_wf _ _ h.2.1, h.2.2.1, h.2.2.2⟩
@[simp] theorem act_kept {s t : State} (c : Bool) (h : s.Kept q) (ht : c = true → t.Kept q) : keptOutcome q (act s c t) := by
  unfold act; split <;> simp_all
theorem kept_if {c : Prop} [Decidable c] {s t : State} (hs : s.Kept q) (ht : t.Kept q) : (if c then s else t).Kept q := by
  split <;> assumption
@[simp] theorem Done.refuse_state (s : State) (n : Nat) : (Done.refuse s n).state = s := rfl
@[simp] theorem Done.ok_state (s : State) (b : List Byte) : (Done.ok s b).state = s := rfl

end Sys2Proof.Machine
end

