-- ==== Sys2Proof/Laws/Aside.lean ====
section
/-! SUPPORT. `s.Aside q`: the tokens and cores of `s` stand as in `q`; what the gauge unit does keeps them so. -/

-- Elaborated one after another: the package as one text holds thousands of lemmas, and each waiting one keeps a thread.
set_option Elab.async false

namespace Sys2Proof.Machine

/-- These fields of `s` stand as in `q`. -/
def State.Aside (s q : State) : Prop := s.tokens = q.tokens ∧ s.cores = q.cores

variable {q : State}

@[simp] theorem aside_update (t : State) (x0 x1 x2 x3 x4 x5 x6 x7 x8 x9 x12 x13 x14 x15 x16 x17 x18 x19 x20 x21 x22 x23 x24 x25 x26 x27 x28 x29) :
    State.Aside (State.mk x0 x1 x2 x3 x4 x5 x6 x7 x8 x9 t.tokens t.cores x12 x13 x14 x15 x16 x17 x18 x19 x20 x21 x22 x23 x24 x25 x26 x27 x28 x29) q = State.Aside t q := propext ⟨fun h => h, fun h => h⟩
@[simp] theorem aside_ite {c : Prop} [Decidable c] {s t : State} : (if c then s else t).Aside q = (if c then s.Aside q else t.Aside q) := by
  split <;> rfl
@[simp] theorem aside_ite_fst {β : Type} {c : Prop} [Decidable c] {s t : State × β} : (if c then s else t).1.Aside q = (if c then s.1.Aside q else t.1.Aside q) := by
  split <;> rfl
@[simp] theorem foldl_aside {α : Type} {l : List α} {g : State → α → State} {s : State} (h0 : s.Aside q)
    (h : ∀ t x, t.Aside q → (g t x).Aside q) : (l.foldl g s).Aside q := by
  induction l generalizing s with
  | nil => exact h0
  | cons a l ih => exact ih (h _ _ h0)
@[simp] theorem foldl_aside_fst {α β : Type} {l : List α} {g : State × β → α → State × β} {s : State × β} (h0 : s.1.Aside q)
    (h : ∀ t b x, t.Aside q → (g (t, b) x).1.Aside q) : (l.foldl g s).1.Aside q := by
  induction l generalizing s with
  | nil => exact h0
  | cons a l ih => exact ih (h s.1 s.2 a h0)
@[simp] theorem State.setReg_aside {s : State} (a : Nat) (v : Word) (h : s.Aside q) : (s.setReg a v).Aside q := h
@[simp] theorem State.putBytes_aside {s : State} (a : Nat) (v : List Byte) (h : s.Aside q) : (s.putBytes a v).Aside q := h
theorem aside_if {c : Prop} [Decidable c] {s t : State} (hs : s.Aside q) (ht : t.Aside q) : (if c then s else t).Aside q := by
  split <;> assumption

@[simp] theorem State.count_aside {x0 : State} (x1 : ℕ) (x2 : ℕ) (hx0 : x0.Aside q) : (State.count x0 x1 x2).Aside q := by
  unfold State.count; simp +contextual (maxDischargeDepth := 30) [hx0]

@[simp] theorem State.setPoison_aside {x0 : State} (x1 : ℕ) (x2 : Bool) (hx0 : x0.Aside q) : (State.setPoison x0 x1 x2).Aside q := by
  unfold State.setPoison; simp +contextual (maxDischargeDepth := 30) [hx0]

@[simp] theorem State.markDirty_aside {x0 : State} (x1 : ℕ) (hx0 : x0.Aside q) : (State.markDirty x0 x1).Aside q := by
  unfold State.markDirty; (repeat' split) <;> simp +contextual (maxDischargeDepth := 30) [hx0]

@[simp] theorem State.sealGranule_aside {x0 : State} (x1 : ℕ) (hx0 : x0.Aside q) : (State.sealGranule x0 x1).Aside q := by
  unfold State.sealGranule; (repeat' split) <;> simp +contextual (maxDischargeDepth := 30) [hx0]

@[simp] theorem State.touched_aside {x0 : State} (x1 : ℕ) (x2 : ℕ) (hx0 : x0.Aside q) : (State.touched x0 x1 x2).Aside q := by
  unfold State.touched; simp +contextual (maxDischargeDepth := 30) [hx0]

@[simp] theorem State.store_aside {x0 : State} (x1 : ℕ) (x2 : List Byte) (hx0 : x0.Aside q) : (State.store x0 x1 x2).Aside q := by
  unfold State.store; simp +contextual (maxDischargeDepth := 30) [hx0]

@[simp] theorem State.addNonFinite_aside {x0 : State} (x1 : ℕ) (x2 : ℕ) (hx0 : x0.Aside q) : (State.addNonFinite x0 x1 x2).Aside q := by
  unfold State.addNonFinite; simp +contextual (maxDischargeDepth := 30) [hx0]

@[simp] theorem State.putRecord_aside {x0 : State} (x1 : ℕ) (x2 : ℕ) (x3 : GaugeRecord) (hx0 : x0.Aside q) : (State.putRecord x0 x1 x2 x3).Aside q := by
  unfold State.putRecord; simp +contextual (maxDischargeDepth := 30) [hx0]

@[simp] theorem State.putElem_aside {x0 : State} (x1 : ℕ) (x2 : ℕ) (x3 : Fmt) (x4 : ℕ) (x5 : ℕ) (hx0 : x0.Aside q) : (State.putElem x0 x1 x2 x3 x4 x5).Aside q := by
  unfold State.putElem; simp +contextual (maxDischargeDepth := 30) [hx0]

@[simp] theorem State.gaugeWrite_aside {x0 : State} (x1 : ℕ) (x2 : GaugeJob) (x3 : List ℕ) (x4 : List (List Converted)) (hx0 : x0.Aside q) : (State.gaugeWrite x0 x1 x2 x3 x4).Aside q := by
  unfold State.gaugeWrite; simp +contextual (maxDischargeDepth := 30) [hx0]

@[simp] theorem State.writeSide_aside {x0 : State} (x1 : ℕ) (x2 : ℕ) (x3 : GaugeJob) (x4 : List (List Num)) (x5 : ℕ) (hx0 : x0.Aside q) : (State.writeSide x0 x1 x2 x3 x4 x5).Aside q := by
  unfold State.writeSide; simp +contextual (maxDischargeDepth := 30) [hx0]

@[simp] theorem State.writeFallback_aside {x0 : State} (x1 : ℕ) (x2 : GaugeJob) (x3 : List ℕ) (x4 : List (List Converted)) (x5 : ℕ) (hx0 : x0.Aside q) : (State.writeFallback x0 x1 x2 x3 x4 x5).Aside q := by
  unfold State.writeFallback; simp +contextual (maxDischargeDepth := 30) [hx0]

@[simp] theorem State.writeResidual_aside {x0 : State} (x1 : ℕ) (x2 : GaugeJob) (x3 : List ℕ) (x4 : List (List Num)) (x5 : List (List Converted)) (hx0 : x0.Aside q) : (State.writeResidual x0 x1 x2 x3 x4 x5).Aside q := by
  unfold State.writeResidual; simp +contextual (maxDischargeDepth := 30) [hx0]

@[simp] theorem State.findOutliers_aside {x0 : State} (x1 : GaugeJob) (x2 : List (List Num)) (hx0 : x0.Aside q) : (State.findOutliers x0 x1 x2).Aside q := by
  unfold State.findOutliers; simp +contextual (maxDischargeDepth := 30) [hx0]

@[simp] theorem State.gaugeCounts_aside {x0 : State} (x1 : ℕ) (x2 : ℕ) (x3 : ℕ) (x4 : ℕ) (hx0 : x0.Aside q) : (State.gaugeCounts x0 x1 x2 x3 x4).Aside q := by
  unfold State.gaugeCounts; simp +contextual (maxDischargeDepth := 30) [hx0]

@[simp] theorem State.quantEffect_aside {x0 : State} (x1 : ℕ) (x2 : ℕ) (x3 : GaugeJob) (hx0 : x0.Aside q) : (State.quantEffect x0 x1 x2 x3).Aside q := by
  unfold State.quantEffect; simp +contextual (maxDischargeDepth := 30) [hx0]

@[simp] theorem State.prepassEffect_aside {x0 : State} (x1 : ℕ) (x2 : ℕ) (x3 : GaugeJob) (hx0 : x0.Aside q) : (State.prepassEffect x0 x1 x2 x3).Aside q := by
  unfold State.prepassEffect; simp +contextual (maxDischargeDepth := 30) [hx0]

end Sys2Proof.Machine
end

