-- ==== Sys2Proof/Laws/Commands.lean ====
section
/-! SUPPORT. What carrying out the first command does, what taking a packet does, and that memory keeps its canonical form. -/

-- Elaborated one after another: the package as one text holds thousands of lemmas, and each waiting one keeps a thread.
set_option Elab.async false

namespace Sys2Proof.Machine


/-- A command the interpreter can carry out is carried out on the state it has left the queue of, and answered if the halves
of the root of trust agree or its outcome is not theirs. -/
theorem runTrusted_commanded {s : State} {op : Nat} {c : CmdSlot} {rest : List CmdSlot} (h : s.commanded op c rest) (g : CmdSlot → Bool)
    (f : State → CmdSlot → Done) :
    runTrusted g op f s = .next (if g c || plainOutcome (f (s.popped rest) c).status then
      (f (s.popped rest) c).state.replied s c (f (s.popped rest) c).status (f (s.popped rest) c).body
      else (s.popped rest).trustDisagrees) := by
  obtain ⟨h1, h2, h3, h4, h5, h6, h8, h7⟩ := h
  have : (!s.ready && !earlyClass op) = false := by rcases h7 with h7 | h7 <;> simp [h7]
  have hi : s.interprets = true := by simp [State.interprets, h3, h4, h5, h6, h8]
  simp only [runTrusted, h1, act, hi, h2, this]
  rfl

/-- A command the interpreter can carry out is carried out on the state it has left the queue of, and answered. -/
theorem runCommand_commanded {s : State} {op : Nat} {c : CmdSlot} {rest : List CmdSlot} (h : s.commanded op c rest) (f : State → CmdSlot → Done) :
    runCommand op f s =
      .next ((f (s.popped rest) c).state.replied s c (f (s.popped rest) c).status (f (s.popped rest) c).body) := by
  rw [runCommand, runTrusted_commanded h]
  rfl

/-- A packet fresh in its flow has its effect on the state whose flow has taken it, and is acknowledged. -/
theorem State.accept_fresh {s : State} {p : Packet} {reply : Bool} {f : RecvFlow} (h : s.judge p reply = (.fresh, some f)) (effect : State → State) :
    s.accept p reply effect = (effect (s.putFlow (f.take p reply s.course))).acknowledge p := by
  simp only [State.accept, h]

/-- A packet its flow has seen is counted and acknowledged again, and has no effect. -/
theorem State.accept_duplicate {s : State} {p : Packet} {reply : Bool} {f : RecvFlow} (h : s.judge p reply = (.duplicate, some f))
    (effect : State → State) :
    s.accept p reply effect = ((s.putFlow { f with lastActive := s.course }).count Reg.prE2eDup 1).acknowledge p := by
  simp only [State.accept, h]

/-- A packet of another generation is counted and dropped. -/
theorem State.accept_stale {s : State} {p : Packet} {reply : Bool} {f : Option RecvFlow} (h : s.judge p reply = (.stale, f))
    (effect : State → State) : s.accept p reply effect = s.count (genStale (domainOfEp p.dstEp)) 1 := by
  cases f <;> simp only [State.accept, h]

/-- Memory before cast-on is canonical. -/
theorem State.reset_memoryWf : memoryWf State.reset.mem = true := by decide

/-- Writing bytes keeps memory canonical. -/
theorem State.putBytes_memoryWf {s : State} (a : Nat) (v : List Byte) (h : memoryWf s.mem = true) : memoryWf (s.putBytes a v).mem = true :=
  SMap.setList_wf _ _ h

end Sys2Proof.Machine
end

