-- ==== Sys2Proof/Laws/Framed.lean ====
section
/-! SUPPORT. `s.Framed q`: memory, poison marks, tokens and cores of `s` stand as in `q`. One lemma for each function behind
the commands that act outside memory and the cores: it keeps them so. -/

-- Elaborated one after another: the package as one text holds thousands of lemmas, and each waiting one keeps a thread.
set_option Elab.async false

namespace Sys2Proof.Machine

/-- Memory, poison marks, tokens and cores stand as in `q`. -/
def State.Framed (s q : State) : Prop := s.mem = q.mem ∧ s.poison = q.poison ∧ s.tokens = q.tokens ∧ s.cores = q.cores

variable {q : State}

def framedOutcome (q : State) : Host.Outcome State Fault Refusal → Prop
  | .next t => t.Framed q
  | _ => True
def framedIssue (q : State) : AtIssue → Prop
  | .done t => t.Framed q
  | .fault _ _ => True
def framedOpt (q : State) : Option State → Prop
  | some t => t.Framed q
  | none => True
@[simp] theorem framedOutcome_next (t : State) : framedOutcome q (.next t) = t.Framed q := rfl
@[simp] theorem framedOutcome_refused (r) : framedOutcome q (.refused r) = True := rfl
@[simp] theorem framedIssue_done (t : State) : framedIssue q (.done t) = t.Framed q := rfl
@[simp] theorem framedIssue_fault (a b) : framedIssue q (.fault a b) = True := rfl
@[simp] theorem framedOpt_some (t : State) : framedOpt q (some t) = t.Framed q := rfl
@[simp] theorem framedOpt_none : framedOpt q none = True := rfl
@[simp] theorem framed_update (t : State) (x0 x1 x2 x4 x6 x7 x8 x9 x12 x13 x14 x15 x16 x17 x18 x19 x20 x21 x22 x23 x24 x25 x26 x27 x28 x29) :
    State.Framed (State.mk x0 x1 x2 t.mem x4 t.poison x6 x7 x8 x9 t.tokens t.cores x12 x13 x14 x15 x16 x17 x18 x19 x20 x21 x22 x23 x24 x25 x26 x27 x28 x29) q = State.Framed t q := propext ⟨fun h => h, fun h => h⟩
@[simp] theorem framed_ite {c : Prop} [Decidable c] {s t : State} : (if c then s else t).Framed q = (if c then s.Framed q else t.Framed q) := by
  split <;> rfl
@[simp] theorem framed_ite_fst {β : Type} {c : Prop} [Decidable c] {s t : State × β} : (if c then s else t).1.Framed q = (if c then s.1.Framed q else t.1.Framed q) := by
  split <;> rfl
@[simp] theorem framedOutcome_ite {c : Prop} [Decidable c] {s t} : framedOutcome q (if c then s else t) = if c then framedOutcome q s else framedOutcome q t := by
  split <;> rfl
@[simp] theorem framedIssue_ite {c : Prop} [Decidable c] {s t} : framedIssue q (if c then s else t) = if c then framedIssue q s else framedIssue q t := by
  split <;> rfl
@[simp] theorem framed_ite_state {c : Prop} [Decidable c] {s t : Done} : (if c then s else t).state.Framed q = (if c then s.state.Framed q else t.state.Framed q) := by
  split <;> rfl
@[simp] theorem framedOpt_ite {c : Prop} [Decidable c] {s t} : framedOpt q (if c then s else t) = if c then framedOpt q s else framedOpt q t := by
  split <;> rfl
@[simp] theorem foldl_framed {α : Type} {l : List α} {g : State → α → State} {s : State} (h0 : s.Framed q)
    (h : ∀ t x, t.Framed q → (g t x).Framed q) : (l.foldl g s).Framed q := by
  induction l generalizing s with
  | nil => exact h0
  | cons a l ih => exact ih (h _ _ h0)
@[simp] theorem foldl_framed_fst {α β : Type} {l : List α} {g : State × β → α → State × β} {s : State × β} (h0 : s.1.Framed q)
    (h : ∀ t b x, t.Framed q → (g (t, b) x).1.Framed q) : (l.foldl g s).1.Framed q := by
  induction l generalizing s with
  | nil => exact h0
  | cons a l ih => exact ih (h s.1 s.2 a h0)
@[simp] theorem State.setReg_framed {s : State} (a : Nat) (v : Word) (h : s.Framed q) : (s.setReg a v).Framed q := h
@[simp] theorem act_framed {s t : State} (c : Bool) (h : s.Framed q) (ht : c = true → t.Framed q) : framedOutcome q (act s c t) := by
  unfold act; split <;> simp_all
theorem framed_if {c : Prop} [Decidable c] {s t : State} (hs : s.Framed q) (ht : t.Framed q) : (if c then s else t).Framed q := by
  split <;> assumption

@[simp] theorem State.drewBytes_framed {x0 : State} (x1 : ℕ) (hx0 : x0.Framed q) : (State.drewBytes x0 x1).Framed q := by
  unfold State.drewBytes; simp +contextual (maxDischargeDepth := 30) [hx0]

@[simp] theorem State.setFld_framed {x0 : State} (x1 : ℕ) (x2 : BitField) (x3 : ℕ) (hx0 : x0.Framed q) : (State.setFld x0 x1 x2 x3).Framed q := by
  unfold State.setFld; simp +contextual (maxDischargeDepth := 30) [hx0]

@[simp] theorem State.count_framed {x0 : State} (x1 : ℕ) (x2 : ℕ) (hx0 : x0.Framed q) : (State.count x0 x1 x2).Framed q := by
  unfold State.count; simp +contextual (maxDischargeDepth := 30) [hx0]

@[simp] theorem State.ran_framed {x0 : State} (x1 : ℕ) (hx0 : x0.Framed q) : (State.ran x0 x1).Framed q := by
  unfold State.ran; simp +contextual (maxDischargeDepth := 30) [hx0]

@[simp] theorem State.addFsr_framed {x0 : State} (x1 : ℕ) (x2 : ℕ) (x3 : BitVec 32) (x4 : BitVec 64) (x5 : BitVec 64) (x6 : BitVec 32) (x7 : SMap ℕ) (x8 : List Byte) (hx0 : x0.Framed q) : (State.addFsr x0 x1 x2 x3 x4 x5 x6 x7 x8).Framed q := by
  unfold State.addFsr; simp +contextual (maxDischargeDepth := 30) [hx0]

@[simp] theorem State.dueReset_framed {x0 : State} (x1 : ℕ) (x2 : ℕ) (x3 : ℕ) (hx0 : x0.Framed q) : (State.dueReset x0 x1 x2 x3).Framed q := by
  unfold State.dueReset; simp +contextual (maxDischargeDepth := 30) [hx0]

@[simp] theorem State.writeLog_framed {x0 : State} (x1 : Report) (hx0 : x0.Framed q) : (State.writeLog x0 x1).1.Framed q := by
  unfold State.writeLog; simp only []; (repeat' split) <;> simp_all +contextual (maxDischargeDepth := 30) [hx0]

@[simp] theorem State.tally_framed {x0 : State} (x1 : ℕ) (hx0 : x0.Framed q) : (State.tally x0 x1).Framed q := by
  unfold State.tally; (repeat' split) <;> simp +contextual (maxDischargeDepth := 30) [hx0]

@[simp] theorem State.strictReset_framed {x0 : State} (hx0 : x0.Framed q) : (State.strictReset x0).Framed q := by
  unfold State.strictReset; (repeat' split) <;> simp +contextual (maxDischargeDepth := 30) [hx0]

@[simp] theorem State.report_framed {x0 : State} (x1 : Report) (hx0 : x0.Framed q) : (State.report x0 x1).Framed q := by
  unfold State.report; simp +contextual (maxDischargeDepth := 30) [hx0]

@[simp] theorem State.trustDisagrees_framed {x0 : State} (hx0 : x0.Framed q) : (State.trustDisagrees x0).Framed q := by
  unfold State.trustDisagrees; simp +contextual (maxDischargeDepth := 30) [hx0]

@[simp] theorem State.armEntry_framed {x0 : State} (x1 : ℕ) (x2 : ℕ) (x3 : ℕ) (x4 : ℕ) (x5 : ℕ) (x6 : Course) (x7 : ℕ) (hx0 : x0.Framed q) : (State.armEntry x0 x1 x2 x3 x4 x5 x6 x7).Framed q := by
  unfold State.armEntry; simp +contextual (maxDischargeDepth := 30) [hx0]

@[simp] theorem State.disarm_framed {x0 : State} (x1 : ℕ) (x2 : ℕ) (hx0 : x0.Framed q) : (State.disarm x0 x1 x2).Framed q := by
  have h := State.setFld_framed (evA x1 x2) Fld.tbPeventAArmed 0 hx0
  exact ⟨h.1, h.2.1, h.2.2.1, h.2.2.2⟩

@[simp] theorem State.mapDirty_framed {x0 : State} (x1 : ℕ → Dirty → Dirty) (hx0 : x0.Framed q) : (State.mapDirty x0 x1).Framed q := by
  unfold State.mapDirty; simp +contextual (maxDischargeDepth := 30) [hx0]

@[simp] theorem State.clearOutgoing_framed {x0 : State} (hx0 : x0.Framed q) : (State.clearOutgoing x0).Framed q := by
  unfold State.clearOutgoing; simp +contextual (maxDischargeDepth := 30) [hx0]

@[simp] theorem State.swapBitmaps_framed {x0 : State} (hx0 : x0.Framed q) : (State.swapBitmaps x0).Framed q := by
  unfold State.swapBitmaps; simp +contextual (maxDischargeDepth := 30) [hx0]

@[simp] theorem State.keepMarks_framed {x0 : State} (hx0 : x0.Framed q) : (State.keepMarks x0).Framed q := by
  unfold State.keepMarks; simp +contextual (maxDischargeDepth := 30) [hx0]

@[simp] theorem State.setLstep_framed {x0 : State} (x1 : ℕ) (x2 : ℕ) (hx0 : x0.Framed q) : (State.setLstep x0 x1 x2).Framed q := by
  unfold State.setLstep; simp +contextual (maxDischargeDepth := 30) [hx0]

@[simp] theorem State.clearLstep_framed {x0 : State} (x1 : ℕ) (hx0 : x0.Framed q) : (State.clearLstep x0 x1).Framed q := by
  unfold State.clearLstep; simp +contextual (maxDischargeDepth := 30) [hx0]

@[simp] theorem execLstepClear_framed (x0 : Fin 4) {x1 : State} (hx1 : x1.Framed q) : framedOutcome q (execLstepClear x0 x1) := by
  unfold execLstepClear; (repeat' split) <;> simp +contextual (maxDischargeDepth := 30) [hx1]

theorem State.takeHanded_framed {s : State} {a b} {r} (h : s.Framed q) (e : s.takeHanded a b = some r) : r.2.Framed q := by
  unfold State.takeHanded at e
  split at e
  · simp at e
  · cases e; simpa [] using h

@[simp] theorem State.setResult_framed {x0 : State} (x1 : ℕ) (x2 : Option ResultSlot) (hx0 : x0.Framed q) : (State.setResult x0 x1 x2).Framed q := by
  unfold State.setResult; simp +contextual (maxDischargeDepth := 30) [hx0]

@[simp] theorem State.takeResult_framed {x0 : State} (x1 : ℕ) (x2 : BitVec 16) (x3 : BitVec 32) (x4 : Bool) (hx0 : x0.Framed q) : (State.takeResult x0 x1 x2 x3 x4).Framed q := by
  unfold State.takeResult; simp +contextual (maxDischargeDepth := 30) [hx0]

@[simp] theorem State.completeResult_framed {x0 : State} (x1 : ℕ) (x2 : ℕ) (x3 : List Byte) (hx0 : x0.Framed q) : (State.completeResult x0 x1 x2 x3).Framed q := by
  unfold State.completeResult; (repeat' split) <;> simp +contextual (maxDischargeDepth := 30) [hx0]

@[simp] theorem execReclaimHoldEnd_framed (x0 : Fin 16) {x1 : State} (hx1 : x1.Framed q) : framedOutcome q (execReclaimHoldEnd x0 x1) := by
  unfold execReclaimHoldEnd; (repeat' split) <;> simp +contextual (maxDischargeDepth := 30) [hx1]

@[simp] theorem State.emit_framed {x0 : State} (x1 : Option (Option Session)) (x2 : Sent) (hx0 : x0.Framed q) : (State.emit x0 x1 x2).Framed q := by
  unfold State.emit; simp +contextual (maxDischargeDepth := 30) [hx0]

@[simp] theorem State.sendOut_framed {x0 : State} (x1) (hx0 : x0.Framed q) : (State.sendOut x0 x1).Framed q := by
  unfold State.sendOut; (repeat' split) <;> simp +contextual (maxDischargeDepth := 30) [hx0]

@[simp] theorem State.send_framed {x0 : State} (x1 : Sent) (hx0 : x0.Framed q) : (State.send x0 x1).Framed q := by
  unfold State.send; (repeat' split) <;> simp +contextual (maxDischargeDepth := 30) [hx0]

@[simp] theorem State.flushWaiting_framed {x0 : State} (hx0 : x0.Framed q) : (State.flushWaiting x0).Framed q := by
  unfold State.flushWaiting; simp +contextual (maxDischargeDepth := 30) [hx0]

@[simp] theorem State.reply_framed {x0 : State} (x1) (x2) (x3) (x4) (x5) (x6) (x7) (x8) (hx0 : x0.Framed q) : (State.reply x0 x1 x2 x3 x4 x5 x6 x7 x8).Framed q := by
  unfold State.reply; (repeat' split) <;> simp +contextual (maxDischargeDepth := 30) [hx0]

@[simp] theorem State.setSeqState_framed {x0 : State} (x1 : SeqState) (hx0 : x0.Framed q) : (State.setSeqState x0 x1).Framed q := by
  unfold State.setSeqState; simp +contextual (maxDischargeDepth := 30) [hx0]

@[simp] theorem State.showSession_framed {x0 : State} (hx0 : x0.Framed q) : (State.showSession x0).Framed q := by
  unfold State.showSession; simp +contextual (maxDischargeDepth := 30) [hx0]

@[simp] theorem State.endSession_framed {x0 : State} (hx0 : x0.Framed q) : (State.endSession x0).Framed q := by
  unfold State.endSession; simp +contextual (maxDischargeDepth := 30) [hx0]

@[simp] theorem State.lapseSession_framed {x0 : State} (hx0 : x0.Framed q) : (State.lapseSession x0).Framed q := by
  unfold State.lapseSession; (repeat' split) <;> simp +contextual (maxDischargeDepth := 30) [hx0]

@[simp] theorem State.sendPfc_framed {x0 : State} (x1 : ℕ) (x2 : Bool) (hx0 : x0.Framed q) : (State.sendPfc x0 x1 x2).Framed q := by
  unfold State.sendPfc; simp +contextual (maxDischargeDepth := 30) [hx0]

@[simp] theorem State.setRoom_framed {x0 : State} (x1 : ℕ) (x2 : ℕ) (hx0 : x0.Framed q) : (State.setRoom x0 x1 x2).Framed q := by
  unfold State.setRoom; simp +contextual (maxDischargeDepth := 30) [hx0]

@[simp] theorem State.unprotect_framed {x0 : State} (x1 : Frame) (hx0 : x0.Framed q) : (State.unprotect x0 x1).1.Framed q := by
  unfold State.unprotect; (repeat' split) <;> simp +contextual (maxDischargeDepth := 30) [hx0]
  (repeat' split) <;> simp +contextual (maxDischargeDepth := 30) [hx0]

@[simp] theorem State.receive_framed {x0 : State} (x1 : Frame) (x2 : ℕ) (hx0 : x0.Framed q) : (State.receive x0 x1 x2).1.Framed q := by
  unfold State.receive; simp +contextual (maxDischargeDepth := 30) [hx0]

@[simp] theorem State.cacheReply_framed {x0 : State} (x1 : CachedReply) (hx0 : x0.Framed q) : (State.cacheReply x0 x1).Framed q := by
  unfold State.cacheReply; simp +contextual (maxDischargeDepth := 30) [hx0]

@[simp] theorem State.answer_framed {x0 : State} {x1 : State} (x2 : CmdSlot) (x3 : ℕ) (x4 : List Byte) (hx0 : x0.Framed q) (_ : x1.Framed q) : (State.answer x0 x1 x2 x3 x4).Framed q := by
  unfold State.answer; (repeat' split) <;> simp +contextual (maxDischargeDepth := 30) [hx0]

@[simp] theorem State.answerReserved_framed {x0 : State} (hx0 : x0.Framed q) : (State.answerReserved x0).Framed q := by
  unfold State.answerReserved; (repeat' split) <;> simp +contextual (maxDischargeDepth := 30) [hx0]

@[simp] theorem State.replied_framed {t before : State} (c) (n) (b) (ht : t.Framed q) (hb : before.Framed q) : (t.replied before c n b).Framed q := by
  unfold State.replied; exact State.answerReserved_framed (State.answer_framed _ _ _ ht hb)

@[simp] theorem Done.refuse_framed {x0 : State} (x1 : ℕ) (hx0 : x0.Framed q) : (Done.refuse x0 x1).state.Framed q := by
  unfold Done.refuse; simp +contextual (maxDischargeDepth := 30) [hx0]

@[simp] theorem Done.ok_framed {x0 : State} (x1 : List Byte) (hx0 : x0.Framed q) : (Done.ok x0 x1).state.Framed q := by
  unfold Done.ok; simp +contextual (maxDischargeDepth := 30) [hx0]

@[simp] theorem Done.early_framed {d : Done} {t : State} (hd : d.state.Framed q) (ht : t.Framed q) : (d.early t).state.Framed q := by
  unfold Done.early
  split <;> assumption

@[simp] theorem runTrusted_framed (g : CmdSlot → Bool) (op : Nat) (f : State → CmdSlot → Done) {s : State} (h : s.Framed q)
    (hf : ∀ t c, t.Framed q → (f t c).state.Framed q) : framedOutcome q (runTrusted g op f s) := by
  unfold runTrusted
  split
  · exact h
  · next c rest _ =>
    have ht : State.Framed { s with cmd := { s.cmd with queue := rest } } q := h
    refine act_framed _ h (fun _ => framed_if (State.replied_framed _ _ _ ?_ h) (State.trustDisagrees_framed ht))
    split
    · exact Done.early_framed (hf _ _ ht) ht
    · exact hf _ _ ht

@[simp] theorem runCommand_framed (op : Nat) (f : State → CmdSlot → Done) {s : State} (h : s.Framed q) (hf : ∀ t c, t.Framed q → (f t c).state.Framed q) : framedOutcome q (runCommand op f s) :=
  runTrusted_framed _ op f h hf

@[simp] theorem sized_framed (n : Nat) (f : State → CmdSlot → Done) (c : CmdSlot) {s : State} (hf : ∀ t c, t.Framed q → (f t c).state.Framed q) (h : s.Framed q) : (sized n f s c).state.Framed q := by
  unfold sized
  split
  · exact hf _ _ h
  · exact h

@[simp] theorem deferred_framed {s : State} (c : CmdSlot) (w : State → Nat → State) (h : s.Framed q) (hw : ∀ t n, t.Framed q → (w t n).Framed q) : (deferred s c w).state.Framed q := by
  unfold deferred
  split
  · exact h
  · exact hw _ _ (State.takeResult_framed _ _ _ _ h)

@[simp] theorem execHeartbeat_framed {x0 : State} (hx0 : x0.Framed q) : framedOutcome q (execHeartbeat x0) := by
  unfold execHeartbeat; simp +contextual (maxDischargeDepth := 30) [hx0]

@[simp] theorem execOriginForget_framed {x0 : State} (hx0 : x0.Framed q) : framedOutcome q (execOriginForget x0) := by
  unfold execOriginForget; simp +contextual (maxDischargeDepth := 30) [hx0]

@[simp] theorem execEpochDigestTimeout_framed {x0 : State} (hx0 : x0.Framed q) : framedOutcome q (execEpochDigestTimeout x0) := by
  unfold execEpochDigestTimeout; (repeat' split) <;> simp +contextual (maxDischargeDepth := 30) [hx0]

@[simp] theorem State.setStream_framed {x0 : State} (x1 : ℕ) (x2 : Option Stream) (hx0 : x0.Framed q) : (State.setStream x0 x1 x2).Framed q := by
  unfold State.setStream; simp +contextual (maxDischargeDepth := 30) [hx0]

@[simp] theorem State.completeRequest_framed {x0 : State} (x1 : ℕ) (x2 : Request) (x3 : ℕ) (x4 : ℕ) (hx0 : x0.Framed q) : (State.completeRequest x0 x1 x2 x3 x4).Framed q := by
  unfold State.completeRequest; (repeat' split) <;> simp +contextual (maxDischargeDepth := 30) [hx0]

@[simp] theorem State.completeFaulted_framed {x0 : State} (x1 : ℕ) (x2 : List Request) (hx0 : x0.Framed q) : (State.completeFaulted x0 x1 x2).Framed q := by
  unfold State.completeFaulted; simp +contextual (maxDischargeDepth := 30) [hx0]

@[simp] theorem State.endStream_framed {x0 : State} (x1 : ℕ) (hx0 : x0.Framed q) : (State.endStream x0 x1).Framed q := by
  unfold State.endStream; simp only []; (repeat' split) <;> simp_all +contextual (maxDischargeDepth := 30) [hx0]

@[simp] theorem execServeSubmit_framed {x0 : State} (hx0 : x0.Framed q) : framedOutcome q (execServeSubmit x0) := by
  unfold execServeSubmit; refine runCommand_framed _ _ hx0 (fun t c ht => ?_); (try refine sized_framed _ _ _ (fun t c ht => ?_) ht); (repeat' split) <;> simp +contextual (maxDischargeDepth := 30) [ht, hx0]

@[simp] theorem execServeClose_framed {x0 : State} (hx0 : x0.Framed q) : framedOutcome q (execServeClose x0) := by
  unfold execServeClose; refine runCommand_framed _ _ hx0 (fun t c ht => ?_); (try refine sized_framed _ _ _ (fun t c ht => ?_) ht); (repeat' split) <;> simp +contextual (maxDischargeDepth := 30) [ht, hx0]

@[simp] theorem execServeBlockClose_framed (x0 : Fin 16) {x1 : State} (hx1 : x1.Framed q) : framedOutcome q (execServeBlockClose x0 x1) := by
  unfold execServeBlockClose; (repeat' split) <;> simp +contextual (maxDischargeDepth := 30) [hx1]

@[simp] theorem execResultRelease_framed {s : State} (h : s.Framed q) : framedOutcome q (execResultRelease s) := by
  refine runCommand_framed _ _ h (fun t c ht => sized_framed _ _ _ (fun t c ht => ?_) ht)
  simp only []
  (repeat' split) <;> simp +contextual (maxDischargeDepth := 30) [ht]

@[simp] theorem execResultLeaseEnd_framed (x0 : Fin 64) {x1 : State} (hx1 : x1.Framed q) : framedOutcome q (execResultLeaseEnd x0 x1) := by
  unfold execResultLeaseEnd; (repeat' split) <;> simp +contextual (maxDischargeDepth := 30) [hx1]

@[simp] theorem State.countImage_framed {x0 : State} (x1 : ℕ) (hx0 : x0.Framed q) : (State.countImage x0 x1).Framed q := by
  unfold State.countImage; simp +contextual (maxDischargeDepth := 30) [hx0]

@[simp] theorem State.showStrict_framed {x0 : State} (hx0 : x0.Framed q) : (State.showStrict x0).Framed q := by
  unfold State.showStrict; simp +contextual (maxDischargeDepth := 30) [hx0]

@[simp] theorem State.checkGroupK_framed {x0 : State} (hx0 : x0.Framed q) : (State.checkGroupK x0).Framed q := by
  unfold State.checkGroupK; simp +contextual (maxDischargeDepth := 30) [hx0]

@[simp] theorem State.showSettings_framed {x0 : State} (hx0 : x0.Framed q) : (State.showSettings x0).Framed q := by
  unfold State.showSettings; simp +contextual (maxDischargeDepth := 30) [hx0]

@[simp] theorem State.measure_framed {x0 : State} (hx0 : x0.Framed q) : (State.measure x0).Framed q := by
  unfold State.measure; simp +contextual (maxDischargeDepth := 30) [hx0]

@[simp] theorem State.detectGlobal_framed {x0 : State} (hx0 : x0.Framed q) : (State.detectGlobal x0).Framed q := by
  unfold State.detectGlobal; simp +contextual (maxDischargeDepth := 30) [hx0]

@[simp] theorem State.applySite_framed {x0 : State} (hx0 : x0.Framed q) : (State.applySite x0).Framed q := by
  unfold State.applySite; simp only []; (repeat' split) <;> simp_all +contextual (maxDischargeDepth := 30) [hx0]

@[simp] theorem State.putInForce_framed {x0 : State} (x1 : Option Overlay) (x2 : Option Overlay) (hx0 : x0.Framed q) : (State.putInForce x0 x1 x2).Framed q := by
  unfold State.putInForce; simp +contextual (maxDischargeDepth := 30) [hx0]

@[simp] theorem State.switchOverlays_framed {x0 : State} (hx0 : x0.Framed q) : (State.switchOverlays x0).Framed q := by
  unfold State.switchOverlays; simp +contextual (maxDischargeDepth := 30) [hx0]

@[simp] theorem execOverlaySwitch_framed {x0 : State} (hx0 : x0.Framed q) : framedOutcome q (execOverlaySwitch x0) := by
  unfold execOverlaySwitch; split <;> (try (have ht := State.takeHanded_framed hx0 (by assumption); simp only at ht)) <;> (repeat' split) <;> simp +contextual (maxDischargeDepth := 30) [*, hx0]

@[simp] theorem execOverlayStage_framed {x0 : State} (hx0 : x0.Framed q) : framedOutcome q (execOverlayStage x0) := by
  unfold execOverlayStage; simp +contextual (maxDischargeDepth := 30) [hx0]

@[simp] theorem execOverlayStageComplete_framed (x0 : Bool) {x1 : State} (hx1 : x1.Framed q) : framedOutcome q (execOverlayStageComplete x0 x1) := by
  unfold execOverlayStageComplete; (repeat' split) <;> simp +contextual (maxDischargeDepth := 30) [hx1]

@[simp] theorem execIdentityGet_framed {x0 : State} (hx0 : x0.Framed q) : framedOutcome q (execIdentityGet x0) := by
  unfold execIdentityGet; refine runCommand_framed _ _ hx0 (fun t c ht => ?_); (try refine sized_framed _ _ _ (fun t c ht => ?_) ht); (repeat' split) <;> simp +contextual (maxDischargeDepth := 30) [ht, hx0]

@[simp] theorem execAttest_framed {x0 : State} (hx0 : x0.Framed q) : framedOutcome q (execAttest x0) := by
  unfold execAttest; refine runTrusted_framed _ _ _ hx0 (fun t c ht => ?_); (try refine sized_framed _ _ _ (fun t c ht => ?_) ht); simp only []; (repeat' split) <;> simp +contextual (maxDischargeDepth := 30) [ht, hx0]

@[simp] theorem execSessionOpen_framed {x0 : State} (hx0 : x0.Framed q) : framedOutcome q (execSessionOpen x0) := by
  unfold execSessionOpen; simp +contextual (maxDischargeDepth := 30) [hx0]

@[simp] theorem execSessionOpenLapse_framed {x0 : State} (hx0 : x0.Framed q) : framedOutcome q (execSessionOpenLapse x0) := by
  unfold execSessionOpenLapse; (repeat' split) <;> simp +contextual (maxDischargeDepth := 30) [hx0]

@[simp] theorem execSessionRekey_framed {x0 : State} (hx0 : x0.Framed q) : framedOutcome q (execSessionRekey x0) := by
  unfold execSessionRekey; refine runTrusted_framed _ _ _ hx0 (fun t c ht => ?_); (try refine sized_framed _ _ _ (fun t c ht => ?_) ht); simp only []; (repeat' split) <;> simp +contextual (maxDischargeDepth := 30) [ht, hx0]

@[simp] theorem execSessionClose_framed {x0 : State} (hx0 : x0.Framed q) : framedOutcome q (execSessionClose x0) := by
  unfold execSessionClose; simp +contextual (maxDischargeDepth := 30) [hx0]

@[simp] theorem execSessionLapse_framed {x0 : State} (hx0 : x0.Framed q) : framedOutcome q (execSessionLapse x0) := by
  unfold execSessionLapse; (repeat' split) <;> simp +contextual (maxDischargeDepth := 30) [hx0]

@[simp] theorem execMacsecPreviousAnEnd_framed {x0 : State} (hx0 : x0.Framed q) : framedOutcome q (execMacsecPreviousAnEnd x0) := by
  unfold execMacsecPreviousAnEnd; (repeat' split) <;> simp +contextual (maxDischargeDepth := 30) [hx0]

@[simp] theorem State.approve_framed {x0 : State} (x1 : Approval) (hx0 : x0.Framed q) : (State.approve x0 x1).Framed q := by
  unfold State.approve; simp +contextual (maxDischargeDepth := 30) [hx0]

@[simp] theorem State.endApproval_framed {x0 : State} (hx0 : x0.Framed q) : (State.endApproval x0).Framed q := by
  unfold State.endApproval; (repeat' split) <;> simp +contextual (maxDischargeDepth := 30) [hx0]

@[simp] theorem execApprovalSubmit_framed (x0 : Bool) {x1 : State} (hx1 : x1.Framed q) : framedOutcome q (execApprovalSubmit x0 x1) := by
  unfold execApprovalSubmit; refine runTrusted_framed _ _ _ hx1 (fun t c ht => ?_); (try refine sized_framed _ _ _ (fun t c ht => ?_) ht); simp only []; (repeat' split) <;> simp +contextual (maxDischargeDepth := 30) [ht, hx1]

@[simp] theorem execApprovalWindowEnd_framed {x0 : State} (hx0 : x0.Framed q) : framedOutcome q (execApprovalWindowEnd x0) := by
  unfold execApprovalWindowEnd; (repeat' split) <;> simp +contextual (maxDischargeDepth := 30) [hx0]

@[simp] theorem execGrantLapse_framed {x0 : State} (hx0 : x0.Framed q) : framedOutcome q (execGrantLapse x0) := by
  unfold execGrantLapse; (repeat' split) <;> simp +contextual (maxDischargeDepth := 30) [hx0]

@[simp] theorem State.setDomain_framed {x0 : State} (x1 : ℕ) (x2 : DomainState) (hx0 : x0.Framed q) : (State.setDomain x0 x1 x2).Framed q := by
  unfold State.setDomain; simp +contextual (maxDischargeDepth := 30) [hx0]

@[simp] theorem State.setDump_framed {x0 : State} (x1 : ℕ) (x2 : Option Dump) (hx0 : x0.Framed q) : (State.setDump x0 x1 x2).Framed q := by
  unfold State.setDump; simp +contextual (maxDischargeDepth := 30) [hx0]

@[simp] theorem State.storeDump_framed {x0 : State} (x1 : Dump) (hx0 : x0.Framed q) : (State.storeDump x0 x1).Framed q := by
  unfold State.storeDump; simp +contextual (maxDischargeDepth := 30) [hx0]

@[simp] theorem State.readUnit_framed {x0 : State} (hx0 : x0.Framed q) : (State.readUnit x0).Framed q := by
  unfold State.readUnit; (repeat' split) <;> simp +contextual (maxDischargeDepth := 30) [hx0]

@[simp] theorem State.readUnits_framed {x0 : State} (n : ℕ) (hx0 : x0.Framed q) : (State.readUnits x0 n).Framed q := by
  induction n generalizing x0 with
  | zero => exact hx0
  | succ n ih => exact ih (State.readUnit_framed hx0)

@[simp] theorem State.nextDump_framed {x0 : State} (hx0 : x0.Framed q) : (State.nextDump x0).Framed q := by
  unfold State.nextDump; (repeat' split) <;> simp +contextual (maxDischargeDepth := 30) [hx0]

@[simp] theorem State.endDump_framed {x0 : State} (hx0 : x0.Framed q) : (State.endDump x0).Framed q := by
  unfold State.endDump; (repeat' split) <;> simp +contextual (maxDischargeDepth := 30) [hx0]

@[simp] theorem State.skipUnit_framed {x0 : State} (hx0 : x0.Framed q) : (State.skipUnit x0).Framed q := by
  unfold State.skipUnit; (repeat' split) <;> simp +contextual (maxDischargeDepth := 30) [hx0]

@[simp] theorem execDumpUnitTimeout_framed (x0 : ℕ) {x1 : State} (hx1 : x1.Framed q) : framedOutcome q (execDumpUnitTimeout x0 x1) := by
  unfold execDumpUnitTimeout; (repeat' split) <;> simp +contextual (maxDischargeDepth := 30) [hx1]

@[simp] theorem execWatchEnd_framed (x0 : ℕ) {x1 : State} (hx1 : x1.Framed q) : framedOutcome q (execWatchEnd x0 x1) := by
  unfold execWatchEnd; (repeat' split) <;> simp +contextual (maxDischargeDepth := 30) [hx1]

@[simp] theorem execDumpRead_framed {x0 : State} (hx0 : x0.Framed q) : framedOutcome q (execDumpRead x0) := by
  unfold execDumpRead; simp +contextual (maxDischargeDepth := 30) [hx0]

@[simp] theorem execDumpRelease_framed {s : State} (h : s.Framed q) : framedOutcome q (execDumpRelease s) := by
  refine runCommand_framed _ _ h (fun t c ht => sized_framed _ _ _ (fun t c ht => ?_) ht)
  simp only []
  (repeat' split) <;> simp +contextual (maxDischargeDepth := 30) [ht]

@[simp] theorem execFsrFree_framed {x0 : State} (hx0 : x0.Framed q) : framedOutcome q (execFsrFree x0) := by
  unfold execFsrFree; refine runCommand_framed _ _ hx0 (fun t c ht => ?_); (try refine sized_framed _ _ _ (fun t c ht => ?_) ht); (repeat' split) <;> simp +contextual (maxDischargeDepth := 30) [ht, hx0]

@[simp] theorem State.refuseEnable_framed {x0 : State} (x1 : ℕ) (hx0 : x0.Framed q) : (State.refuseEnable x0 x1).Framed q := by
  unfold State.refuseEnable; simp +contextual (maxDischargeDepth := 30) [hx0]

@[simp] theorem execTagExchangeTimeout_framed {x0 : State} (hx0 : x0.Framed q) : framedOutcome q (execTagExchangeTimeout x0) := by
  unfold execTagExchangeTimeout; (repeat' split) <;> simp +contextual (maxDischargeDepth := 30) [hx0]

@[simp] theorem execEventSchedule_framed {s : State} (h : s.Framed q) : framedOutcome q (execEventSchedule s) := by
  refine runCommand_framed _ _ h (fun t c ht => sized_framed _ _ _ (fun t c ht => ?_) ht)
  simp only []
  (repeat' split) <;> simp +contextual (maxDischargeDepth := 30) [ht]

@[simp] theorem execEventCancel_framed {x0 : State} (hx0 : x0.Framed q) : framedOutcome q (execEventCancel x0) := by
  unfold execEventCancel; simp +contextual (maxDischargeDepth := 30) [hx0]

@[simp] theorem execLifelineArm_framed {x0 : State} (hx0 : x0.Framed q) : framedOutcome q (execLifelineArm x0) := by
  unfold execLifelineArm; simp +contextual (maxDischargeDepth := 30) [hx0]

@[simp] theorem State.beginCut_framed {x0 : State} (x1) (x2) (x3) (x4) (hx0 : x0.Framed q) : (State.beginCut x0 x1 x2 x3 x4).Framed q := by
  unfold State.beginCut; (repeat' split) <;> simp +contextual (maxDischargeDepth := 30) [hx0]

@[simp] theorem execLifelineCut_framed {s : State} (h : s.Framed q) : framedOutcome q (execLifelineCut s) := by
  unfold execLifelineCut
  split
  · exact h
  · next e =>
    have ht := State.takeHanded_framed h e
    simp only []
    split
    · exact act_framed _ h (fun _ => ht)
    · refine act_framed _ h (fun _ => ?_)
      split <;> simp +contextual (maxDischargeDepth := 30) [ht]

@[simp] theorem execManifestRead_framed {x0 : State} (hx0 : x0.Framed q) : framedOutcome q (execManifestRead x0) := by
  unfold execManifestRead; simp +contextual (maxDischargeDepth := 30) [hx0]

@[simp] theorem State.showPaused_framed {x0 : State} (hx0 : x0.Framed q) : (State.showPaused x0).Framed q := by
  unfold State.showPaused; simp +contextual (maxDischargeDepth := 30) [hx0]

@[simp] theorem State.pauseClass_framed {x0 : State} (x1 : ℕ) (x2 : ℕ) (hx0 : x0.Framed q) : (State.pauseClass x0 x1 x2).Framed q := by
  unfold State.pauseClass; simp +contextual (maxDischargeDepth := 30) [hx0]

@[simp] theorem execPfcFrame_framed (x0 : BitVec 8) (x1 : List (BitVec 16)) {x2 : State} (hx2 : x2.Framed q) : framedOutcome q (execPfcFrame x0 x1 x2) := by
  unfold execPfcFrame; simp +contextual (maxDischargeDepth := 30) [hx2]

@[simp] theorem execPfcPauseExpiry_framed {x0 : State} (hx0 : x0.Framed q) : framedOutcome q (execPfcPauseExpiry x0) := by
  unfold execPfcPauseExpiry; simp +contextual (maxDischargeDepth := 30) [hx0]

@[simp] theorem execXoffRepeat_framed (x0 : Bool) (x1 : ℕ) {x2 : State} (hx2 : x2.Framed q) : framedOutcome q (execXoffRepeat x0 x1 x2) := by
  unfold execXoffRepeat; simp +contextual (maxDischargeDepth := 30) [hx2]

@[simp] theorem execAnnounce_framed {x0 : State} (hx0 : x0.Framed q) : framedOutcome q (execAnnounce x0) := by
  unfold execAnnounce; simp +contextual (maxDischargeDepth := 30) [hx0]

@[simp] theorem State.detectLocal_framed {x0 : State} (hx0 : x0.Framed q) : (State.detectLocal x0).Framed q := by
  unfold State.detectLocal; simp +contextual (maxDischargeDepth := 30) [hx0]

@[simp] theorem execHostLinkUp_framed {x0 : State} (hx0 : x0.Framed q) : framedOutcome q (execHostLinkUp x0) := by
  unfold execHostLinkUp; simp +contextual (maxDischargeDepth := 30) [hx0]

@[simp] theorem execDadRetry_framed {x0 : State} (hx0 : x0.Framed q) : framedOutcome q (execDadRetry x0) := by
  unfold execDadRetry; (repeat' split) <;> simp +contextual (maxDischargeDepth := 30) [hx0]

@[simp] theorem execDadPass_framed (x0 : Bool) {x1 : State} (hx1 : x1.Framed q) : framedOutcome q (execDadPass x0 x1) := by
  unfold execDadPass; simp +contextual (maxDischargeDepth := 30) [hx1]

@[simp] theorem execArp_framed (f) {s : State} (h : s.Framed q) : framedOutcome q (execArp f s) := by
  unfold execArp
  refine act_framed _ h (fun _ => ?_)
  have hr := State.unprotect_framed f h
  split
  · next heq => rw [heq] at hr; (repeat' split) <;> simp +contextual (maxDischargeDepth := 30) [hr]
  · next heq => rw [heq] at hr; (repeat' split) <;> simp +contextual (maxDischargeDepth := 30) [hr]

@[simp] theorem execEchoRequest_framed (f) {s : State} (h : s.Framed q) : framedOutcome q (execEchoRequest f s) := by
  unfold execEchoRequest
  refine act_framed _ h (fun _ => ?_)
  have hr := State.unprotect_framed f h
  split
  · next heq => rw [heq] at hr; (repeat' split) <;> simp +contextual (maxDischargeDepth := 30) [hr]
  · next heq => rw [heq] at hr; (repeat' split) <;> simp +contextual (maxDischargeDepth := 30) [hr]

@[simp] theorem State.setQp_framed {x0 : State} (x1 : ℕ) (x2 : Option QueuePair) (hx0 : x0.Framed q) : (State.setQp x0 x1 x2).Framed q := by
  unfold State.setQp; simp +contextual (maxDischargeDepth := 30) [hx0]

@[simp] theorem execQpCreate_framed {x0 : State} (hx0 : x0.Framed q) : framedOutcome q (execQpCreate x0) := by
  unfold execQpCreate; refine runCommand_framed _ _ hx0 (fun t c ht => ?_); (try refine sized_framed _ _ _ (fun t c ht => ?_) ht); (repeat' split) <;> simp +contextual (maxDischargeDepth := 30) [ht, hx0]

@[simp] theorem execQpDestroy_framed {x0 : State} (hx0 : x0.Framed q) : framedOutcome q (execQpDestroy x0) := by
  unfold execQpDestroy; simp +contextual (maxDischargeDepth := 30) [hx0]

@[simp] theorem State.notify_framed {x0 : State} (x1 : Peer) (x2 : ℕ) (x3 : Bool) (hx0 : x0.Framed q) : (State.notify x0 x1 x2 x3).Framed q := by
  unfold State.notify; (repeat' split) <;> simp +contextual (maxDischargeDepth := 30) [hx0]

@[simp] theorem State.onQp_framed {s : State} (i m) (f : State → QueuePair → State) (h : s.Framed q) (hf : ∀ t p, t.Framed q → (f t p).Framed q) : (s.onQp i m f).Framed q := by
  unfold State.onQp
  split
  · exact State.count_framed _ _ h
  · have hr := State.receive_framed i 1 h
    (repeat' split) <;> simp_all [State.notify_framed]

@[simp] theorem execCnp_framed (x0 : Frame) (x1 : RdmaHeader) {x2 : State} (hx2 : x2.Framed q) : framedOutcome q (execCnp x0 x1 x2) := by
  unfold execCnp; simp +contextual (maxDischargeDepth := 30) [hx2]

@[simp] theorem execCnpRateRaise_framed {x0 : State} (hx0 : x0.Framed q) : framedOutcome q (execCnpRateRaise x0) := by
  unfold execCnpRateRaise; (repeat' split) <;> simp +contextual (maxDischargeDepth := 30) [hx0]

@[simp] theorem State.readRail_framed {x0 : State} (x1 : ℕ) (x2 : Option RailReading) (hx0 : x0.Framed q) : (State.readRail x0 x1 x2).1.Framed q := by
  unfold State.readRail; (repeat' split) <;> simp +contextual (maxDischargeDepth := 30) [hx0]

@[simp] theorem State.readBus_framed {x0 : State} (x1 : ℕ) (x2 : List (Option RailReading)) (hx0 : x0.Framed q) : (State.readBus x0 x1 x2).1.Framed q := by
  unfold State.readBus; simp +contextual (maxDischargeDepth := 30) [hx0]

@[simp] theorem State.addSample_framed {x0 : State} (x1 : ℕ) (x2 : ℕ) (hx0 : x0.Framed q) : (State.addSample x0 x1 x2).Framed q := by
  unfold State.addSample; simp +contextual (maxDischargeDepth := 30) [hx0]

@[simp] theorem State.showPower_framed {x0 : State} (hx0 : x0.Framed q) : (State.showPower x0).Framed q := by
  unfold State.showPower; simp +contextual (maxDischargeDepth := 30) [hx0]

@[simp] theorem execAvsSample_framed (x0 : Fin 2) (x1 : List (Option RailReading)) {x2 : State} (hx2 : x2.Framed q) : framedOutcome q (execAvsSample x0 x1 x2) := by
  unfold execAvsSample; simp +contextual (maxDischargeDepth := 30) [hx2]

@[simp] theorem State.setLimits_framed {x0 : State} (x1 : ℕ) (x2 : ℕ) (hx0 : x0.Framed q) : (State.setLimits x0 x1 x2).Framed q := by
  unfold State.setLimits; simp +contextual (maxDischargeDepth := 30) [hx0]

@[simp] theorem execEnvelopeStep_framed {x0 : State} (hx0 : x0.Framed q) : framedOutcome q (execEnvelopeStep x0) := by
  unfold execEnvelopeStep; simp +contextual (maxDischargeDepth := 30) [hx0]

@[simp] theorem execThermalStep_framed {x0 : State} (hx0 : x0.Framed q) : framedOutcome q (execThermalStep x0) := by
  unfold execThermalStep; simp +contextual (maxDischargeDepth := 30) [hx0]

@[simp] theorem execSetpointStep_framed (x0 : Fin 4) {x1 : State} (hx1 : x1.Framed q) : framedOutcome q (execSetpointStep x0 x1) := by
  unfold execSetpointStep; simp +contextual (maxDischargeDepth := 30) [hx1]

@[simp] theorem execFaultNPulse_framed {x0 : State} (hx0 : x0.Framed q) : framedOutcome q (execFaultNPulse x0) := by
  unfold execFaultNPulse; simp +contextual (maxDischargeDepth := 30) [hx0]

end Sys2Proof.Machine
end

