-- ==== Sys2Proof/Laws/Inner.lean ====
section
/-! SUPPORT. `s.Inner q`: memory, poison marks and tokens of `s` stand as in `q`; what the arrays and their side units work off keeps them so. -/

-- Elaborated one after another: the package as one text holds thousands of lemmas, and each waiting one keeps a thread.
set_option Elab.async false

namespace Sys2Proof.Machine

/-- These fields of `s` stand as in `q`. -/
def State.Inner (s q : State) : Prop := s.mem = q.mem ∧ s.poison = q.poison ∧ s.tokens = q.tokens

variable {q : State}

@[simp] theorem inner_update (t : State) (x0 x1 x2 x4 x6 x7 x8 x9 x11 x12 x13 x14 x15 x16 x17 x18 x19 x20 x21 x22 x23 x24 x25 x26 x27 x28 x29) :
    State.Inner (State.mk x0 x1 x2 t.mem x4 t.poison x6 x7 x8 x9 t.tokens x11 x12 x13 x14 x15 x16 x17 x18 x19 x20 x21 x22 x23 x24 x25 x26 x27 x28 x29) q = State.Inner t q := propext ⟨fun h => h, fun h => h⟩
@[simp] theorem inner_ite {c : Prop} [Decidable c] {s t : State} : (if c then s else t).Inner q = (if c then s.Inner q else t.Inner q) := by
  split <;> rfl
@[simp] theorem inner_ite_fst {β : Type} {c : Prop} [Decidable c] {s t : State × β} : (if c then s else t).1.Inner q = (if c then s.1.Inner q else t.1.Inner q) := by
  split <;> rfl
@[simp] theorem foldl_inner {α : Type} {l : List α} {g : State → α → State} {s : State} (h0 : s.Inner q)
    (h : ∀ t x, t.Inner q → (g t x).Inner q) : (l.foldl g s).Inner q := by
  induction l generalizing s with
  | nil => exact h0
  | cons a l ih => exact ih (h _ _ h0)
@[simp] theorem foldl_inner_fst {α β : Type} {l : List α} {g : State × β → α → State × β} {s : State × β} (h0 : s.1.Inner q)
    (h : ∀ t b x, t.Inner q → (g (t, b) x).1.Inner q) : (l.foldl g s).1.Inner q := by
  induction l generalizing s with
  | nil => exact h0
  | cons a l ih => exact ih (h s.1 s.2 a h0)
@[simp] theorem State.setReg_inner {s : State} (a : Nat) (v : Word) (h : s.Inner q) : (s.setReg a v).Inner q := h
theorem inner_if {c : Prop} [Decidable c] {s t : State} (hs : s.Inner q) (ht : t.Inner q) : (if c then s else t).Inner q := by
  split <;> assumption

@[simp] theorem State.count_inner {x0 : State} (x1 : ℕ) (x2 : ℕ) (hx0 : x0.Inner q) : (State.count x0 x1 x2).Inner q := by
  unfold State.count; simp +contextual (maxDischargeDepth := 30) [hx0]

@[simp] theorem State.setCore_inner {x0 : State} (x1 : ℕ) (x2 : Core) (hx0 : x0.Inner q) : (State.setCore x0 x1 x2).Inner q := by
  unfold State.setCore; simp +contextual (maxDischargeDepth := 30) [hx0]

@[simp] theorem State.modCore_inner {x0 : State} (x1 : ℕ) (x2 : Core → Core) (hx0 : x0.Inner q) : (State.modCore x0 x1 x2).Inner q := by
  unfold State.modCore; simp +contextual (maxDischargeDepth := 30) [hx0]

@[simp] theorem State.workCable_inner {x0 : State} (x1 : ℕ) (x2 : CableTile) (hx0 : x0.Inner q) : (State.workCable x0 x1 x2).Inner q := by
  unfold State.workCable; simp +contextual (maxDischargeDepth := 30) [hx0]

@[simp] theorem State.lrcStage_inner {x0 : State} (x1 : ℕ) (x2 : List ℕ) (x3 : ℕ) (x4 : ℕ) (x5 : ℕ) (x6 : ℕ) (x7 : Fmt) (x8 : ℕ) (x9 : ℕ) (hx0 : x0.Inner q) : (State.lrcStage x0 x1 x2 x3 x4 x5 x6 x7 x8 x9).Inner q := by
  unfold State.lrcStage; simp +contextual (maxDischargeDepth := 30) [hx0]

@[simp] theorem State.lrcClose_inner {x0 : State} (x1 : ℕ) (x2 : ℕ) (hx0 : x0.Inner q) : (State.lrcClose x0 x1 x2).Inner q := by
  unfold State.lrcClose; simp +contextual (maxDischargeDepth := 30) [hx0]

@[simp] theorem State.workLrc_inner {x0 : State} (x1 : ℕ) (x2 : LrcWork) (hx0 : x0.Inner q) : (State.workLrc x0 x1 x2).Inner q := by
  unfold State.workLrc; (repeat' split) <;> simp +contextual (maxDischargeDepth := 30) [hx0]

@[simp] theorem State.settle_inner {x0 : State} (x1 : ℕ) (hx0 : x0.Inner q) : (State.settle x0 x1).Inner q := by
  unfold State.settle; simp +contextual (maxDischargeDepth := 30) [hx0]

end Sys2Proof.Machine
end

