-- ==== Sys2Proof/Laws/KeptUnits.lean ====
section
/-! SUPPORT. Lemmas that the operations every unit shares, the cores, their front ends, the Sentinel and the rings keep the queue and a sound state. -/

-- Elaborated one after another: the package as one text holds thousands of lemmas, and each waiting one keeps a thread.
set_option Elab.async false

namespace Sys2Proof.Machine

variable {q : List Instr}

@[simp] theorem State.drawn_kept {x0 : State} (hx0 : x0.Kept q) : (State.drawn x0).Kept q := by
  unfold State.drawn; simp +contextual (maxDischargeDepth := 30) [hx0]

@[simp] theorem State.drewBytes_kept {x0 : State} (x1 : ℕ) (hx0 : x0.Kept q) : (State.drewBytes x0 x1).Kept q := by
  unfold State.drewBytes; simp +contextual (maxDischargeDepth := 30) [hx0]

@[simp] theorem State.setFld_kept {x0 : State} (x1 : ℕ) (x2 : BitField) (x3 : ℕ) (hx0 : x0.Kept q) : (State.setFld x0 x1 x2 x3).Kept q := by
  unfold State.setFld; simp +contextual (maxDischargeDepth := 30) [hx0]

@[simp] theorem State.count_kept {x0 : State} (x1 : ℕ) (x2 : ℕ) (hx0 : x0.Kept q) : (State.count x0 x1 x2).Kept q := by
  unfold State.count; simp +contextual (maxDischargeDepth := 30) [hx0]

@[simp] theorem State.drainResidues_kept {x0 : State} (hx0 : x0.Kept q) : (State.drainResidues x0).Kept q := by
  unfold State.drainResidues; simp +contextual (maxDischargeDepth := 30) [hx0]

@[simp] theorem State.countUnits_kept {x0 : State} (x1 : ℕ) (x2 : ℕ) (x3 : ℕ) (hx0 : x0.Kept q) : (State.countUnits x0 x1 x2 x3).Kept q := by
  unfold State.countUnits; simp +contextual (maxDischargeDepth := 30) [hx0]

@[simp] theorem State.countWork_kept {x0 : State} (x1) (x2) (x3) (hx0 : x0.Kept q) : (State.countWork x0 x1 x2 x3).Kept q := by
  unfold State.countWork; (repeat' split) <;> simp +contextual (maxDischargeDepth := 30) [hx0]

@[simp] theorem State.ran_kept {x0 : State} (x1 : ℕ) (hx0 : x0.Kept q) : (State.ran x0 x1).Kept q := by
  unfold State.ran; simp +contextual (maxDischargeDepth := 30) [hx0]

@[simp] theorem State.setPoison_kept {x0 : State} (x1 : ℕ) (x2 : Bool) (hx0 : x0.Kept q) : (State.setPoison x0 x1 x2).Kept q := by
  unfold State.setPoison; simp +contextual (maxDischargeDepth := 30) [hx0]

@[simp] theorem State.markDirty_kept {x0 : State} (x1 : ℕ) (hx0 : x0.Kept q) : (State.markDirty x0 x1).Kept q := by
  unfold State.markDirty; (repeat' split) <;> simp +contextual (maxDischargeDepth := 30) [hx0]

@[simp] theorem State.sealGranule_kept {x0 : State} (x1 : ℕ) (hx0 : x0.Kept q) : (State.sealGranule x0 x1).Kept q := by
  unfold State.sealGranule; (repeat' split) <;> simp +contextual (maxDischargeDepth := 30) [hx0]

@[simp] theorem State.unsealGranule_kept {x0 : State} (x1 : ℕ) (hx0 : x0.Kept q) : (State.unsealGranule x0 x1).Kept q := by
  unfold State.unsealGranule; simp +contextual (maxDischargeDepth := 30) [hx0]

@[simp] theorem State.touched_kept {x0 : State} (x1 : ℕ) (x2 : ℕ) (hx0 : x0.Kept q) : (State.touched x0 x1 x2).Kept q := by
  unfold State.touched; simp +contextual (maxDischargeDepth := 30) [hx0]

@[simp] theorem State.store_kept {x0 : State} (x1 : ℕ) (x2 : List Byte) (hx0 : x0.Kept q) : (State.store x0 x1 x2).Kept q := by
  unfold State.store; simp +contextual (maxDischargeDepth := 30) [hx0]

@[simp] theorem State.storeStored_kept {x0 : State} (x1 : ℕ) (x2 : List Byte) (hx0 : x0.Kept q) : (State.storeStored x0 x1 x2).Kept q := by
  unfold State.storeStored; simp +contextual (maxDischargeDepth := 30) [hx0]

@[simp] theorem State.storePoison_kept {x0 : State} (x1 : ℕ) (x2 : List Byte) (x3 : List Bool) (hx0 : x0.Kept q) : (State.storePoison x0 x1 x2 x3).Kept q := by
  unfold State.storePoison; simp +contextual (maxDischargeDepth := 30) [hx0]

@[simp] theorem State.storeCopied_kept {x0 : State} (x1 : ℕ) (x2 : List Byte) (x3 : List Bool) (hx0 : x0.Kept q) : (State.storeCopied x0 x1 x2 x3).Kept q := by
  unfold State.storeCopied; simp +contextual (maxDischargeDepth := 30) [hx0]

@[simp] theorem State.copyBytes_kept {x0 : State} (x1 : ℕ) (x2 : ℕ) (x3 : ℕ) (hx0 : x0.Kept q) : (State.copyBytes x0 x1 x2 x3).Kept q := by
  unfold State.copyBytes; simp +contextual (maxDischargeDepth := 30) [hx0]

@[simp] theorem State.setCore_kept {x0 : State} (x1 : ℕ) (x2 : Core) (hx0 : x0.Kept q) : (State.setCore x0 x1 x2).Kept q := by
  unfold State.setCore; simp +contextual (maxDischargeDepth := 30) [hx0]

@[simp] theorem State.modCore_kept {x0 : State} (x1 : ℕ) (x2 : Core → Core) (hx0 : x0.Kept q) : (State.modCore x0 x1 x2).Kept q := by
  unfold State.modCore; simp +contextual (maxDischargeDepth := 30) [hx0]

@[simp] theorem State.setCtxState_kept {x0 : State} (x1 : ℕ) (x2 : ℕ) (hx0 : x0.Kept q) : (State.setCtxState x0 x1 x2).Kept q := by
  unfold State.setCtxState; simp +contextual (maxDischargeDepth := 30) [hx0]

@[simp] theorem State.setToken_kept {x0 : State} (x1 : ℕ) (x2 : ℕ) (x3 : ℕ) (x4 : ℕ) (hx0 : x0.Kept q) : (State.setToken x0 x1 x2 x3 x4).Kept q := by
  unfold State.setToken; simp +contextual (maxDischargeDepth := 30) [hx0]

@[simp] theorem State.setSide_kept {x0 : State} (x1 : ℕ) (x2 : ℕ) (x3 : SideState) (hx0 : x0.Kept q) : (State.setSide x0 x1 x2 x3).Kept q := by
  unfold State.setSide; simp +contextual (maxDischargeDepth := 30) [hx0]

@[simp] theorem State.addNonFinite_kept {x0 : State} (x1 : ℕ) (x2 : ℕ) (hx0 : x0.Kept q) : (State.addNonFinite x0 x1 x2).Kept q := by
  unfold State.addNonFinite; simp +contextual (maxDischargeDepth := 30) [hx0]

@[simp] theorem State.firmwareCopy_kept {x0 : State} (x1 : ℕ) (x2 : ℕ) (x3 : ℕ) (hx0 : x0.Kept q) : (State.firmwareCopy x0 x1 x2 x3).Kept q := by
  unfold State.firmwareCopy; simp +contextual (maxDischargeDepth := 30) [hx0]

@[simp] theorem State.firmwareStore_kept {x0 : State} (x1) (x2) (hx0 : x0.Kept q) : (State.firmwareStore x0 x1 x2).Kept q := by
  unfold State.firmwareStore; (repeat' split) <;> simp +contextual (maxDischargeDepth := 30) [hx0]

@[simp] theorem State.addFsr_kept {x0 : State} (x1 : ℕ) (x2 : ℕ) (x3 : BitVec 32) (x4 : BitVec 64) (x5 : BitVec 64) (x6 : BitVec 32) (x7 : SMap ℕ) (x8 : List Byte) (hx0 : x0.Kept q) : (State.addFsr x0 x1 x2 x3 x4 x5 x6 x7 x8).Kept q := by
  unfold State.addFsr; simp +contextual (maxDischargeDepth := 30) [hx0]

@[simp] theorem State.dueReset_kept {x0 : State} (x1 : ℕ) (x2 : ℕ) (x3 : ℕ) (hx0 : x0.Kept q) : (State.dueReset x0 x1 x2 x3).Kept q := by
  unfold State.dueReset; simp +contextual (maxDischargeDepth := 30) [hx0]

@[simp] theorem State.writeLog_kept {x0 : State} (x1 : Report) (hx0 : x0.Kept q) : (State.writeLog x0 x1).1.Kept q := by
  unfold State.writeLog; simp only []; (repeat' split) <;> simp_all +contextual (maxDischargeDepth := 30) [hx0]

@[simp] theorem State.tally_kept {x0 : State} (x1 : ℕ) (hx0 : x0.Kept q) : (State.tally x0 x1).Kept q := by
  unfold State.tally; (repeat' split) <;> simp +contextual (maxDischargeDepth := 30) [hx0]

@[simp] theorem State.strictReset_kept {x0 : State} (hx0 : x0.Kept q) : (State.strictReset x0).Kept q := by
  unfold State.strictReset; (repeat' split) <;> simp +contextual (maxDischargeDepth := 30) [hx0]

@[simp] theorem State.report_kept {x0 : State} (x1 : Report) (hx0 : x0.Kept q) : (State.report x0 x1).Kept q := by
  unfold State.report; simp +contextual (maxDischargeDepth := 30) [hx0]

@[simp] theorem State.trustDisagrees_kept {x0 : State} (hx0 : x0.Kept q) : (State.trustDisagrees x0).Kept q := by
  unfold State.trustDisagrees; simp +contextual (maxDischargeDepth := 30) [hx0]

@[simp] theorem State.setPort_kept {x0 : State} (x1 : ℕ) (x2 : Port) (hx0 : x0.Kept q) : (State.setPort x0 x1 x2).Kept q := by
  unfold State.setPort; simp +contextual (maxDischargeDepth := 30) [hx0]

@[simp] theorem State.chooseMid_kept {s : State} (a b side k) (h : s.Kept q) : (s.chooseMid a b side k).1.Kept q := by
  induction k generalizing s with
  | zero => exact h
  | succ k ih =>
    have hd := State.drawn_kept h
    simp only [State.chooseMid]
    split
    · exact hd
    · exact ih hd

@[simp] theorem State.withMid_kept {s : State} (p) (h : s.Kept q) : (s.withMid p).1.Kept q := by
  unfold State.withMid
  simp only []
  split
  · have hm := State.chooseMid_kept p.src p.dst p.dstSide 4 h
    split <;> simp_all
  · exact h

@[simp] theorem State.injectBy_kept {x0 : State} (x1 : Packet) (x2 : Option ℕ) (hx0 : x0.Kept q) : (State.injectBy x0 x1 x2).Kept q := by
  unfold State.injectBy; simp +contextual (maxDischargeDepth := 30) [hx0]

@[simp] theorem State.inject_kept {x0 : State} (x1 : Packet) (hx0 : x0.Kept q) : (State.inject x0 x1).Kept q := by
  unfold State.inject; simp +contextual (maxDischargeDepth := 30) [hx0]

@[simp] theorem State.queueOn_kept {x0 : State} (x1 : ℕ) (x2 : Packet) (hx0 : x0.Kept q) : (State.queueOn x0 x1 x2).Kept q := by
  unfold State.queueOn; simp +contextual (maxDischargeDepth := 30) [hx0]

@[simp] theorem State.numbered_kept {x0 : State} (x1 : Packet) (x2 : Origin) (x3 : Owner) (x4 : Option (BitVec 15)) (x5 : ℕ) (hx0 : x0.Kept q) : (State.numbered x0 x1 x2 x3 x4 x5).1.Kept q := by
  unfold State.numbered; simp only []; (repeat' split) <;> simp_all +contextual (maxDischargeDepth := 30) [hx0]

@[simp] theorem State.launch_kept {x0 : State} (x1 : Packet) (x2 : Option ℕ) (hx0 : x0.Kept q) : (State.launch x0 x1 x2).Kept q := by
  unfold State.launch; simp only []; (repeat' split) <;> simp_all +contextual (maxDischargeDepth := 30) [hx0]

@[simp] theorem State.sendHeld_kept {x0 : State} (x1 : HeldPacket) (hx0 : x0.Kept q) : (State.sendHeld x0 x1).Kept q := by
  unfold State.sendHeld; simp +contextual (maxDischargeDepth := 30) [hx0]

@[simp] theorem State.sendReliable_kept {x0 : State} (x1 : Packet) (x2 : Origin) (x3 : Owner) (x4 : Option (BitVec 15)) (x5 : Option ℕ) (hx0 : x0.Kept q) : (State.sendReliable x0 x1 x2 x3 x4 x5).Kept q := by
  unfold State.sendReliable; simp +contextual (maxDischargeDepth := 30) [hx0]

@[simp] theorem State.releaseHeld_kept {x0 : State} (hx0 : x0.Kept q) : (State.releaseHeld x0).Kept q := by
  unfold State.releaseHeld; simp +contextual (maxDischargeDepth := 30) [hx0]

theorem State.takeLink_kept {s : State} {f : Packet → Bool} {r} (h : s.Kept q) (e : s.takeLink f = some r) : r.2.Kept q := by
  unfold State.takeLink at e
  split at e
  · simp at e
  · cases e; simpa [kept_update] using h

@[simp] theorem State.floodFault_kept {x0 : State} (x1 : BitVec 64) (x2 : Option ℕ) (hx0 : x0.Kept q) : (State.floodFault x0 x1 x2).1.Kept q := by
  unfold State.floodFault; simp +contextual (maxDischargeDepth := 30) [hx0]

@[simp] theorem State.ownFault_kept {x0 : State} (x1 : ℕ) (x2 : BitVec 15) (x3 : ℕ) (hx0 : x0.Kept q) : (State.ownFault x0 x1 x2 x3).Kept q := by
  unfold State.ownFault; simp +contextual (maxDischargeDepth := 30) [hx0]

@[simp] theorem State.floodCtrl_kept {x0 : State} (x1 : List Byte) (x2 : Option ℕ) (hx0 : x0.Kept q) : (State.floodCtrl x0 x1 x2).Kept q := by
  unfold State.floodCtrl; simp +contextual (maxDischargeDepth := 30) [hx0]

@[simp] theorem State.sendCtrl_kept {x0 : State} (x1 : BitVec 15) (x2 : BitVec 8) (x3 : BitVec 8) (x4 : List Byte) (hx0 : x0.Kept q) : (State.sendCtrl x0 x1 x2 x3 x4).Kept q := by
  unfold State.sendCtrl; simp +contextual (maxDischargeDepth := 30) [hx0]

@[simp] theorem State.setStepWord_kept {x0 : State} (x1 : ℕ) (x2 : Word) (hx0 : x0.Kept q) : (State.setStepWord x0 x1 x2).Kept q := by
  unfold State.setStepWord; simp +contextual (maxDischargeDepth := 30) [hx0]

@[simp] theorem State.setStepField_kept {x0 : State} (x1 : BitVec 32) (x2 : BitField) (x3 : ℕ) (hx0 : x0.Kept q) : (State.setStepField x0 x1 x2 x3).Kept q := by
  unfold State.setStepField; simp +contextual (maxDischargeDepth := 30) [hx0]

@[simp] theorem State.armEntry_kept {x0 : State} (x1 : ℕ) (x2 : ℕ) (x3 : ℕ) (x4 : ℕ) (x5 : ℕ) (x6 : Course) (x7 : ℕ) (hx0 : x0.Kept q) : (State.armEntry x0 x1 x2 x3 x4 x5 x6 x7).Kept q := by
  unfold State.armEntry; simp +contextual (maxDischargeDepth := 30) [hx0]

@[simp] theorem State.armSoon_kept {x0 : State} (x1 : ℕ) (x2 : ℕ) (x3 : ℕ) (x4 : ℕ) (x5 : ℕ) (x6 : Course) (x7 : ℕ) (hx0 : x0.Kept q) : (State.armSoon x0 x1 x2 x3 x4 x5 x6 x7).Kept q := by
  unfold State.armSoon; simp +contextual (maxDischargeDepth := 30) [hx0]

@[simp] theorem State.armByUnit_kept {x0 : State} (x1 : UnitArm) (hx0 : x0.Kept q) : (State.armByUnit x0 x1).Kept q := by
  unfold State.armByUnit; simp [hx0]
@[simp] theorem State.takeEntry_kept {x0 : State} (x1 : UnitArm) (hx0 : x0.Kept q) : (State.takeEntry x0 x1).Kept q := by
  unfold State.takeEntry; (repeat' split) <;> simp [hx0]
@[simp] theorem State.takeEntries_kept {x0 : State} (hx0 : x0.Kept q) : (State.takeEntries x0).Kept q := by
  unfold State.takeEntries; exact foldl_kept (by simp [hx0]) fun t a h => State.takeEntry_kept a h
@[simp] theorem State.disarm_kept {x0 : State} (x1 : ℕ) (x2 : ℕ) (hx0 : x0.Kept q) : (State.disarm x0 x1 x2).Kept q := by
  have h := State.setFld_kept (evA x1 x2) Fld.tbPeventAArmed 0 hx0
  exact ⟨h.1, h.2.1, h.2.2.1, h.2.2.2⟩

@[simp] theorem State.setSlotState_kept {x0 : State} (x1 : ℕ) (x2 : ℕ) (hx0 : x0.Kept q) : (State.setSlotState x0 x1 x2).Kept q := by
  unfold State.setSlotState; simp +contextual (maxDischargeDepth := 30) [hx0]

@[simp] theorem State.buddyWrite_kept {x0 : State} (x1 : ℕ) (x2 : List Byte) (x3 : ℕ) (hx0 : x0.Kept q) : (State.buddyWrite x0 x1 x2 x3).Kept q := by
  unfold State.buddyWrite; simp +contextual (maxDischargeDepth := 30) [hx0]

@[simp] theorem State.mapDirty_kept {x0 : State} (x1 : ℕ → Dirty → Dirty) (hx0 : x0.Kept q) : (State.mapDirty x0 x1).Kept q := by
  unfold State.mapDirty; simp +contextual (maxDischargeDepth := 30) [hx0]

@[simp] theorem State.clearOutgoing_kept {x0 : State} (hx0 : x0.Kept q) : (State.clearOutgoing x0).Kept q := by
  unfold State.clearOutgoing; simp +contextual (maxDischargeDepth := 30) [hx0]

@[simp] theorem State.swapBitmaps_kept {x0 : State} (hx0 : x0.Kept q) : (State.swapBitmaps x0).Kept q := by
  unfold State.swapBitmaps; simp +contextual (maxDischargeDepth := 30) [hx0]

@[simp] theorem State.passMarks_kept {x0 : State} (x1 : Cut) (hx0 : x0.Kept q) : (State.passMarks x0 x1).Kept q := by
  unfold State.passMarks; (repeat' split) <;> simp +contextual (maxDischargeDepth := 30) [hx0]

@[simp] theorem State.keepMarks_kept {x0 : State} (hx0 : x0.Kept q) : (State.keepMarks x0).Kept q := by
  unfold State.keepMarks; simp +contextual (maxDischargeDepth := 30) [hx0]

@[simp] theorem State.fillActive_kept {x0 : State} (x1 : ℕ) (hx0 : x0.Kept q) : (State.fillActive x0 x1).Kept q := by
  unfold State.fillActive; simp +contextual (maxDischargeDepth := 30) [hx0]

@[simp] theorem State.fillBitmaps_kept {x0 : State} (hx0 : x0.Kept q) : (State.fillBitmaps x0).Kept q := by
  unfold State.fillBitmaps; simp +contextual (maxDischargeDepth := 30) [hx0]

@[simp] theorem State.putHeader_kept {x0 : State} (x1 : ℕ) (x2 : ℕ) (x3 : ℕ) (x4 : ℕ) (hx0 : x0.Kept q) : (State.putHeader x0 x1 x2 x3 x4).Kept q := by
  unfold State.putHeader; simp +contextual (maxDischargeDepth := 30) [hx0]

@[simp] theorem State.tear_kept {x0 : State} (x1 : BitVec 32) (hx0 : x0.Kept q) : (State.tear x0 x1).Kept q := by
  unfold State.tear; (repeat' split) <;> simp +contextual (maxDischargeDepth := 30) [hx0]

@[simp] theorem State.tellTears_kept {x0 : State} (hx0 : x0.Kept q) : (State.tellTears x0).Kept q := by
  unfold State.tellTears; (repeat' split) <;> simp +contextual (maxDischargeDepth := 30) [hx0]

@[simp] theorem State.dropDue_kept {x0 : State} (hx0 : x0.Kept q) : (State.dropDue x0).Kept q := by
  unfold State.dropDue; simp +contextual (maxDischargeDepth := 30) [hx0]

@[simp] theorem State.tearAll_kept {x0 : State} (hx0 : x0.Kept q) : (State.tearAll x0).Kept q := by
  unfold State.tearAll; simp +contextual (maxDischargeDepth := 30) [hx0]

@[simp] theorem State.rememberOrigin_kept {x0 : State} (x1 : BitVec 15) (x2 : BitVec 16) (hx0 : x0.Kept q) : (State.rememberOrigin x0 x1 x2).Kept q := by
  unfold State.rememberOrigin; simp +contextual (maxDischargeDepth := 30) [hx0]

@[simp] theorem State.enterAborted_kept {x0 : State} (x1 : ℕ) (x2 : BitVec 16) (x3 : BitVec 32) (hx0 : x0.Kept q) : (State.enterAborted x0 x1 x2 x3).Kept q := by
  unfold State.enterAborted; simp +contextual (maxDischargeDepth := 30) [hx0]

@[simp] theorem State.abortStep_kept {x0 : State} (x1 : ℕ) (x2 : BitVec 32) (hx0 : x0.Kept q) : (State.abortStep x0 x1 x2).Kept q := by
  unfold State.abortStep; simp +contextual (maxDischargeDepth := 30) [hx0]

@[simp] theorem State.putFault_kept {x0 : State} (x1 : ℕ) (x2 : Word) (hx0 : x0.Kept q) : (State.putFault x0 x1 x2).Kept q := by
  unfold State.putFault; simp +contextual (maxDischargeDepth := 30) [hx0]

@[simp] theorem State.faultContext_kept {x0 : State} (x1 : ℕ) (x2 : CtxFaultClass) (x3 : FaultSite) (x4 : Report) (hx0 : x0.Kept q) : (State.faultContext x0 x1 x2 x3 x4).Kept q := by
  unfold State.faultContext; simp +contextual (maxDischargeDepth := 30) [hx0]

@[simp] theorem State.contextFault_kept {x0 : State} (x1 : ℕ) (x2 : CtxFaultClass) (x3 : FaultSite) (x4 : ℕ) (hx0 : x0.Kept q) : (State.contextFault x0 x1 x2 x3 x4).Kept q := by
  unfold State.contextFault; simp +contextual (maxDischargeDepth := 30) [hx0]

@[simp] theorem State.stateParity_kept {x0 : State} (x1 : ℕ) (x2 : ℕ) (x3 : BitVec 32) (x4 : BitVec 128) (hx0 : x0.Kept q) : (State.stateParity x0 x1 x2 x3 x4).Kept q := by
  unfold State.stateParity; simp +contextual (maxDischargeDepth := 30) [hx0]

@[simp] theorem State.raiseToken_kept {x0 : State} (x1 : ℕ) (x2 : ℕ) (x3 : ℕ) (x4 : ℕ) (x5 : FaultSite) (hx0 : x0.Kept q) : (State.raiseToken x0 x1 x2 x3 x4 x5).Kept q := by
  unfold State.raiseToken; simp +contextual (maxDischargeDepth := 30) [hx0]

@[simp] theorem State.issuing_kept {x0 : State} (x1 : ℕ) (x2 : ℕ) (x3 : Queue) (x4 : QEntry) (hx0 : x0.Kept q) : (State.issuing x0 x1 x2 x3 x4).Kept q := by
  unfold State.issuing; simp +contextual (maxDischargeDepth := 30) [hx0]

@[simp] theorem State.haltOn_kept {x0 : State} (x1 : ℕ) (x2 : ℕ) (hx0 : x0.Kept q) : (State.haltOn x0 x1 x2).Kept q := by
  unfold State.haltOn; simp +contextual (maxDischargeDepth := 30) [hx0]

@[simp] theorem State.haltIfDry_kept {x0 : State} (x1 : ℕ) (x2 : ℕ) (hx0 : x0.Kept q) : (State.haltIfDry x0 x1 x2).Kept q := by
  unfold State.haltIfDry; (repeat' split) <;> simp +contextual (maxDischargeDepth := 30) [hx0]

@[simp] theorem State.raisedAtIssue_kept {x0 : State} (x1 : ℕ) (x2 : ℕ) (x3 : QEntry) (hx0 : x0.Kept q) : (State.raisedAtIssue x0 x1 x2 x3).Kept q := by
  unfold State.raisedAtIssue; simp +contextual (maxDischargeDepth := 30) [hx0]

@[simp] theorem State.issue_kept {s : State} (c x k e) (f : State → AtIssue) (h : s.Kept q) (hf : ∀ t, t.Kept q → keptIssue q (f t)) : (s.issue c x k e f).Kept q := by
  have h1 := hf _ (State.issuing_kept c x k e h)
  unfold State.issue
  split
  · exact State.contextFault_kept _ _ _ _ (State.modCore_kept _ _ h)
  · next t heq =>
    rw [heq] at h1
    exact State.raisedAtIssue_kept _ _ _ h1

@[simp] theorem execIssue_kept (k op f c) {s : State} (h : s.Kept q) (hf : ∀ c x e t, t.Kept q → keptIssue q (f c x e t)) : keptOutcome q (execIssue k op f c s) := by
  unfold execIssue
  split
  · exact h
  · exact State.issue_kept _ _ _ _ _ h (hf _ _ _)

@[simp] theorem State.checked_kept {x0 : State} (x1 : ℕ) (x2 : ℕ) (x3 : List (ℕ × ℕ)) (x4 : List (ℕ × ℕ)) (x5 : List (ℕ × ℕ)) {x6 : State} (hx0 : x0.Kept q) (hx6 : x6.Kept q) : keptIssue q (State.checked x0 x1 x2 x3 x4 x5 x6) := by
  unfold State.checked; (repeat' split) <;> simp +contextual (maxDischargeDepth := 30) [hx0, hx6]

@[simp] theorem firstFault_kept (l) {r : AtIssue} (h : keptIssue q r) : keptIssue q (firstFault l r) := by
  unfold firstFault
  split
  · trivial
  · exact h

@[simp] theorem State.setLstep_kept {x0 : State} (x1 : ℕ) (x2 : ℕ) (hx0 : x0.Kept q) : (State.setLstep x0 x1 x2).Kept q := by
  unfold State.setLstep; simp +contextual (maxDischargeDepth := 30) [hx0]

@[simp] theorem State.keepForewarning_kept {x0 : State} (x1) (x2) (hx0 : x0.Kept q) : (State.keepForewarning x0 x1 x2).Kept q := by
  unfold State.keepForewarning; (repeat' split) <;> simp +contextual (maxDischargeDepth := 30) [hx0]

@[simp] theorem State.showForewarning_kept {x0 : State} (x1 : ℕ) (x2 : Bool) (x3 : ℕ) (x4 : Course) (hx0 : x0.Kept q) : (State.showForewarning x0 x1 x2 x3 x4).Kept q := by
  unfold State.showForewarning; simp +contextual (maxDischargeDepth := 30) [hx0]

@[simp] theorem State.clearLstep_kept {x0 : State} (x1 : ℕ) (hx0 : x0.Kept q) : (State.clearLstep x0 x1).Kept q := by
  unfold State.clearLstep; simp +contextual (maxDischargeDepth := 30) [hx0]

@[simp] theorem State.gapEnds_kept {x0 : State} (x1 : ℕ) (hx0 : x0.Kept q) : (State.gapEnds x0 x1).Kept q := by
  unfold State.gapEnds; simp only []; (repeat' split) <;> simp_all +contextual (maxDischargeDepth := 30) [hx0]

@[simp] theorem State.freeStream_kept {x0 : State} (x1 : ℕ) (hx0 : x0.Kept q) : (State.freeStream x0 x1).Kept q := by
  unfold State.freeStream; simp +contextual (maxDischargeDepth := 30) [hx0]

@[simp] theorem State.streamCycle_kept {x0 : State} (x1 : ℕ) (hx0 : x0.Kept q) : (State.streamCycle x0 x1).Kept q := by
  unfold State.streamCycle; simp +contextual (maxDischargeDepth := 30) [hx0]

@[simp] theorem State.passStream_kept {x0 : State} (x1 : ℕ) (hx0 : x0.Kept q) : (State.passStream x0 x1).Kept q := by
  unfold State.passStream; simp +contextual (maxDischargeDepth := 30) [hx0]

@[simp] theorem State.grantInFull_kept {x0 : State} (x1 : ℕ) (hx0 : x0.Kept q) : (State.grantInFull x0 x1).Kept q := by
  unfold State.grantInFull; simp +contextual (maxDischargeDepth := 30) [hx0]

@[simp] theorem State.eventCourses_kept {x0 : State} (hx0 : x0.Kept q) : (State.eventCourses x0).Kept q := by
  unfold State.eventCourses; simp +contextual (maxDischargeDepth := 30) [hx0]

@[simp] theorem State.putRecord_kept {x0 : State} (x1 : ℕ) (x2 : ℕ) (x3 : GaugeRecord) (hx0 : x0.Kept q) : (State.putRecord x0 x1 x2 x3).Kept q := by
  unfold State.putRecord; simp +contextual (maxDischargeDepth := 30) [hx0]

@[simp] theorem State.putElem_kept {x0 : State} (x1 : ℕ) (x2 : ℕ) (x3 : Fmt) (x4 : ℕ) (x5 : ℕ) (hx0 : x0.Kept q) : (State.putElem x0 x1 x2 x3 x4 x5).Kept q := by
  unfold State.putElem; simp +contextual (maxDischargeDepth := 30) [hx0]

@[simp] theorem State.gaugeWrite_kept {x0 : State} (x1 : ℕ) (x2 : GaugeJob) (x3 : List ℕ) (x4 : List (List Converted)) (hx0 : x0.Kept q) : (State.gaugeWrite x0 x1 x2 x3 x4).Kept q := by
  unfold State.gaugeWrite; simp +contextual (maxDischargeDepth := 30) [hx0]

@[simp] theorem State.writeSide_kept {x0 : State} (x1 : ℕ) (x2 : ℕ) (x3 : GaugeJob) (x4 : List (List Num)) (x5 : ℕ) (hx0 : x0.Kept q) : (State.writeSide x0 x1 x2 x3 x4 x5).Kept q := by
  unfold State.writeSide; simp +contextual (maxDischargeDepth := 30) [hx0]

@[simp] theorem State.writeFallback_kept {x0 : State} (x1 : ℕ) (x2 : GaugeJob) (x3 : List ℕ) (x4 : List (List Converted)) (x5 : ℕ) (hx0 : x0.Kept q) : (State.writeFallback x0 x1 x2 x3 x4 x5).Kept q := by
  unfold State.writeFallback; simp +contextual (maxDischargeDepth := 30) [hx0]

@[simp] theorem State.writeResidual_kept {x0 : State} (x1 : ℕ) (x2 : GaugeJob) (x3 : List ℕ) (x4 : List (List Num)) (x5 : List (List Converted)) (hx0 : x0.Kept q) : (State.writeResidual x0 x1 x2 x3 x4 x5).Kept q := by
  unfold State.writeResidual; simp +contextual (maxDischargeDepth := 30) [hx0]

@[simp] theorem State.findOutliers_kept {x0 : State} (x1 : GaugeJob) (x2 : List (List Num)) (hx0 : x0.Kept q) : (State.findOutliers x0 x1 x2).Kept q := by
  unfold State.findOutliers; simp +contextual (maxDischargeDepth := 30) [hx0]

@[simp] theorem State.gaugeCounts_kept {x0 : State} (x1 : ℕ) (x2 : ℕ) (x3 : ℕ) (x4 : ℕ) (hx0 : x0.Kept q) : (State.gaugeCounts x0 x1 x2 x3 x4).Kept q := by
  unfold State.gaugeCounts; simp +contextual (maxDischargeDepth := 30) [hx0]

@[simp] theorem State.quantEffect_kept {x0 : State} (x1 : ℕ) (x2 : ℕ) (x3 : GaugeJob) (hx0 : x0.Kept q) : (State.quantEffect x0 x1 x2 x3).Kept q := by
  unfold State.quantEffect; simp +contextual (maxDischargeDepth := 30) [hx0]

@[simp] theorem State.prepassEffect_kept {x0 : State} (x1 : ℕ) (x2 : ℕ) (x3 : GaugeJob) (hx0 : x0.Kept q) : (State.prepassEffect x0 x1 x2 x3).Kept q := by
  unfold State.prepassEffect; simp +contextual (maxDischargeDepth := 30) [hx0]

@[simp] theorem gQuant_kept (x0 : ℕ) (x1 : ℕ) (x2 : QEntry) {x3 : State} (hx3 : x3.Kept q) : keptIssue q (gQuant x0 x1 x2 x3) := by
  unfold gQuant; simp +contextual (maxDischargeDepth := 30) [hx3]

@[simp] theorem gPrepass_kept (x0 : ℕ) (x1 : ℕ) (x2 : QEntry) {x3 : State} (hx3 : x3.Kept q) : keptIssue q (gPrepass x0 x1 x2 x3) := by
  unfold gPrepass; simp +contextual (maxDischargeDepth := 30) [hx3]

@[simp] theorem execGQuant_kept (x0 : Fin 160) {x1 : State} (hx1 : x1.Kept q) : keptOutcome q (execGQuant x0 x1) := by
  unfold execGQuant; simp +contextual (maxDischargeDepth := 30) [hx1]

@[simp] theorem execGPrepass_kept (x0 : Fin 160) {x1 : State} (hx1 : x1.Kept q) : keptOutcome q (execGPrepass x0 x1) := by
  unfold execGPrepass; simp +contextual (maxDischargeDepth := 30) [hx1]

@[simp] theorem State.workCable_kept {x0 : State} (x1 : ℕ) (x2 : CableTile) (hx0 : x0.Kept q) : (State.workCable x0 x1 x2).Kept q := by
  unfold State.workCable; simp +contextual (maxDischargeDepth := 30) [hx0]

@[simp] theorem State.lrcStage_kept {x0 : State} (x1 : ℕ) (x2 : List ℕ) (x3 : ℕ) (x4 : ℕ) (x5 : ℕ) (x6 : ℕ) (x7 : Fmt) (x8 : ℕ) (x9 : ℕ) (hx0 : x0.Kept q) : (State.lrcStage x0 x1 x2 x3 x4 x5 x6 x7 x8 x9).Kept q := by
  unfold State.lrcStage; simp +contextual (maxDischargeDepth := 30) [hx0]

@[simp] theorem State.lrcClose_kept {x0 : State} (x1 : ℕ) (x2 : ℕ) (hx0 : x0.Kept q) : (State.lrcClose x0 x1 x2).Kept q := by
  unfold State.lrcClose; simp +contextual (maxDischargeDepth := 30) [hx0]

@[simp] theorem State.workLrc_kept {x0 : State} (x1 : ℕ) (x2 : LrcWork) (hx0 : x0.Kept q) : (State.workLrc x0 x1 x2).Kept q := by
  unfold State.workLrc; (repeat' split) <;> simp +contextual (maxDischargeDepth := 30) [hx0]

@[simp] theorem State.settle_kept {x0 : State} (x1 : ℕ) (hx0 : x0.Kept q) : (State.settle x0 x1).Kept q := by
  unfold State.settle; simp +contextual (maxDischargeDepth := 30) [hx0]

@[simp] theorem State.promoteArray_kept {x0 : State} (x1 : ℕ) (x2 : ℕ) (hx0 : x0.Kept q) : (State.promoteArray x0 x1 x2).Kept q := by
  unfold State.promoteArray; simp +contextual (maxDischargeDepth := 30) [hx0]

@[simp] theorem State.endRun_kept {x0 : State} (x1 : ℕ) (x2 : ℕ) (hx0 : x0.Kept q) : (State.endRun x0 x1 x2).Kept q := by
  unfold State.endRun; simp +contextual (maxDischargeDepth := 30) [hx0]

@[simp] theorem State.enterRun_kept {x0 : State} (x1 : ℕ) (x2 : ℕ) (x3 : IWord) (hx0 : x0.Kept q) : (State.enterRun x0 x1 x2 x3).Kept q := by
  unfold State.enterRun; simp +contextual (maxDischargeDepth := 30) [hx0]

@[simp] theorem State.cableStep_kept {x0 : State} (x1) (hx0 : x0.Kept q) : (State.cableStep x0 x1).Kept q := by
  unfold State.cableStep; (repeat' split) <;> simp +contextual (maxDischargeDepth := 30) [hx0]

@[simp] theorem State.lrcStep_kept {x0 : State} (x1) (hx0 : x0.Kept q) : (State.lrcStep x0 x1).Kept q := by
  unfold State.lrcStep; (repeat' split) <;> simp +contextual (maxDischargeDepth := 30) [hx0]

@[simp] theorem State.endSideWork_kept {x0 : State} (x1) (hx0 : x0.Kept q) : (State.endSideWork x0 x1).Kept q := by
  unfold State.endSideWork; (repeat' split) <;> simp +contextual (maxDischargeDepth := 30) [hx0]

@[simp] theorem State.requestSwitch_kept {x0 : State} (x1 : ℕ) (x2 : SwitchReq) (hx0 : x0.Kept q) : (State.requestSwitch x0 x1 x2).Kept q := by
  unfold State.requestSwitch; simp +contextual (maxDischargeDepth := 30) [hx0]

@[simp] theorem State.saveContext_kept {x0 : State} (x1 : ℕ) (hx0 : x0.Kept q) : (State.saveContext x0 x1).Kept q := by
  unfold State.saveContext; simp only []; (repeat' split) <;> simp_all +contextual (maxDischargeDepth := 30) [hx0]

@[simp] theorem State.restoreContext_kept {x0 : State} (x1 : ℕ) (x2 : ℕ) (hx0 : x0.Kept q) : (State.restoreContext x0 x1 x2).Kept q := by
  unfold State.restoreContext; simp +contextual (maxDischargeDepth := 30) [hx0]

@[simp] theorem State.startFresh_kept {x0 : State} (x1 : ℕ) (x2 : ℕ) (hx0 : x0.Kept q) : (State.startFresh x0 x1 x2).Kept q := by
  unfold State.startFresh; simp +contextual (maxDischargeDepth := 30) [hx0]

@[simp] theorem State.bringIn_kept {x0 : State} (x1 : ℕ) (x2 : ℕ) (hx0 : x0.Kept q) : (State.bringIn x0 x1 x2).Kept q := by
  unfold State.bringIn; simp +contextual (maxDischargeDepth := 30) [hx0]

@[simp] theorem State.nextRequest_kept {x0 : State} (x1 : ℕ) (hx0 : x0.Kept q) : (State.nextRequest x0 x1).Kept q := by
  unfold State.nextRequest; simp +contextual (maxDischargeDepth := 30) [hx0]

@[simp] theorem State.doSwitch_kept {x0 : State} (x1 : ℕ) (x2 : SwitchReq) (hx0 : x0.Kept q) : (State.doSwitch x0 x1 x2).Kept q := by
  unfold State.doSwitch; (repeat' split) <;> simp +contextual (maxDischargeDepth := 30) [hx0]

@[simp] theorem State.enqueue_kept {x0 : State} (x1 : ℕ) (x2 : IWord) (hx0 : x0.Kept q) : (State.enqueue x0 x1 x2).Kept q := by
  unfold State.enqueue; simp +contextual (maxDischargeDepth := 30) [hx0]

@[simp] theorem execDispatch_kept (x0 : Fin 160) {x1 : State} (hx1 : x1.Kept q) : keptOutcome q (execDispatch x0 x1) := by
  unfold execDispatch; simp only []; (repeat' split) <;> simp_all +contextual (maxDischargeDepth := 30) [hx1]

@[simp] theorem execFront_kept (x0 : ℕ × ℕ) (x1 : IWord → Core → Core) (x2 : ℕ) {x3 : State} (hx3 : x3.Kept q) : keptOutcome q (execFront x0 x1 x2 x3) := by
  unfold execFront; (repeat' split) <;> simp +contextual (maxDischargeDepth := 30) [hx3]

@[simp] theorem execCSeti_kept (x0 : Fin 160) {x1 : State} (hx1 : x1.Kept q) : keptOutcome q (execCSeti x0 x1) := by
  unfold execCSeti; simp +contextual (maxDischargeDepth := 30) [hx1]

@[simp] theorem execCAddi_kept (x0 : Fin 160) {x1 : State} (hx1 : x1.Kept q) : keptOutcome q (execCAddi x0 x1) := by
  unfold execCAddi; simp +contextual (maxDischargeDepth := 30) [hx1]

@[simp] theorem execCLoop_kept (x0 : Fin 160) {x1 : State} (hx1 : x1.Kept q) : keptOutcome q (execCLoop x0 x1) := by
  unfold execCLoop; simp +contextual (maxDischargeDepth := 30) [hx1]

@[simp] theorem execCJump_kept (x0 : Fin 160) {x1 : State} (hx1 : x1.Kept q) : keptOutcome q (execCJump x0 x1) := by
  unfold execCJump; simp +contextual (maxDischargeDepth := 30) [hx1]

@[simp] theorem execCNop_kept (c) {s : State} (h : s.Kept q) : keptOutcome q (execCNop c s) := by
  exact execIssue_kept _ _ _ _ h (fun _ _ _ t ht => ht)

@[simp] theorem execCRaise_kept (c) {s : State} (h : s.Kept q) : keptOutcome q (execCRaise c s) := by
  exact execIssue_kept _ _ _ _ h (fun _ _ _ t ht => State.raiseToken_kept _ _ _ _ _ ht)

@[simp] theorem State.noteYield_kept {x0 : State} (x1 : ℕ) (x2 : ℕ) (hx0 : x0.Kept q) : (State.noteYield x0 x1 x2).Kept q := by
  unfold State.noteYield; (repeat' split) <;> simp +contextual (maxDischargeDepth := 30) [hx0]

@[simp] theorem execCYield_kept (c) {s : State} (h : s.Kept q) : keptOutcome q (execCYield c s) := by
  refine execIssue_kept _ _ _ _ h (fun _ _ _ t ht => ?_)
  simp only [keptIssue_done]
  split
  · exact State.requestSwitch_kept _ _ (State.noteYield_kept _ _ ht)
  · exact State.noteYield_kept _ _ ht

@[simp] theorem execCHalt_kept (c) {s : State} (h : s.Kept q) : keptOutcome q (execCHalt c s) := by
  exact execIssue_kept _ _ _ _ h (fun _ _ _ t ht => ht)

@[simp] theorem State.complete_kept {x0 : State} (x1 : ℕ) (x2 : ℕ) (x3 : Issued) (hx0 : x0.Kept q) : (State.complete x0 x1 x2 x3).Kept q := by
  unfold State.complete; (repeat' split) <;> simp +contextual (maxDischargeDepth := 30) [hx0]

@[simp] theorem execInstructionComplete_kept (x0 : Fin 160) (x1 : ℕ) (x2 : Bool) {x3 : State} (hx3 : x3.Kept q) : keptOutcome q (execInstructionComplete x0 x1 x2 x3) := by
  unfold execInstructionComplete; simp only []; (repeat' split) <;> simp_all +contextual (maxDischargeDepth := 30) [hx3]

@[simp] theorem execContextSelect_kept (x0 : Fin 160) {x1 : State} (hx1 : x1.Kept q) : keptOutcome q (execContextSelect x0 x1) := by
  unfold execContextSelect; simp +contextual (maxDischargeDepth := 30) [hx1]

@[simp] theorem execQuantumExpiry_kept (x0 : Fin 160) {x1 : State} (hx1 : x1.Kept q) : keptOutcome q (execQuantumExpiry x0 x1) := by
  unfold execQuantumExpiry; simp only []; (repeat' split) <;> simp_all +contextual (maxDischargeDepth := 30) [hx1]

@[simp] theorem execContextSaveRestore_kept (x0 : Fin 160) {x1 : State} (hx1 : x1.Kept q) : keptOutcome q (execContextSaveRestore x0 x1) := by
  unfold execContextSaveRestore; simp only []; (repeat' split) <;> simp_all +contextual (maxDischargeDepth := 30) [hx1]

@[simp] theorem execGapForewarning_kept (x0 : Fin 160) {x1 : State} (hx1 : x1.Kept q) : keptOutcome q (execGapForewarning x0 x1) := by
  unfold execGapForewarning; simp +contextual (maxDischargeDepth := 30) [hx1]

@[simp] theorem execTensionFall_kept (x0 : Fin 160) {x1 : State} (hx1 : x1.Kept q) : keptOutcome q (execTensionFall x0 x1) := by
  unfold execTensionFall; simp +contextual (maxDischargeDepth := 30) [hx1]

@[simp] theorem execTensionStepDown_kept (x0 : Fin 160) {x1 : State} (hx1 : x1.Kept q) : keptOutcome q (execTensionStepDown x0 x1) := by
  unfold execTensionStepDown; simp +contextual (maxDischargeDepth := 30) [hx1]

@[simp] theorem execStreamRampStep_kept (x0 : Fin 160) {x1 : State} (hx1 : x1.Kept q) : keptOutcome q (execStreamRampStep x0 x1) := by
  unfold execStreamRampStep; simp +contextual (maxDischargeDepth := 30) [hx1]

@[simp] theorem State.withdrawFalls_kept {x0 : State} (x1) (hx0 : x0.Kept q) : (State.withdrawFalls x0 x1).Kept q := by
  unfold State.withdrawFalls; (repeat' split) <;> simp +contextual (maxDischargeDepth := 30) [hx0]

@[simp] theorem execEventForewarning_kept (x0 : Fin 4) {x1 : State} (hx1 : x1.Kept q) : keptOutcome q (execEventForewarning x0 x1) := by
  unfold execEventForewarning; (repeat' split) <;> simp +contextual (maxDischargeDepth := 30) [hx1]

@[simp] theorem execLstepClear_kept (x0 : Fin 4) {x1 : State} (hx1 : x1.Kept q) : keptOutcome q (execLstepClear x0 x1) := by
  unfold execLstepClear; (repeat' split) <;> simp +contextual (maxDischargeDepth := 30) [hx1]

@[simp] theorem State.loseAt_kept {x0 : State} (x1 : ℕ) (hx0 : x0.Kept q) : (State.loseAt x0 x1).Kept q := by
  unfold State.loseAt; (repeat' split) <;> simp +contextual (maxDischargeDepth := 30) [hx0]

@[simp] theorem State.noticeFault_kept {s : State} (b r) (h : s.Kept q) : (s.noticeFault b r).Kept q := by
  unfold State.noticeFault
  refine foldl_kept ?_ (fun t x ht => ?_)
  · simp +contextual (maxDischargeDepth := 30) [h]
  · split <;> simp +contextual (maxDischargeDepth := 30) [ht]

@[simp] theorem State.takeFault_kept {s : State} (r e) (h : s.Kept q) : (s.takeFault r e).Kept q := by
  unfold State.takeFault
  have hf := State.floodFault_kept r e h
  split
  · next heq => rw [heq] at hf; exact State.noticeFault_kept _ _ hf
  · next heq => rw [heq] at hf; exact hf

@[simp] theorem State.findFault_kept {x0 : State} (x1 : ℕ) (x2 : BitVec 15) (x3 : ℕ) (hx0 : x0.Kept q) : (State.findFault x0 x1 x2 x3).Kept q := by
  unfold State.findFault; simp +contextual (maxDischargeDepth := 30) [hx0]

@[simp] theorem State.showDue_kept {x0 : State} (x1 : ℕ) (x2 : Bool) (hx0 : x0.Kept q) : (State.showDue x0 x1 x2).Kept q := by
  unfold State.showDue; simp +contextual (maxDischargeDepth := 30) [hx0]

@[simp] theorem State.refreshDue_kept {x0 : State} (hx0 : x0.Kept q) : (State.refreshDue x0).Kept q := by
  unfold State.refreshDue; simp +contextual (maxDischargeDepth := 30) [hx0]

@[simp] theorem State.suspectChange_kept {x0 : State} (x1) (x2) (x3) (hx0 : x0.Kept q) : (State.suspectChange x0 x1 x2 x3).Kept q := by
  unfold State.suspectChange; (repeat' split) <;> simp +contextual (maxDischargeDepth := 30) [hx0]

@[simp] theorem State.entryGone_kept {x0 : State} (x1) (hx0 : x0.Kept q) : (State.entryGone x0 x1).Kept q := by
  unfold State.entryGone; (repeat' split) <;> simp +contextual (maxDischargeDepth := 30) [hx0]

@[simp] theorem State.suspect_kept {x0 : State} (x1) (x2) (x3) (hx0 : x0.Kept q) : (State.suspect x0 x1 x2 x3).Kept q := by
  unfold State.suspect; (repeat' split) <;> simp +contextual (maxDischargeDepth := 30) [hx0]

@[simp] theorem State.removeSuspect_kept {x0 : State} (x1 : ℕ) (hx0 : x0.Kept q) : (State.removeSuspect x0 x1).Kept q := by
  unfold State.removeSuspect; simp +contextual (maxDischargeDepth := 30) [hx0]

@[simp] theorem State.retire_kept {x0 : State} (hx0 : x0.Kept q) : (State.retire x0).Kept q := by
  unfold State.retire; simp +contextual (maxDischargeDepth := 30) [hx0]

@[simp] theorem State.unitFailed_kept {x0 : State} (x1 : BitVec 32) (hx0 : x0.Kept q) : (State.unitFailed x0 x1).Kept q := by
  unfold State.unitFailed; (repeat' split) <;> simp +contextual (maxDischargeDepth := 30) [hx0]

@[simp] theorem State.swatchClean_kept {x0 : State} (x1 : BitVec 32) (hx0 : x0.Kept q) : (State.swatchClean x0 x1).Kept q := by
  unfold State.swatchClean; simp only []; (repeat' split) <;> simp_all +contextual (maxDischargeDepth := 30) [hx0]

@[simp] theorem State.swatchFailed_kept {x0 : State} (x1 : BitVec 32) (hx0 : x0.Kept q) : (State.swatchFailed x0 x1).Kept q := by
  unfold State.swatchFailed; simp only []; (repeat' split) <;> simp_all +contextual (maxDischargeDepth := 30) [hx0]

@[simp] theorem State.swatchDone_kept {x0 : State} (x1 : SwatchResult) (hx0 : x0.Kept q) : (State.swatchDone x0 x1).Kept q := by
  unfold State.swatchDone; simp +contextual (maxDischargeDepth := 30) [hx0]

@[simp] theorem State.memCorrected_kept {x0 : State} (x1 : ℕ) (hx0 : x0.Kept q) : (State.memCorrected x0 x1).Kept q := by
  unfold State.memCorrected; simp +contextual (maxDischargeDepth := 30) [hx0]

@[simp] theorem State.poisonAt_kept {x0 : State} (x1 : ℕ) (hx0 : x0.Kept q) : (State.poisonAt x0 x1).Kept q := by
  unfold State.poisonAt; simp +contextual (maxDischargeDepth := 30) [hx0]

@[simp] theorem State.memUncorrected_kept {x0 : State} (x1 : ℕ) (hx0 : x0.Kept q) : (State.memUncorrected x0 x1).Kept q := by
  unfold State.memUncorrected; simp +contextual (maxDischargeDepth := 30) [hx0]

@[simp] theorem execScrub_kept (x0 : ℕ) (x1 : MemError) {x2 : State} (hx2 : x2.Kept q) : keptOutcome q (execScrub x0 x1 x2) := by
  unfold execScrub; (repeat' split) <;> simp +contextual (maxDischargeDepth := 30) [hx2]

@[simp] theorem State.comparisonFailed_kept {x0 : State} (x1) (x2) (x3) (x4) (x5) (x6) (hx0 : x0.Kept q) : (State.comparisonFailed x0 x1 x2 x3 x4 x5 x6).Kept q := by
  unfold State.comparisonFailed; (repeat' split) <;> simp +contextual (maxDischargeDepth := 30) [hx0]

@[simp] theorem State.closeCheck_kept {x0 : State} (x1 : ℕ) (x2 : OpenCheck) (x3 : Option CheckFault) (hx0 : x0.Kept q) : (State.closeCheck x0 x1 x2 x3).Kept q := by
  unfold State.closeCheck; (repeat' split) <;> simp +contextual (maxDischargeDepth := 30) [hx0]

@[simp] theorem execCheckClose_kept (x0 : Fin 160) (x1 : Option CheckFault) {x2 : State} (hx2 : x2.Kept q) : keptOutcome q (execCheckClose x0 x1 x2) := by
  unfold execCheckClose; simp only []; (repeat' split) <;> simp_all +contextual (maxDischargeDepth := 30) [hx2]

theorem State.takeHanded_kept {s : State} {a b} {r} (h : s.Kept q) (e : s.takeHanded a b = some r) : r.2.Kept q := by
  unfold State.takeHanded at e
  split at e
  · simp at e
  · cases e; simpa [kept_update_tb] using h

@[simp] theorem State.coreEnters_kept {x0 : State} (x1 : ℕ) (x2 : ℕ) (hx0 : x0.Kept q) : (State.coreEnters x0 x1 x2).Kept q := by
  unfold State.coreEnters; simp +contextual (maxDischargeDepth := 30) [hx0]

@[simp] theorem State.coreLeaves_kept {x0 : State} (x1 : ℕ) (x2 : ℕ) (x3 : Option ℕ) (hx0 : x0.Kept q) : (State.coreLeaves x0 x1 x2 x3).Kept q := by
  unfold State.coreLeaves; (repeat' split) <;> simp +contextual (maxDischargeDepth := 30) [hx0]

@[simp] theorem execSwatchWindow_kept (t) {s : State} (h : s.Kept q) : keptOutcome q (execSwatchWindow t s) := by
  unfold execSwatchWindow
  simp only []
  split
  · exact h
  · next e =>
    have ht := State.takeHanded_kept h e
    refine act_kept _ h (fun _ => ?_)
    split
    · exact foldl_kept (by simpa [kept_update] using ht) (fun t x ht => State.coreEnters_kept _ _ ht)
    · simpa [kept_update] using ht

@[simp] theorem State.windowUnit_kept {x0 : State} (x1 : List SwatchResult) (x2 : BitVec 32) (hx0 : x0.Kept q) : (State.windowUnit x0 x1 x2).Kept q := by
  unfold State.windowUnit; (repeat' split) <;> simp +contextual (maxDischargeDepth := 30) [hx0]

@[simp] theorem State.endWindow_kept {x0 : State} (x1 : ℕ) (x2 : Window) (x3 : List SwatchResult) (hx0 : x0.Kept q) : (State.endWindow x0 x1 x2 x3).Kept q := by
  unfold State.endWindow; simp +contextual (maxDischargeDepth := 30) [hx0]

@[simp] theorem execSwatchWindowEnd_kept (x0 : Fin 5) (x1 : List SwatchResult) {x2 : State} (hx2 : x2.Kept q) : keptOutcome q (execSwatchWindowEnd x0 x1 x2) := by
  unfold execSwatchWindowEnd; (repeat' split) <;> simp +contextual (maxDischargeDepth := 30) [hx2]

@[simp] theorem execUnitDue_kept (x0 : Fin 10) {x1 : State} (hx1 : x1.Kept q) : keptOutcome q (execUnitDue x0 x1) := by
  unfold execUnitDue; simp +contextual (maxDischargeDepth := 30) [hx1]

@[simp] theorem State.ladderWarning_kept {x0 : State} (x1 : ℕ) (hx0 : x0.Kept q) : (State.ladderWarning x0 x1).Kept q := by
  unfold State.ladderWarning; simp +contextual (maxDischargeDepth := 30) [hx0]

@[simp] theorem State.ladderEnds_kept {x0 : State} (x1 : ℕ) (hx0 : x0.Kept q) : (State.ladderEnds x0 x1).Kept q := by
  unfold State.ladderEnds; simp +contextual (maxDischargeDepth := 30) [hx0]

@[simp] theorem execLadderWindow_kept {x0 : State} (hx0 : x0.Kept q) : keptOutcome q (execLadderWindow x0) := by
  unfold execLadderWindow; simp +contextual (maxDischargeDepth := 30) [hx0]

@[simp] theorem execFsrSummary_kept {x0 : State} (hx0 : x0.Kept q) : keptOutcome q (execFsrSummary x0) := by
  unfold execFsrSummary; simp +contextual (maxDischargeDepth := 30) [hx0]

@[simp] theorem State.fixForms_kept {x0 : State} (hx0 : x0.Kept q) : (State.fixForms x0).Kept q := by
  unfold State.fixForms; simp +contextual (maxDischargeDepth := 30) [hx0]

end Sys2Proof.Machine
end

