-- ==== Sys2Proof/Laws/KeptFabric.lean ====
section
/-! SUPPORT. Lemmas that moves, ports, links, routing, the endpoints, arrays, the journal and the Collective Engine keep the queue and a sound state. -/

-- Elaborated one after another: the package as one text holds thousands of lemmas, and each waiting one keeps a thread.
set_option Elab.async false

namespace Sys2Proof.Machine

variable {q : List Instr}

@[simp] theorem execMCopy_kept (x0 : Fin 160) {x1 : State} (hx1 : x1.Kept q) : keptOutcome q (execMCopy x0 x1) := by
  unfold execMCopy; simp +contextual (maxDischargeDepth := 30) [hx1]

@[simp] theorem State.sendWrites_kept {x0 : State} (x1 : BitVec 2) (x2 : BitVec 15) (x3 : BitVec 8) (x4 : BitVec 8) (x5 : ℕ) (x6 : ℕ) (x7 : ℕ) (x8 : Owner) (hx0 : x0.Kept q) : (State.sendWrites x0 x1 x2 x3 x4 x5 x6 x7 x8).Kept q := by
  unfold State.sendWrites; simp +contextual (maxDischargeDepth := 30) [hx0]

@[simp] theorem State.sendReads_kept {x0 : State} (x1 : BitVec 15) (x2 : BitVec 8) (x3 : ℕ) (x4 : ℕ) (x5 : ℕ) (x6 : ReadFor) (hx0 : x0.Kept q) : (State.sendReads x0 x1 x2 x3 x4 x5 x6).Kept q := by
  unfold State.sendReads; simp +contextual (maxDischargeDepth := 30) [hx0]

@[simp] theorem State.requestGranule_kept {x0 : State} (x1) (x2) (hx0 : x0.Kept q) : keptOpt q (State.requestGranule x0 x1 x2) := by
  unfold State.requestGranule; dsimp only []; (repeat' split) <;> simp_all +contextual (maxDischargeDepth := 30)

@[simp] theorem State.requestAll_kept {x0 : State} (x1) (x2) (x3) (hx0 : x0.Kept q) : (State.requestAll x0 x1 x2 x3).Kept q := by
  induction x3 generalizing x0 with
  | zero => exact hx0
  | succ n ih =>
    have hg := State.requestGranule_kept x1 x2 hx0
    unfold State.requestAll; split
    · exact hx0
    · next t ht => rw [ht] at hg; exact ih hg

@[simp] theorem State.performRequest_kept {x0 : State} (x1) (hx0 : x0.Kept q) : (State.performRequest x0 x1).Kept q := by
  unfold State.performRequest; (repeat' split) <;> simp +contextual (maxDischargeDepth := 30) [hx0]

@[simp] theorem State.performRequests_kept {x0 : State} (hx0 : x0.Kept q) : (State.performRequests x0).Kept q := by
  unfold State.performRequests; (repeat' split) <;> simp +contextual (maxDischargeDepth := 30) [hx0]

@[simp] theorem State.transfer_kept {x0 : State} (x1 : ℕ) (x2 : MoveOp) (hx0 : x0.Kept q) : (State.transfer x0 x1 x2).Kept q := by
  unfold State.transfer; simp +contextual (maxDischargeDepth := 30) [hx0]

@[simp] theorem execMoveTransfer_kept (x0 : Fin 160) (x1 : Fin 4) {x2 : State} (hx2 : x2.Kept q) : keptOutcome q (execMoveTransfer x0 x1 x2) := by
  unfold execMoveTransfer; simp only []; (repeat' split) <;> simp_all +contextual (maxDischargeDepth := 30) [hx2]

@[simp] theorem State.finishIssued_kept {x0 : State} (x1 : ℕ) (x2 : Issued) (hx0 : x0.Kept q) : (State.finishIssued x0 x1 x2).Kept q := by
  unfold State.finishIssued; (repeat' split) <;> simp +contextual (maxDischargeDepth := 30) [hx0]

@[simp] theorem State.drainCore_kept {s : State} (c) (h : s.Kept q) : (s.drainCore c).Kept q := by
  unfold State.drainCore
  refine State.modCore_kept _ _ (foldl_kept (State.endSideWork_kept _ (foldl_kept (State.freeStream_kept _ h)
    (fun t x ht => State.finishIssued_kept _ _ ht))) (fun t x ht => ?_))
  split
  · exact ht
  · exact State.complete_kept _ _ _ ht

@[simp] theorem State.stopOn_kept {x0 : State} (x1 : ℕ) (x2 : ℕ) (hx0 : x0.Kept q) : (State.stopOn x0 x1 x2).Kept q := by
  unfold State.stopOn; simp +contextual (maxDischargeDepth := 30) [hx0]

@[simp] theorem State.sendRaise_kept {x0 : State} (x1 : BitVec 15) (x2 : ℕ) (x3 : ℕ) (x4 : ℕ) (x5 : ℕ) (x6 : BitVec 8) (x7 : Owner) (hx0 : x0.Kept q) : (State.sendRaise x0 x1 x2 x3 x4 x5 x6 x7).Kept q := by
  unfold State.sendRaise; simp +contextual (maxDischargeDepth := 30) [hx0]

@[simp] theorem execCRraise_kept (x0 : Fin 160) {x1 : State} (hx1 : x1.Kept q) : keptOutcome q (execCRraise x0 x1) := by
  unfold execCRraise; simp +contextual (maxDischargeDepth := 30) [hx1]

@[simp] theorem State.setPortState_kept {x0 : State} (x1 : ℕ) (x2 : ℕ) (hx0 : x0.Kept q) : (State.setPortState x0 x1 x2).Kept q := by
  unfold State.setPortState; simp +contextual (maxDischargeDepth := 30) [hx0]

@[simp] theorem State.flushPort_kept {x0 : State} (x1 : ℕ) (hx0 : x0.Kept q) : (State.flushPort x0 x1).Kept q := by
  unfold State.flushPort; simp only []; (repeat' split) <;> simp_all +contextual (maxDischargeDepth := 30) [hx0]

@[simp] theorem State.dropBuffer_kept {x0 : State} (x1) (hx0 : x0.Kept q) : (State.dropBuffer x0 x1).Kept q := by
  unfold State.dropBuffer; (repeat' split) <;> simp +contextual (maxDischargeDepth := 30) [hx0]

@[simp] theorem State.beginTraining_kept {x0 : State} (x1 : ℕ) (x2 : Bool) (hx0 : x0.Kept q) : (State.beginTraining x0 x1 x2).Kept q := by
  unfold State.beginTraining; simp +contextual (maxDischargeDepth := 30) [hx0]

@[simp] theorem State.retrainFull_kept {x0 : State} (x1 : ℕ) (hx0 : x0.Kept q) : (State.retrainFull x0 x1).Kept q := by
  unfold State.retrainFull; simp +contextual (maxDischargeDepth := 30) [hx0]

@[simp] theorem State.retrainFast_kept {x0 : State} (x1 : ℕ) (hx0 : x0.Kept q) : (State.retrainFast x0 x1).Kept q := by
  unfold State.retrainFast; simp +contextual (maxDischargeDepth := 30) [hx0]

@[simp] theorem State.failPort_kept {x0 : State} (x1 : ℕ) (hx0 : x0.Kept q) : (State.failPort x0 x1).Kept q := by
  unfold State.failPort; simp +contextual (maxDischargeDepth := 30) [hx0]

@[simp] theorem State.replay_kept {x0 : State} (x1 : ℕ) (hx0 : x0.Kept q) : (State.replay x0 x1).Kept q := by
  unfold State.replay; simp +contextual (maxDischargeDepth := 30) [hx0]

@[simp] theorem State.sendBlock_kept {x0 : State} (x1 : ℕ) (hx0 : x0.Kept q) : (State.sendBlock x0 x1).Kept q := by
  unfold State.sendBlock; simp only []; (repeat' split) <;> simp_all +contextual (maxDischargeDepth := 30) [hx0]

@[simp] theorem execBlockSend_kept (x0 : Fin 8) {x1 : State} (hx1 : x1.Kept q) : keptOutcome q (execBlockSend x0 x1) := by
  unfold execBlockSend; simp +contextual (maxDischargeDepth := 30) [hx1]

@[simp] theorem State.packetArrived_kept {x0 : State} (x1 : ℕ) (x2 : Port) (x3 : Packet) (hx0 : x0.Kept q) : (State.packetArrived x0 x1 x2 x3).Kept q := by
  unfold State.packetArrived; (repeat' split) <;> simp +contextual (maxDischargeDepth := 30) [hx0]

@[simp] theorem State.packetStomped_kept {x0 : State} (x1 : ℕ) (x2 : Port) (x3 : Packet) (hx0 : x0.Kept q) : (State.packetStomped x0 x1 x2 x3).Kept q := by
  unfold State.packetStomped; (repeat' split) <;> simp +contextual (maxDischargeDepth := 30) [hx0]

@[simp] theorem State.packetForged_kept {x0 : State} (x1 : ℕ) (hx0 : x0.Kept q) : (State.packetForged x0 x1).Kept q := by
  unfold State.packetForged; simp +contextual (maxDischargeDepth := 30) [hx0]

@[simp] theorem State.takeFlits_kept {s : State} (n l) (h : s.Kept q) : (s.takeFlits n l).Kept q := by
  induction l generalizing s with
  | nil => exact h
  | cons f fs ih =>
    cases f with
    | idle => exact ih h
    | part pk i tag =>
      refine kept_if (ih h) (kept_if (ih (State.setPort_kept _ _ h)) ?_)
      split
      · exact ih (State.packetArrived_kept _ _ _ h)
      · exact ih (State.packetStomped_kept _ _ _ h)
      · exact State.packetForged_kept _ h

@[simp] theorem State.goodBlock_kept {x0 : State} (x1 : ℕ) (x2 : Block) (hx0 : x0.Kept q) : (State.goodBlock x0 x1 x2).Kept q := by
  unfold State.goodBlock; simp +contextual (maxDischargeDepth := 30) [hx0]

@[simp] theorem State.badBlock_kept {x0 : State} (x1 : ℕ) (hx0 : x0.Kept q) : (State.badBlock x0 x1).Kept q := by
  unfold State.badBlock; simp +contextual (maxDischargeDepth := 30) [hx0]

@[simp] theorem State.receiveBlock_kept {x0 : State} (x1 : ℕ) (x2 : Block) (x3 : BlockFate) (hx0 : x0.Kept q) : (State.receiveBlock x0 x1 x2 x3).Kept q := by
  unfold State.receiveBlock; (repeat' split) <;> simp +contextual (maxDischargeDepth := 30) [hx0]

@[simp] theorem execBlockReceive_kept (x0 : Fin 8) (x1 : Block) (x2 : BlockFate) {x3 : State} (hx3 : x3.Kept q) : keptOutcome q (execBlockReceive x0 x1 x2 x3) := by
  unfold execBlockReceive; simp +contextual (maxDischargeDepth := 30) [hx3]

@[simp] theorem execReplayTimeout_kept (x0 : Fin 8) {x1 : State} (hx1 : x1.Kept q) : keptOutcome q (execReplayTimeout x0 x1) := by
  unfold execReplayTimeout; simp +contextual (maxDischargeDepth := 30) [hx1]

@[simp] theorem execPeerSilent_kept (x0 : Fin 8) {x1 : State} (hx1 : x1.Kept q) : keptOutcome q (execPeerSilent x0 x1) := by
  unfold execPeerSilent; simp +contextual (maxDischargeDepth := 30) [hx1]

@[simp] theorem execLinkKeyChange_kept (x0 : Fin 8) (x1 : Bool) {x2 : State} (hx2 : x2.Kept q) : keptOutcome q (execLinkKeyChange x0 x1 x2) := by
  unfold execLinkKeyChange; simp +contextual (maxDischargeDepth := 30) [hx2]

@[simp] theorem State.setLinkSession_kept {x0 : State} (x1 : ℕ) (x2 : LinkSession) (hx0 : x0.Kept q) : (State.setLinkSession x0 x1 x2).Kept q := by
  unfold State.setLinkSession; simp +contextual (maxDischargeDepth := 30) [hx0]

@[simp] theorem State.sendSession_kept {x0 : State} (x1 : ℕ) (x2 : List Byte) (hx0 : x0.Kept q) : (State.sendSession x0 x1 x2).Kept q := by
  unfold State.sendSession; simp +contextual (maxDischargeDepth := 30) [hx0]

@[simp] theorem State.sendHello_kept {x0 : State} (x1 : ℕ) (hx0 : x0.Kept q) : (State.sendHello x0 x1).Kept q := by
  unfold State.sendHello; simp +contextual (maxDischargeDepth := 30) [hx0]

@[simp] theorem State.rejectPeer_kept {x0 : State} (x1 : ℕ) (hx0 : x0.Kept q) : (State.rejectPeer x0 x1).Kept q := by
  unfold State.rejectPeer; simp +contextual (maxDischargeDepth := 30) [hx0]

@[simp] theorem State.takeHello_kept {x0 : State} (x1 : ℕ) (x2 : Packet) (x3 : LinkSession) (hx0 : x0.Kept q) : (State.takeHello x0 x1 x2 x3).Kept q := by
  unfold State.takeHello; (repeat' split) <;> simp +contextual (maxDischargeDepth := 30) [hx0]

@[simp] theorem State.takeFinish_kept {x0 : State} (x1 : ℕ) (x2 : Packet) (x3 : LinkSession) (hx0 : x0.Kept q) : (State.takeFinish x0 x1 x2 x3).Kept q := by
  unfold State.takeFinish; (repeat' split) <;> simp +contextual (maxDischargeDepth := 30) [hx0]

theorem State.takeSession_kept {s : State} {b : Byte} {r} (h : s.Kept q) (e : s.takeSession b = some r) : r.2.Kept q := State.takeLink_kept h e

@[simp] theorem execHello_kept {s : State} (h : s.Kept q) : keptOutcome q (execHello s) := by
  unfold execHello
  split
  · exact h
  · next e =>
    have ht := State.takeSession_kept h e
    refine act_kept _ h (fun _ => ?_)
    (repeat' split) <;> simp_all +contextual (maxDischargeDepth := 30)

@[simp] theorem execFinish_kept (b : Bool) {s : State} (h : s.Kept q) : keptOutcome q (execFinish b s) := by
  unfold execFinish
  split
  · exact h
  · next e =>
    have ht := State.takeSession_kept h e
    refine act_kept _ h (fun _ => ?_)
    (repeat' split) <;> simp_all +contextual (maxDischargeDepth := 30)

@[simp] theorem execFinishTimeout_kept (x0 : Fin 8) {x1 : State} (hx1 : x1.Kept q) : keptOutcome q (execFinishTimeout x0 x1) := by
  unfold execFinishTimeout; simp only []; (repeat' split) <;> simp_all +contextual (maxDischargeDepth := 30) [hx1]

@[simp] theorem State.trainingFailed_kept {x0 : State} (x1 : ℕ) (hx0 : x0.Kept q) : (State.trainingFailed x0 x1).Kept q := by
  unfold State.trainingFailed; simp +contextual (maxDischargeDepth := 30) [hx0]

@[simp] theorem State.enterStep_kept {x0 : State} (x1 : ℕ) (x2 : ℕ) (hx0 : x0.Kept q) : (State.enterStep x0 x1 x2).Kept q := by
  unfold State.enterStep; simp +contextual (maxDischargeDepth := 30) [hx0]

@[simp] theorem State.portComesUp_kept {x0 : State} (x1 : ℕ) (hx0 : x0.Kept q) : (State.portComesUp x0 x1).Kept q := by
  unfold State.portComesUp; simp +contextual (maxDischargeDepth := 30) [hx0]

@[simp] theorem State.measured_kept {x0 : State} (x1 : ℕ) (x2 : ℕ) (x3 : ℕ) (hx0 : x0.Kept q) : (State.measured x0 x1 x2 x3).Kept q := by
  unfold State.measured; simp +contextual (maxDischargeDepth := 30) [hx0]

@[simp] theorem execPortTrainingStep_kept (x0 : Fin 8) (x1 : TrainingEnd) (x3 : ℕ) (x4 : ℕ) {x5 : State} (hx5 : x5.Kept q) : keptOutcome q (execPortTrainingStep x0 x1 x3 x4 x5) := by
  unfold execPortTrainingStep; simp +contextual (maxDischargeDepth := 30) [hx5]

@[simp] theorem State.takeHead_kept {x0 : State} (x1 : ℕ) (x2 : ℕ) (hx0 : x0.Kept q) : (State.takeHead x0 x1 x2).Kept q := by
  unfold State.takeHead; (repeat' split) <;> simp +contextual (maxDischargeDepth := 30) [hx0]

@[simp] theorem State.forward_kept {x0 : State} (x1 : ℕ) (x2 : ℕ) (x3 : ℕ) (x4 : Packet) (x5 : Bool) (x6 : SMap ℕ) (hx0 : x0.Kept q) : (State.forward x0 x1 x2 x3 x4 x5 x6).Kept q := by
  unfold State.forward; simp +contextual (maxDischargeDepth := 30) [hx0]

@[simp] theorem State.deliver_kept {x0 : State} (x1 : ℕ) (x2 : ℕ) (x3 : Packet) (hx0 : x0.Kept q) : (State.deliver x0 x1 x2 x3).Kept q := by
  unfold State.deliver; simp +contextual (maxDischargeDepth := 30) [hx0]

@[simp] theorem State.dropHead_kept {x0 : State} (x1 : ℕ) (x2 : ℕ) (x3 : ℕ) (hx0 : x0.Kept q) : (State.dropHead x0 x1 x2 x3).Kept q := by
  unfold State.dropHead; simp +contextual (maxDischargeDepth := 30) [hx0]

@[simp] theorem execPacketRoute_kept (x0 : Fin 9) (x1 : Fin 8) {x2 : State} (hx2 : x2.Kept q) : keptOutcome q (execPacketRoute x0 x1 x2) := by
  unfold execPacketRoute; simp only []; (repeat' split) <;> simp_all +contextual (maxDischargeDepth := 30) [hx2]

@[simp] theorem State.setResult_kept {x0 : State} (x1 : ℕ) (x2 : Option ResultSlot) (hx0 : x0.Kept q) : (State.setResult x0 x1 x2).Kept q := by
  unfold State.setResult; simp +contextual (maxDischargeDepth := 30) [hx0]

@[simp] theorem State.takeResult_kept {x0 : State} (x1 : ℕ) (x2 : BitVec 16) (x3 : BitVec 32) (x4 : Bool) (hx0 : x0.Kept q) : (State.takeResult x0 x1 x2 x3 x4).Kept q := by
  unfold State.takeResult; simp +contextual (maxDischargeDepth := 30) [hx0]

@[simp] theorem State.completeResult_kept {x0 : State} (x1 : ℕ) (x2 : ℕ) (x3 : List Byte) (hx0 : x0.Kept q) : (State.completeResult x0 x1 x2 x3).Kept q := by
  unfold State.completeResult; (repeat' split) <;> simp +contextual (maxDischargeDepth := 30) [hx0]

@[simp] theorem State.updateResult_kept {x0 : State} (x1 : ℕ) (x2 : List Byte) (hx0 : x0.Kept q) : (State.updateResult x0 x1 x2).Kept q := by
  unfold State.updateResult; (repeat' split) <;> simp +contextual (maxDischargeDepth := 30) [hx0]

@[simp] theorem State.putFlow_kept {x0 : State} (x1 : RecvFlow) (hx0 : x0.Kept q) : (State.putFlow x0 x1).Kept q := by
  unfold State.putFlow; simp +contextual (maxDischargeDepth := 30) [hx0]

@[simp] theorem State.acknowledge_kept {x0 : State} (x1 : Packet) (hx0 : x0.Kept q) : (State.acknowledge x0 x1).Kept q := by
  unfold State.acknowledge; simp +contextual (maxDischargeDepth := 30) [hx0]

@[simp] theorem State.accept_kept {s : State} (p b) (f : State → State) (h : s.Kept q) (hf : ∀ t, t.Kept q → (f t).Kept q) : (s.accept p b f).Kept q := by
  unfold State.accept
  split
  · exact State.count_kept _ _ h
  · exact State.count_kept _ _ h
  · exact h
  · exact State.acknowledge_kept _ (State.count_kept _ _ (State.putFlow_kept _ h))
  · exact State.acknowledge_kept _ (hf _ (State.putFlow_kept _ h))
  · exact h

theorem State.takeArrived_kept {s : State} {t : Packet → Bool} {r} (h : s.Kept q) (e : s.takeArrived t = some r) : r.2.2.Kept q := by
  unfold State.takeArrived at e
  split at e
  · simp at e
  · cases e; simpa [kept_update] using h

theorem State.takeCtrl_kept {s : State} {a b} {r} (h : s.Kept q) (e : s.takeCtrl a b = some r) : r.2.2.Kept q := State.takeArrived_kept h e

@[simp] theorem execWrite_kept {x0 : State} (hx0 : x0.Kept q) : keptOutcome q (execWrite x0) := by
  unfold execWrite; split <;> (try (have ht := State.takeArrived_kept hx0 (by assumption); simp only at ht)) <;> (repeat' split) <;> simp +contextual (maxDischargeDepth := 30) [*, hx0]

@[simp] theorem State.respond_kept {x0 : State} (x1 : Packet) (x2 : List Byte) (x3 : BitVec 64) (hx0 : x0.Kept q) : (State.respond x0 x1 x2 x3).Kept q := by
  unfold State.respond; simp +contextual (maxDischargeDepth := 30) [hx0]

@[simp] theorem State.serveRead_kept {x0 : State} (x1 : Packet) (hx0 : x0.Kept q) : (State.serveRead x0 x1).Kept q := by
  unfold State.serveRead; simp +contextual (maxDischargeDepth := 30) [hx0]

@[simp] theorem execReadReq_kept {x0 : State} (hx0 : x0.Kept q) : keptOutcome q (execReadReq x0) := by
  unfold execReadReq; split <;> (try (have ht := State.takeArrived_kept hx0 (by assumption); simp only at ht)) <;> (repeat' split) <;> simp +contextual (maxDischargeDepth := 30) [*, hx0]

@[simp] theorem State.showFill_kept {x0 : State} (hx0 : x0.Kept q) : (State.showFill x0).Kept q := by
  unfold State.showFill; (repeat' split) <;> simp +contextual (maxDischargeDepth := 30) [hx0]

@[simp] theorem State.readLanded_kept {x0 : State} (x1 : ReadWait) (x2 : ℕ) (hx0 : x0.Kept q) : (State.readLanded x0 x1 x2).Kept q := by
  unfold State.readLanded; (repeat' split) <;> simp +contextual (maxDischargeDepth := 30) [hx0]

@[simp] theorem State.landData_kept {x0 : State} (x1 : Packet) (hx0 : x0.Kept q) : (State.landData x0 x1).Kept q := by
  unfold State.landData; simp +contextual (maxDischargeDepth := 30) [hx0]

@[simp] theorem State.remoteRaise_kept {x0 : State} (x1 : Packet) (hx0 : x0.Kept q) : (State.remoteRaise x0 x1).Kept q := by
  unfold State.remoteRaise; simp +contextual (maxDischargeDepth := 30) [hx0]

@[simp] theorem execRaise_kept {x0 : State} (hx0 : x0.Kept q) : keptOutcome q (execRaise x0) := by
  unfold execRaise; split <;> (try (have ht := State.takeArrived_kept hx0 (by assumption); simp only at ht)) <;> (repeat' split) <;> simp +contextual (maxDischargeDepth := 30) [*, hx0]

@[simp] theorem State.copyAcked_kept {x0 : State} (x1 : BitVec 32) (hx0 : x0.Kept q) : (State.copyAcked x0 x1).Kept q := by
  unfold State.copyAcked; simp only []; (repeat' split) <;> simp_all +contextual (maxDischargeDepth := 30) [hx0]

@[simp] theorem State.acked_kept {x0 : State} (x1 : Unacked) (hx0 : x0.Kept q) : (State.acked x0 x1).Kept q := by
  unfold State.acked; (repeat' split) <;> simp +contextual (maxDischargeDepth := 30) [hx0]

@[simp] theorem State.takeAcks_kept {x0 : State} (x1 : ℕ) (x2 : BitVec 32) (x3 : ℕ) (hx0 : x0.Kept q) : (State.takeAcks x0 x1 x2 x3).Kept q := by
  unfold State.takeAcks; (repeat' split) <;> simp +contextual (maxDischargeDepth := 30) [hx0]

@[simp] theorem execE2eAck_kept {x0 : State} (hx0 : x0.Kept q) : keptOutcome q (execE2eAck x0) := by
  unfold execE2eAck; split <;> (try (have ht := State.takeArrived_kept hx0 (by assumption); simp only at ht)) <;> (repeat' split) <;> simp +contextual (maxDischargeDepth := 30) [*, hx0]

@[simp] theorem State.abandon_kept {x0 : State} (x1 : Unacked) (hx0 : x0.Kept q) : (State.abandon x0 x1).Kept q := by
  unfold State.abandon; simp +contextual (maxDischargeDepth := 30) [hx0]

@[simp] theorem State.forget_kept {x0 : State} (x1 : ℕ) (x2 : BitVec 32) (hx0 : x0.Kept q) : (State.forget x0 x1 x2).Kept q := by
  unfold State.forget; simp +contextual (maxDischargeDepth := 30) [hx0]

@[simp] theorem State.retransmit_kept {x0 : State} (x1 : SendFlow) (x2 : Unacked) (hx0 : x0.Kept q) : (State.retransmit x0 x1 x2).Kept q := by
  unfold State.retransmit; simp +contextual (maxDischargeDepth := 30) [hx0]

@[simp] theorem execE2eRetransmit_kept {x0 : State} (hx0 : x0.Kept q) : keptOutcome q (execE2eRetransmit x0) := by
  unfold execE2eRetransmit; (repeat' split) <;> simp +contextual (maxDischargeDepth := 30) [hx0]

@[simp] theorem execFlowIdleFree_kept (x0 : Bool) (x1 : ℕ) {x2 : State} (hx2 : x2.Kept q) : keptOutcome q (execFlowIdleFree x0 x1 x2) := by
  unfold execFlowIdleFree; (repeat' split) <;> simp +contextual (maxDischargeDepth := 30) [hx2]

@[simp] theorem execFault_kept {s : State} (h : s.Kept q) : keptOutcome q (execFault s) := by
  unfold execFault
  split
  · exact h
  · next e =>
    have ht := State.takeLink_kept h e
    refine act_kept _ h (fun _ => ?_)
    (repeat' split) <;> simp_all +contextual (maxDischargeDepth := 30)

@[simp] theorem maLoadw_kept (x0 : ℕ) (x1 : ℕ) (x2 : QEntry) {x3 : State} (hx3 : x3.Kept q) : keptIssue q (maLoadw x0 x1 x2 x3) := by
  unfold maLoadw; simp +contextual (maxDischargeDepth := 30) [hx3]

@[simp] theorem State.bump32_kept {x0 : State} (x1 : ℕ) (hx0 : x0.Kept q) : (State.bump32 x0 x1).Kept q := by
  unfold State.bump32; simp +contextual (maxDischargeDepth := 30) [hx0]

@[simp] theorem State.countTile_kept {x0 : State} (x1 : ℕ) (x2 : ℕ) (x3 : IWord) (x4 : MulJob) (hx0 : x0.Kept q) : (State.countTile x0 x1 x2 x3 x4).Kept q := by
  unfold State.countTile; simp +contextual (maxDischargeDepth := 30) [hx0]

@[simp] theorem State.tileOn_kept {x0 : State} (x1 : ℕ) (x2 : IWord) (x3 : MulJob) (x4 : ℕ) (hx0 : x0.Kept q) : (State.tileOn x0 x1 x2 x3 x4).Kept q := by
  unfold State.tileOn; simp +contextual (maxDischargeDepth := 30) [hx0]

@[simp] theorem State.queueSide_kept {x0 : State} (x1 : ℕ) (x2 : QEntry) (x3 : MulJob) (x4 : Bool) (hx0 : x0.Kept q) : (State.queueSide x0 x1 x2 x3 x4).Kept q := by
  unfold State.queueSide; simp +contextual (maxDischargeDepth := 30) [hx0]

@[simp] theorem State.openCheck_kept {x0 : State} (x1 : ℕ) (x2 : ℕ) (x3 : QEntry) (x4 : MulJob) (hx0 : x0.Kept q) : (State.openCheck x0 x1 x2 x3 x4).Kept q := by
  unfold State.openCheck; simp +contextual (maxDischargeDepth := 30) [hx0]

@[simp] theorem State.mulEffect_kept {x0 : State} (x1 : ℕ) (x2 : ℕ) (x3 : QEntry) (x4 : MulJob) (hx0 : x0.Kept q) : (State.mulEffect x0 x1 x2 x3 x4).Kept q := by
  unfold State.mulEffect; simp +contextual (maxDischargeDepth := 30) [hx0]

@[simp] theorem maMul_kept (x0 : ℕ) (x1 : ℕ) (x2 : QEntry) {x3 : State} (hx3 : x3.Kept q) : keptIssue q (maMul x0 x1 x2 x3) := by
  unfold maMul; simp +contextual (maxDischargeDepth := 30) [hx3]

@[simp] theorem State.drainEffect_kept {x0 : State} (x1 : ℕ) (x2 : ℕ) (x3 : IWord) (hx0 : x0.Kept q) : (State.drainEffect x0 x1 x2 x3).Kept q := by
  unfold State.drainEffect; simp +contextual (maxDischargeDepth := 30) [hx0]

@[simp] theorem maDrain_kept (x0 : ℕ) (x1 : ℕ) (x2 : QEntry) {x3 : State} (hx3 : x3.Kept q) : keptIssue q (maDrain x0 x1 x2 x3) := by
  unfold maDrain; simp +contextual (maxDischargeDepth := 30) [hx3]

@[simp] theorem execMaLoadw_kept (x0 : Fin 160) {x1 : State} (hx1 : x1.Kept q) : keptOutcome q (execMaLoadw x0 x1) := by
  unfold execMaLoadw; simp +contextual (maxDischargeDepth := 30) [hx1]

@[simp] theorem execMaMul_kept (x0 : Fin 160) {x1 : State} (hx1 : x1.Kept q) : keptOutcome q (execMaMul x0 x1) := by
  unfold execMaMul; simp +contextual (maxDischargeDepth := 30) [hx1]

@[simp] theorem execMaDrain_kept (x0 : Fin 160) {x1 : State} (hx1 : x1.Kept q) : keptOutcome q (execMaDrain x0 x1) := by
  unfold execMaDrain; simp +contextual (maxDischargeDepth := 30) [hx1]

@[simp] theorem execCablePathWork_kept (x0 : Fin 160) {x1 : State} (hx1 : x1.Kept q) : keptOutcome q (execCablePathWork x0 x1) := by
  unfold execCablePathWork; simp only []; (repeat' split) <;> simp_all +contextual (maxDischargeDepth := 30) [hx1]

@[simp] theorem execLowRankWork_kept (x0 : Fin 160) {x1 : State} (hx1 : x1.Kept q) : keptOutcome q (execLowRankWork x0 x1) := by
  unfold execLowRankWork; simp only []; (repeat' split) <;> simp_all +contextual (maxDischargeDepth := 30) [hx1]

@[simp] theorem State.storeExtent_kept {x0 : State} (x1 : ℕ) (x2 : List Byte) (hx0 : x0.Kept q) : (State.storeExtent x0 x1 x2).Kept q := by
  unfold State.storeExtent; simp +contextual (maxDischargeDepth := 30) [hx0]

@[simp] theorem State.setEntry_kept {x0 : State} (x1 : ℕ) (x2 : Option JournalEntry) (hx0 : x0.Kept q) : (State.setEntry x0 x1 x2).Kept q := by
  unfold State.setEntry; simp +contextual (maxDischargeDepth := 30) [hx0]

@[simp] theorem State.setCopy_kept {x0 : State} (x1 : ℕ) (x2 : Option (BitVec 32)) (hx0 : x0.Kept q) : (State.setCopy x0 x1 x2).Kept q := by
  unfold State.setCopy; simp +contextual (maxDischargeDepth := 30) [hx0]

@[simp] theorem State.clearReleases_kept {x0 : State} (x1 : List (ℕ × ℕ × ℕ)) (hx0 : x0.Kept q) : (State.clearReleases x0 x1).Kept q := by
  unfold State.clearReleases; simp +contextual (maxDischargeDepth := 30) [hx0]

@[simp] theorem State.putLayer_kept {x0 : State} (x1 : ℕ) (x2 : ℕ) (x3 : ℕ) (x4 : LayerEntry) (hx0 : x0.Kept q) : (State.putLayer x0 x1 x2 x3 x4).Kept q := by
  unfold State.putLayer; simp +contextual (maxDischargeDepth := 30) [hx0]

@[simp] theorem State.evaluateInto_kept {x0 : State} (x1 : ℕ) (x2 : ℕ) (x3 : BitVec 32) (x4 : LayerEntry) (x5 : ℕ) (x6 : Bool) (hx0 : x0.Kept q) : (State.evaluateInto x0 x1 x2 x3 x4 x5 x6).Kept q := by
  unfold State.evaluateInto; simp +contextual (maxDischargeDepth := 30) [hx0]

@[simp] theorem State.evaluateLayers_kept {x0 : State} (x1 : BitVec 32) (x2 : List (ℕ × ℕ × ℕ)) (hx0 : x0.Kept q) : (State.evaluateLayers x0 x1 x2).Kept q := by
  unfold State.evaluateLayers; simp +contextual (maxDischargeDepth := 30) [hx0]

@[simp] theorem State.sendCopy_kept {x0 : State} (x1 : ℕ) (x2 : ℕ) (x3 : Owner) (hx0 : x0.Kept q) : (State.sendCopy x0 x1 x2 x3).Kept q := by
  unfold State.sendCopy; simp +contextual (maxDischargeDepth := 30) [hx0]

@[simp] theorem State.clearMagic_kept {x0 : State} (x1 : ℕ) (hx0 : x0.Kept q) : (State.clearMagic x0 x1).Kept q := by
  unfold State.clearMagic; simp +contextual (maxDischargeDepth := 30) [hx0]

@[simp] theorem State.releaseOwn_kept {x0 : State} (x1 : BitVec 32) (hx0 : x0.Kept q) : (State.releaseOwn x0 x1).Kept q := by
  unfold State.releaseOwn; (repeat' split) <;> simp +contextual (maxDischargeDepth := 30) [hx0]

@[simp] theorem State.releaseCopy_kept {x0 : State} (x1 : BitVec 32) (hx0 : x0.Kept q) : (State.releaseCopy x0 x1).Kept q := by
  unfold State.releaseCopy; simp +contextual (maxDischargeDepth := 30) [hx0]

@[simp] theorem State.makeRecord_kept {x0 : State} (x1 : JournalEntry) (hx0 : x0.Kept q) : (State.makeRecord x0 x1).Kept q := by
  unfold State.makeRecord; simp +contextual (maxDischargeDepth := 30) [hx0]

@[simp] theorem execJournalRecord_kept {x0 : State} (hx0 : x0.Kept q) : keptOutcome q (execJournalRecord x0) := by
  unfold execJournalRecord; (repeat' split) <;> simp +contextual (maxDischargeDepth := 30) [hx0]

@[simp] theorem execJournalDurable_kept {x0 : State} (hx0 : x0.Kept q) : keptOutcome q (execJournalDurable x0) := by
  unfold execJournalDurable; (repeat' split) <;> simp +contextual (maxDischargeDepth := 30) [hx0]

theorem State.takeCopy_kept {s : State} {r} (h : s.Kept q) (e : s.takeCopy = some r) : r.2.2.Kept q := State.takeArrived_kept h e

@[simp] theorem State.refuseCopy_kept {x0 : State} (x1 : BitVec 32) (hx0 : x0.Kept q) : (State.refuseCopy x0 x1).Kept q := by
  unfold State.refuseCopy; simp +contextual (maxDischargeDepth := 30) [hx0]

@[simp] theorem State.putCopy_kept {x0 : State} (x1 : BitVec 32) (x2 : ℕ) (x3 : Bool) (x4 : Packet) (hx0 : x0.Kept q) : (State.putCopy x0 x1 x2 x3 x4).Kept q := by
  unfold State.putCopy; simp +contextual (maxDischargeDepth := 30) [hx0]

@[simp] theorem State.takeCopyPacket_kept {x0 : State} (x1 : Packet) (hx0 : x0.Kept q) : (State.takeCopyPacket x0 x1).Kept q := by
  unfold State.takeCopyPacket; (repeat' split) <;> simp +contextual (maxDischargeDepth := 30) [hx0]

@[simp] theorem execPartnerCopy_kept {x0 : State} (hx0 : x0.Kept q) : keptOutcome q (execPartnerCopy x0) := by
  unfold execPartnerCopy; split <;> (try (have ht := State.takeCopy_kept hx0 (by assumption); simp only at ht)) <;> (repeat' split) <;> simp +contextual (maxDischargeDepth := 30) [*, hx0]

@[simp] theorem execCopyRefused_kept {s : State} (h : s.Kept q) : keptOutcome q (execCopyRefused s) := by
  unfold execCopyRefused
  split
  · exact h
  · next e =>
    have ht := State.takeCtrl_kept h e
    refine act_kept _ h (fun _ => ?_)
    split
    · refine State.accept_kept _ _ _ ht (fun v hv => ?_)
      split
      · exact hv
      · simp +contextual (maxDischargeDepth := 30) [hv]
    · exact State.count_kept _ _ ht

@[simp] theorem State.writeCompare_kept {x0 : State} (x1 : BitVec 32) (hx0 : x0.Kept q) : (State.writeCompare x0 x1).Kept q := by
  unfold State.writeCompare; (repeat' split) <;> simp +contextual (maxDischargeDepth := 30) [hx0]

@[simp] theorem State.rebuildKeeper_kept {s : State} (h : s.Kept q) : s.rebuildKeeper.Kept q := by
  unfold State.rebuildKeeper
  split
  · refine State.setFld_kept _ _ _ (foldl_kept (foldl_kept h (fun t x ht => ?_)) (fun t x ht => State.setCopy_kept _ _ ht))
    (repeat' split) <;> simp +contextual (maxDischargeDepth := 30) [ht]
  · exact h

@[simp] theorem State.resumeRebuild_kept {x0 : State} (hx0 : x0.Kept q) : (State.resumeRebuild x0).Kept q := by
  unfold State.resumeRebuild; simp +contextual (maxDischargeDepth := 30) [hx0]

@[simp] theorem State.putElems_kept {x0 : State} (x1 : ℕ) (x2 : ℕ) (x3 : List (ℕ × Elem)) (hx0 : x0.Kept q) : (State.putElems x0 x1 x2 x3).Kept q := by
  unfold State.putElems; simp +contextual (maxDischargeDepth := 30) [hx0]

@[simp] theorem State.sendColl_kept {x0 : State} (x1 : Running) (x2 : ℕ) (x3 : ℕ) (x4 : ℕ) (x5 : ℕ) (x6 : List Elem) (hx0 : x0.Kept q) : (State.sendColl x0 x1 x2 x3 x4 x5 x6).Kept q := by
  unfold State.sendColl; simp +contextual (maxDischargeDepth := 30) [hx0]

@[simp] theorem State.sendCredit_kept {x0 : State} (x1 : ℕ) (x2 : ℕ) (x3 : ℕ) (x4 : ℕ) (x5 : ℕ) (x6 : Way) (x7 : ℕ) (hx0 : x0.Kept q) : (State.sendCredit x0 x1 x2 x3 x4 x5 x6 x7).Kept q := by
  unfold State.sendCredit; simp +contextual (maxDischargeDepth := 30) [hx0]

@[simp] theorem State.setRunning_kept {x0 : State} (x1 : ℕ) (x2 : Running) (hx0 : x0.Kept q) : (State.setRunning x0 x1 x2).Kept q := by
  unfold State.setRunning; simp +contextual (maxDischargeDepth := 30) [hx0]

@[simp] theorem State.freeBuffer_kept {x0 : State} (x1 : ℕ) (x2 : Way) (hx0 : x0.Kept q) : (State.freeBuffer x0 x1 x2).Kept q := by
  unfold State.freeBuffer; (repeat' split) <;> simp +contextual (maxDischargeDepth := 30) [hx0]

@[simp] theorem State.sendOne_kept {x0 : State} (x1 : ℕ) (x2 : Bool) (hx0 : x0.Kept q) : keptOpt q (State.sendOne x0 x1 x2) := by
  unfold State.sendOne; (repeat' split) <;> simp +contextual (maxDischargeDepth := 30) [hx0]

@[simp] theorem State.sendPartner_kept {x0 : State} (x1 : ℕ) (hx0 : x0.Kept q) : keptOpt q (State.sendPartner x0 x1) := by
  unfold State.sendPartner; (repeat' split) <;> simp +contextual (maxDischargeDepth := 30) [hx0]

@[simp] theorem State.pump_kept {s : State} (i n) (h : s.Kept q) : (s.pump i n).Kept q := by
  induction n generalizing s with
  | zero => exact h
  | succ n ih =>
    have h1 := State.sendOne_kept i true h
    have h2 := State.sendOne_kept i false h
    have h3 := State.sendPartner_kept i h
    simp only [State.pump]
    (repeat' split) <;> simp_all

@[simp] theorem State.letGo_kept {x0 : State} (x1 : ℕ) (hx0 : x0.Kept q) : (State.letGo x0 x1).Kept q := by
  unfold State.letGo; (repeat' split) <;> simp +contextual (maxDischargeDepth := 30) [hx0]

@[simp] theorem State.pumpAt_kept {x0 : State} (x1 : ℕ) (hx0 : x0.Kept q) : (State.pumpAt x0 x1).Kept q := by
  unfold State.pumpAt; (repeat' split) <;> simp +contextual (maxDischargeDepth := 30) [hx0]

@[simp] theorem State.relayOn_kept {x0 : State} (x1 : ℕ) (x2 : Bool) (x3 : ℕ) (x4 : ℕ) (x5 : List Elem) (hx0 : x0.Kept q) : (State.relayOn x0 x1 x2 x3 x4 x5).Kept q := by
  unfold State.relayOn; (repeat' split) <;> simp +contextual (maxDischargeDepth := 30) [hx0]

@[simp] theorem State.countSummed_kept {x0 : State} (x1 : Descriptor) (x2 : ℕ) (hx0 : x0.Kept q) : (State.countSummed x0 x1 x2).Kept q := by
  unfold State.countSummed; simp +contextual (maxDischargeDepth := 30) [hx0]

@[simp] theorem State.deliverSums_kept {x0 : State} (x1 : Running) (x2 : List (ℕ × Elem)) (hx0 : x0.Kept q) : (State.deliverSums x0 x1 x2).Kept q := by
  unfold State.deliverSums; simp +contextual (maxDischargeDepth := 30) [hx0]

@[simp] theorem State.finishSum_kept {x0 : State} (x1 : Running) (x2 : Bool) (x3 : Leg) (x4 : ℕ) (x5 : List Elem) (hx0 : x0.Kept q) : (State.finishSum x0 x1 x2 x3 x4 x5).Kept q := by
  unfold State.finishSum; simp +contextual (maxDischargeDepth := 30) [hx0]

@[simp] theorem State.takeSum_kept {x0 : State} (x1 : ℕ) (x2 : Running) (x3 : Bool) (x4 : Leg) (x5 : ℕ) (x6 : List Elem) (hx0 : x0.Kept q) : (State.takeSum x0 x1 x2 x3 x4 x5 x6).Kept q := by
  unfold State.takeSum; (repeat' split) <;> simp +contextual (maxDischargeDepth := 30) [hx0]

@[simp] theorem State.takeBlock_kept {x0 : State} (x1 : ℕ) (x2 : Running) (x3 : Bool) (x4 : Leg) (x5 : ℕ) (x6 : List Elem) (hx0 : x0.Kept q) : (State.takeBlock x0 x1 x2 x3 x4 x5 x6).Kept q := by
  unfold State.takeBlock; (repeat' split) <;> simp +contextual (maxDischargeDepth := 30) [hx0]

@[simp] theorem State.raiseFor_kept {x0 : State} (x1 : Running) (hx0 : x0.Kept q) : (State.raiseFor x0 x1).Kept q := by
  unfold State.raiseFor; simp +contextual (maxDischargeDepth := 30) [hx0]

@[simp] theorem State.passRaise_kept {x0 : State} (x1 : Running) (x2 : Bool) (x3 : Leg) (x4 : ℕ) (hx0 : x0.Kept q) : (State.passRaise x0 x1 x2 x3 x4).Kept q := by
  unfold State.passRaise; simp +contextual (maxDischargeDepth := 30) [hx0]

@[simp] theorem State.takeColl_kept {x0 : State} (x1 : ℕ) (x2 : Way) (x3 : Packet) (hx0 : x0.Kept q) : (State.takeColl x0 x1 x2 x3).Kept q := by
  unfold State.takeColl; simp only []; (repeat' split) <;> simp_all +contextual (maxDischargeDepth := 30) [hx0]

@[simp] theorem execColl_kept {x0 : State} (hx0 : x0.Kept q) : keptOutcome q (execColl x0) := by
  unfold execColl; split <;> (try (have ht := State.takeArrived_kept hx0 (by assumption); simp only at ht)) <;> (repeat' split) <;> simp +contextual (maxDischargeDepth := 30) [*, hx0]

@[simp] theorem State.credit_kept {x0 : State} (x1 : ℕ) (x2 : Way) (x3 : ℕ) (hx0 : x0.Kept q) : (State.credit x0 x1 x2 x3).Kept q := by
  unfold State.credit; (repeat' split) <;> simp +contextual (maxDischargeDepth := 30) [hx0]

@[simp] theorem State.takeCredit_kept {x0 : State} (x1 : Packet) (x2 : Bool) (hx0 : x0.Kept q) : (State.takeCredit x0 x1 x2).Kept q := by
  unfold State.takeCredit; simp only []; (repeat' split) <;> simp_all +contextual (maxDischargeDepth := 30) [hx0]

@[simp] theorem execGrant_kept {x0 : State} (hx0 : x0.Kept q) : keptOutcome q (execGrant x0) := by
  unfold execGrant; split <;> (try (have ht := State.takeCtrl_kept hx0 (by assumption); simp only at ht)) <;> (repeat' split) <;> simp +contextual (maxDischargeDepth := 30) [*, hx0]

@[simp] theorem execReturn_kept {x0 : State} (hx0 : x0.Kept q) : keptOutcome q (execReturn x0) := by
  unfold execReturn; split <;> (try (have ht := State.takeCtrl_kept hx0 (by assumption); simp only at ht)) <;> (repeat' split) <;> simp +contextual (maxDischargeDepth := 30) [*, hx0]

@[simp] theorem State.offer_kept {x0 : State} (x1 : Running) (hx0 : x0.Kept q) : (State.offer x0 x1).Kept q := by
  unfold State.offer; simp +contextual (maxDischargeDepth := 30) [hx0]

@[simp] theorem State.writeAlone_kept {x0 : State} (x1 : Running) (hx0 : x0.Kept q) : (State.writeAlone x0 x1).Kept q := by
  unfold State.writeAlone; simp +contextual (maxDischargeDepth := 30) [hx0]

@[simp] theorem State.diagEnd_kept {x0 : State} (x1 : ℕ) (hx0 : x0.Kept q) : (State.diagEnd x0 x1).Kept q := by
  unfold State.diagEnd; simp only []; (repeat' split) <;> simp_all +contextual (maxDischargeDepth := 30) [hx0]

@[simp] theorem State.passLast_kept {x0 : State} (x1 : ℕ) (hx0 : x0.Kept q) : (State.passLast x0 x1).Kept q := by
  unfold State.passLast; simp +contextual (maxDischargeDepth := 30) [hx0]

@[simp] theorem State.begin__kept {x0 : State} (x1 : Running) (hx0 : x0.Kept q) : (State.begin_ x0 x1).Kept q := by
  unfold State.begin_; simp +contextual (maxDischargeDepth := 30) [hx0]

@[simp] theorem State.passWait_kept {x0 : State} (x1 : ℕ) (x2 : Running) (hx0 : x0.Kept q) : (State.passWait x0 x1 x2).Kept q := by
  unfold State.passWait; simp +contextual (maxDischargeDepth := 30) [hx0]

@[simp] theorem State.startOrFault_kept {x0 : State} (x1 : ℕ) (x2 : Running) (hx0 : x0.Kept q) : (State.startOrFault x0 x1 x2).Kept q := by
  unfold State.startOrFault; (repeat' split) <;> simp +contextual (maxDischargeDepth := 30) [hx0]

@[simp] theorem State.startRow_kept {x0 : State} (x1 : ℕ) (x2 : ℕ → Bool) (hx0 : x0.Kept q) : (State.startRow x0 x1 x2).Kept q := by
  unfold State.startRow; simp only []; (repeat' split) <;> simp_all +contextual (maxDischargeDepth := 30) [hx0]

@[simp] theorem execReduceScatter_kept (x0 : Fin 16) {x1 : State} (hx1 : x1.Kept q) : keptOutcome q (execReduceScatter x0 x1) := by
  unfold execReduceScatter; simp +contextual (maxDischargeDepth := 30) [hx1]

@[simp] theorem execAllReduce_kept (x0 : Fin 16) {x1 : State} (hx1 : x1.Kept q) : keptOutcome q (execAllReduce x0 x1) := by
  unfold execAllReduce; simp +contextual (maxDischargeDepth := 30) [hx1]

@[simp] theorem execAllGather_kept (x0 : Fin 16) {x1 : State} (hx1 : x1.Kept q) : keptOutcome q (execAllGather x0 x1) := by
  unfold execAllGather; simp +contextual (maxDischargeDepth := 30) [hx1]

@[simp] theorem execRingPass_kept (x0 : Fin 16) {x1 : State} (hx1 : x1.Kept q) : keptOutcome q (execRingPass x0 x1) := by
  unfold execRingPass; simp +contextual (maxDischargeDepth := 30) [hx1]

@[simp] theorem execDescriptorComplete_kept (x0 : ℕ) {x1 : State} (hx1 : x1.Kept q) : keptOutcome q (execDescriptorComplete x0 x1) := by
  unfold execDescriptorComplete; (repeat' split) <;> simp +contextual (maxDischargeDepth := 30) [hx1]

@[simp] theorem execCollectiveTimeout_kept (x0 : ℕ) {x1 : State} (hx1 : x1.Kept q) : keptOutcome q (execCollectiveTimeout x0 x1) := by
  unfold execCollectiveTimeout; (repeat' split) <;> simp +contextual (maxDischargeDepth := 30) [hx1]

@[simp] theorem State.reclaim_kept {x0 : State} (x1 : ℕ → Bool) (hx0 : x0.Kept q) : (State.reclaim x0 x1).Kept q := by
  unfold State.reclaim; simp +contextual (maxDischargeDepth := 30) [hx0]

@[simp] theorem State.reclaimAll_kept {x0 : State} (hx0 : x0.Kept q) : (State.reclaimAll x0).Kept q := by
  unfold State.reclaimAll; (repeat' split) <;> simp +contextual (maxDischargeDepth := 30) [hx0]

@[simp] theorem State.pumpAll_kept {x0 : State} (hx0 : x0.Kept q) : (State.pumpAll x0).Kept q := by
  unfold State.pumpAll; (repeat' split) <;> simp +contextual (maxDischargeDepth := 30) [hx0]

@[simp] theorem execReclaimHoldEnd_kept (x0 : Fin 16) {x1 : State} (hx1 : x1.Kept q) : keptOutcome q (execReclaimHoldEnd x0 x1) := by
  unfold execReclaimHoldEnd; (repeat' split) <;> simp +contextual (maxDischargeDepth := 30) [hx1]

end Sys2Proof.Machine
end

