-- ==== Sys2Proof/Laws/KeptJob.lean ====
section
/-! SUPPORT. Lemmas that steps, course time, the command path, recovery, contexts, serving and images keep the queue and a sound state. -/

-- Elaborated one after another: the package as one text holds thousands of lemmas, and each waiting one keeps a thread.
set_option Elab.async false

namespace Sys2Proof.Machine

variable {q : List Instr}

@[simp] theorem State.dropReads_kept {x0 : State} (x1 : ReadFor → Bool) (hx0 : x0.Kept q) : (State.dropReads x0 x1).Kept q := by
  unfold State.dropReads; simp +contextual (maxDischargeDepth := 30) [hx0]

@[simp] theorem State.discardPackets_kept {x0 : State} (x1 : Owner → Bool) (hx0 : x0.Kept q) : (State.discardPackets x0 x1).Kept q := by
  unfold State.discardPackets; simp +contextual (maxDischargeDepth := 30) [hx0]

@[simp] theorem State.zeroTokens_kept {x0 : State} (x1 : ℕ) (hx0 : x0.Kept q) : (State.zeroTokens x0 x1).Kept q := by
  unfold State.zeroTokens; simp +contextual (maxDischargeDepth := 30) [hx0]

@[simp] theorem State.lateFromNow_kept {x0 : State} (x1 : ℕ) (hx0 : x0.Kept q) : (State.lateFromNow x0 x1).Kept q := by
  unfold State.lateFromNow; simp +contextual (maxDischargeDepth := 30) [hx0]

@[simp] theorem State.clearImageQueues_kept {x0 : State} (x1 : ℕ) (x2 : ℕ) (hx0 : x0.Kept q) : (State.clearImageQueues x0 x1 x2).Kept q := by
  unfold State.clearImageQueues; simp +contextual (maxDischargeDepth := 30) [hx0]

@[simp] theorem State.stopContext_kept {x0 : State} (x1 : ℕ) (hx0 : x0.Kept q) : (State.stopContext x0 x1).Kept q := by
  unfold State.stopContext; simp +contextual (maxDischargeDepth := 30) [hx0]

@[simp] theorem State.rewind_kept {x0 : State} (x1 : ℕ) (hx0 : x0.Kept q) : (State.rewind x0 x1).Kept q := by
  unfold State.rewind; simp +contextual (maxDischargeDepth := 30) [hx0]

@[simp] theorem State.rewindJob_kept {x0 : State} (hx0 : x0.Kept q) : (State.rewindJob x0).Kept q := by
  unfold State.rewindJob; simp +contextual (maxDischargeDepth := 30) [hx0]

@[simp] theorem State.contribute_kept {x0 : State} (x1 : BitVec 32) (hx0 : x0.Kept q) : (State.contribute x0 x1).Kept q := by
  unfold State.contribute; simp +contextual (maxDischargeDepth := 30) [hx0]

@[simp] theorem execStepEndContribute_kept {x0 : State} (hx0 : x0.Kept q) : keptOutcome q (execStepEndContribute x0) := by
  unfold execStepEndContribute; (repeat' split) <;> simp +contextual (maxDischargeDepth := 30) [hx0]

@[simp] theorem State.flipBuffer_kept {x0 : State} (hx0 : x0.Kept q) : (State.flipBuffer x0).Kept q := by
  unfold State.flipBuffer; simp +contextual (maxDischargeDepth := 30) [hx0]

@[simp] theorem State.mapSnapshots_kept {x0 : State} (x1 : SnapshotDue → SnapshotDue) (hx0 : x0.Kept q) : (State.mapSnapshots x0 x1).Kept q := by
  unfold State.mapSnapshots; simp +contextual (maxDischargeDepth := 30) [hx0]

@[simp] theorem State.nextSnapshots_kept {x0 : State} (hx0 : x0.Kept q) : (State.nextSnapshots x0).Kept q := by
  unfold State.nextSnapshots; simp +contextual (maxDischargeDepth := 30) [hx0]

@[simp] theorem State.backSnapshots_kept {x0 : State} (x1 : BitVec 32 → Bool) (hx0 : x0.Kept q) : (State.backSnapshots x0 x1).Kept q := by
  unfold State.backSnapshots; simp +contextual (maxDischargeDepth := 30) [hx0]

@[simp] theorem State.raiseOn_kept {x0 : State} (x1 : ℕ) (x2 : ℕ) (hx0 : x0.Kept q) : (State.raiseOn x0 x1 x2).Kept q := by
  unfold State.raiseOn; simp +contextual (maxDischargeDepth := 30) [hx0]

@[simp] theorem State.raiseUpdate_kept {x0 : State} (hx0 : x0.Kept q) : (State.raiseUpdate x0).Kept q := by
  unfold State.raiseUpdate; simp +contextual (maxDischargeDepth := 30) [hx0]

@[simp] theorem State.startUpdate_kept {x0 : State} (hx0 : x0.Kept q) : (State.startUpdate x0).Kept q := by
  unfold State.startUpdate; simp +contextual (maxDischargeDepth := 30) [hx0]

@[simp] theorem State.releaseUpdate_kept {x0 : State} (hx0 : x0.Kept q) : (State.releaseUpdate x0).Kept q := by
  unfold State.releaseUpdate; simp +contextual (maxDischargeDepth := 30) [hx0]

@[simp] theorem State.voidBoundary_kept {x0 : State} (hx0 : x0.Kept q) : (State.voidBoundary x0).Kept q := by
  unfold State.voidBoundary; simp +contextual (maxDischargeDepth := 30) [hx0]

@[simp] theorem State.withhold_kept {x0 : State} (x1 : BitVec 32) (x2 : List Byte) (hx0 : x0.Kept q) : (State.withhold x0 x1 x2).Kept q := by
  unfold State.withhold; simp +contextual (maxDischargeDepth := 30) [hx0]

@[simp] theorem State.skip_kept {x0 : State} (x1 : BitVec 32) (hx0 : x0.Kept q) : (State.skip x0 x1).Kept q := by
  unfold State.skip; simp +contextual (maxDischargeDepth := 30) [hx0]

@[simp] theorem State.apply__kept {x0 : State} (x1 : BitVec 32) (hx0 : x0.Kept q) : (State.apply_ x0 x1).Kept q := by
  unfold State.apply_; simp +contextual (maxDischargeDepth := 30) [hx0]

@[simp] theorem State.decide__kept {x0 : State} (x1 : BitVec 32) (x2 : List Byte) (hx0 : x0.Kept q) : (State.decide_ x0 x1 x2).Kept q := by
  unfold State.decide_; simp +contextual (maxDischargeDepth := 30) [hx0]

@[simp] theorem State.recordDecision_kept {s : State} (u) (h : s.Kept q) : (s.recordDecision u).Kept q := by
  unfold State.recordDecision
  refine kept_if (State.setFld_kept _ _ _ ?_) ?_
  all_goals
    simp only [kept_update]
    split
    · exact h
    · exact State.setEntry_kept _ _ h

@[simp] theorem State.releaseChecked_kept {x0 : State} (x1 : BitVec 32) (x2 : List Byte) (hx0 : x0.Kept q) : (State.releaseChecked x0 x1 x2).Kept q := by
  unfold State.releaseChecked; simp +contextual (maxDischargeDepth := 30) [hx0]

@[simp] theorem State.lossUpdate_kept {x0 : State} (x1 : ℕ) (x2 : ℕ) (hx0 : x0.Kept q) : (State.lossUpdate x0 x1 x2).1.Kept q := by
  unfold State.lossUpdate; simp +contextual (maxDischargeDepth := 30) [hx0]

@[simp] theorem State.lossUpdates_kept {x0 : State} (x1 : BitVec 32) (x2 : List Byte) (hx0 : x0.Kept q) : (State.lossUpdates x0 x1 x2).Kept q := by
  unfold State.lossUpdates; simp +contextual (maxDischargeDepth := 30) [hx0]

@[simp] theorem State.straggle_kept {x0 : State} (x1 : BitVec 32) (x2 : List Byte) (hx0 : x0.Kept q) : (State.straggle x0 x1 x2).Kept q := by
  unfold State.straggle; simp +contextual (maxDischargeDepth := 30) [hx0]

@[simp] theorem State.armCut_kept {x0 : State} (x1 : BitVec 32) (x2 : Course) (hx0 : x0.Kept q) : (State.armCut x0 x1 x2).Kept q := by
  unfold State.armCut; (repeat' split) <;> simp +contextual (maxDischargeDepth := 30) [hx0]

@[simp] theorem State.scheduleCut_kept {x0 : State} (x1 : BitVec 32) (x2 : List Byte) (hx0 : x0.Kept q) : (State.scheduleCut x0 x1 x2).Kept q := by
  unfold State.scheduleCut; simp +contextual (maxDischargeDepth := 30) [hx0]

@[simp] theorem State.onSum_kept {x0 : State} (x1 : BitVec 32) (x2 : List Byte) (hx0 : x0.Kept q) : (State.onSum x0 x1 x2).Kept q := by
  unfold State.onSum; simp +contextual (maxDischargeDepth := 30) [hx0]

@[simp] theorem execStepEndSum_kept (x0 : List (List (List Byte))) {x1 : State} (hx1 : x1.Kept q) : keptOutcome q (execStepEndSum x0 x1) := by
  unfold execStepEndSum; simp +contextual (maxDischargeDepth := 30) [hx1]

@[simp] theorem State.resumeEngines_kept {x0 : State} (hx0 : x0.Kept q) : (State.resumeEngines x0).Kept q := by
  unfold State.resumeEngines; simp +contextual (maxDischargeDepth := 30) [hx0]

@[simp] theorem State.copyBatches_kept {x0 : State} (x1 : JournalEntry) (hx0 : x0.Kept q) : (State.copyBatches x0 x1).Kept q := by
  unfold State.copyBatches; simp +contextual (maxDischargeDepth := 30) [hx0]

@[simp] theorem State.writeLossSlots_kept {x0 : State} (x1 : ℕ) (hx0 : x0.Kept q) : (State.writeLossSlots x0 x1).Kept q := by
  unfold State.writeLossSlots; simp +contextual (maxDischargeDepth := 30) [hx0]

@[simp] theorem State.restartIndex_kept {x0 : State} (x1 : ℕ) (hx0 : x0.Kept q) : (State.restartIndex x0 x1).Kept q := by
  unfold State.restartIndex; simp +contextual (maxDischargeDepth := 30) [hx0]

@[simp] theorem State.enterAt_kept {x0 : State} (x1 : ℕ) (x2 : BitVec 32) (hx0 : x0.Kept q) : (State.enterAt x0 x1 x2).Kept q := by
  unfold State.enterAt; simp +contextual (maxDischargeDepth := 30) [hx0]

@[simp] theorem State.startContext_kept {x0 : State} (x1 : JournalEntry) (x2 : ℕ) (hx0 : x0.Kept q) : (State.startContext x0 x1 x2).Kept q := by
  unfold State.startContext; simp +contextual (maxDischargeDepth := 30) [hx0]

@[simp] theorem State.startDevice_kept {x0 : State} (x1 : JournalEntry) (x2 : Course) (hx0 : x0.Kept q) : (State.startDevice x0 x1 x2).Kept q := by
  unfold State.startDevice; simp +contextual (maxDischargeDepth := 30) [hx0]

@[simp] theorem State.beginContext_kept {x0 : State} (x1 : JournalEntry) (x2 : ℕ) (hx0 : x0.Kept q) : (State.beginContext x0 x1 x2).Kept q := by
  unfold State.beginContext; simp +contextual (maxDischargeDepth := 30) [hx0]

@[simp] theorem State.beginStep_kept {x0 : State} (x1 : ℕ) (x2 : JournalEntry) {x3 : State} (hx0 : x0.Kept q) (hx3 : x3.Kept q) : (State.beginStep x0 x1 x2 x3).Kept q := by
  unfold State.beginStep; simp +contextual (maxDischargeDepth := 30) [hx0, hx3]

@[simp] theorem State.startDiagnosis_kept {x0 : State} (x1 : Diagnosis) (hx0 : x0.Kept q) : (State.startDiagnosis x0 x1).Kept q := by
  unfold State.startDiagnosis; simp +contextual (maxDischargeDepth := 30) [hx0]

@[simp] theorem execStepStart_kept (x0 : Fin 4) {x1 : State} (hx1 : x1.Kept q) : keptOutcome q (execStepStart x0 x1) := by
  unfold execStepStart; split <;> (try (have ht := State.takeHanded_kept hx1 (by assumption); simp only at ht)) <;> (repeat' split) <;> simp +contextual (maxDischargeDepth := 30) [*, hx1]

@[simp] theorem State.missEntry_kept {x0 : State} (x1 : ℕ) (x2 : ℕ) (hx0 : x0.Kept q) : (State.missEntry x0 x1 x2).Kept q := by
  unfold State.missEntry; simp +contextual (maxDischargeDepth := 30) [hx0]

@[simp] theorem State.fireEntry_kept {x0 : State} (x1 : ℕ) (x2 : ℕ) (hx0 : x0.Kept q) : (State.fireEntry x0 x1 x2).Kept q := by
  unfold State.fireEntry; simp +contextual (maxDischargeDepth := 30) [hx0]

@[simp] theorem State.entryTime_kept {x0 : State} (x1 : ℕ) (x2 : ℕ) (hx0 : x0.Kept q) : (State.entryTime x0 x1 x2).Kept q := by
  unfold State.entryTime; simp +contextual (maxDischargeDepth := 30) [hx0]

@[simp] theorem execEventFire_kept (x0 : Fin 5) (x1 : Fin 64) {x2 : State} (hx2 : x2.Kept q) : keptOutcome q (execEventFire x0 x1 x2) := by
  unfold execEventFire; simp +contextual (maxDischargeDepth := 30) [hx2]

@[simp] theorem State.setMastership_kept {x0 : State} (x1 : BitVec 16) (x2 : BitVec 15) (hx0 : x0.Kept q) : (State.setMastership x0 x1 x2).Kept q := by
  unfold State.setMastership; simp +contextual (maxDischargeDepth := 30) [hx0]

@[simp] theorem execBeaconSend_kept {x0 : State} (hx0 : x0.Kept q) : keptOutcome q (execBeaconSend x0) := by
  unfold execBeaconSend; simp +contextual (maxDischargeDepth := 30) [hx0]

@[simp] theorem State.stepCounters_kept {s : State} (n) (h : s.Kept q) : (s.stepCounters n).Kept q := by
  have key (t : State) (f : Fabric) (b : Timebase) (co : Course) (st : Nat) (ht : t.Kept q) (hs : st < 2560) :
      State.Kept q { t with tb := { b with course := co, stitch := st }, fab := f } := ⟨ht.1, ht.2.1, ht.2.2.1, hs⟩
  unfold State.stepCounters
  refine State.report_kept _ (State.count_kept _ _ (key _ _ _ _ _ ?_ (Nat.mod_lt _ (by decide))))
  exact foldl_kept h (fun t x ht => State.missEntry_kept _ _ ht)

@[simp] theorem State.setTbState_kept {x0 : State} (x1 : ℕ) (hx0 : x0.Kept q) : (State.setTbState x0 x1).Kept q := by
  unfold State.setTbState; simp +contextual (maxDischargeDepth := 30) [hx0]

@[simp] theorem State.acquireStep_kept {x0 : State} (x1 : ℕ) (hx0 : x0.Kept q) : (State.acquireStep x0 x1).Kept q := by
  unfold State.acquireStep; simp +contextual (maxDischargeDepth := 30) [hx0]

@[simp] theorem State.steer_kept {x0 : State} (hx0 : x0.Kept q) : (State.steer x0).Kept q := by
  unfold State.steer; simp +contextual (maxDischargeDepth := 30) [hx0]

@[simp] theorem State.onParentBeacon_kept {x0 : State} (x1 : ℤ) (x2 : ℕ) (hx0 : x0.Kept q) : (State.onParentBeacon x0 x1 x2).Kept q := by
  unfold State.onParentBeacon; simp +contextual (maxDischargeDepth := 30) [hx0]

@[simp] theorem State.showPhaseError_kept {x0 : State} (x1 : ℤ) (hx0 : x0.Kept q) : (State.showPhaseError x0 x1).Kept q := by
  unfold State.showPhaseError; simp +contextual (maxDischargeDepth := 30) [hx0]

@[simp] theorem State.chooseParent_kept {x0 : State} (hx0 : x0.Kept q) : (State.chooseParent x0).Kept q := by
  unfold State.chooseParent; (repeat' split) <;> simp +contextual (maxDischargeDepth := 30) [hx0]

@[simp] theorem State.followParent_kept {x0 : State} (x1 : ℤ) (x2 : ℕ) (hx0 : x0.Kept q) : (State.followParent x0 x1 x2).Kept q := by
  unfold State.followParent; simp +contextual (maxDischargeDepth := 30) [hx0]

@[simp] theorem State.hearBeacon_kept {x0 : State} (x1 : LinkPacket) (x2 : ℕ) (hx0 : x0.Kept q) : (State.hearBeacon x0 x1 x2).Kept q := by
  unfold State.hearBeacon; simp +contextual (maxDischargeDepth := 30) [hx0]

@[simp] theorem execBeacon_kept (x0 : Fin 256) {s : State} (h : s.Kept q) : keptOutcome q (execBeacon x0 s) := by
  unfold execBeacon
  split
  · exact h
  · next e => exact act_kept _ h (fun _ => State.hearBeacon_kept _ _ (State.takeLink_kept h e))

@[simp] theorem State.reviewParent_kept {x0 : State} (hx0 : x0.Kept q) : (State.reviewParent x0).Kept q := by
  unfold State.reviewParent; simp +contextual (maxDischargeDepth := 30) [hx0]

@[simp] theorem execParentTimeout_kept {x0 : State} (hx0 : x0.Kept q) : keptOutcome q (execParentTimeout x0) := by
  unfold execParentTimeout; simp +contextual (maxDischargeDepth := 30) [hx0]

@[simp] theorem State.becomeMaster_kept {x0 : State} (x1 : BitVec 16) (hx0 : x0.Kept q) : (State.becomeMaster x0 x1).Kept q := by
  unfold State.becomeMaster; simp +contextual (maxDischargeDepth := 30) [hx0]

@[simp] theorem execMasterElection_kept {x0 : State} (hx0 : x0.Kept q) : keptOutcome q (execMasterElection x0) := by
  unfold execMasterElection; (repeat' split) <;> simp +contextual (maxDischargeDepth := 30) [hx0]

@[simp] theorem execFreeRunTimeout_kept {x0 : State} (hx0 : x0.Kept q) : keptOutcome q (execFreeRunTimeout x0) := by
  unfold execFreeRunTimeout; (repeat' split) <;> simp +contextual (maxDischargeDepth := 30) [hx0]

@[simp] theorem State.emit_kept {x0 : State} (x1 : Option (Option Session)) (x2 : Sent) (hx0 : x0.Kept q) : (State.emit x0 x1 x2).Kept q := by
  unfold State.emit; simp +contextual (maxDischargeDepth := 30) [hx0]

@[simp] theorem State.sendOut_kept {x0 : State} (x1) (hx0 : x0.Kept q) : (State.sendOut x0 x1).Kept q := by
  unfold State.sendOut; (repeat' split) <;> simp +contextual (maxDischargeDepth := 30) [hx0]

@[simp] theorem State.send_kept {x0 : State} (x1 : Sent) (hx0 : x0.Kept q) : (State.send x0 x1).Kept q := by
  unfold State.send; (repeat' split) <;> simp +contextual (maxDischargeDepth := 30) [hx0]

@[simp] theorem State.flushWaiting_kept {x0 : State} (hx0 : x0.Kept q) : (State.flushWaiting x0).Kept q := by
  unfold State.flushWaiting; simp +contextual (maxDischargeDepth := 30) [hx0]

@[simp] theorem State.reply_kept {x0 : State} (x1) (x2) (x3) (x4) (x5) (x6) (x7) (x8) (hx0 : x0.Kept q) : (State.reply x0 x1 x2 x3 x4 x5 x6 x7 x8).Kept q := by
  unfold State.reply; (repeat' split) <;> simp +contextual (maxDischargeDepth := 30) [hx0]

@[simp] theorem State.setSeqState_kept {x0 : State} (x1 : SeqState) (hx0 : x0.Kept q) : (State.setSeqState x0 x1).Kept q := by
  unfold State.setSeqState; simp +contextual (maxDischargeDepth := 30) [hx0]

@[simp] theorem State.showSession_kept {x0 : State} (hx0 : x0.Kept q) : (State.showSession x0).Kept q := by
  unfold State.showSession; simp +contextual (maxDischargeDepth := 30) [hx0]

@[simp] theorem State.endSession_kept {x0 : State} (hx0 : x0.Kept q) : (State.endSession x0).Kept q := by
  unfold State.endSession; simp +contextual (maxDischargeDepth := 30) [hx0]

@[simp] theorem State.lapseSession_kept {x0 : State} (hx0 : x0.Kept q) : (State.lapseSession x0).Kept q := by
  unfold State.lapseSession; (repeat' split) <;> simp +contextual (maxDischargeDepth := 30) [hx0]

@[simp] theorem State.sendPfc_kept {x0 : State} (x1 : ℕ) (x2 : Bool) (hx0 : x0.Kept q) : (State.sendPfc x0 x1 x2).Kept q := by
  unfold State.sendPfc; simp +contextual (maxDischargeDepth := 30) [hx0]

@[simp] theorem State.setRoom_kept {x0 : State} (x1 : ℕ) (x2 : ℕ) (hx0 : x0.Kept q) : (State.setRoom x0 x1 x2).Kept q := by
  unfold State.setRoom; simp +contextual (maxDischargeDepth := 30) [hx0]

@[simp] theorem State.unprotect_kept {x0 : State} (x1 : Frame) (hx0 : x0.Kept q) : (State.unprotect x0 x1).1.Kept q := by
  unfold State.unprotect; (repeat' split) <;> simp +contextual (maxDischargeDepth := 30) [hx0]
  (repeat' split) <;> simp +contextual (maxDischargeDepth := 30) [hx0]

@[simp] theorem State.receive_kept {x0 : State} (x1 : Frame) (x2 : ℕ) (hx0 : x0.Kept q) : (State.receive x0 x1 x2).1.Kept q := by
  unfold State.receive; simp +contextual (maxDischargeDepth := 30) [hx0]

@[simp] theorem State.cacheReply_kept {x0 : State} (x1 : CachedReply) (hx0 : x0.Kept q) : (State.cacheReply x0 x1).Kept q := by
  unfold State.cacheReply; simp +contextual (maxDischargeDepth := 30) [hx0]

@[simp] theorem State.refuseBusy_kept {x0 : State} (x1) (hx0 : x0.Kept q) : (State.refuseBusy x0 x1).Kept q := by
  unfold State.refuseBusy; (repeat' split) <;> simp +contextual (maxDischargeDepth := 30) [hx0]

@[simp] theorem State.answer_kept {x0 : State} {x1 : State} (x2 : CmdSlot) (x3 : ℕ) (x4 : List Byte) (hx0 : x0.Kept q) (_ : x1.Kept q) : (State.answer x0 x1 x2 x3 x4).Kept q := by
  unfold State.answer; (repeat' split) <;> simp +contextual (maxDischargeDepth := 30) [hx0]

@[simp] theorem State.answerReserved_kept {x0 : State} (hx0 : x0.Kept q) : (State.answerReserved x0).Kept q := by
  unfold State.answerReserved; (repeat' split) <;> simp +contextual (maxDischargeDepth := 30) [hx0]

@[simp] theorem State.replied_kept {t before : State} (c) (n) (b) (ht : t.Kept q) (hb : before.Kept q) : (t.replied before c n b).Kept q := by
  unfold State.replied; exact State.answerReserved_kept (State.answer_kept _ _ _ ht hb)

@[simp] theorem State.joinOrder_kept {x0 : State} (x1) (hx0 : x0.Kept q) : (State.joinOrder x0 x1).Kept q := by
  unfold State.joinOrder; (repeat' split) <;> simp +contextual (maxDischargeDepth := 30) [hx0]

@[simp] theorem State.acceptCommand_kept {x0 : State} (x1 : CmdSlot) (hx0 : x0.Kept q) : (State.acceptCommand x0 x1).Kept q := by
  unfold State.acceptCommand; simp +contextual (maxDischargeDepth := 30) [hx0]

@[simp] theorem State.repeated_kept {x0 : State} (x1 : CmdSlot) (hx0 : x0.Kept q) : (State.repeated x0 x1).Kept q := by
  unfold State.repeated; (repeat' split) <;> simp +contextual (maxDischargeDepth := 30) [hx0]

@[simp] theorem State.takeDatagram_kept {x0 : State} (x1 : Frame) (x2 : List Byte) (hx0 : x0.Kept q) : (State.takeDatagram x0 x1 x2).Kept q := by
  unfold State.takeDatagram; simp only []; (repeat' split) <;> simp_all +contextual (maxDischargeDepth := 30) [hx0]

@[simp] theorem execFcpDatagram_kept (f b) {s : State} (h : s.Kept q) : keptOutcome q (execFcpDatagram f b s) := by
  unfold execFcpDatagram
  refine act_kept _ h (fun _ => ?_)
  have hr := State.receive_kept f 0 h
  split
  · next heq => rw [heq] at hr; split <;> simp +contextual (maxDischargeDepth := 30) [hr]
  · next heq => rw [heq] at hr; exact hr

@[simp] theorem Done.refuse_kept {x0 : State} (x1 : ℕ) (hx0 : x0.Kept q) : (Done.refuse x0 x1).state.Kept q := by
  unfold Done.refuse; simp +contextual (maxDischargeDepth := 30) [hx0]

@[simp] theorem Done.ok_kept {x0 : State} (x1 : List Byte) (hx0 : x0.Kept q) : (Done.ok x0 x1).state.Kept q := by
  unfold Done.ok; simp +contextual (maxDischargeDepth := 30) [hx0]

@[simp] theorem Done.early_kept {d : Done} {t : State} (hd : d.state.Kept q) (ht : t.Kept q) : (d.early t).state.Kept q := by
  unfold Done.early
  split <;> assumption

@[simp] theorem runTrusted_kept (g : CmdSlot → Bool) (op : Nat) (f : State → CmdSlot → Done) {s : State} (h : s.Kept q)
    (hf : ∀ t c, t.Kept q → (f t c).state.Kept q) : keptOutcome q (runTrusted g op f s) := by
  unfold runTrusted
  split
  · exact h
  · next c rest _ =>
    have ht : State.Kept q { s with cmd := { s.cmd with queue := rest } } := by simpa [kept_update] using h
    refine act_kept _ h (fun _ => kept_if (State.replied_kept _ _ _ ?_ h) (State.trustDisagrees_kept ht))
    split
    · exact Done.early_kept (hf _ _ ht) ht
    · exact hf _ _ ht

@[simp] theorem runCommand_kept (op : Nat) (f : State → CmdSlot → Done) {s : State} (h : s.Kept q) (hf : ∀ t c, t.Kept q → (f t c).state.Kept q) : keptOutcome q (runCommand op f s) :=
  runTrusted_kept _ op f h hf

@[simp] theorem sized_kept (n : Nat) (f : State → CmdSlot → Done) (c : CmdSlot) {s : State} (hf : ∀ t c, t.Kept q → (f t c).state.Kept q) (h : s.Kept q) : (sized n f s c).state.Kept q := by
  unfold sized
  split
  · exact hf _ _ h
  · exact h

@[simp] theorem deferred_kept {s : State} (c : CmdSlot) (w : State → Nat → State) (h : s.Kept q) (hw : ∀ t n, t.Kept q → (w t n).Kept q) : (deferred s c w).state.Kept q := by
  unfold deferred
  split
  · exact h
  · exact hw _ _ (State.takeResult_kept _ _ _ _ h)

@[simp] theorem State.onCycle_kept {x0 : State} (x1 : List ℕ) (hx0 : x0.Kept q) : (State.onCycle x0 x1).Kept q := by
  unfold State.onCycle; simp only []; (repeat' split) <;> simp_all +contextual (maxDischargeDepth := 30) [hx0]

@[simp] theorem State.onStall_kept {x0 : State} (x1 : WaitState) (hx0 : x0.Kept q) : (State.onStall x0 x1).Kept q := by
  unfold State.onStall; simp +contextual (maxDischargeDepth := 30) [hx0]

@[simp] theorem State.onTrouble_kept {x0 : State} (x1 : ℕ) (hx0 : x0.Kept q) : (State.onTrouble x0 x1).Kept q := by
  unfold State.onTrouble; simp +contextual (maxDischargeDepth := 30) [hx0]

@[simp] theorem execWaitForSample_kept (x0 : List Trouble) {x1 : State} (hx1 : x1.Kept q) : keptOutcome q (execWaitForSample x0 x1) := by
  unfold execWaitForSample; simp +contextual (maxDischargeDepth := 30) [hx1]

@[simp] theorem execHeartbeat_kept {x0 : State} (hx0 : x0.Kept q) : keptOutcome q (execHeartbeat x0) := by
  unfold execHeartbeat; simp +contextual (maxDischargeDepth := 30) [hx0]

theorem State.takeRv_kept {s : State} {a} {r} (h : s.Kept q) (e : s.takeRv a = some r) : r.2.2.Kept q := State.takeCtrl_kept h e

@[simp] theorem State.onFlooded_kept {s : State} (i m) (f : State → State) (h : s.Kept q) (hf : ∀ t, t.Kept q → (f t).Kept q) : (s.onFlooded i m f).Kept q := by
  unfold State.onFlooded
  (repeat' split) <;> simp +contextual (maxDischargeDepth := 30) [h, hf, State.rememberOrigin_kept, State.floodCtrl_kept]

@[simp] theorem execAbort_kept {x0 : State} (hx0 : x0.Kept q) : keptOutcome q (execAbort x0) := by
  unfold execAbort; split <;> (try (have ht := State.takeRv_kept hx0 (by assumption); simp only at ht)) <;> (repeat' split) <;> simp +contextual (maxDischargeDepth := 30) [*, hx0]

@[simp] theorem State.sendRv_kept {x0 : State} (x1 : BitVec 15 × Bool) (x2 : RvMessage) (hx0 : x0.Kept q) : (State.sendRv x0 x1 x2).Kept q := by
  unfold State.sendRv; simp +contextual (maxDischargeDepth := 30) [hx0]

@[simp] theorem State.numberMessage_kept {x0 : State} (hx0 : x0.Kept q) : (State.numberMessage x0).Kept q := by
  unfold State.numberMessage; simp +contextual (maxDischargeDepth := 30) [hx0]

@[simp] theorem execMapRequest_kept {x0 : State} (hx0 : x0.Kept q) : keptOutcome q (execMapRequest x0) := by
  unfold execMapRequest; split <;> (try (have ht := State.takeRv_kept hx0 (by assumption); simp only at ht)) <;> (repeat' split) <;> simp +contextual (maxDischargeDepth := 30) [*, hx0]

@[simp] theorem execMapReply_kept {x0 : State} (hx0 : x0.Kept q) : keptOutcome q (execMapReply x0) := by
  unfold execMapReply; split <;> (try (have ht := State.takeRv_kept hx0 (by assumption); simp only at ht)) <;> (repeat' split) <;> simp +contextual (maxDischargeDepth := 30) [*, hx0]

@[simp] theorem execOriginForget_kept {x0 : State} (hx0 : x0.Kept q) : keptOutcome q (execOriginForget x0) := by
  unfold execOriginForget; simp +contextual (maxDischargeDepth := 30) [hx0]

@[simp] theorem State.originAdvance_kept {x0 : State} (x1 : BitVec 32) (x2 : BitVec 32) (hx0 : x0.Kept q) : (State.originAdvance x0 x1 x2).Kept q := by
  unfold State.originAdvance; simp +contextual (maxDischargeDepth := 30) [hx0]

@[simp] theorem execEpochAdvance_kept {x0 : State} (hx0 : x0.Kept q) : keptOutcome q (execEpochAdvance x0) := by
  unfold execEpochAdvance; simp +contextual (maxDischargeDepth := 30) [hx0]

@[simp] theorem State.awaitMap_kept {x0 : State} (x1 : RvMessage) (hx0 : x0.Kept q) : (State.awaitMap x0 x1).Kept q := by
  unfold State.awaitMap; simp +contextual (maxDischargeDepth := 30) [hx0]

@[simp] theorem execEpochAdvanceReceive_kept {x0 : State} (hx0 : x0.Kept q) : keptOutcome q (execEpochAdvanceReceive x0) := by
  unfold execEpochAdvanceReceive; split <;> (try (have ht := State.takeRv_kept hx0 (by assumption); simp only at ht)) <;> (repeat' split) <;> simp +contextual (maxDischargeDepth := 30) [*, hx0]

@[simp] theorem State.showPresent_kept {x0 : State} (hx0 : x0.Kept q) : (State.showPresent x0).Kept q := by
  unfold State.showPresent; simp +contextual (maxDischargeDepth := 30) [hx0]

@[simp] theorem State.shrink_kept {x0 : State} (x1 : List ℕ) (hx0 : x0.Kept q) : (State.shrink x0 x1).Kept q := by
  unfold State.shrink; simp +contextual (maxDischargeDepth := 30) [hx0]

@[simp] theorem State.applyAdvance_kept {x0 : State} (x1 : RvMessage) (hx0 : x0.Kept q) : (State.applyAdvance x0 x1).Kept q := by
  unfold State.applyAdvance; simp +contextual (maxDischargeDepth := 30) [hx0]

@[simp] theorem execEpochApply_kept {x0 : State} (hx0 : x0.Kept q) : keptOutcome q (execEpochApply x0) := by
  unfold execEpochApply; (repeat' split) <;> simp +contextual (maxDischargeDepth := 30) [hx0]

@[simp] theorem execEpochDigestTimeout_kept {x0 : State} (hx0 : x0.Kept q) : keptOutcome q (execEpochDigestTimeout x0) := by
  unfold execEpochDigestTimeout; (repeat' split) <;> simp +contextual (maxDischargeDepth := 30) [hx0]

@[simp] theorem execFaultDeclare_kept {x0 : State} (hx0 : x0.Kept q) : keptOutcome q (execFaultDeclare x0) := by
  unfold execFaultDeclare; simp +contextual (maxDischargeDepth := 30) [hx0]

@[simp] theorem State.evict_kept {x0 : State} (x1 : ℕ) (x2 : ℕ) (hx0 : x0.Kept q) : (State.evict x0 x1 x2).Kept q := by
  unfold State.evict; simp +contextual (maxDischargeDepth := 30) [hx0]

@[simp] theorem State.freeContext_kept {x0 : State} (x1 : ℕ) (hx0 : x0.Kept q) : (State.freeContext x0 x1).Kept q := by
  unfold State.freeContext; simp +contextual (maxDischargeDepth := 30) [hx0]

@[simp] theorem State.loadContext_kept {x0 : State} (x1 : ℕ) (x2 : ℕ) (x3 : ℕ) (x4 : ℕ) (x5 : ℕ) (x6 : ℕ) (hx0 : x0.Kept q) : (State.loadContext x0 x1 x2 x3 x4 x5 x6).Kept q := by
  unfold State.loadContext; simp +contextual (maxDischargeDepth := 30) [hx0]

@[simp] theorem execCtxLoad_kept {x0 : State} (hx0 : x0.Kept q) : keptOutcome q (execCtxLoad x0) := by
  unfold execCtxLoad; simp +contextual (maxDischargeDepth := 30) [hx0]

@[simp] theorem execCtxFree_kept {x0 : State} (hx0 : x0.Kept q) : keptOutcome q (execCtxFree x0) := by
  unfold execCtxFree; simp +contextual (maxDischargeDepth := 30) [hx0]

@[simp] theorem State.switchTo_kept {x0 : State} (x1 : ℕ) (x2 : List ℕ) (hx0 : x0.Kept q) : (State.switchTo x0 x1 x2).Kept q := by
  unfold State.switchTo; simp +contextual (maxDischargeDepth := 30) [hx0]

@[simp] theorem execCtxSwitch_kept {x0 : State} (hx0 : x0.Kept q) : keptOutcome q (execCtxSwitch x0) := by
  unfold execCtxSwitch; simp +contextual (maxDischargeDepth := 30) [hx0]

@[simp] theorem execContextSwitch_kept (x0 : Fin 4) {x1 : State} (hx1 : x1.Kept q) : keptOutcome q (execContextSwitch x0 x1) := by
  unfold execContextSwitch; split <;> (try (have ht := State.takeHanded_kept hx1 (by assumption); simp only at ht)) <;> (repeat' split) <;> simp +contextual (maxDischargeDepth := 30) [*, hx1]

@[simp] theorem State.setStream_kept {x0 : State} (x1 : ℕ) (x2 : Option Stream) (hx0 : x0.Kept q) : (State.setStream x0 x1 x2).Kept q := by
  unfold State.setStream; simp +contextual (maxDischargeDepth := 30) [hx0]

@[simp] theorem State.completeRequest_kept {x0 : State} (x1 : ℕ) (x2 : Request) (x3 : ℕ) (x4 : ℕ) (hx0 : x0.Kept q) : (State.completeRequest x0 x1 x2 x3 x4).Kept q := by
  unfold State.completeRequest; (repeat' split) <;> simp +contextual (maxDischargeDepth := 30) [hx0]

@[simp] theorem State.completeFaulted_kept {x0 : State} (x1 : ℕ) (x2 : List Request) (hx0 : x0.Kept q) : (State.completeFaulted x0 x1 x2).Kept q := by
  unfold State.completeFaulted; simp +contextual (maxDischargeDepth := 30) [hx0]

@[simp] theorem State.endStream_kept {x0 : State} (x1 : ℕ) (hx0 : x0.Kept q) : (State.endStream x0 x1).Kept q := by
  unfold State.endStream; simp only []; (repeat' split) <;> simp_all +contextual (maxDischargeDepth := 30) [hx0]

@[simp] theorem State.setHalted_kept {x0 : State} (x1 : ℕ) (hx0 : x0.Kept q) : (State.setHalted x0 x1).Kept q := by
  unfold State.setHalted; simp +contextual (maxDischargeDepth := 30) [hx0]

@[simp] theorem execServeOpen_kept {s : State} (h : s.Kept q) : keptOutcome q (execServeOpen s) := by
  refine runCommand_kept _ _ h (fun t c ht => sized_kept _ _ _ (fun t c ht => ?_) ht)
  simp only []
  (repeat' split) <;> first
    | exact ht
    | exact State.setHalted_kept _ (State.setStream_kept _ _ (State.takeResult_kept _ _ _ _ ht))

@[simp] theorem execServeSubmit_kept {x0 : State} (hx0 : x0.Kept q) : keptOutcome q (execServeSubmit x0) := by
  unfold execServeSubmit; refine runCommand_kept _ _ hx0 (fun t c ht => ?_); (try refine sized_kept _ _ _ (fun t c ht => ?_) ht); (repeat' split) <;> simp +contextual (maxDischargeDepth := 30) [ht, hx0]

@[simp] theorem execServeClose_kept {x0 : State} (hx0 : x0.Kept q) : keptOutcome q (execServeClose x0) := by
  unfold execServeClose; refine runCommand_kept _ _ hx0 (fun t c ht => ?_); (try refine sized_kept _ _ _ (fun t c ht => ?_) ht); (repeat' split) <;> simp +contextual (maxDischargeDepth := 30) [ht, hx0]

@[simp] theorem execServeBlockClose_kept (x0 : Fin 16) {x1 : State} (hx1 : x1.Kept q) : keptOutcome q (execServeBlockClose x0 x1) := by
  unfold execServeBlockClose; (repeat' split) <;> simp +contextual (maxDischargeDepth := 30) [hx1]

@[simp] theorem State.placeRequest_kept {x0 : State} (x1 : Stream) (x2 : ℕ) (x3 : Request) (hx0 : x0.Kept q) : (State.placeRequest x0 x1 x2 x3).Kept q := by
  unfold State.placeRequest; simp +contextual (maxDischargeDepth := 30) [hx0]

@[simp] theorem execServeBlockStart_kept (x0 : Fin 16) {x1 : State} (hx1 : x1.Kept q) : keptOutcome q (execServeBlockStart x0 x1) := by
  unfold execServeBlockStart; (repeat' split) <;> simp +contextual (maxDischargeDepth := 30) [hx1]

@[simp] theorem State.finishRequest_kept {x0 : State} (x1 : Stream) (x2 : ℕ) (x3 : Request) (hx0 : x0.Kept q) : (State.finishRequest x0 x1 x2 x3).Kept q := by
  unfold State.finishRequest; simp +contextual (maxDischargeDepth := 30) [hx0]

@[simp] theorem execServeBlockDone_kept (x0 : Fin 16) {x1 : State} (hx1 : x1.Kept q) : keptOutcome q (execServeBlockDone x0 x1) := by
  unfold execServeBlockDone; (repeat' split) <;> simp +contextual (maxDischargeDepth := 30) [hx1]

@[simp] theorem execResultRead_kept {s : State} (h : s.Kept q) : keptOutcome q (execResultRead s) := by
  refine runCommand_kept _ _ h (fun t c ht => sized_kept _ _ _ (fun t c ht => ?_) ht)
  simp only []
  (repeat' split) <;> exact ht

@[simp] theorem execResultRelease_kept {s : State} (h : s.Kept q) : keptOutcome q (execResultRelease s) := by
  refine runCommand_kept _ _ h (fun t c ht => sized_kept _ _ _ (fun t c ht => ?_) ht)
  simp only []
  (repeat' split) <;> simp +contextual (maxDischargeDepth := 30) [ht]

@[simp] theorem execResultLeaseEnd_kept (x0 : Fin 64) {x1 : State} (hx1 : x1.Kept q) : keptOutcome q (execResultLeaseEnd x0 x1) := by
  unfold execResultLeaseEnd; (repeat' split) <;> simp +contextual (maxDischargeDepth := 30) [hx1]

@[simp] theorem State.countImage_kept {x0 : State} (x1 : ℕ) (hx0 : x0.Kept q) : (State.countImage x0 x1).Kept q := by
  unfold State.countImage; simp +contextual (maxDischargeDepth := 30) [hx0]

@[simp] theorem State.showStrict_kept {x0 : State} (hx0 : x0.Kept q) : (State.showStrict x0).Kept q := by
  unfold State.showStrict; simp +contextual (maxDischargeDepth := 30) [hx0]

@[simp] theorem State.checkGroupK_kept {x0 : State} (hx0 : x0.Kept q) : (State.checkGroupK x0).Kept q := by
  unfold State.checkGroupK; simp +contextual (maxDischargeDepth := 30) [hx0]

@[simp] theorem State.showSettings_kept {x0 : State} (hx0 : x0.Kept q) : (State.showSettings x0).Kept q := by
  unfold State.showSettings; simp +contextual (maxDischargeDepth := 30) [hx0]

@[simp] theorem State.measure_kept {x0 : State} (hx0 : x0.Kept q) : (State.measure x0).Kept q := by
  unfold State.measure; simp +contextual (maxDischargeDepth := 30) [hx0]

@[simp] theorem State.detectGlobal_kept {x0 : State} (hx0 : x0.Kept q) : (State.detectGlobal x0).Kept q := by
  unfold State.detectGlobal; simp +contextual (maxDischargeDepth := 30) [hx0]

@[simp] theorem State.applySite_kept {x0 : State} (hx0 : x0.Kept q) : (State.applySite x0).Kept q := by
  unfold State.applySite; simp only []; (repeat' split) <;> simp_all +contextual (maxDischargeDepth := 30) [hx0]

@[simp] theorem State.putInForce_kept {x0 : State} (x1 : Option Overlay) (x2 : Option Overlay) (hx0 : x0.Kept q) : (State.putInForce x0 x1 x2).Kept q := by
  unfold State.putInForce; simp +contextual (maxDischargeDepth := 30) [hx0]

@[simp] theorem State.switchOverlays_kept {x0 : State} (hx0 : x0.Kept q) : (State.switchOverlays x0).Kept q := by
  unfold State.switchOverlays; simp +contextual (maxDischargeDepth := 30) [hx0]

@[simp] theorem execOverlaySwitch_kept {x0 : State} (hx0 : x0.Kept q) : keptOutcome q (execOverlaySwitch x0) := by
  unfold execOverlaySwitch; split <;> (try (have ht := State.takeHanded_kept hx0 (by assumption); simp only at ht)) <;> (repeat' split) <;> simp +contextual (maxDischargeDepth := 30) [*, hx0]

@[simp] theorem execOverlayStage_kept {x0 : State} (hx0 : x0.Kept q) : keptOutcome q (execOverlayStage x0) := by
  unfold execOverlayStage; simp +contextual (maxDischargeDepth := 30) [hx0]

@[simp] theorem execOverlayStageComplete_kept (x0 : Bool) {x1 : State} (hx1 : x1.Kept q) : keptOutcome q (execOverlayStageComplete x0 x1) := by
  unfold execOverlayStageComplete; (repeat' split) <;> simp +contextual (maxDischargeDepth := 30) [hx1]

end Sys2Proof.Machine
end

