-- ==== Sys2Proof/Laws/KeptDevice.lean ====
section
/-! SUPPORT. Lemmas that keys and identity, resets, their views and the writes of registers keep the queue and a sound state. -/

-- Elaborated one after another: the package as one text holds thousands of lemmas, and each waiting one keeps a thread.
set_option Elab.async false

namespace Sys2Proof.Machine

variable {q : List Instr}

@[simp] theorem execIdentityGet_kept {x0 : State} (hx0 : x0.Kept q) : keptOutcome q (execIdentityGet x0) := by
  unfold execIdentityGet; refine runCommand_kept _ _ hx0 (fun t c ht => ?_); (try refine sized_kept _ _ _ (fun t c ht => ?_) ht); (repeat' split) <;> simp +contextual (maxDischargeDepth := 30) [ht, hx0]

@[simp] theorem execAttest_kept {x0 : State} (hx0 : x0.Kept q) : keptOutcome q (execAttest x0) := by
  unfold execAttest; refine runTrusted_kept _ _ _ hx0 (fun t c ht => ?_); (try refine sized_kept _ _ _ (fun t c ht => ?_) ht); simp only []; (repeat' split) <;> simp +contextual (maxDischargeDepth := 30) [ht, hx0]

@[simp] theorem execSessionOpen_kept {x0 : State} (hx0 : x0.Kept q) : keptOutcome q (execSessionOpen x0) := by
  unfold execSessionOpen; simp +contextual (maxDischargeDepth := 30) [hx0]

@[simp] theorem State.beginSession_kept {x0 : State} (x1 : PendingOpen) (hx0 : x0.Kept q) : (State.beginSession x0 x1).Kept q := by
  unfold State.beginSession; simp +contextual (maxDischargeDepth := 30) [hx0]

@[simp] theorem execSessionConfirm_kept (x0 : Bool) {x1 : State} (hx1 : x1.Kept q) : keptOutcome q (execSessionConfirm x0 x1) := by
  unfold execSessionConfirm; refine runTrusted_kept _ _ _ hx1 (fun t c ht => ?_); (try refine sized_kept _ _ _ (fun t c ht => ?_) ht); simp only []; (repeat' split) <;> simp +contextual (maxDischargeDepth := 30) [ht, hx1]

@[simp] theorem execSessionOpenLapse_kept {x0 : State} (hx0 : x0.Kept q) : keptOutcome q (execSessionOpenLapse x0) := by
  unfold execSessionOpenLapse; (repeat' split) <;> simp +contextual (maxDischargeDepth := 30) [hx0]

@[simp] theorem execSessionRekey_kept {x0 : State} (hx0 : x0.Kept q) : keptOutcome q (execSessionRekey x0) := by
  unfold execSessionRekey; refine runTrusted_kept _ _ _ hx0 (fun t c ht => ?_); (try refine sized_kept _ _ _ (fun t c ht => ?_) ht); simp only []; (repeat' split) <;> simp +contextual (maxDischargeDepth := 30) [ht, hx0]

@[simp] theorem execSessionClose_kept {x0 : State} (hx0 : x0.Kept q) : keptOutcome q (execSessionClose x0) := by
  unfold execSessionClose; simp +contextual (maxDischargeDepth := 30) [hx0]

@[simp] theorem execSessionLapse_kept {x0 : State} (hx0 : x0.Kept q) : keptOutcome q (execSessionLapse x0) := by
  unfold execSessionLapse; (repeat' split) <;> simp +contextual (maxDischargeDepth := 30) [hx0]

@[simp] theorem execMacsecPreviousAnEnd_kept {x0 : State} (hx0 : x0.Kept q) : keptOutcome q (execMacsecPreviousAnEnd x0) := by
  unfold execMacsecPreviousAnEnd; (repeat' split) <;> simp +contextual (maxDischargeDepth := 30) [hx0]

@[simp] theorem execJobKeyProvision_kept (x0 : Bool) {x1 : State} (hx1 : x1.Kept q) : keptOutcome q (execJobKeyProvision x0 x1) := by
  unfold execJobKeyProvision; refine runTrusted_kept _ _ _ hx1 (fun t c ht => ?_); (try refine sized_kept _ _ _ (fun t c ht => ?_) ht); simp only []; (repeat' split) <;> simp +contextual (maxDischargeDepth := 30) [ht, hx1]

@[simp] theorem State.approve_kept {x0 : State} (x1 : Approval) (hx0 : x0.Kept q) : (State.approve x0 x1).Kept q := by
  unfold State.approve; simp +contextual (maxDischargeDepth := 30) [hx0]

@[simp] theorem State.endApproval_kept {x0 : State} (hx0 : x0.Kept q) : (State.endApproval x0).Kept q := by
  unfold State.endApproval; (repeat' split) <;> simp +contextual (maxDischargeDepth := 30) [hx0]

@[simp] theorem execApprovalSubmit_kept (x0 : Bool) {x1 : State} (hx1 : x1.Kept q) : keptOutcome q (execApprovalSubmit x0 x1) := by
  unfold execApprovalSubmit; refine runTrusted_kept _ _ _ hx1 (fun t c ht => ?_); (try refine sized_kept _ _ _ (fun t c ht => ?_) ht); simp only []; (repeat' split) <;> simp +contextual (maxDischargeDepth := 30) [ht, hx1]

@[simp] theorem execApprovalWindowEnd_kept {x0 : State} (hx0 : x0.Kept q) : keptOutcome q (execApprovalWindowEnd x0) := by
  unfold execApprovalWindowEnd; (repeat' split) <;> simp +contextual (maxDischargeDepth := 30) [hx0]

@[simp] theorem execGrantLapse_kept {x0 : State} (hx0 : x0.Kept q) : keptOutcome q (execGrantLapse x0) := by
  unfold execGrantLapse; (repeat' split) <;> simp +contextual (maxDischargeDepth := 30) [hx0]

@[simp] theorem State.eraseJobKeys_kept {x0 : State} (hx0 : x0.Kept q) : (State.eraseJobKeys x0).Kept q := by
  unfold State.eraseJobKeys; simp +contextual (maxDischargeDepth := 30) [hx0]

@[simp] theorem State.redrawProvisioning_kept {x0 : State} (hx0 : x0.Kept q) : (State.redrawProvisioning x0).Kept q := by
  unfold State.redrawProvisioning; simp +contextual (maxDischargeDepth := 30) [hx0]

@[simp] theorem State.redrawNonce_kept {x0 : State} (hx0 : x0.Kept q) : (State.redrawNonce x0).Kept q := by
  unfold State.redrawNonce; simp +contextual (maxDischargeDepth := 30) [hx0]

@[simp] theorem State.setDomain_kept {x0 : State} (x1 : ℕ) (x2 : DomainState) (hx0 : x0.Kept q) : (State.setDomain x0 x1 x2).Kept q := by
  unfold State.setDomain; simp +contextual (maxDischargeDepth := 30) [hx0]

@[simp] theorem State.showReset_kept {x0 : State} (hx0 : x0.Kept q) : (State.showReset x0).Kept q := by
  unfold State.showReset; simp +contextual (maxDischargeDepth := 30) [hx0]

@[simp] theorem State.startDump_kept {x0 : State} (x1 : ResetDue) (hx0 : x0.Kept q) : (State.startDump x0 x1).Kept q := by
  unfold State.startDump; (repeat' split) <;> simp +contextual (maxDischargeDepth := 30) [hx0]

@[simp] theorem State.setDump_kept {x0 : State} (x1 : ℕ) (x2 : Option Dump) (hx0 : x0.Kept q) : (State.setDump x0 x1 x2).Kept q := by
  unfold State.setDump; simp +contextual (maxDischargeDepth := 30) [hx0]

@[simp] theorem State.storeDump_kept {x0 : State} (x1 : Dump) (hx0 : x0.Kept q) : (State.storeDump x0 x1).Kept q := by
  unfold State.storeDump; simp +contextual (maxDischargeDepth := 30) [hx0]

@[simp] theorem State.readUnit_kept {x0 : State} (hx0 : x0.Kept q) : (State.readUnit x0).Kept q := by
  unfold State.readUnit; (repeat' split) <;> simp +contextual (maxDischargeDepth := 30) [hx0]

@[simp] theorem State.readUnits_kept {x0 : State} (n : ℕ) (hx0 : x0.Kept q) : (State.readUnits x0 n).Kept q := by
  induction n generalizing x0 with
  | zero => exact hx0
  | succ n ih => exact ih (State.readUnit_kept hx0)

@[simp] theorem State.nextDump_kept {x0 : State} (hx0 : x0.Kept q) : (State.nextDump x0).Kept q := by
  unfold State.nextDump; (repeat' split) <;> simp +contextual (maxDischargeDepth := 30) [hx0]

@[simp] theorem State.endDump_kept {x0 : State} (hx0 : x0.Kept q) : (State.endDump x0).Kept q := by
  unfold State.endDump; (repeat' split) <;> simp +contextual (maxDischargeDepth := 30) [hx0]

@[simp] theorem State.passDump_kept {x0 : State} (hx0 : x0.Kept q) : (State.passDump x0).Kept q := by
  unfold State.passDump; (repeat' split) <;> simp +contextual (maxDischargeDepth := 30) [hx0]

@[simp] theorem State.skipUnit_kept {x0 : State} (hx0 : x0.Kept q) : (State.skipUnit x0).Kept q := by
  unfold State.skipUnit; (repeat' split) <;> simp +contextual (maxDischargeDepth := 30) [hx0]

@[simp] theorem execDumpUnitTimeout_kept (x0 : ℕ) {x1 : State} (hx1 : x1.Kept q) : keptOutcome q (execDumpUnitTimeout x0 x1) := by
  unfold execDumpUnitTimeout; (repeat' split) <;> simp +contextual (maxDischargeDepth := 30) [hx1]

@[simp] theorem State.abortSlot_kept {x0 : State} (x1 : ℕ) (hx0 : x0.Kept q) : (State.abortSlot x0 x1).Kept q := by
  unfold State.abortSlot; (repeat' split) <;> simp +contextual (maxDischargeDepth := 30) [hx0]

@[simp] theorem State.discardFrom_kept {x0 : State} (x1 : BitVec 8 → Bool) (hx0 : x0.Kept q) : (State.discardFrom x0 x1).Kept q := by
  unfold State.discardFrom; simp +contextual (maxDischargeDepth := 30) [hx0]

@[simp] theorem State.abortWork_kept {s : State} (f) (h : s.Kept q) : (s.abortWork f).Kept q := by
  unfold State.abortWork
  extract_lets t
  have ht : t.Kept q := by
    refine foldl_kept h (fun t x ht => ?_)
    split
    · exact ht
    · split
      · exact State.setStream_kept _ _ (State.abortSlot_kept _ ht)
      · exact ht
  clear_value t
  split
  · exact ht
  · exact kept_if (State.abortSlot_kept _ ht) ht

@[simp] theorem State.haltLoaded_kept {x0 : State} (x1 : ℕ) (hx0 : x0.Kept q) : (State.haltLoaded x0 x1).Kept q := by
  unfold State.haltLoaded; simp +contextual (maxDischargeDepth := 30) [hx0]

@[simp] theorem State.resetContext_kept {x0 : State} (x1 : ℕ) (hx0 : x0.Kept q) : (State.resetContext x0 x1).Kept q := by
  unfold State.resetContext; simp +contextual (maxDischargeDepth := 30) [hx0]

@[simp] theorem State.resetCore_kept {x0 : State} (x1 : ℕ) (hx0 : x0.Kept q) : (State.resetCore x0 x1).Kept q := by
  unfold State.resetCore; simp +contextual (maxDischargeDepth := 30) [hx0]

@[simp] theorem State.abortLifeline_kept {x0 : State} (hx0 : x0.Kept q) : (State.abortLifeline x0).Kept q := by
  unfold State.abortLifeline; (repeat' split) <;> simp +contextual (maxDischargeDepth := 30) [hx0]

@[simp] theorem State.abortReplays_kept {x0 : State} (hx0 : x0.Kept q) : (State.abortReplays x0).Kept q := by
  unfold State.abortReplays; (repeat' split) <;> simp +contextual (maxDischargeDepth := 30) [hx0]

@[simp] theorem State.abortCommands_kept {x0 : State} (hx0 : x0.Kept q) : (State.abortCommands x0).Kept q := by
  unfold State.abortCommands; (repeat' split) <;> simp +contextual (maxDischargeDepth := 30) [hx0]

@[simp] theorem State.resetEngine_kept {x0 : State} (x1 : ℕ) (hx0 : x0.Kept q) : (State.resetEngine x0 x1).Kept q := by
  unfold State.resetEngine; simp +contextual (maxDischargeDepth := 30) [hx0]

@[simp] theorem State.readAgain_kept {x0 : State} (hx0 : x0.Kept q) : (State.readAgain x0).Kept q := by
  unfold State.readAgain; (repeat' split) <;> simp +contextual (maxDischargeDepth := 30) [hx0]

@[simp] theorem State.moveInterpreter_kept {x0 : State} (hx0 : x0.Kept q) : (State.moveInterpreter x0).Kept q := by
  unfold State.moveInterpreter; simp +contextual (maxDischargeDepth := 30) [hx0]

@[simp] theorem State.resetPartition_kept {x0 : State} (x1 : ℕ) (hx0 : x0.Kept q) : (State.resetPartition x0 x1).Kept q := by
  unfold State.resetPartition; simp +contextual (maxDischargeDepth := 30) [hx0]

@[simp] theorem State.dropHostLink_kept {x0 : State} (hx0 : x0.Kept q) : (State.dropHostLink x0).Kept q := by
  unfold State.dropHostLink; simp +contextual (maxDischargeDepth := 30) [hx0]

@[simp] theorem State.idlePort_kept {x0 : State} (x1 : ℕ) (hx0 : x0.Kept q) : (State.idlePort x0 x1).Kept q := by
  unfold State.idlePort; simp +contextual (maxDischargeDepth := 30) [hx0]

@[simp] theorem State.resetFabric_kept {x0 : State} (hx0 : x0.Kept q) : (State.resetFabric x0).Kept q := by
  unfold State.resetFabric; simp only []; (repeat' split) <;> simp_all +contextual (maxDischargeDepth := 30) [hx0]

theorem regsAfterL4_wf {m : SMap Word} (h : SMap.wf 0 m) : SMap.wf 0 (regsAfterL4 m) := by
  have key : ∀ (l : List (Nat × Nat)) (t : SMap Word), SMap.wf 0 t →
      SMap.wf 0 (l.foldl (fun t p => if keptAtL4 p.1 then t else SMap.set 0 t p.1 (BitVec.ofNat 64 p.2)) t) := by
    intro l
    induction l with
    | nil => exact fun t ht => ht
    | cons p l ih =>
      intro t ht
      refine ih _ ?_
      by_cases hk : keptAtL4 p.1 = true
      · simpa only [hk, if_true] using ht
      · simpa only [hk, if_neg, Bool.false_eq_true, if_false] using SMap.set_wf _ _ ht
  exact key _ _ (SMap.filter_wf _ h)

@[simp] theorem State.chipCleared_kept {s : State} (h : s.Kept q) : s.chipCleared.Kept q := by
  have e1 : s.chipCleared.pending = s.pending := rfl
  have e2 : s.chipCleared.mem = s.mem := rfl
  have e3 : s.chipCleared.regs = regsAfterL4 s.regs := by simp only [State.chipCleared]
  have e4 : s.chipCleared.tb.stitch = 0 := rfl
  unfold State.Kept State.Sound
  rw [e1, e2, e3, e4]
  exact ⟨h.1, h.2.1, regsAfterL4_wf h.2.2.1, by decide⟩

@[simp] theorem State.resetChip_kept {x0 : State} (hx0 : x0.Kept q) : (State.resetChip x0).Kept q := by
  unfold State.resetChip; simp +contextual (maxDischargeDepth := 30) [hx0]

@[simp] theorem State.showIsolation_kept {x0 : State} (x1 : Isolation) (x2 : List ℕ) (x3 : ℕ) (hx0 : x0.Kept q) : (State.showIsolation x0 x1 x2 x3).Kept q := by
  unfold State.showIsolation; simp +contextual (maxDischargeDepth := 30) [hx0]

@[simp] theorem State.resume_kept {x0 : State} (x1 : ℕ) (hx0 : x0.Kept q) : (State.resume x0 x1).Kept q := by
  unfold State.resume; simp +contextual (maxDischargeDepth := 30) [hx0]

@[simp] theorem State.decideIsolation_kept {x0 : State} (x1 : Isolation) (hx0 : x0.Kept q) : (State.decideIsolation x0 x1).Kept q := by
  unfold State.decideIsolation; simp +contextual (maxDischargeDepth := 30) [hx0]

@[simp] theorem State.nextSuspect_kept {x0 : State} (x1 : Isolation) (hx0 : x0.Kept q) : (State.nextSuspect x0 x1).Kept q := by
  unfold State.nextSuspect; (repeat' split) <;> simp +contextual (maxDischargeDepth := 30) [hx0]

@[simp] theorem State.noteSuspects_kept {x0 : State} (x1 : ResetDue) (hx0 : x0.Kept q) : (State.noteSuspects x0 x1).Kept q := by
  unfold State.noteSuspects; (repeat' split) <;> simp +contextual (maxDischargeDepth := 30) [hx0]

@[simp] theorem State.releaseSuspects_kept {x0 : State} (x1 : ℕ) (hx0 : x0.Kept q) : (State.releaseSuspects x0 x1).Kept q := by
  unfold State.releaseSuspects; (repeat' split) <;> simp +contextual (maxDischargeDepth := 30) [hx0]

@[simp] theorem execIsolationLimit_kept {x0 : State} (hx0 : x0.Kept q) : keptOutcome q (execIsolationLimit x0) := by
  unfold execIsolationLimit; (repeat' split) <;> simp +contextual (maxDischargeDepth := 30) [hx0]

@[simp] theorem execIsolationReport_kept {x0 : State} (hx0 : x0.Kept q) : keptOutcome q (execIsolationReport x0) := by
  unfold execIsolationReport; refine runCommand_kept _ _ hx0 (fun t c ht => ?_); (try refine sized_kept _ _ _ (fun t c ht => ?_) ht); (repeat' split) <;> simp +contextual (maxDischargeDepth := 30) [ht, hx0]

@[simp] theorem State.requestL5_kept {x0 : State} (hx0 : x0.Kept q) : (State.requestL5 x0).Kept q := by
  unfold State.requestL5; simp +contextual (maxDischargeDepth := 30) [hx0]

@[simp] theorem State.resetDomain_kept {x0 : State} (x1) (hx0 : x0.Kept q) : (State.resetDomain x0 x1).Kept q := by
  unfold State.resetDomain; simp +contextual (maxDischargeDepth := 30) [hx0]

@[simp] theorem State.fenceDomain_kept {x0 : State} (x1) (hx0 : x0.Kept q) : (State.fenceDomain x0 x1).Kept q := by
  unfold State.fenceDomain; (repeat' split) <;> simp +contextual (maxDischargeDepth := 30) [hx0]

@[simp] theorem State.absorbNested_kept {x0 : State} (x1 : ℕ) (hx0 : x0.Kept q) : (State.absorbNested x0 x1).Kept q := by
  unfold State.absorbNested; simp +contextual (maxDischargeDepth := 30) [hx0]

@[simp] theorem State.holdFence_kept {x0 : State} (x1 : ℕ) (hx0 : x0.Kept q) : (State.holdFence x0 x1).Kept q := by
  unfold State.holdFence; simp +contextual (maxDischargeDepth := 30) [hx0]

@[simp] theorem State.abortFor_kept {x0 : State} (x1) (hx0 : x0.Kept q) : (State.abortFor x0 x1).Kept q := by
  unfold State.abortFor; (repeat' split) <;> simp +contextual (maxDischargeDepth := 30) [hx0]

@[simp] theorem State.beginReset_kept {x0 : State} (x1 : ResetDue) (hx0 : x0.Kept q) : (State.beginReset x0 x1).Kept q := by
  unfold State.beginReset; simp +contextual (maxDischargeDepth := 30) [hx0]

@[simp] theorem resetRow_kept (x0 : ℕ) {x1 : State} (hx1 : x1.Kept q) : keptOutcome q (resetRow x0 x1) := by
  unfold resetRow; (repeat' split) <;> simp +contextual (maxDischargeDepth := 30) [hx1]

@[simp] theorem execResetL0_kept {x0 : State} (hx0 : x0.Kept q) : keptOutcome q (execResetL0 x0) := by
  unfold execResetL0; simp +contextual (maxDischargeDepth := 30) [hx0]

@[simp] theorem execResetL1_kept {x0 : State} (hx0 : x0.Kept q) : keptOutcome q (execResetL1 x0) := by
  unfold execResetL1; simp +contextual (maxDischargeDepth := 30) [hx0]

@[simp] theorem execResetL2_kept {x0 : State} (hx0 : x0.Kept q) : keptOutcome q (execResetL2 x0) := by
  unfold execResetL2; simp +contextual (maxDischargeDepth := 30) [hx0]

@[simp] theorem execResetL3_kept {x0 : State} (hx0 : x0.Kept q) : keptOutcome q (execResetL3 x0) := by
  unfold execResetL3; simp +contextual (maxDischargeDepth := 30) [hx0]

@[simp] theorem execResetL4_kept {x0 : State} (hx0 : x0.Kept q) : keptOutcome q (execResetL4 x0) := by
  unfold execResetL4; simp +contextual (maxDischargeDepth := 30) [hx0]

@[simp] theorem State.bumpGen_kept {x0 : State} (x1 : ℕ) (hx0 : x0.Kept q) : (State.bumpGen x0 x1).Kept q := by
  unfold State.bumpGen; simp +contextual (maxDischargeDepth := 30) [hx0]

@[simp] theorem State.trainPorts_kept {x0 : State} (hx0 : x0.Kept q) : (State.trainPorts x0).Kept q := by
  unfold State.trainPorts; simp +contextual (maxDischargeDepth := 30) [hx0]

@[simp] theorem State.askMaps_kept {x0 : State} (hx0 : x0.Kept q) : (State.askMaps x0).Kept q := by
  unfold State.askMaps; simp +contextual (maxDischargeDepth := 30) [hx0]

@[simp] theorem State.trainAgain_kept {x0 : State} (hx0 : x0.Kept q) : (State.trainAgain x0).Kept q := by
  unfold State.trainAgain; (repeat' split) <;> simp +contextual (maxDischargeDepth := 30) [hx0]

@[simp] theorem State.rebuild_kept {x0 : State} (x1 : ℕ) (x2 : ℕ) (hx0 : x0.Kept q) : (State.rebuild x0 x1 x2).Kept q := by
  unfold State.rebuild; simp +contextual (maxDischargeDepth := 30) [hx0]

@[simp] theorem State.leaveChipReset_kept {s : State} (h : s.Kept q) : s.leaveChipReset.Kept q := by
  have ht (x1 x2 x3) : State.Kept q { s with tb := Timebase.reset, timers := x1, rv := x2, co := x3 } :=
    ⟨h.1, h.2.1, h.2.2.1, (by decide : 0 < 2560)⟩
  unfold State.leaveChipReset
  simp only []
  split
  · exact State.setFld_kept _ _ _ (State.setFld_kept _ _ _ (ht _ _ _))
  · exact ht _ _ _

@[simp] theorem State.release_kept {x0 : State} (x1 : ℕ) (x2 : ℕ) (x3 : ℕ) (hx0 : x0.Kept q) : (State.release x0 x1 x2 x3).Kept q := by
  unfold State.release; simp +contextual (maxDischargeDepth := 30) [hx0]

@[simp] theorem State.poisonLost_kept {x0 : State} (x1 : ℕ) (x2 : ℕ) (x3 : List ℕ) (hx0 : x0.Kept q) : (State.poisonLost x0 x1 x2 x3).Kept q := by
  unfold State.poisonLost; simp +contextual (maxDischargeDepth := 30) [hx0]

@[simp] theorem State.endReset_kept {x0 : State} (x1) (x2) (x3) (x4) (hx0 : x0.Kept q) : (State.endReset x0 x1 x2 x3 x4).Kept q := by
  unfold State.endReset; (repeat' split) <;> simp +contextual (maxDischargeDepth := 30) [hx0]

@[simp] theorem execResetRelease_kept (d : DomainRelease) {s : State} (h : s.Kept q) : keptOutcome q (execResetRelease d s) := by
  unfold execResetRelease
  split
  · simp only []
    split
    · exact act_kept _ h (fun _ => State.endReset_kept _ _ _ _ h)
    · split
      · next e => exact act_kept _ h (fun _ => State.endReset_kept _ _ _ _ (State.takeHanded_kept h e))
      · exact act_kept _ h (fun _ => State.armByUnit_kept _ h)
  · exact h

@[simp] theorem execResetLimitExpiry_kept (x0 : ℕ) {x1 : State} (hx1 : x1.Kept q) : keptOutcome q (execResetLimitExpiry x0 x1) := by
  unfold execResetLimitExpiry; (repeat' split) <;> simp +contextual (maxDischargeDepth := 30) [hx1]

@[simp] theorem execWatchEnd_kept (x0 : ℕ) {x1 : State} (hx1 : x1.Kept q) : keptOutcome q (execWatchEnd x0 x1) := by
  unfold execWatchEnd; (repeat' split) <;> simp +contextual (maxDischargeDepth := 30) [hx1]

@[simp] theorem execDumpRead_kept {x0 : State} (hx0 : x0.Kept q) : keptOutcome q (execDumpRead x0) := by
  unfold execDumpRead; simp +contextual (maxDischargeDepth := 30) [hx0]

@[simp] theorem execDumpRelease_kept {s : State} (h : s.Kept q) : keptOutcome q (execDumpRelease s) := by
  refine runCommand_kept _ _ h (fun t c ht => sized_kept _ _ _ (fun t c ht => ?_) ht)
  simp only []
  (repeat' split) <;> simp +contextual (maxDischargeDepth := 30) [ht]

@[simp] theorem execStatusRead_kept {x0 : State} (hx0 : x0.Kept q) : keptOutcome q (execStatusRead x0) := by
  unfold execStatusRead; refine runCommand_kept _ _ hx0 (fun t c ht => ?_); (try refine sized_kept _ _ _ (fun t c ht => ?_) ht); (repeat' split) <;> simp +contextual (maxDischargeDepth := 30) [ht, hx0]

@[simp] theorem csReadDone_kept {x0 : State} (x1) (hx0 : x0.Kept q) : (csReadDone x0 x1).state.Kept q := by
  unfold csReadDone; (repeat' split) <;> simp +contextual (maxDischargeDepth := 30) [hx0]

@[simp] theorem execCsRead_kept {x0 : State} (hx0 : x0.Kept q) : keptOutcome q (execCsRead x0) := by
  unfold execCsRead; (repeat' split) <;> simp +contextual (maxDischargeDepth := 30) [hx0]

@[simp] theorem State.readOn_kept {x0 : State} (hx0 : x0.Kept q) : (State.readOn x0).Kept q := by
  unfold State.readOn; (repeat' split) <;> simp +contextual (maxDischargeDepth := 30) [hx0]

@[simp] theorem execLogRead_kept {x0 : State} (hx0 : x0.Kept q) : keptOutcome q (execLogRead x0) := by
  unfold execLogRead; simp +contextual (maxDischargeDepth := 30) [hx0]

@[simp] theorem execFsrRead_kept {x0 : State} (hx0 : x0.Kept q) : keptOutcome q (execFsrRead x0) := by
  unfold execFsrRead; simp +contextual (maxDischargeDepth := 30) [hx0]

@[simp] theorem execFsrFree_kept {x0 : State} (hx0 : x0.Kept q) : keptOutcome q (execFsrFree x0) := by
  unfold execFsrFree; refine runCommand_kept _ _ hx0 (fun t c ht => ?_); (try refine sized_kept _ _ _ (fun t c ht => ?_) ht); (repeat' split) <;> simp +contextual (maxDischargeDepth := 30) [ht, hx0]

@[simp] theorem State.sendLe_kept {x0 : State} (x1 : BitVec 15) (x2 : List Byte) (hx0 : x0.Kept q) : (State.sendLe x0 x1 x2).Kept q := by
  unfold State.sendLe; simp +contextual (maxDischargeDepth := 30) [hx0]

@[simp] theorem State.enabledNow_kept {x0 : State} (hx0 : x0.Kept q) : (State.enabledNow x0).Kept q := by
  unfold State.enabledNow; simp +contextual (maxDischargeDepth := 30) [hx0]

@[simp] theorem State.beginExchange_kept {x0 : State} (hx0 : x0.Kept q) : (State.beginExchange x0).Kept q := by
  unfold State.beginExchange; simp +contextual (maxDischargeDepth := 30) [hx0]

@[simp] theorem State.refuseEnable_kept {x0 : State} (x1 : ℕ) (hx0 : x0.Kept q) : (State.refuseEnable x0 x1).Kept q := by
  unfold State.refuseEnable; simp +contextual (maxDischargeDepth := 30) [hx0]

@[simp] theorem State.takeTags_kept {x0 : State} (x1 : Packet) (hx0 : x0.Kept q) : (State.takeTags x0 x1).Kept q := by
  unfold State.takeTags; (repeat' split) <;> simp +contextual (maxDischargeDepth := 30) [hx0]

@[simp] theorem execDomainTags_kept {x0 : State} (hx0 : x0.Kept q) : keptOutcome q (execDomainTags x0) := by
  unfold execDomainTags; split <;> (try (have ht := State.takeCtrl_kept hx0 (by assumption); simp only at ht)) <;> (repeat' split) <;> simp +contextual (maxDischargeDepth := 30) [*, hx0]

@[simp] theorem execTagExchangeTimeout_kept {x0 : State} (hx0 : x0.Kept q) : keptOutcome q (execTagExchangeTimeout x0) := by
  unfold execTagExchangeTimeout; (repeat' split) <;> simp +contextual (maxDischargeDepth := 30) [hx0]

@[simp] theorem State.writePlain_kept {x0 : State} (x1 : ℕ) (x2 : Word) (hx0 : x0.Kept q) : (State.writePlain x0 x1 x2).1.Kept q := by
  unfold State.writePlain; (repeat' split) <;> simp +contextual (maxDischargeDepth := 30) [hx0]

@[simp] theorem State.writeReset_kept {x0 : State} (x1 : Word) (hx0 : x0.Kept q) : (State.writeReset x0 x1).1.Kept q := by
  unfold State.writeReset; simp +contextual (maxDischargeDepth := 30) [hx0]

@[simp] theorem State.writeCtxFault_kept {x0 : State} (x1 : ℕ) (x2 : Word) (hx0 : x0.Kept q) : (State.writeCtxFault x0 x1 x2).1.Kept q := by
  unfold State.writeCtxFault; simp +contextual (maxDischargeDepth := 30) [hx0]

@[simp] theorem State.writeMember_kept {x0 : State} (x1 : ℕ) (x2 : Word) (hx0 : x0.Kept q) : (State.writeMember x0 x1 x2).1.Kept q := by
  unfold State.writeMember; simp +contextual (maxDischargeDepth := 30) [hx0]

@[simp] theorem State.writeGeneric_kept {x0 : State} (x1 : ℕ) (x2 : Word) (hx0 : x0.Kept q) : (State.writeGeneric x0 x1 x2).1.Kept q := by
  unfold State.writeGeneric; simp +contextual (maxDischargeDepth := 30) [hx0]

@[simp] theorem State.writeAlias_kept {x0 : State} (x1 : ℕ) (x2 : Word) (hx0 : x0.Kept q) : (State.writeAlias x0 x1 x2).1.Kept q := by
  unfold State.writeAlias; simp +contextual (maxDischargeDepth := 30) [hx0]

@[simp] theorem State.regionRefused_kept {x0 : State} (hx0 : x0.Kept q) : (State.regionRefused x0).1.Kept q := by
  unfold State.regionRefused; simp +contextual (maxDischargeDepth := 30) [hx0]

@[simp] theorem State.writeRegion_kept {x0 : State} (x1 : ℕ) (x2 : Word) (hx0 : x0.Kept q) : (State.writeRegion x0 x1 x2).1.Kept q := by
  unfold State.writeRegion; simp +contextual (maxDischargeDepth := 30) [hx0]

@[simp] theorem State.writeKeeper_kept {x0 : State} (x1 : ℕ) (x2 : Word) (hx0 : x0.Kept q) : (State.writeKeeper x0 x1 x2).1.Kept q := by
  unfold State.writeKeeper; simp +contextual (maxDischargeDepth := 30) [hx0]

@[simp] theorem State.writeEnable_kept {x0 : State} (x1 : ℕ) (x2 : Word) (hx0 : x0.Kept q) : (State.writeEnable x0 x1 x2).1.Kept q := by
  unfold State.writeEnable; simp +contextual (maxDischargeDepth := 30) [hx0]

@[simp] theorem State.writeDomain_kept {x0 : State} (x1 : ℕ) (x2 : Word) (hx0 : x0.Kept q) : (State.writeDomain x0 x1 x2).1.Kept q := by
  unfold State.writeDomain; simp +contextual (maxDischargeDepth := 30) [hx0]

@[simp] theorem State.openWindow_kept {x0 : State} (x1 : ℕ) (hx0 : x0.Kept q) : (State.openWindow x0 x1).Kept q := by
  unfold State.openWindow; simp +contextual (maxDischargeDepth := 30) [hx0]

@[simp] theorem State.writeWindow_kept {s : State} (l a v) (h : s.Kept q) : (s.writeWindow l a v).1.Kept q := by
  have ht := State.setReg_kept a (s.merged a v) h
  unfold State.writeWindow
  simp only []
  (repeat' split) <;> first
    | exact h
    | exact ht
    | exact State.openWindow_kept _ ht

@[simp] theorem State.writeScrub_kept {x0 : State} (x1 : ℕ) (x2 : Word) (hx0 : x0.Kept q) : (State.writeScrub x0 x1 x2).1.Kept q := by
  unfold State.writeScrub; simp +contextual (maxDischargeDepth := 30) [hx0]

@[simp] theorem State.armingTest_kept {x0 : State} (x1 : ℕ) (x2 : ℕ) (x3 : Word) (hx0 : x0.Kept q) : (State.armingTest x0 x1 x2 x3).1.Kept q := by
  unfold State.armingTest; simp +contextual (maxDischargeDepth := 30) [hx0]

@[simp] theorem State.writeEvent_kept {s : State} (a v) (h : s.Kept q) : (s.writeEvent a v).1.Kept q := by
  have ha := State.armingTest_kept (eventOf a).1 (eventOf a).2 v h
  unfold State.writeEvent
  simp only []
  (repeat' split) <;> first
    | exact h
    | exact State.disarm_kept _ _ h
    | exact State.writePlain_kept _ _ h
    | (next heq => rw [heq] at ha; exact ha)
    | (next heq => rw [heq] at ha; exact State.writePlain_kept _ _ ha)

@[simp] theorem State.writeContext_kept {s : State} (a v) (h : s.Kept q) : (s.writeContext a v).1.Kept q := by
  unfold State.writeContext
  simp only []
  (repeat' split) <;> first
    | exact h
    | exact State.setFld_kept _ _ _ h
    | exact State.writePlain_kept _ _ h

@[simp] theorem State.writeThermal_kept {x0 : State} (x1 : ℕ) (x2 : Word) (hx0 : x0.Kept q) : (State.writeThermal x0 x1 x2).1.Kept q := by
  unfold State.writeThermal; simp +contextual (maxDischargeDepth := 30) [hx0]

@[simp] theorem State.writeSuspect_kept {x0 : State} (x1 : ℕ) (x2 : Word) (hx0 : x0.Kept q) : (State.writeSuspect x0 x1 x2).1.Kept q := by
  unfold State.writeSuspect; simp +contextual (maxDischargeDepth := 30) [hx0]

@[simp] theorem State.closePlain_kept {x0 : State} (hx0 : x0.Kept q) : (State.closePlain x0).Kept q := by
  unfold State.closePlain; simp +contextual (maxDischargeDepth := 30) [hx0]

@[simp] theorem State.applyProtected_kept {x0 : State} (x1 : ℕ) (x2 : Word) (hx0 : x0.Kept q) : (State.applyProtected x0 x1 x2).1.Kept q := by
  unfold State.applyProtected; simp +contextual (maxDischargeDepth := 30) [hx0]

@[simp] theorem State.sealGrant_kept {x0 : State} {x1 : State} (hx0 : x0.Kept q) (hx1 : x1.Kept q) : (State.sealGrant x0 x1).Kept q := by
  unfold State.sealGrant; simp +contextual (maxDischargeDepth := 30) [hx0, hx1]

@[simp] theorem State.writePair_kept {x0 : State} (x1 : Bool) (x2 : List (ℕ × Word)) (x3 : ℕ) (x4 : Word) (hx0 : x0.Kept q) : (State.writePair x0 x1 x2 x3 x4).1.Kept q := by
  unfold State.writePair; (repeat' split) <;> simp +contextual (maxDischargeDepth := 30) [hx0]

@[simp] theorem State.writePairs_kept {s : State} (g l m) (h : s.Kept q) : (s.writePairs g l m).1.Kept q := by
  induction m generalizing s with
  | nil => exact h
  | cons p m ih => exact ih (State.writePair_kept _ _ _ _ h)

@[simp] theorem State.csWrite_kept {x0 : State} (x1 : List (ℕ × Word)) (hx0 : x0.Kept q) : (State.csWrite x0 x1).1.Kept q := by
  unfold State.csWrite; simp +contextual (maxDischargeDepth := 30) [hx0]

@[simp] theorem csWriteDone_kept {x0 : State} (x1 : CmdSlot) (hx0 : x0.Kept q) : (csWriteDone x0 x1).state.Kept q := by
  unfold csWriteDone; simp +contextual (maxDischargeDepth := 30) [hx0]

@[simp] theorem execCsWrite_kept {x0 : State} (hx0 : x0.Kept q) : keptOutcome q (execCsWrite x0) := by
  unfold execCsWrite; simp +contextual (maxDischargeDepth := 30) [hx0]

@[simp] theorem kindRow_kept (x0 : WriteKind) {x1 : State} (hx1 : x1.Kept q) : keptOutcome q (kindRow x0 x1) := by
  unfold kindRow; simp +contextual (maxDischargeDepth := 30) [hx1]

@[simp] theorem execGenericRegisterWrite_kept {x0 : State} (hx0 : x0.Kept q) : keptOutcome q (execGenericRegisterWrite x0) := by
  unfold execGenericRegisterWrite; simp +contextual (maxDischargeDepth := 30) [hx0]

@[simp] theorem execProtectedWrite_kept {x0 : State} (hx0 : x0.Kept q) : keptOutcome q (execProtectedWrite x0) := by
  unfold execProtectedWrite; simp +contextual (maxDischargeDepth := 30) [hx0]

@[simp] theorem execPrAliasWrite_kept {x0 : State} (hx0 : x0.Kept q) : keptOutcome q (execPrAliasWrite x0) := by
  unfold execPrAliasWrite; simp +contextual (maxDischargeDepth := 30) [hx0]

@[simp] theorem execDtRegionWrite_kept {x0 : State} (hx0 : x0.Kept q) : keptOutcome q (execDtRegionWrite x0) := by
  unfold execDtRegionWrite; simp +contextual (maxDischargeDepth := 30) [hx0]

@[simp] theorem execSkConfigWrite_kept {x0 : State} (hx0 : x0.Kept q) : keptOutcome q (execSkConfigWrite x0) := by
  unfold execSkConfigWrite; simp +contextual (maxDischargeDepth := 30) [hx0]

@[simp] theorem execLifelineEnable_kept {x0 : State} (hx0 : x0.Kept q) : keptOutcome q (execLifelineEnable x0) := by
  unfold execLifelineEnable; simp +contextual (maxDischargeDepth := 30) [hx0]

@[simp] theorem execLeDomainWrite_kept {x0 : State} (hx0 : x0.Kept q) : keptOutcome q (execLeDomainWrite x0) := by
  unfold execLeDomainWrite; simp +contextual (maxDischargeDepth := 30) [hx0]

@[simp] theorem execHpWindowWrite_kept {x0 : State} (hx0 : x0.Kept q) : keptOutcome q (execHpWindowWrite x0) := by
  unfold execHpWindowWrite; simp +contextual (maxDischargeDepth := 30) [hx0]

@[simp] theorem execHpIpv6Write_kept {x0 : State} (hx0 : x0.Kept q) : keptOutcome q (execHpIpv6Write x0) := by
  unfold execHpIpv6Write; simp +contextual (maxDischargeDepth := 30) [hx0]

@[simp] theorem execScrubHoursWrite_kept {x0 : State} (hx0 : x0.Kept q) : keptOutcome q (execScrubHoursWrite x0) := by
  unfold execScrubHoursWrite; simp +contextual (maxDischargeDepth := 30) [hx0]

@[simp] theorem execEventEntryArm_kept {x0 : State} (hx0 : x0.Kept q) : keptOutcome q (execEventEntryArm x0) := by
  unfold execEventEntryArm; simp +contextual (maxDischargeDepth := 30) [hx0]

@[simp] theorem execContextTableWrite_kept {x0 : State} (hx0 : x0.Kept q) : keptOutcome q (execContextTableWrite x0) := by
  unfold execContextTableWrite; simp +contextual (maxDischargeDepth := 30) [hx0]

@[simp] theorem execTjThrottleWrite_kept {x0 : State} (hx0 : x0.Kept q) : keptOutcome q (execTjThrottleWrite x0) := by
  unfold execTjThrottleWrite; simp +contextual (maxDischargeDepth := 30) [hx0]

@[simp] theorem execSuspectRemove_kept {x0 : State} (hx0 : x0.Kept q) : keptOutcome q (execSuspectRemove x0) := by
  unfold execSuspectRemove; simp +contextual (maxDischargeDepth := 30) [hx0]

end Sys2Proof.Machine
end

