-- ==== Sys2Proof/Laws/KeptHost.lean ====
section
/-! SUPPORT. Lemmas that steps and jobs, lifelines, the host port, power, cast-on, vector instructions and the idle course keep the queue and a sound state. -/

-- Elaborated one after another: the package as one text holds thousands of lemmas, and each waiting one keeps a thread.
set_option Elab.async false

namespace Sys2Proof.Machine

variable {q : List Instr}

@[simp] theorem State.armStarts_kept {s : State} (u c) (h : s.Kept q) : (s.armStarts u c).Kept q := by
  unfold State.armStarts
  refine foldl_kept h (fun t x ht => ?_)
  split
  · exact ht
  · exact State.armEntry_kept _ _ _ _ _ _ _ ht

@[simp] theorem State.armStep_kept {x0 : State} (x1 : BitVec 32) (x2 : Course) (x3 : ℕ) (x4 : ℕ) (x5 : List Byte) (hx0 : x0.Kept q) : (State.armStep x0 x1 x2 x3 x4 x5).Kept q := by
  unfold State.armStep; simp +contextual (maxDischargeDepth := 30) [hx0]

@[simp] theorem State.countRefusal_kept {x0 : State} (x1 : ℕ) (hx0 : x0.Kept q) : (State.countRefusal x0 x1).Kept q := by
  unfold State.countRefusal; simp +contextual (maxDischargeDepth := 30) [hx0]

@[simp] theorem execStepArm_kept {x0 : State} (hx0 : x0.Kept q) : keptOutcome q (execStepArm x0) := by
  unfold execStepArm; simp +contextual (maxDischargeDepth := 30) [hx0]

@[simp] theorem State.applySections_kept {s : State} (u f l b) (h : s.Kept q) : (s.applySections u f l b).1.Kept q := by
  induction l generalizing s b with
  | nil => exact h
  | cons x xs ih =>
    simp only [State.applySections]
    split
    · exact ih _ h
    · exact ih _ (foldl_kept (State.setReg_kept _ _ (State.store_kept _ _ h)) (fun t x ht => State.evaluateInto_kept _ _ _ _ _ _ ht))

@[simp] theorem State.applyExtents_kept {s : State} (l b) (h : s.Kept q) : (s.applyExtents l b).Kept q := by
  induction l generalizing s b with
  | nil => exact h
  | cons x xs ih => exact ih _ (State.storeExtent_kept _ _ h)

@[simp] theorem State.applyRecord_kept {s : State} (n u f) (h : s.Kept q) : (s.applyRecord n u f).Kept q := by
  unfold State.applyRecord
  exact State.applyExtents_kept _ _ (State.applySections_kept _ _ _ _ h)

@[simp] theorem State.cancelStarts_kept {x0 : State} (x1 : ℕ → Bool) (hx0 : x0.Kept q) : (State.cancelStarts x0 x1).Kept q := by
  unfold State.cancelStarts; simp +contextual (maxDischargeDepth := 30) [hx0]

@[simp] theorem State.discardAfter_kept {s : State} (u) (h : s.Kept q) : (s.discardAfter u).Kept q := by
  unfold State.discardAfter
  simp only []
  refine foldl_kept (State.cancelStarts_kept _ h) (fun t x ht => ?_)
  (repeat' split) <;> simp +contextual (maxDischargeDepth := 30) [ht]

@[simp] theorem State.reclaimJob_kept {x0 : State} (hx0 : x0.Kept q) : (State.reclaimJob x0).Kept q := by
  unfold State.reclaimJob; simp +contextual (maxDischargeDepth := 30) [hx0]

@[simp] theorem State.returnTo_kept {x0 : State} (x1 : BitVec 32) (hx0 : x0.Kept q) : (State.returnTo x0 x1).Kept q := by
  unfold State.returnTo; simp +contextual (maxDischargeDepth := 30) [hx0]

@[simp] theorem State.armReserved_kept {s : State} (u c) (h : s.Kept q) : (s.armReserved u c).Kept q := by
  unfold State.armReserved
  simp only [kept_update]
  refine foldl_kept h (fun t x ht => ?_)
  (repeat' split) <;> simp +contextual (maxDischargeDepth := 30) [ht]

@[simp] theorem State.resumeReplay_kept {x0 : State} (x1 : BitVec 32) (hx0 : x0.Kept q) : (State.resumeReplay x0 x1).Kept q := by
  unfold State.resumeReplay; simp only []; (repeat' split) <;> simp_all +contextual (maxDischargeDepth := 30) [hx0]

@[simp] theorem State.failReplay_kept {x0 : State} (x1 : BitVec 32) (hx0 : x0.Kept q) : (State.failReplay x0 x1).Kept q := by
  unfold State.failReplay; simp only []; (repeat' split) <;> simp_all +contextual (maxDischargeDepth := 30) [hx0]

@[simp] theorem State.readRecord_kept {x0 : State} (x1 : BitVec 32) (hx0 : x0.Kept q) : (State.readRecord x0 x1).Kept q := by
  unfold State.readRecord; simp +contextual (maxDischargeDepth := 30) [hx0]

@[simp] theorem State.dropReplay_kept {x0 : State} (hx0 : x0.Kept q) : (State.dropReplay x0).Kept q := by
  unfold State.dropReplay; simp only []; (repeat' split) <;> simp_all +contextual (maxDischargeDepth := 30) [hx0]

@[simp] theorem State.beginReplay_kept {x0 : State} (x1 : BitVec 32) (x2 : Course) (x3 : ℕ) (hx0 : x0.Kept q) : (State.beginReplay x0 x1 x2 x3).Kept q := by
  unfold State.beginReplay; simp +contextual (maxDischargeDepth := 30) [hx0]

@[simp] theorem State.beginDiagnosis_kept {x0 : State} (x1 : BitVec 32) (x2 : Course) (x3 : ℕ) (x4 : ℕ) (x5 : ℕ) (hx0 : x0.Kept q) : (State.beginDiagnosis x0 x1 x2 x3 x4 x5).Kept q := by
  unfold State.beginDiagnosis; simp +contextual (maxDischargeDepth := 30) [hx0]

@[simp] theorem diagnosisDone_kept {x0 : State} (x1 : CmdSlot) (hx0 : x0.Kept q) : (diagnosisDone x0 x1).state.Kept q := by
  unfold diagnosisDone; simp only []; (repeat' split) <;> simp_all +contextual (maxDischargeDepth := 30) [hx0]

@[simp] theorem replayDone_kept {x0 : State} (x1 : CmdSlot) (hx0 : x0.Kept q) : (replayDone x0 x1).state.Kept q := by
  unfold replayDone; simp +contextual (maxDischargeDepth := 30) [hx0]

@[simp] theorem execStepReplay_kept {x0 : State} (hx0 : x0.Kept q) : keptOutcome q (execStepReplay x0) := by
  unfold execStepReplay; simp +contextual (maxDischargeDepth := 30) [hx0]

@[simp] theorem execDiagnosisReplay_kept {x0 : State} (hx0 : x0.Kept q) : keptOutcome q (execDiagnosisReplay x0) := by
  unfold execDiagnosisReplay; simp +contextual (maxDischargeDepth := 30) [hx0]

@[simp] theorem State.recordArrived_kept {x0 : State} (hx0 : x0.Kept q) : (State.recordArrived x0).Kept q := by
  unfold State.recordArrived; (repeat' split) <;> simp +contextual (maxDischargeDepth := 30) [hx0]

@[simp] theorem execReadResp_kept {s : State} (h : s.Kept q) : keptOutcome q (execReadResp s) := by
  unfold execReadResp
  split
  · exact h
  · next e =>
    have ht := State.takeArrived_kept h e
    refine act_kept _ h (fun _ => ?_)
    split
    · exact State.count_kept _ _ ht
    · refine State.accept_kept _ _ _ ht (fun v hv => ?_)
      split
      · exact hv
      · simp only []
        split <;> simp +contextual (maxDischargeDepth := 30) [hv]

@[simp] theorem execEventSchedule_kept {s : State} (h : s.Kept q) : keptOutcome q (execEventSchedule s) := by
  refine runCommand_kept _ _ h (fun t c ht => sized_kept _ _ _ (fun t c ht => ?_) ht)
  simp only []
  (repeat' split) <;> first
    | exact ht
    | exact State.count_kept _ _ ht
    | exact State.armEntry_kept _ _ _ _ _ _ _ ht

@[simp] theorem execEventCancel_kept {x0 : State} (hx0 : x0.Kept q) : keptOutcome q (execEventCancel x0) := by
  unfold execEventCancel; simp +contextual (maxDischargeDepth := 30) [hx0]

@[simp] theorem execLifelineArm_kept {x0 : State} (hx0 : x0.Kept q) : keptOutcome q (execLifelineArm x0) := by
  unfold execLifelineArm; simp +contextual (maxDischargeDepth := 30) [hx0]

@[simp] theorem State.releaseSlots_kept {x0 : State} (hx0 : x0.Kept q) : (State.releaseSlots x0).Kept q := by
  unfold State.releaseSlots; simp +contextual (maxDischargeDepth := 30) [hx0]

@[simp] theorem State.endLeWork_kept {x0 : State} (x1 : Option ℕ) (hx0 : x0.Kept q) : (State.endLeWork x0 x1).Kept q := by
  unfold State.endLeWork; (repeat' split) <;> simp +contextual (maxDischargeDepth := 30) [hx0]

@[simp] theorem State.endReplays_kept {x0 : State} (hx0 : x0.Kept q) : (State.endReplays x0).Kept q := by
  unfold State.endReplays; simp only []; (repeat' split) <;> simp_all +contextual (maxDischargeDepth := 30) [hx0]

@[simp] theorem State.freshJob_kept {x0 : State} (hx0 : x0.Kept q) : (State.freshJob x0).Kept q := by
  unfold State.freshJob; simp +contextual (maxDischargeDepth := 30) [hx0]

@[simp] theorem State.loadJob_kept {x0 : State} (x1 : List Byte) (x2 : BitVec 16) (hx0 : x0.Kept q) : (State.loadJob x0 x1 x2).Kept q := by
  unfold State.loadJob; simp +contextual (maxDischargeDepth := 30) [hx0]

@[simp] theorem execJobLoad_kept {x0 : State} (hx0 : x0.Kept q) : keptOutcome q (execJobLoad x0) := by
  unfold execJobLoad; simp +contextual (maxDischargeDepth := 30) [hx0]

@[simp] theorem State.dismiss_kept {x0 : State} (x1 : ℕ) (hx0 : x0.Kept q) : (State.dismiss x0 x1).Kept q := by
  unfold State.dismiss; simp +contextual (maxDischargeDepth := 30) [hx0]

@[simp] theorem State.removeJob_kept {x0 : State} (hx0 : x0.Kept q) : (State.removeJob x0).Kept q := by
  unfold State.removeJob; simp +contextual (maxDischargeDepth := 30) [hx0]

@[simp] theorem execJobUnload_kept {x0 : State} (hx0 : x0.Kept q) : keptOutcome q (execJobUnload x0) := by
  unfold execJobUnload; simp +contextual (maxDischargeDepth := 30) [hx0]

@[simp] theorem State.closeRegions_kept {x0 : State} (hx0 : x0.Kept q) : (State.closeRegions x0).Kept q := by
  unfold State.closeRegions; simp +contextual (maxDischargeDepth := 30) [hx0]

@[simp] theorem State.bindOff_kept {x0 : State} (x1 : ℕ) (hx0 : x0.Kept q) : (State.bindOff x0 x1).Kept q := by
  unfold State.bindOff; simp +contextual (maxDischargeDepth := 30) [hx0]

@[simp] theorem execBindOff_kept {x0 : State} (hx0 : x0.Kept q) : keptOutcome q (execBindOff x0) := by
  unfold execBindOff; simp +contextual (maxDischargeDepth := 30) [hx0]

@[simp] theorem State.zeroMemories_kept {s : State} (h : s.Kept q) : s.zeroMemories.Kept q := by
  unfold State.zeroMemories
  simp only []
  refine foldl_kept ⟨h.1, SMap.filter_wf _ h.2.1, h.2.2⟩ (fun t x ht => ?_)
  simpa [kept_update] using ht

@[simp] theorem execBindOffComplete_kept {x0 : State} (hx0 : x0.Kept q) : keptOutcome q (execBindOffComplete x0) := by
  unfold execBindOffComplete; (repeat' split) <;> simp +contextual (maxDischargeDepth := 30) [hx0]

@[simp] theorem State.beginCut_kept {x0 : State} (x1) (x2) (x3) (x4) (hx0 : x0.Kept q) : (State.beginCut x0 x1 x2 x3 x4).Kept q := by
  unfold State.beginCut; (repeat' split) <;> simp +contextual (maxDischargeDepth := 30) [hx0]

@[simp] theorem execLifelineCut_kept {s : State} (h : s.Kept q) : keptOutcome q (execLifelineCut s) := by
  unfold execLifelineCut
  split
  · exact h
  · next e =>
    have ht := State.takeHanded_kept h e
    simp only []
    split
    · exact act_kept _ h (fun _ => ht)
    · refine act_kept _ h (fun _ => ?_)
      split <;> simp +contextual (maxDischargeDepth := 30) [ht]

@[simp] theorem State.lePoison_kept {x0 : State} (x1 : ℕ) (hx0 : x0.Kept q) : (State.lePoison x0 x1).Kept q := by
  unfold State.lePoison; simp +contextual (maxDischargeDepth := 30) [hx0]

@[simp] theorem State.writeCut_kept {x0 : State} (x1 : Cut) (hx0 : x0.Kept q) : (State.writeCut x0 x1).Kept q := by
  unfold State.writeCut; simp +contextual (maxDischargeDepth := 30) [hx0]

@[simp] theorem execCutDeltaWrite_kept {x0 : State} (hx0 : x0.Kept q) : keptOutcome q (execCutDeltaWrite x0) := by
  unfold execCutDeltaWrite; (repeat' split) <;> simp +contextual (maxDischargeDepth := 30) [hx0]

@[simp] theorem State.tellMembers_kept {x0 : State} (x1 : List Byte) (hx0 : x0.Kept q) : (State.tellMembers x0 x1).Kept q := by
  unfold State.tellMembers; simp +contextual (maxDischargeDepth := 30) [hx0]

@[simp] theorem State.markSlots_kept {x0 : State} (x1 : ℕ) (x2 : ℕ) (hx0 : x0.Kept q) : (State.markSlots x0 x1 x2).Kept q := by
  unfold State.markSlots; simp +contextual (maxDischargeDepth := 30) [hx0]

@[simp] theorem State.commit_kept {x0 : State} (x1 : Cut) (x2 : List Byte) (hx0 : x0.Kept q) : (State.commit x0 x1 x2).Kept q := by
  unfold State.commit; simp +contextual (maxDischargeDepth := 30) [hx0]

@[simp] theorem State.takeManifest_kept {x0 : State} (x1 : List Byte) (hx0 : x0.Kept q) : (State.takeManifest x0 x1).Kept q := by
  unfold State.takeManifest; (repeat' split) <;> simp +contextual (maxDischargeDepth := 30) [hx0]

@[simp] theorem State.tryManifest_kept {x0 : State} (x1 : BitVec 32) (hx0 : x0.Kept q) : (State.tryManifest x0 x1).Kept q := by
  unfold State.tryManifest; (repeat' split) <;> simp +contextual (maxDischargeDepth := 30) [hx0]

@[simp] theorem State.reportCut_kept {s : State} (c) (h : s.Kept q) : (s.reportCut c).Kept q := by
  unfold State.reportCut
  extract_lets e t
  have ht : t.Kept q := State.markSlots_kept _ _ h
  split
  · exact State.tryManifest_kept _ ht
  · exact State.sendLe_kept _ _ ht

@[simp] theorem execCutWritten_kept {x0 : State} (hx0 : x0.Kept q) : keptOutcome q (execCutWritten x0) := by
  unfold execCutWritten; (repeat' split) <;> simp +contextual (maxDischargeDepth := 30) [hx0]

@[simp] theorem State.leArrived_kept {s : State} (m n) (f : State → Packet → State) (h : s.Kept q) (hf : ∀ t p, t.Kept q → (f t p).Kept q) : keptOutcome q (s.leArrived m n f) := by
  unfold State.leArrived
  split
  · exact h
  · next e =>
    have ht := State.takeCtrl_kept h e
    refine act_kept _ h (fun _ => ?_)
    split
    · exact State.accept_kept _ _ _ ht (fun t h => hf t _ h)
    · exact State.count_kept _ _ ht

@[simp] theorem execSkeinReport_kept {x0 : State} (hx0 : x0.Kept q) : keptOutcome q (execSkeinReport x0) := by
  unfold execSkeinReport; simp +contextual (maxDischargeDepth := 30) [hx0]

@[simp] theorem State.tearCut_kept {x0 : State} (x1 : BitVec 32) (hx0 : x0.Kept q) : (State.tearCut x0 x1).Kept q := by
  unfold State.tearCut; simp +contextual (maxDischargeDepth := 30) [hx0]

@[simp] theorem execTear_kept {x0 : State} (hx0 : x0.Kept q) : keptOutcome q (execTear x0) := by
  unfold execTear; simp +contextual (maxDischargeDepth := 30) [hx0]

@[simp] theorem execReportTimeout_kept {x0 : State} (hx0 : x0.Kept q) : keptOutcome q (execReportTimeout x0) := by
  unfold execReportTimeout; (repeat' split) <;> simp +contextual (maxDischargeDepth := 30) [hx0]

@[simp] theorem execManifestWaitExpiry_kept {x0 : State} (hx0 : x0.Kept q) : keptOutcome q (execManifestWaitExpiry x0) := by
  unfold execManifestWaitExpiry; (repeat' split) <;> simp +contextual (maxDischargeDepth := 30) [hx0]

@[simp] theorem execManifestTimeout_kept {x0 : State} (hx0 : x0.Kept q) : keptOutcome q (execManifestTimeout x0) := by
  unfold execManifestTimeout; (repeat' split) <;> simp +contextual (maxDischargeDepth := 30) [hx0]

@[simp] theorem State.foldBase_kept {x0 : State} (x1 : ℕ) (x2 : ℕ) (hx0 : x0.Kept q) : (State.foldBase x0 x1 x2).1.Kept q := by
  unfold State.foldBase; simp +contextual (maxDischargeDepth := 30) [hx0]

@[simp] theorem State.freeOlder_kept {x0 : State} (hx0 : x0.Kept q) : (State.freeOlder x0).Kept q := by
  unfold State.freeOlder; simp +contextual (maxDischargeDepth := 30) [hx0]

@[simp] theorem State.settleFold_kept {x0 : State} (hx0 : x0.Kept q) : (State.settleFold x0).Kept q := by
  unfold State.settleFold; (repeat' split) <;> simp +contextual (maxDischargeDepth := 30) [hx0]

@[simp] theorem State.foldOwn_kept {x0 : State} (hx0 : x0.Kept q) : (State.foldOwn x0).Kept q := by
  unfold State.foldOwn; simp only []; (repeat' split) <;> simp_all +contextual (maxDischargeDepth := 30) [hx0]

@[simp] theorem State.foldBuddy_kept {x0 : State} (x1 : ℕ) (hx0 : x0.Kept q) : (State.foldBuddy x0 x1).Kept q := by
  unfold State.foldBuddy; (repeat' split) <;> simp_all +contextual (maxDischargeDepth := 30) [hx0]

@[simp] theorem State.writeParity_kept {x0 : State} (x1 : ℕ) (x2 : ℕ) (x3 : ChainDelta) (hx0 : x0.Kept q) : (State.writeParity x0 x1 x2 x3).Kept q := by
  unfold State.writeParity; simp +contextual (maxDischargeDepth := 30) [hx0]

@[simp] theorem State.completeParity_kept {x0 : State} (x1 : ℕ) (hx0 : x0.Kept q) : (State.completeParity x0 x1).Kept q := by
  unfold State.completeParity; simp +contextual (maxDischargeDepth := 30) [hx0]

@[simp] theorem State.passChain_kept {x0 : State} (x1 : Fold) (x2 : ℕ) (x3 : ChainDelta) (x4 : ChainDelta) (hx0 : x0.Kept q) : (State.passChain x0 x1 x2 x3 x4).Kept q := by
  unfold State.passChain; simp +contextual (maxDischargeDepth := 30) [hx0]

@[simp] theorem State.endChains_kept {x0 : State} (x1 : Bool) (hx0 : x0.Kept q) : (State.endChains x0 x1).Kept q := by
  unfold State.endChains; simp +contextual (maxDischargeDepth := 30) [hx0]

@[simp] theorem execFoldComplete_kept {x0 : State} (hx0 : x0.Kept q) : keptOutcome q (execFoldComplete x0) := by
  unfold execFoldComplete; (repeat' split) <;> simp +contextual (maxDischargeDepth := 30) [hx0]

@[simp] theorem execParityChain_kept (x0 : Fin 16) (x1 : ChainDelta) (x2 : ChainDelta) (x3 : Bool) {x4 : State} (hx4 : x4.Kept q) : keptOutcome q (execParityChain x0 x1 x2 x3 x4) := by
  unfold execParityChain; (repeat' split) <;> simp +contextual (maxDischargeDepth := 30) [hx4]

@[simp] theorem State.endRestore_kept {x0 : State} (x1 : ℕ) (hx0 : x0.Kept q) : (State.endRestore x0 x1).Kept q := by
  unfold State.endRestore; (repeat' split) <;> simp +contextual (maxDischargeDepth := 30) [hx0]

@[simp] theorem State.countForged_kept {x0 : State} (x1) (hx0 : x0.Kept q) : (State.countForged x0 x1).Kept q := by
  unfold State.countForged; (repeat' split) <;> simp +contextual (maxDischargeDepth := 30) [hx0]

@[simp] theorem State.offerManifest_kept {x0 : State} (x1 : RestoreWork) (x2 : List Byte) (hx0 : x0.Kept q) : (State.offerManifest x0 x1 x2).Kept q := by
  unfold State.offerManifest; simp +contextual (maxDischargeDepth := 30) [hx0]

@[simp] theorem execManifest_kept {s : State} (h : s.Kept q) : keptOutcome q (execManifest s) := by
  unfold execManifest
  split
  · exact h
  · next e =>
    have ht := State.takeCtrl_kept h e
    refine act_kept _ h (fun _ => ?_)
    split
    · refine State.accept_kept _ _ _ ht (fun v hv => ?_)
      (repeat' split) <;> simp +contextual (maxDischargeDepth := 30) [hv]
    · exact State.count_kept _ _ ht

@[simp] theorem execManifestQuery_kept {s : State} (h : s.Kept q) : keptOutcome q (execManifestQuery s) := by
  refine State.leArrived_kept _ _ _ h (fun t p ht => ?_)
  simp only []
  split <;> simp +contextual (maxDischargeDepth := 30) [ht]

@[simp] theorem State.startRestore_kept {x0 : State} (x1 : BitVec 32) (x2 : ℕ) (hx0 : x0.Kept q) : (State.startRestore x0 x1 x2).Kept q := by
  unfold State.startRestore; simp only []; (repeat' split) <;> simp_all +contextual (maxDischargeDepth := 30) [hx0]

@[simp] theorem execLifelineRestore_kept {x0 : State} (hx0 : x0.Kept q) : keptOutcome q (execLifelineRestore x0) := by
  unfold execLifelineRestore; simp +contextual (maxDischargeDepth := 30) [hx0]

@[simp] theorem State.writeImage_kept {s : State} (f) (h : s.Kept q) : (s.writeImage f).Kept q := by
  unfold State.writeImage
  simp only []
  refine foldl_kept (foldl_kept h (fun t x ht => State.storeCopied_kept _ _ _ ht)) (fun t x ht => ?_)
  (repeat' split) <;> simp +contextual (maxDischargeDepth := 30) [ht]

@[simp] theorem State.voidIn_kept {x0 : State} (x1 : ℕ) (x2 : ℕ → ℕ) (x3 : ℕ) (hx0 : x0.Kept q) : (State.voidIn x0 x1 x2 x3).Kept q := by
  unfold State.voidIn; (repeat' split) <;> simp +contextual (maxDischargeDepth := 30) [hx0]

@[simp] theorem State.unfoldBuddy_kept {x0 : State} (x1 : ℕ) (hx0 : x0.Kept q) : (State.unfoldBuddy x0 x1).Kept q := by
  unfold State.unfoldBuddy; simp only []; (repeat' split) <;> simp_all +contextual (maxDischargeDepth := 30) [hx0]

@[simp] theorem State.voidParity_kept {x0 : State} (x1) (hx0 : x0.Kept q) : (State.voidParity x0 x1).Kept q := by
  unfold State.voidParity; (repeat' split) <;> simp +contextual (maxDischargeDepth := 30) [hx0]

@[simp] theorem State.voidGenerations_kept {x0 : State} (x1) (hx0 : x0.Kept q) : (State.voidGenerations x0 x1).Kept q := by
  unfold State.voidGenerations; (repeat' split) <;> simp +contextual (maxDischargeDepth := 30) [hx0]

@[simp] theorem State.restoreTo_kept {x0 : State} (x1 : RestoreWork) (x2 : ℕ → ImagePage) (x3 : List Byte) (x4 : ℕ) (hx0 : x0.Kept q) : (State.restoreTo x0 x1 x2 x3 x4).Kept q := by
  unfold State.restoreTo; simp +contextual (maxDischargeDepth := 30) [hx0]

@[simp] theorem State.failRestore_kept {x0 : State} (x1 : RestoreWork) (hx0 : x0.Kept q) : (State.failRestore x0 x1).Kept q := by
  unfold State.failRestore; (repeat' split) <;> simp +contextual (maxDischargeDepth := 30) [hx0]

@[simp] theorem State.finishRestore_kept {x0 : State} (x1 : RestoreWork) (x2 : List ℕ) (x3 : List ℕ) (x4 : ℕ → ImagePage) (x5 : List Byte) (x6 : ℕ) (hx0 : x0.Kept q) : (State.finishRestore x0 x1 x2 x3 x4 x5 x6).Kept q := by
  unfold State.finishRestore; simp +contextual (maxDischargeDepth := 30) [hx0]

@[simp] theorem execRestoreComplete_kept (x0 : RestoreShares) {x3 : State} (hx3 : x3.Kept q) : keptOutcome q (execRestoreComplete x0 x3) := by
  unfold execRestoreComplete; simp only []; (repeat' split) <;> simp_all +contextual (maxDischargeDepth := 30) [hx3]

@[simp] theorem State.startFill_kept {x0 : State} (x1 : ℕ) (hx0 : x0.Kept q) : (State.startFill x0 x1).Kept q := by
  unfold State.startFill; simp +contextual (maxDischargeDepth := 30) [hx0]

@[simp] theorem execSpareFill_kept {x0 : State} (hx0 : x0.Kept q) : keptOutcome q (execSpareFill x0) := by
  unfold execSpareFill; simp +contextual (maxDischargeDepth := 30) [hx0]

@[simp] theorem State.putParitySet_kept {x0 : State} (x1 : ℕ) (x2 : ParitySet) (hx0 : x0.Kept q) : (State.putParitySet x0 x1 x2).Kept q := by
  unfold State.putParitySet; simp +contextual (maxDischargeDepth := 30) [hx0]

@[simp] theorem execFillComplete_kept (x0 : FillPeer) (x1 : ParitySets) {x3 : State} (hx3 : x3.Kept q) : keptOutcome q (execFillComplete x0 x1 x3) := by
  unfold execFillComplete; (repeat' split) <;> simp +contextual (maxDischargeDepth := 30) [hx3]

@[simp] theorem execManifestRead_kept {x0 : State} (hx0 : x0.Kept q) : keptOutcome q (execManifestRead x0) := by
  unfold execManifestRead; simp +contextual (maxDischargeDepth := 30) [hx0]

@[simp] theorem State.beginSnapshot_kept {x0 : State} (x1 : ℕ) (x2 : BitVec 32) (hx0 : x0.Kept q) : (State.beginSnapshot x0 x1 x2).Kept q := by
  unfold State.beginSnapshot; simp +contextual (maxDischargeDepth := 30) [hx0]

@[simp] theorem execSnapshot_kept {x0 : State} (hx0 : x0.Kept q) : keptOutcome q (execSnapshot x0) := by
  unfold execSnapshot; split <;> (try (have ht := State.takeHanded_kept hx0 (by assumption); simp only at ht)) <;> (repeat' split) <;> simp +contextual (maxDischargeDepth := 30) [*, hx0]

@[simp] theorem execSnapshotComplete_kept {x0 : State} (hx0 : x0.Kept q) : keptOutcome q (execSnapshotComplete x0) := by
  unfold execSnapshotComplete; simp +contextual (maxDischargeDepth := 30) [hx0]

@[simp] theorem State.showPaused_kept {x0 : State} (hx0 : x0.Kept q) : (State.showPaused x0).Kept q := by
  unfold State.showPaused; simp +contextual (maxDischargeDepth := 30) [hx0]

@[simp] theorem State.pauseClass_kept {x0 : State} (x1 : ℕ) (x2 : ℕ) (hx0 : x0.Kept q) : (State.pauseClass x0 x1 x2).Kept q := by
  unfold State.pauseClass; simp +contextual (maxDischargeDepth := 30) [hx0]

@[simp] theorem execPfcFrame_kept (x0 : BitVec 8) (x1 : List (BitVec 16)) {x2 : State} (hx2 : x2.Kept q) : keptOutcome q (execPfcFrame x0 x1 x2) := by
  unfold execPfcFrame; simp +contextual (maxDischargeDepth := 30) [hx2]

@[simp] theorem execPfcPauseExpiry_kept {x0 : State} (hx0 : x0.Kept q) : keptOutcome q (execPfcPauseExpiry x0) := by
  unfold execPfcPauseExpiry; simp +contextual (maxDischargeDepth := 30) [hx0]

@[simp] theorem execXoffRepeat_kept (x0 : Bool) (x1 : ℕ) {x2 : State} (hx2 : x2.Kept q) : keptOutcome q (execXoffRepeat x0 x1 x2) := by
  unfold execXoffRepeat; simp +contextual (maxDischargeDepth := 30) [hx2]

@[simp] theorem execAnnounce_kept {x0 : State} (hx0 : x0.Kept q) : keptOutcome q (execAnnounce x0) := by
  unfold execAnnounce; simp +contextual (maxDischargeDepth := 30) [hx0]

@[simp] theorem State.addressConflict_kept {x0 : State} (x1 : Bool) (hx0 : x0.Kept q) : (State.addressConflict x0 x1).Kept q := by
  unfold State.addressConflict; simp +contextual (maxDischargeDepth := 30) [hx0]

@[simp] theorem State.detectLocal_kept {x0 : State} (hx0 : x0.Kept q) : (State.detectLocal x0).Kept q := by
  unfold State.detectLocal; simp +contextual (maxDischargeDepth := 30) [hx0]

@[simp] theorem execHostLinkUp_kept {x0 : State} (hx0 : x0.Kept q) : keptOutcome q (execHostLinkUp x0) := by
  unfold execHostLinkUp; simp +contextual (maxDischargeDepth := 30) [hx0]

@[simp] theorem execDadRetry_kept {x0 : State} (hx0 : x0.Kept q) : keptOutcome q (execDadRetry x0) := by
  unfold execDadRetry; (repeat' split) <;> simp +contextual (maxDischargeDepth := 30) [hx0]

@[simp] theorem execDadPass_kept (x0 : Bool) {x1 : State} (hx1 : x1.Kept q) : keptOutcome q (execDadPass x0 x1) := by
  unfold execDadPass; simp +contextual (maxDischargeDepth := 30) [hx1]

@[simp] theorem execNeighborDiscovery_kept (f k) {s : State} (h : s.Kept q) : keptOutcome q (execNeighborDiscovery f k s) := by
  unfold execNeighborDiscovery
  refine act_kept _ h (fun _ => ?_)
  have hr := State.unprotect_kept f h
  split
  · next heq => rw [heq] at hr; (repeat' split) <;> simp +contextual (maxDischargeDepth := 30) [hr]
  · next heq => rw [heq] at hr; (repeat' split) <;> simp +contextual (maxDischargeDepth := 30) [hr]

@[simp] theorem execArp_kept (f) {s : State} (h : s.Kept q) : keptOutcome q (execArp f s) := by
  unfold execArp
  refine act_kept _ h (fun _ => ?_)
  have hr := State.unprotect_kept f h
  split
  · next heq => rw [heq] at hr; (repeat' split) <;> simp +contextual (maxDischargeDepth := 30) [hr]
  · next heq => rw [heq] at hr; (repeat' split) <;> simp +contextual (maxDischargeDepth := 30) [hr]

@[simp] theorem execEchoRequest_kept (f) {s : State} (h : s.Kept q) : keptOutcome q (execEchoRequest f s) := by
  unfold execEchoRequest
  refine act_kept _ h (fun _ => ?_)
  have hr := State.unprotect_kept f h
  split
  · next heq => rw [heq] at hr; (repeat' split) <;> simp +contextual (maxDischargeDepth := 30) [hr]
  · next heq => rw [heq] at hr; (repeat' split) <;> simp +contextual (maxDischargeDepth := 30) [hr]

@[simp] theorem State.setQp_kept {x0 : State} (x1 : ℕ) (x2 : Option QueuePair) (hx0 : x0.Kept q) : (State.setQp x0 x1 x2).Kept q := by
  unfold State.setQp; simp +contextual (maxDischargeDepth := 30) [hx0]

@[simp] theorem execQpCreate_kept {x0 : State} (hx0 : x0.Kept q) : keptOutcome q (execQpCreate x0) := by
  unfold execQpCreate; refine runCommand_kept _ _ hx0 (fun t c ht => ?_); (try refine sized_kept _ _ _ (fun t c ht => ?_) ht); (repeat' split) <;> simp +contextual (maxDischargeDepth := 30) [ht, hx0]

@[simp] theorem execQpDestroy_kept {x0 : State} (hx0 : x0.Kept q) : keptOutcome q (execQpDestroy x0) := by
  unfold execQpDestroy; simp +contextual (maxDischargeDepth := 30) [hx0]

@[simp] theorem State.rdmaStore_kept {x0 : State} (x1 : ℕ) (x2 : List Byte) (hx0 : x0.Kept q) : (State.rdmaStore x0 x1 x2).Kept q := by
  unfold State.rdmaStore; simp +contextual (maxDischargeDepth := 30) [hx0]

@[simp] theorem State.nak_kept {x0 : State} (x1 : Peer) (x2 : ℕ) (x3 : QueuePair) (x4 : BitVec 24) (x5 : RdmaNak) (hx0 : x0.Kept q) : (State.nak x0 x1 x2 x3 x4 x5).Kept q := by
  unfold State.nak; simp +contextual (maxDischargeDepth := 30) [hx0]

@[simp] theorem State.landWrite_kept {x0 : State} (x1) (hx0 : x0.Kept q) : (State.landWrite x0 x1).Kept q := by
  unfold State.landWrite; (repeat' split) <;> simp +contextual (maxDischargeDepth := 30) [hx0]

@[simp] theorem State.offerWrite_kept {x0 : State} (x1) (hx0 : x0.Kept q) : (State.offerWrite x0 x1).Kept q := by
  unfold State.offerWrite; (repeat' split) <;> simp +contextual (maxDischargeDepth := 30) [hx0]

@[simp] theorem State.resumeWrites_kept {x0 : State} (hx0 : x0.Kept q) : (State.resumeWrites x0).Kept q := by
  unfold State.resumeWrites; (repeat' split) <;> simp +contextual (maxDischargeDepth := 30) [hx0]

@[simp] theorem State.ackAgain_kept {x0 : State} (x1) (x2) (x3) (hx0 : x0.Kept q) : (State.ackAgain x0 x1 x2 x3).Kept q := by
  unfold State.ackAgain; (repeat' split) <;> simp +contextual (maxDischargeDepth := 30) [hx0]

@[simp] theorem State.notify_kept {x0 : State} (x1 : Peer) (x2 : ℕ) (x3 : Bool) (hx0 : x0.Kept q) : (State.notify x0 x1 x2 x3).Kept q := by
  unfold State.notify; (repeat' split) <;> simp +contextual (maxDischargeDepth := 30) [hx0]

@[simp] theorem State.takePart_kept {x0 : State} (x1 : Peer) (x2 : ℕ) (x3 : QueuePair) (x4 : WritePart) (x5 : RdmaHeader) (x6 : List Byte) (hx0 : x0.Kept q) : (State.takePart x0 x1 x2 x3 x4 x5 x6).Kept q := by
  unfold State.takePart; simp +contextual (maxDischargeDepth := 30) [hx0]

@[simp] theorem State.onQp_kept {s : State} (i m) (f : State → QueuePair → State) (h : s.Kept q) (hf : ∀ t p, t.Kept q → (f t p).Kept q) : (s.onQp i m f).Kept q := by
  unfold State.onQp
  split
  · exact State.count_kept _ _ h
  · have hr := State.receive_kept i 1 h
    (repeat' split) <;> simp_all [State.notify_kept]

@[simp] theorem State.takeRead_kept {x0 : State} (x1 : Peer) (x2 : ℕ) (x3 : QueuePair) (x4 : RdmaHeader) (x5 : Bool) (hx0 : x0.Kept q) : (State.takeRead x0 x1 x2 x3 x4 x5).Kept q := by
  unfold State.takeRead; simp +contextual (maxDischargeDepth := 30) [hx0]

@[simp] theorem State.sendResponse_kept {x0 : State} (x1 : ℕ) (hx0 : x0.Kept q) : (State.sendResponse x0 x1).Kept q := by
  unfold State.sendResponse; (repeat' split) <;> simp +contextual (maxDischargeDepth := 30) [hx0]

@[simp] theorem State.outOfSequence_kept {x0 : State} (x1) (x2) (hx0 : x0.Kept q) : (State.outOfSequence x0 x1 x2).Kept q := by
  unfold State.outOfSequence; (repeat' split) <;> simp +contextual (maxDischargeDepth := 30) [hx0]

@[simp] theorem State.takeWrite_kept {x0 : State} (x1) (x2) (x3) (x4) (x5) (hx0 : x0.Kept q) : (State.takeWrite x0 x1 x2 x3 x4 x5).Kept q := by
  unfold State.takeWrite; (repeat' split) <;> simp +contextual (maxDischargeDepth := 30) [hx0]

@[simp] theorem execRdmaWrite_kept (x0 : Frame) (x1 : RdmaHeader) (x2 : WritePart) (x3 : List Byte) {x4 : State} (hx4 : x4.Kept q) : keptOutcome q (execRdmaWrite x0 x1 x2 x3 x4) := by
  unfold execRdmaWrite; simp +contextual (maxDischargeDepth := 30) [hx4]

@[simp] theorem State.respondAll_kept {x0 : State} (hx0 : x0.Kept q) : (State.respondAll x0).Kept q := by
  unfold State.respondAll; simp +contextual (maxDischargeDepth := 30) [hx0]

@[simp] theorem execRdmaRead_kept (x0 : Frame) (x1 : RdmaHeader) {x2 : State} (hx2 : x2.Kept q) : keptOutcome q (execRdmaRead x0 x1 x2) := by
  unfold execRdmaRead; simp +contextual (maxDischargeDepth := 30) [hx2]

@[simp] theorem execCnp_kept (x0 : Frame) (x1 : RdmaHeader) {x2 : State} (hx2 : x2.Kept q) : keptOutcome q (execCnp x0 x1 x2) := by
  unfold execCnp; simp +contextual (maxDischargeDepth := 30) [hx2]

@[simp] theorem execCnpRateRaise_kept {x0 : State} (hx0 : x0.Kept q) : keptOutcome q (execCnpRateRaise x0) := by
  unfold execCnpRateRaise; (repeat' split) <;> simp +contextual (maxDischargeDepth := 30) [hx0]

@[simp] theorem State.readRail_kept {x0 : State} (x1 : ℕ) (x2 : Option RailReading) (hx0 : x0.Kept q) : (State.readRail x0 x1 x2).1.Kept q := by
  unfold State.readRail; (repeat' split) <;> simp +contextual (maxDischargeDepth := 30) [hx0]

@[simp] theorem State.readBus_kept {x0 : State} (x1 : ℕ) (x2 : List (Option RailReading)) (hx0 : x0.Kept q) : (State.readBus x0 x1 x2).1.Kept q := by
  unfold State.readBus; simp +contextual (maxDischargeDepth := 30) [hx0]

@[simp] theorem State.addSample_kept {x0 : State} (x1 : ℕ) (x2 : ℕ) (hx0 : x0.Kept q) : (State.addSample x0 x1 x2).Kept q := by
  unfold State.addSample; simp +contextual (maxDischargeDepth := 30) [hx0]

@[simp] theorem State.showPower_kept {x0 : State} (hx0 : x0.Kept q) : (State.showPower x0).Kept q := by
  unfold State.showPower; simp +contextual (maxDischargeDepth := 30) [hx0]

@[simp] theorem execAvsSample_kept (x0 : Fin 2) (x1 : List (Option RailReading)) {x2 : State} (hx2 : x2.Kept q) : keptOutcome q (execAvsSample x0 x1 x2) := by
  unfold execAvsSample; simp +contextual (maxDischargeDepth := 30) [hx2]

@[simp] theorem State.setLimits_kept {x0 : State} (x1 : ℕ) (x2 : ℕ) (hx0 : x0.Kept q) : (State.setLimits x0 x1 x2).Kept q := by
  unfold State.setLimits; simp +contextual (maxDischargeDepth := 30) [hx0]

@[simp] theorem execEnvelopeStep_kept {x0 : State} (hx0 : x0.Kept q) : keptOutcome q (execEnvelopeStep x0) := by
  unfold execEnvelopeStep; simp +contextual (maxDischargeDepth := 30) [hx0]

@[simp] theorem execThermalStep_kept {x0 : State} (hx0 : x0.Kept q) : keptOutcome q (execThermalStep x0) := by
  unfold execThermalStep; simp +contextual (maxDischargeDepth := 30) [hx0]

@[simp] theorem execSetpointStep_kept (x0 : Fin 4) {x1 : State} (hx1 : x1.Kept q) : keptOutcome q (execSetpointStep x0 x1) := by
  unfold execSetpointStep; simp +contextual (maxDischargeDepth := 30) [hx1]

@[simp] theorem State.holdFaultN_kept {x0 : State} (hx0 : x0.Kept q) : (State.holdFaultN x0).Kept q := by
  unfold State.holdFaultN; simp +contextual (maxDischargeDepth := 30) [hx0]

@[simp] theorem State.pulseFaultN_kept {x0 : State} (hx0 : x0.Kept q) : (State.pulseFaultN x0).Kept q := by
  unfold State.pulseFaultN; simp +contextual (maxDischargeDepth := 30) [hx0]

@[simp] theorem execVrFault_kept (x0 : Fin 4) {x1 : State} (hx1 : x1.Kept q) : keptOutcome q (execVrFault x0 x1) := by
  unfold execVrFault; simp +contextual (maxDischargeDepth := 30) [hx1]

@[simp] theorem execFaultNPulse_kept {x0 : State} (hx0 : x0.Kept q) : keptOutcome q (execFaultNPulse x0) := by
  unfold execFaultNPulse; simp +contextual (maxDischargeDepth := 30) [hx0]

@[simp] theorem State.takeReadings_kept {x0 : State} (x1 : List (BitVec 16)) (x2 : List (BitVec 16)) (hx0 : x0.Kept q) : (State.takeReadings x0 x1 x2).Kept q := by
  unfold State.takeReadings; simp +contextual (maxDischargeDepth := 30) [hx0]

@[simp] theorem State.excursions_kept {x0 : State} (hx0 : x0.Kept q) : (State.excursions x0).Kept q := by
  unfold State.excursions; simp +contextual (maxDischargeDepth := 30) [hx0]

@[simp] theorem State.tripIfHot_kept {x0 : State} (hx0 : x0.Kept q) : (State.tripIfHot x0).Kept q := by
  unfold State.tripIfHot; simp +contextual (maxDischargeDepth := 30) [hx0]

@[simp] theorem execJunctionRead_kept (x0 : List (BitVec 16)) (x1 : List (BitVec 16)) {x2 : State} (hx2 : x2.Kept q) : keptOutcome q (execJunctionRead x0 x1 x2) := by
  unfold execJunctionRead; simp +contextual (maxDischargeDepth := 30) [hx2]

@[simp] theorem State.powerCycled_kept {s : State} (h : s.Kept q) : s.powerCycled.Kept q := by
  exact ⟨h.1, (by decide : memoryWf []), (by decide : SMap.wf 0 State.reset.regs), (by decide : 0 < 2560)⟩

@[simp] theorem execPerstNAssert_kept {x0 : State} (hx0 : x0.Kept q) : keptOutcome q (execPerstNAssert x0) := by
  unfold execPerstNAssert; simp +contextual (maxDischargeDepth := 30) [hx0]

@[simp] theorem execPwrOkDeassert_kept {x0 : State} (hx0 : x0.Kept q) : keptOutcome q (execPwrOkDeassert x0) := by
  unfold execPwrOkDeassert; simp +contextual (maxDischargeDepth := 30) [hx0]

@[simp] theorem execPerstNRise_kept (x0 : Bool) (x1 : Straps) (x2 : Option Flash) (x3 : Option Flash) {x4 : State} (hx4 : x4.Kept q) : keptOutcome q (execPerstNRise x0 x1 x2 x3 x4) := by
  unfold execPerstNRise; simp +contextual (maxDischargeDepth := 30) [hx4]

@[simp] theorem State.setPhase_kept {x0 : State} (x1 : ℕ) (hx0 : x0.Kept q) : (State.setPhase x0 x1).Kept q := by
  unfold State.setPhase; simp +contextual (maxDischargeDepth := 30) [hx0]

@[simp] theorem State.enterPhase_kept {x0 : State} (x1 : ℕ) (hx0 : x0.Kept q) : (State.enterPhase x0 x1).Kept q := by
  unfold State.enterPhase; simp +contextual (maxDischargeDepth := 30) [hx0]

@[simp] theorem State.castOnFailed_kept {x0 : State} (x1 : ℕ) (hx0 : x0.Kept q) : (State.castOnFailed x0 x1).Kept q := by
  unfold State.castOnFailed; simp +contextual (maxDischargeDepth := 30) [hx0]

@[simp] theorem State.castOnFatal_kept {x0 : State} (x1 : BitVec 32) (hx0 : x0.Kept q) : (State.castOnFatal x0 x1).Kept q := by
  unfold State.castOnFatal; simp +contextual (maxDischargeDepth := 30) [hx0]

@[simp] theorem execCastonPhaseTimeout_kept (x0 : BitVec 32) {x1 : State} (hx1 : x1.Kept q) : keptOutcome q (execCastonPhaseTimeout x0 x1) := by
  unfold execCastonPhaseTimeout; simp +contextual (maxDischargeDepth := 30) [hx1]

@[simp] theorem State.endPhase0_kept {s : State} (h : s.Kept q) : s.endPhase0.Kept q := by
  unfold State.endPhase0
  have h0 : State.Kept q { s with tb := Timebase.reset, timers := [] } := ⟨h.1, h.2.1, h.2.2.1, (by decide : 0 < 2560)⟩
  have h1 := State.redrawNonce_kept (State.redrawProvisioning_kept (State.eraseJobKeys_kept
    (foldl_kept (l := [0, 1, 4, 5]) (g := fun u n => u.setFld (Reg.pmRail n) Fld.pmRailSetpoint 800) h0 (fun t x ht => State.setFld_kept _ _ _ ht))))
  refine State.enterPhase_kept _ ?_
  exact State.drawn_kept h1

@[simp] theorem State.countBase_kept {x0 : State} (x1 : ℕ) (hx0 : x0.Kept q) : (State.countBase x0 x1).Kept q := by
  unfold State.countBase; simp +contextual (maxDischargeDepth := 30) [hx0]

@[simp] theorem State.acceptBlock_kept {x0 : State} (x1 : List Byte) (hx0 : x0.Kept q) : (State.acceptBlock x0 x1).Kept q := by
  unfold State.acceptBlock; simp +contextual (maxDischargeDepth := 30) [hx0]

@[simp] theorem State.takeSite_kept {x0 : State} (x1 : Flash) (hx0 : x0.Kept q) : (State.takeSite x0 x1).Kept q := by
  unfold State.takeSite; simp +contextual (maxDischargeDepth := 30) [hx0]

@[simp] theorem State.runImage_kept {x0 : State} (x1 : Flash) (hx0 : x0.Kept q) : (State.runImage x0 x1).Kept q := by
  unfold State.runImage; simp only []; (repeat' split) <;> simp_all +contextual (maxDischargeDepth := 30) [hx0]

@[simp] theorem State.endPhase1_kept {x0 : State} (hx0 : x0.Kept q) : (State.endPhase1 x0).Kept q := by
  unfold State.endPhase1; simp +contextual (maxDischargeDepth := 30) [hx0]

@[simp] theorem State.endPhase2_kept {s : State} (h : s.Kept q) : s.endPhase2.Kept q := by
  have ht (x1) : State.Kept q { s with mem := s.mem.filter (fun c => !inCoreStore c.1), poison := x1 } :=
    ⟨h.1, SMap.filter_wf _ h.2.1, h.2.2⟩
  unfold State.endPhase2
  exact State.enterPhase_kept _ (State.setFld_kept _ _ _ (State.trainPorts_kept (ht _)))

@[simp] theorem State.endPhase3_kept {x0 : State} (hx0 : x0.Kept q) : (State.endPhase3 x0).Kept q := by
  unfold State.endPhase3; simp +contextual (maxDischargeDepth := 30) [hx0]

@[simp] theorem State.populate_kept {x0 : State} (x1 : ℕ) (x2 : List ℕ) (hx0 : x0.Kept q) : (State.populate x0 x1 x2).Kept q := by
  unfold State.populate; simp +contextual (maxDischargeDepth := 30) [hx0]

@[simp] theorem State.endPhase4_kept {x0 : State} (x1 : List (List Dimm)) (x2 : List (Fin 12)) (x3 : Option (Fin 16)) (x4 : List ℕ) (hx0 : x0.Kept q) : (State.endPhase4 x0 x1 x2 x3 x4).Kept q := by
  unfold State.endPhase4; simp only []; (repeat' split) <;> simp_all +contextual (maxDischargeDepth := 30) [hx0]

@[simp] theorem State.zeroStored_kept {s : State} (h : s.Kept q) : s.zeroStored.Kept q := by
  exact ⟨h.1, SMap.filter_wf _ h.2.1, h.2.2⟩

@[simp] theorem State.patterned_kept {x0 : State} (hx0 : x0.Kept q) : (State.patterned x0).Kept q := by
  unfold State.patterned; (repeat' split) <;> simp +contextual (maxDischargeDepth := 30) [hx0]

@[simp] theorem State.endPhase5_kept {x0 : State} (x1 : List ℕ) (x2 : Option ℕ) (x3 : Bool) (hx0 : x0.Kept q) : (State.endPhase5 x0 x1 x2 x3).Kept q := by
  unfold State.endPhase5; (repeat' split) <;> simp +contextual (maxDischargeDepth := 30) [hx0]

@[simp] theorem State.allDirty_kept {x0 : State} (hx0 : x0.Kept q) : (State.allDirty x0).Kept q := by
  unfold State.allDirty; simp +contextual (maxDischargeDepth := 30) [hx0]

@[simp] theorem State.becomeReady_kept {x0 : State} (x1 : List ℕ) (hx0 : x0.Kept q) : (State.becomeReady x0 x1).Kept q := by
  unfold State.becomeReady; simp +contextual (maxDischargeDepth := 30) [hx0]

@[simp] theorem State.markFailed_kept {x0 : State} (x1 : BitVec 32) (hx0 : x0.Kept q) : (State.markFailed x0 x1).Kept q := by
  unfold State.markFailed; (repeat' split) <;> simp +contextual (maxDischargeDepth := 30) [hx0]

@[simp] theorem State.endPhase6_kept {x0 : State} (x1 : List (BitVec 32)) (x2 : List ℕ) (hx0 : x0.Kept q) : (State.endPhase6 x0 x1 x2).Kept q := by
  unfold State.endPhase6; simp +contextual (maxDischargeDepth := 30) [hx0]

@[simp] theorem State.endPhase_kept {x0 : State} (x1 : PhaseReport) (hx0 : x0.Kept q) : (State.endPhase x0 x1).Kept q := by
  unfold State.endPhase; split
  · exact State.endPhase0_kept hx0
  · exact State.endPhase1_kept hx0
  · exact State.trustDisagrees_kept hx0
  · exact State.endPhase2_kept hx0
  · exact State.endPhase3_kept hx0
  · exact State.endPhase4_kept _ _ _ _ hx0
  · exact State.endPhase5_kept _ _ _ hx0
  · exact State.endPhase6_kept _ _ hx0
  · exact hx0

@[simp] theorem execCastonPhaseEnd_kept (x0 : PhaseReport) {x1 : State} (hx1 : x1.Kept q) : keptOutcome q (execCastonPhaseEnd x0 x1) := by
  unfold execCastonPhaseEnd; simp +contextual (maxDischargeDepth := 30) [hx1]

@[simp] theorem vecOp_kept (x0 : Fmt → QEntry → Core → Core) (x1 : ℕ) (x2 : ℕ) (x3 : QEntry) {x4 : State} (hx4 : x4.Kept q) : keptIssue q (vecOp x0 x1 x2 x3 x4) := by
  unfold vecOp; (repeat' split) <;> simp +contextual (maxDischargeDepth := 30) [hx4]

@[simp] theorem vLd_kept (x0 : ℕ) (x1 : ℕ) (x2 : QEntry) {x3 : State} (hx3 : x3.Kept q) : keptIssue q (vLd x0 x1 x2 x3) := by
  unfold vLd; (repeat' split) <;> simp +contextual (maxDischargeDepth := 30) [hx3]

@[simp] theorem vSt_kept (x0 : ℕ) (x1 : ℕ) (x2 : QEntry) {x3 : State} (hx3 : x3.Kept q) : keptIssue q (vSt x0 x1 x2 x3) := by
  unfold vSt; (repeat' split) <;> simp +contextual (maxDischargeDepth := 30) [hx3]

@[simp] theorem vCvt_kept (x0 : ℕ) (x1 : ℕ) (x2 : QEntry) {x3 : State} (hx3 : x3.Kept q) : keptIssue q (vCvt x0 x1 x2 x3) := by
  unfold vCvt; (repeat' split) <;> simp +contextual (maxDischargeDepth := 30) [hx3]

@[simp] theorem execVLd_kept (x0 : Fin 160) {x1 : State} (hx1 : x1.Kept q) : keptOutcome q (execVLd x0 x1) := by
  unfold execVLd; simp +contextual (maxDischargeDepth := 30) [hx1]

@[simp] theorem execVSt_kept (x0 : Fin 160) {x1 : State} (hx1 : x1.Kept q) : keptOutcome q (execVSt x0 x1) := by
  unfold execVSt; simp +contextual (maxDischargeDepth := 30) [hx1]

@[simp] theorem execVFma_kept (x0 : Fin 160) {x1 : State} (hx1 : x1.Kept q) : keptOutcome q (execVFma x0 x1) := by
  unfold execVFma; simp +contextual (maxDischargeDepth := 30) [hx1]

@[simp] theorem execVAdd_kept (x0 : Fin 160) {x1 : State} (hx1 : x1.Kept q) : keptOutcome q (execVAdd x0 x1) := by
  unfold execVAdd; simp +contextual (maxDischargeDepth := 30) [hx1]

@[simp] theorem execVMul_kept (x0 : Fin 160) {x1 : State} (hx1 : x1.Kept q) : keptOutcome q (execVMul x0 x1) := by
  unfold execVMul; simp +contextual (maxDischargeDepth := 30) [hx1]

@[simp] theorem execVMax_kept (x0 : Fin 160) {x1 : State} (hx1 : x1.Kept q) : keptOutcome q (execVMax x0 x1) := by
  unfold execVMax; simp +contextual (maxDischargeDepth := 30) [hx1]

@[simp] theorem execVMin_kept (x0 : Fin 160) {x1 : State} (hx1 : x1.Kept q) : keptOutcome q (execVMin x0 x1) := by
  unfold execVMin; simp +contextual (maxDischargeDepth := 30) [hx1]

@[simp] theorem execVScale_kept (x0 : Fin 160) {x1 : State} (hx1 : x1.Kept q) : keptOutcome q (execVScale x0 x1) := by
  unfold execVScale; simp +contextual (maxDischargeDepth := 30) [hx1]

@[simp] theorem execVRsq_kept (x0 : Fin 160) {x1 : State} (hx1 : x1.Kept q) : keptOutcome q (execVRsq x0 x1) := by
  unfold execVRsq; simp +contextual (maxDischargeDepth := 30) [hx1]

@[simp] theorem execVRsum_kept (x0 : Fin 160) {x1 : State} (hx1 : x1.Kept q) : keptOutcome q (execVRsum x0 x1) := by
  unfold execVRsum; simp +contextual (maxDischargeDepth := 30) [hx1]

@[simp] theorem execVRmax_kept (x0 : Fin 160) {x1 : State} (hx1 : x1.Kept q) : keptOutcome q (execVRmax x0 x1) := by
  unfold execVRmax; simp +contextual (maxDischargeDepth := 30) [hx1]

@[simp] theorem execVCvt_kept (x0 : Fin 160) {x1 : State} (hx1 : x1.Kept q) : keptOutcome q (execVCvt x0 x1) := by
  unfold execVCvt; simp +contextual (maxDischargeDepth := 30) [hx1]

@[simp] theorem State.countCore_kept {x0 : State} (x1 : ℕ) (hx0 : x0.Kept q) : (State.countCore x0 x1).Kept q := by
  unfold State.countCore; (repeat' split) <;> simp +contextual (maxDischargeDepth := 30) [hx0]

@[simp] theorem State.passWork_kept {x0 : State} (x1 : ℕ) (hx0 : x0.Kept q) : (State.passWork x0 x1).Kept q := by
  unfold State.passWork; simp +contextual (maxDischargeDepth := 30) [hx0]

@[simp] theorem State.passCore_kept {x0 : State} (x1 : ℕ) (hx0 : x0.Kept q) : (State.passCore x0 x1).Kept q := by
  unfold State.passCore; simp +contextual (maxDischargeDepth := 30) [hx0]

@[simp] theorem State.countCycle_kept {x0 : State} (hx0 : x0.Kept q) : (State.countCycle x0).Kept q := by
  unfold State.countCycle; simp +contextual (maxDischargeDepth := 30) [hx0]

@[simp] theorem State.countCourse_kept {x0 : State} (hx0 : x0.Kept q) : (State.countCourse x0).Kept q := by
  unfold State.countCourse; simp +contextual (maxDischargeDepth := 30) [hx0]

@[simp] theorem State.advance_kept {s : State} (h : s.Kept q) : s.advance.Kept q := by
  have h := State.takeEntries_kept h
  unfold State.advance
  simp only []
  split
  · exact ⟨h.1, h.2.1, h.2.2.1, Nat.succ_lt_succ ‹_›⟩
  · refine State.eventCourses_kept (State.countCourse_kept ?_)
    exact ⟨h.1, h.2.1, h.2.2.1, (by decide : 0 < 2560)⟩

@[simp] theorem State.passRead_kept {x0 : State} (hx0 : x0.Kept q) : (State.passRead x0).Kept q := by
  unfold State.passRead; (repeat' split) <;> simp +contextual (maxDischargeDepth := 30) [hx0]

@[simp] theorem State.stopSwitching_kept {x0 : State} (hx0 : x0.Kept q) : (State.stopSwitching x0).Kept q := by
  unfold State.stopSwitching; simp +contextual (maxDischargeDepth := 30) [hx0]

@[simp] theorem State.cycle_kept {x0 : State} (hx0 : x0.Kept q) : (State.cycle x0).Kept q := by
  unfold State.cycle; simp +contextual (maxDischargeDepth := 30) [hx0]

@[simp] theorem State.idle_kept {x0 : State} (hx0 : x0.Kept q) : (State.idle x0).Kept q := by
  unfold State.idle; (repeat' split) <;> simp +contextual (maxDischargeDepth := 30) [hx0]

end Sys2Proof.Machine
end

