-- ==== Sys2Proof/Laws/Seen.lean ====
section
/-! SUPPORT. `s.Seen q`: memory, tokens and cores of `s` stand as in `q`; a memory error that is found keeps them so. -/

-- Elaborated one after another: the package as one text holds thousands of lemmas, and each waiting one keeps a thread.
set_option Elab.async false

namespace Sys2Proof.Machine

/-- These fields of `s` stand as in `q`. -/
def State.Seen (s q : State) : Prop := s.mem = q.mem ∧ s.tokens = q.tokens ∧ s.cores = q.cores

variable {q : State}

@[simp] theorem seen_update (t : State) (x0 x1 x2 x4 x5 x6 x7 x8 x9 x12 x13 x14 x15 x16 x17 x18 x19 x20 x21 x22 x23 x24 x25 x26 x27 x28 x29) :
    State.Seen (State.mk x0 x1 x2 t.mem x4 x5 x6 x7 x8 x9 t.tokens t.cores x12 x13 x14 x15 x16 x17 x18 x19 x20 x21 x22 x23 x24 x25 x26 x27 x28 x29) q = State.Seen t q := propext ⟨fun h => h, fun h => h⟩
@[simp] theorem seen_ite {c : Prop} [Decidable c] {s t : State} : (if c then s else t).Seen q = (if c then s.Seen q else t.Seen q) := by
  split <;> rfl
@[simp] theorem seen_ite_fst {β : Type} {c : Prop} [Decidable c] {s t : State × β} : (if c then s else t).1.Seen q = (if c then s.1.Seen q else t.1.Seen q) := by
  split <;> rfl
@[simp] theorem foldl_seen {α : Type} {l : List α} {g : State → α → State} {s : State} (h0 : s.Seen q)
    (h : ∀ t x, t.Seen q → (g t x).Seen q) : (l.foldl g s).Seen q := by
  induction l generalizing s with
  | nil => exact h0
  | cons a l ih => exact ih (h _ _ h0)
@[simp] theorem foldl_seen_fst {α β : Type} {l : List α} {g : State × β → α → State × β} {s : State × β} (h0 : s.1.Seen q)
    (h : ∀ t b x, t.Seen q → (g (t, b) x).1.Seen q) : (l.foldl g s).1.Seen q := by
  induction l generalizing s with
  | nil => exact h0
  | cons a l ih => exact ih (h s.1 s.2 a h0)
@[simp] theorem State.setReg_seen {s : State} (a : Nat) (v : Word) (h : s.Seen q) : (s.setReg a v).Seen q := h
theorem seen_if {c : Prop} [Decidable c] {s t : State} (hs : s.Seen q) (ht : t.Seen q) : (if c then s else t).Seen q := by
  split <;> assumption

@[simp] theorem State.drawn_seen {x0 : State} (hx0 : x0.Seen q) : (State.drawn x0).Seen q := by
  unfold State.drawn; simp +contextual (maxDischargeDepth := 30) [hx0]

@[simp] theorem State.setFld_seen {x0 : State} (x1 : ℕ) (x2 : BitField) (x3 : ℕ) (hx0 : x0.Seen q) : (State.setFld x0 x1 x2 x3).Seen q := by
  unfold State.setFld; simp +contextual (maxDischargeDepth := 30) [hx0]

@[simp] theorem State.count_seen {x0 : State} (x1 : ℕ) (x2 : ℕ) (hx0 : x0.Seen q) : (State.count x0 x1 x2).Seen q := by
  unfold State.count; simp +contextual (maxDischargeDepth := 30) [hx0]

@[simp] theorem State.setPoison_seen {x0 : State} (x1 : ℕ) (x2 : Bool) (hx0 : x0.Seen q) : (State.setPoison x0 x1 x2).Seen q := by
  unfold State.setPoison; simp +contextual (maxDischargeDepth := 30) [hx0]

@[simp] theorem State.addFsr_seen {x0 : State} (x1 : ℕ) (x2 : ℕ) (x3 : BitVec 32) (x4 : BitVec 64) (x5 : BitVec 64) (x6 : BitVec 32) (x7 : SMap ℕ) (x8 : List Byte) (hx0 : x0.Seen q) : (State.addFsr x0 x1 x2 x3 x4 x5 x6 x7 x8).Seen q := by
  unfold State.addFsr; simp +contextual (maxDischargeDepth := 30) [hx0]

@[simp] theorem State.dueReset_seen {x0 : State} (x1 : ℕ) (x2 : ℕ) (x3 : ℕ) (hx0 : x0.Seen q) : (State.dueReset x0 x1 x2 x3).Seen q := by
  unfold State.dueReset; simp +contextual (maxDischargeDepth := 30) [hx0]

@[simp] theorem State.writeLog_seen {x0 : State} (x1 : Report) (hx0 : x0.Seen q) : (State.writeLog x0 x1).1.Seen q := by
  unfold State.writeLog; simp only []; (repeat' split) <;> simp_all +contextual (maxDischargeDepth := 30) [hx0]

@[simp] theorem State.tally_seen {x0 : State} (x1 : ℕ) (hx0 : x0.Seen q) : (State.tally x0 x1).Seen q := by
  unfold State.tally; (repeat' split) <;> simp +contextual (maxDischargeDepth := 30) [hx0]

@[simp] theorem State.strictReset_seen {x0 : State} (hx0 : x0.Seen q) : (State.strictReset x0).Seen q := by
  unfold State.strictReset; simp +contextual (maxDischargeDepth := 30) [hx0]

@[simp] theorem State.report_seen {x0 : State} (x1 : Report) (hx0 : x0.Seen q) : (State.report x0 x1).Seen q := by
  unfold State.report; simp +contextual (maxDischargeDepth := 30) [hx0]

@[simp] theorem State.memCorrected_seen {x0 : State} (x1 : ℕ) (hx0 : x0.Seen q) : (State.memCorrected x0 x1).Seen q := by
  unfold State.memCorrected; simp +contextual (maxDischargeDepth := 30) [hx0]

@[simp] theorem State.poisonAt_seen {x0 : State} (x1 : ℕ) (hx0 : x0.Seen q) : (State.poisonAt x0 x1).Seen q := by
  unfold State.poisonAt; simp +contextual (maxDischargeDepth := 30) [hx0]

@[simp] theorem State.memUncorrected_seen {x0 : State} (x1 : ℕ) (hx0 : x0.Seen q) : (State.memUncorrected x0 x1).Seen q := by
  unfold State.memUncorrected; simp +contextual (maxDischargeDepth := 30) [hx0]

end Sys2Proof.Machine
end

