-- ==== Sys2Proof/Laws/State.lean ====
section
/-! SUPPORT. What each basic update of the state leaves, field by field, and what is read back after it. -/

-- Elaborated one after another: the package as one text holds thousands of lemmas, and each waiting one keeps a thread.
set_option Elab.async false

namespace Sys2Proof.Machine

/-! ### `State.setReg` -/

@[simp] theorem State.setReg_pending (s : State) (a : Nat) (v : Word) : (s.setReg a v).pending = s.pending := rfl
@[simp] theorem State.setReg_free (s : State) (a : Nat) (v : Word) : (s.setReg a v).free = s.free := rfl
@[simp] theorem State.setReg_tb (s : State) (a : Nat) (v : Word) : (s.setReg a v).tb = s.tb := rfl
@[simp] theorem State.setReg_mem (s : State) (a : Nat) (v : Word) : (s.setReg a v).mem = s.mem := rfl
@[simp] theorem State.setReg_seals (s : State) (a : Nat) (v : Word) : (s.setReg a v).seals = s.seals := rfl
@[simp] theorem State.setReg_poison (s : State) (a : Nat) (v : Word) : (s.setReg a v).poison = s.poison := rfl
@[simp] theorem State.setReg_dirty (s : State) (a : Nat) (v : Word) : (s.setReg a v).dirty = s.dirty := rfl
@[simp] theorem State.setReg_residues (s : State) (a : Nat) (v : Word) : (s.setReg a v).residues = s.residues := rfl
@[simp] theorem State.setReg_counted (s : State) (a : Nat) (v : Word) : (s.setReg a v).counted = s.counted := rfl
@[simp] theorem State.setReg_tokens (s : State) (a : Nat) (v : Word) : (s.setReg a v).tokens = s.tokens := rfl
@[simp] theorem State.setReg_cores (s : State) (a : Nat) (v : Word) : (s.setReg a v).cores = s.cores := rfl
@[simp] theorem State.setReg_side (s : State) (a : Nat) (v : Word) : (s.setReg a v).side = s.side := rfl
@[simp] theorem State.setReg_ctxCounts (s : State) (a : Nat) (v : Word) : (s.setReg a v).ctxCounts = s.ctxCounts := rfl
@[simp] theorem State.setReg_sn (s : State) (a : Nat) (v : Word) : (s.setReg a v).sn = s.sn := rfl
@[simp] theorem State.setReg_fab (s : State) (a : Nat) (v : Word) : (s.setReg a v).fab = s.fab := rfl
@[simp] theorem State.setReg_ce (s : State) (a : Nat) (v : Word) : (s.setReg a v).ce = s.ce := rfl
@[simp] theorem State.setReg_sk (s : State) (a : Nat) (v : Word) : (s.setReg a v).sk = s.sk := rfl
@[simp] theorem State.setReg_le (s : State) (a : Nat) (v : Word) : (s.setReg a v).le = s.le := rfl
@[simp] theorem State.setReg_cmd (s : State) (a : Nat) (v : Word) : (s.setReg a v).cmd = s.cmd := rfl
@[simp] theorem State.setReg_hp (s : State) (a : Nat) (v : Word) : (s.setReg a v).hp = s.hp := rfl
@[simp] theorem State.setReg_rt (s : State) (a : Nat) (v : Word) : (s.setReg a v).rt = s.rt := rfl
@[simp] theorem State.setReg_co (s : State) (a : Nat) (v : Word) : (s.setReg a v).co = s.co := rfl
@[simp] theorem State.setReg_pm (s : State) (a : Nat) (v : Word) : (s.setReg a v).pm = s.pm := rfl
@[simp] theorem State.setReg_job (s : State) (a : Nat) (v : Word) : (s.setReg a v).job = s.job := rfl
@[simp] theorem State.setReg_cfg (s : State) (a : Nat) (v : Word) : (s.setReg a v).cfg = s.cfg := rfl
@[simp] theorem State.setReg_rv (s : State) (a : Nat) (v : Word) : (s.setReg a v).rv = s.rv := rfl
@[simp] theorem State.setReg_timers (s : State) (a : Nat) (v : Word) : (s.setReg a v).timers = s.timers := rfl
@[simp] theorem State.setReg_alive (s : State) (a : Nat) (v : Word) : (s.setReg a v).alive = s.alive := rfl
@[simp] theorem State.setReg_tripped (s : State) (a : Nat) (v : Word) : (s.setReg a v).tripped = s.tripped := rfl

/-! ### `State.setFld` -/

@[simp] theorem State.setFld_pending (s : State) (a : Nat) (f : BitField) (v : Nat) : (s.setFld a f v).pending = s.pending := rfl
@[simp] theorem State.setFld_free (s : State) (a : Nat) (f : BitField) (v : Nat) : (s.setFld a f v).free = s.free := rfl
@[simp] theorem State.setFld_tb (s : State) (a : Nat) (f : BitField) (v : Nat) : (s.setFld a f v).tb = s.tb := rfl
@[simp] theorem State.setFld_mem (s : State) (a : Nat) (f : BitField) (v : Nat) : (s.setFld a f v).mem = s.mem := rfl
@[simp] theorem State.setFld_seals (s : State) (a : Nat) (f : BitField) (v : Nat) : (s.setFld a f v).seals = s.seals := rfl
@[simp] theorem State.setFld_poison (s : State) (a : Nat) (f : BitField) (v : Nat) : (s.setFld a f v).poison = s.poison := rfl
@[simp] theorem State.setFld_dirty (s : State) (a : Nat) (f : BitField) (v : Nat) : (s.setFld a f v).dirty = s.dirty := rfl
@[simp] theorem State.setFld_residues (s : State) (a : Nat) (f : BitField) (v : Nat) : (s.setFld a f v).residues = s.residues := rfl
@[simp] theorem State.setFld_counted (s : State) (a : Nat) (f : BitField) (v : Nat) : (s.setFld a f v).counted = s.counted := rfl
@[simp] theorem State.setFld_tokens (s : State) (a : Nat) (f : BitField) (v : Nat) : (s.setFld a f v).tokens = s.tokens := rfl
@[simp] theorem State.setFld_cores (s : State) (a : Nat) (f : BitField) (v : Nat) : (s.setFld a f v).cores = s.cores := rfl
@[simp] theorem State.setFld_side (s : State) (a : Nat) (f : BitField) (v : Nat) : (s.setFld a f v).side = s.side := rfl
@[simp] theorem State.setFld_ctxCounts (s : State) (a : Nat) (f : BitField) (v : Nat) : (s.setFld a f v).ctxCounts = s.ctxCounts := rfl
@[simp] theorem State.setFld_sn (s : State) (a : Nat) (f : BitField) (v : Nat) : (s.setFld a f v).sn = s.sn := rfl
@[simp] theorem State.setFld_fab (s : State) (a : Nat) (f : BitField) (v : Nat) : (s.setFld a f v).fab = s.fab := rfl
@[simp] theorem State.setFld_ce (s : State) (a : Nat) (f : BitField) (v : Nat) : (s.setFld a f v).ce = s.ce := rfl
@[simp] theorem State.setFld_sk (s : State) (a : Nat) (f : BitField) (v : Nat) : (s.setFld a f v).sk = s.sk := rfl
@[simp] theorem State.setFld_le (s : State) (a : Nat) (f : BitField) (v : Nat) : (s.setFld a f v).le = s.le := rfl
@[simp] theorem State.setFld_cmd (s : State) (a : Nat) (f : BitField) (v : Nat) : (s.setFld a f v).cmd = s.cmd := rfl
@[simp] theorem State.setFld_hp (s : State) (a : Nat) (f : BitField) (v : Nat) : (s.setFld a f v).hp = s.hp := rfl
@[simp] theorem State.setFld_rt (s : State) (a : Nat) (f : BitField) (v : Nat) : (s.setFld a f v).rt = s.rt := rfl
@[simp] theorem State.setFld_co (s : State) (a : Nat) (f : BitField) (v : Nat) : (s.setFld a f v).co = s.co := rfl
@[simp] theorem State.setFld_pm (s : State) (a : Nat) (f : BitField) (v : Nat) : (s.setFld a f v).pm = s.pm := rfl
@[simp] theorem State.setFld_job (s : State) (a : Nat) (f : BitField) (v : Nat) : (s.setFld a f v).job = s.job := rfl
@[simp] theorem State.setFld_cfg (s : State) (a : Nat) (f : BitField) (v : Nat) : (s.setFld a f v).cfg = s.cfg := rfl
@[simp] theorem State.setFld_rv (s : State) (a : Nat) (f : BitField) (v : Nat) : (s.setFld a f v).rv = s.rv := rfl
@[simp] theorem State.setFld_timers (s : State) (a : Nat) (f : BitField) (v : Nat) : (s.setFld a f v).timers = s.timers := rfl
@[simp] theorem State.setFld_alive (s : State) (a : Nat) (f : BitField) (v : Nat) : (s.setFld a f v).alive = s.alive := rfl
@[simp] theorem State.setFld_tripped (s : State) (a : Nat) (f : BitField) (v : Nat) : (s.setFld a f v).tripped = s.tripped := rfl

/-! ### `State.count` -/

@[simp] theorem State.count_pending (s : State) (a n : Nat) : (s.count a n).pending = s.pending := rfl
@[simp] theorem State.count_free (s : State) (a n : Nat) : (s.count a n).free = s.free := rfl
@[simp] theorem State.count_tb (s : State) (a n : Nat) : (s.count a n).tb = s.tb := rfl
@[simp] theorem State.count_mem (s : State) (a n : Nat) : (s.count a n).mem = s.mem := rfl
@[simp] theorem State.count_seals (s : State) (a n : Nat) : (s.count a n).seals = s.seals := rfl
@[simp] theorem State.count_poison (s : State) (a n : Nat) : (s.count a n).poison = s.poison := rfl
@[simp] theorem State.count_dirty (s : State) (a n : Nat) : (s.count a n).dirty = s.dirty := rfl
@[simp] theorem State.count_residues (s : State) (a n : Nat) : (s.count a n).residues = s.residues := rfl
@[simp] theorem State.count_tokens (s : State) (a n : Nat) : (s.count a n).tokens = s.tokens := rfl
@[simp] theorem State.count_cores (s : State) (a n : Nat) : (s.count a n).cores = s.cores := rfl
@[simp] theorem State.count_side (s : State) (a n : Nat) : (s.count a n).side = s.side := rfl
@[simp] theorem State.count_ctxCounts (s : State) (a n : Nat) : (s.count a n).ctxCounts = s.ctxCounts := rfl
@[simp] theorem State.count_sn (s : State) (a n : Nat) : (s.count a n).sn = s.sn := rfl
@[simp] theorem State.count_fab (s : State) (a n : Nat) : (s.count a n).fab = s.fab := rfl
@[simp] theorem State.count_ce (s : State) (a n : Nat) : (s.count a n).ce = s.ce := rfl
@[simp] theorem State.count_sk (s : State) (a n : Nat) : (s.count a n).sk = s.sk := rfl
@[simp] theorem State.count_le (s : State) (a n : Nat) : (s.count a n).le = s.le := rfl
@[simp] theorem State.count_cmd (s : State) (a n : Nat) : (s.count a n).cmd = s.cmd := rfl
@[simp] theorem State.count_hp (s : State) (a n : Nat) : (s.count a n).hp = s.hp := rfl
@[simp] theorem State.count_rt (s : State) (a n : Nat) : (s.count a n).rt = s.rt := rfl
@[simp] theorem State.count_co (s : State) (a n : Nat) : (s.count a n).co = s.co := rfl
@[simp] theorem State.count_pm (s : State) (a n : Nat) : (s.count a n).pm = s.pm := rfl
@[simp] theorem State.count_job (s : State) (a n : Nat) : (s.count a n).job = s.job := rfl
@[simp] theorem State.count_cfg (s : State) (a n : Nat) : (s.count a n).cfg = s.cfg := rfl
@[simp] theorem State.count_rv (s : State) (a n : Nat) : (s.count a n).rv = s.rv := rfl
@[simp] theorem State.count_timers (s : State) (a n : Nat) : (s.count a n).timers = s.timers := rfl
@[simp] theorem State.count_alive (s : State) (a n : Nat) : (s.count a n).alive = s.alive := rfl
@[simp] theorem State.count_tripped (s : State) (a n : Nat) : (s.count a n).tripped = s.tripped := rfl

/-! ### `State.setCore` -/

@[simp] theorem State.setCore_pending (s : State) (c : Nat) (k : Core) : (s.setCore c k).pending = s.pending := rfl
@[simp] theorem State.setCore_free (s : State) (c : Nat) (k : Core) : (s.setCore c k).free = s.free := rfl
@[simp] theorem State.setCore_tb (s : State) (c : Nat) (k : Core) : (s.setCore c k).tb = s.tb := rfl
@[simp] theorem State.setCore_mem (s : State) (c : Nat) (k : Core) : (s.setCore c k).mem = s.mem := rfl
@[simp] theorem State.setCore_seals (s : State) (c : Nat) (k : Core) : (s.setCore c k).seals = s.seals := rfl
@[simp] theorem State.setCore_poison (s : State) (c : Nat) (k : Core) : (s.setCore c k).poison = s.poison := rfl
@[simp] theorem State.setCore_dirty (s : State) (c : Nat) (k : Core) : (s.setCore c k).dirty = s.dirty := rfl
@[simp] theorem State.setCore_regs (s : State) (c : Nat) (k : Core) : (s.setCore c k).regs = s.regs := rfl
@[simp] theorem State.setCore_residues (s : State) (c : Nat) (k : Core) : (s.setCore c k).residues = s.residues := rfl
@[simp] theorem State.setCore_counted (s : State) (c : Nat) (k : Core) : (s.setCore c k).counted = s.counted := rfl
@[simp] theorem State.setCore_tokens (s : State) (c : Nat) (k : Core) : (s.setCore c k).tokens = s.tokens := rfl
@[simp] theorem State.setCore_side (s : State) (c : Nat) (k : Core) : (s.setCore c k).side = s.side := rfl
@[simp] theorem State.setCore_ctxCounts (s : State) (c : Nat) (k : Core) : (s.setCore c k).ctxCounts = s.ctxCounts := rfl
@[simp] theorem State.setCore_sn (s : State) (c : Nat) (k : Core) : (s.setCore c k).sn = s.sn := rfl
@[simp] theorem State.setCore_fab (s : State) (c : Nat) (k : Core) : (s.setCore c k).fab = s.fab := rfl
@[simp] theorem State.setCore_ce (s : State) (c : Nat) (k : Core) : (s.setCore c k).ce = s.ce := rfl
@[simp] theorem State.setCore_sk (s : State) (c : Nat) (k : Core) : (s.setCore c k).sk = s.sk := rfl
@[simp] theorem State.setCore_le (s : State) (c : Nat) (k : Core) : (s.setCore c k).le = s.le := rfl
@[simp] theorem State.setCore_cmd (s : State) (c : Nat) (k : Core) : (s.setCore c k).cmd = s.cmd := rfl
@[simp] theorem State.setCore_hp (s : State) (c : Nat) (k : Core) : (s.setCore c k).hp = s.hp := rfl
@[simp] theorem State.setCore_rt (s : State) (c : Nat) (k : Core) : (s.setCore c k).rt = s.rt := rfl
@[simp] theorem State.setCore_co (s : State) (c : Nat) (k : Core) : (s.setCore c k).co = s.co := rfl
@[simp] theorem State.setCore_pm (s : State) (c : Nat) (k : Core) : (s.setCore c k).pm = s.pm := rfl
@[simp] theorem State.setCore_job (s : State) (c : Nat) (k : Core) : (s.setCore c k).job = s.job := rfl
@[simp] theorem State.setCore_cfg (s : State) (c : Nat) (k : Core) : (s.setCore c k).cfg = s.cfg := rfl
@[simp] theorem State.setCore_rv (s : State) (c : Nat) (k : Core) : (s.setCore c k).rv = s.rv := rfl
@[simp] theorem State.setCore_timers (s : State) (c : Nat) (k : Core) : (s.setCore c k).timers = s.timers := rfl
@[simp] theorem State.setCore_alive (s : State) (c : Nat) (k : Core) : (s.setCore c k).alive = s.alive := rfl
@[simp] theorem State.setCore_tripped (s : State) (c : Nat) (k : Core) : (s.setCore c k).tripped = s.tripped := rfl

/-! ### `State.modCore` -/

@[simp] theorem State.modCore_pending (s : State) (c : Nat) (f : Core → Core) : (s.modCore c f).pending = s.pending := rfl
@[simp] theorem State.modCore_free (s : State) (c : Nat) (f : Core → Core) : (s.modCore c f).free = s.free := rfl
@[simp] theorem State.modCore_tb (s : State) (c : Nat) (f : Core → Core) : (s.modCore c f).tb = s.tb := rfl
@[simp] theorem State.modCore_mem (s : State) (c : Nat) (f : Core → Core) : (s.modCore c f).mem = s.mem := rfl
@[simp] theorem State.modCore_seals (s : State) (c : Nat) (f : Core → Core) : (s.modCore c f).seals = s.seals := rfl
@[simp] theorem State.modCore_poison (s : State) (c : Nat) (f : Core → Core) : (s.modCore c f).poison = s.poison := rfl
@[simp] theorem State.modCore_dirty (s : State) (c : Nat) (f : Core → Core) : (s.modCore c f).dirty = s.dirty := rfl
@[simp] theorem State.modCore_regs (s : State) (c : Nat) (f : Core → Core) : (s.modCore c f).regs = s.regs := rfl
@[simp] theorem State.modCore_residues (s : State) (c : Nat) (f : Core → Core) : (s.modCore c f).residues = s.residues := rfl
@[simp] theorem State.modCore_counted (s : State) (c : Nat) (f : Core → Core) : (s.modCore c f).counted = s.counted := rfl
@[simp] theorem State.modCore_tokens (s : State) (c : Nat) (f : Core → Core) : (s.modCore c f).tokens = s.tokens := rfl
@[simp] theorem State.modCore_side (s : State) (c : Nat) (f : Core → Core) : (s.modCore c f).side = s.side := rfl
@[simp] theorem State.modCore_ctxCounts (s : State) (c : Nat) (f : Core → Core) : (s.modCore c f).ctxCounts = s.ctxCounts := rfl
@[simp] theorem State.modCore_sn (s : State) (c : Nat) (f : Core → Core) : (s.modCore c f).sn = s.sn := rfl
@[simp] theorem State.modCore_fab (s : State) (c : Nat) (f : Core → Core) : (s.modCore c f).fab = s.fab := rfl
@[simp] theorem State.modCore_ce (s : State) (c : Nat) (f : Core → Core) : (s.modCore c f).ce = s.ce := rfl
@[simp] theorem State.modCore_sk (s : State) (c : Nat) (f : Core → Core) : (s.modCore c f).sk = s.sk := rfl
@[simp] theorem State.modCore_le (s : State) (c : Nat) (f : Core → Core) : (s.modCore c f).le = s.le := rfl
@[simp] theorem State.modCore_cmd (s : State) (c : Nat) (f : Core → Core) : (s.modCore c f).cmd = s.cmd := rfl
@[simp] theorem State.modCore_hp (s : State) (c : Nat) (f : Core → Core) : (s.modCore c f).hp = s.hp := rfl
@[simp] theorem State.modCore_rt (s : State) (c : Nat) (f : Core → Core) : (s.modCore c f).rt = s.rt := rfl
@[simp] theorem State.modCore_co (s : State) (c : Nat) (f : Core → Core) : (s.modCore c f).co = s.co := rfl
@[simp] theorem State.modCore_pm (s : State) (c : Nat) (f : Core → Core) : (s.modCore c f).pm = s.pm := rfl
@[simp] theorem State.modCore_job (s : State) (c : Nat) (f : Core → Core) : (s.modCore c f).job = s.job := rfl
@[simp] theorem State.modCore_cfg (s : State) (c : Nat) (f : Core → Core) : (s.modCore c f).cfg = s.cfg := rfl
@[simp] theorem State.modCore_rv (s : State) (c : Nat) (f : Core → Core) : (s.modCore c f).rv = s.rv := rfl
@[simp] theorem State.modCore_timers (s : State) (c : Nat) (f : Core → Core) : (s.modCore c f).timers = s.timers := rfl
@[simp] theorem State.modCore_alive (s : State) (c : Nat) (f : Core → Core) : (s.modCore c f).alive = s.alive := rfl
@[simp] theorem State.modCore_tripped (s : State) (c : Nat) (f : Core → Core) : (s.modCore c f).tripped = s.tripped := rfl

/-! ### `State.setToken` -/

@[simp] theorem State.setToken_pending (s : State) (c x tok v : Nat) : (s.setToken c x tok v).pending = s.pending := rfl
@[simp] theorem State.setToken_free (s : State) (c x tok v : Nat) : (s.setToken c x tok v).free = s.free := rfl
@[simp] theorem State.setToken_tb (s : State) (c x tok v : Nat) : (s.setToken c x tok v).tb = s.tb := rfl
@[simp] theorem State.setToken_mem (s : State) (c x tok v : Nat) : (s.setToken c x tok v).mem = s.mem := rfl
@[simp] theorem State.setToken_seals (s : State) (c x tok v : Nat) : (s.setToken c x tok v).seals = s.seals := rfl
@[simp] theorem State.setToken_poison (s : State) (c x tok v : Nat) : (s.setToken c x tok v).poison = s.poison := rfl
@[simp] theorem State.setToken_dirty (s : State) (c x tok v : Nat) : (s.setToken c x tok v).dirty = s.dirty := rfl
@[simp] theorem State.setToken_regs (s : State) (c x tok v : Nat) : (s.setToken c x tok v).regs = s.regs := rfl
@[simp] theorem State.setToken_residues (s : State) (c x tok v : Nat) : (s.setToken c x tok v).residues = s.residues := rfl
@[simp] theorem State.setToken_counted (s : State) (c x tok v : Nat) : (s.setToken c x tok v).counted = s.counted := rfl
@[simp] theorem State.setToken_cores (s : State) (c x tok v : Nat) : (s.setToken c x tok v).cores = s.cores := rfl
@[simp] theorem State.setToken_side (s : State) (c x tok v : Nat) : (s.setToken c x tok v).side = s.side := rfl
@[simp] theorem State.setToken_ctxCounts (s : State) (c x tok v : Nat) : (s.setToken c x tok v).ctxCounts = s.ctxCounts := rfl
@[simp] theorem State.setToken_sn (s : State) (c x tok v : Nat) : (s.setToken c x tok v).sn = s.sn := rfl
@[simp] theorem State.setToken_fab (s : State) (c x tok v : Nat) : (s.setToken c x tok v).fab = s.fab := rfl
@[simp] theorem State.setToken_ce (s : State) (c x tok v : Nat) : (s.setToken c x tok v).ce = s.ce := rfl
@[simp] theorem State.setToken_sk (s : State) (c x tok v : Nat) : (s.setToken c x tok v).sk = s.sk := rfl
@[simp] theorem State.setToken_le (s : State) (c x tok v : Nat) : (s.setToken c x tok v).le = s.le := rfl
@[simp] theorem State.setToken_cmd (s : State) (c x tok v : Nat) : (s.setToken c x tok v).cmd = s.cmd := rfl
@[simp] theorem State.setToken_hp (s : State) (c x tok v : Nat) : (s.setToken c x tok v).hp = s.hp := rfl
@[simp] theorem State.setToken_rt (s : State) (c x tok v : Nat) : (s.setToken c x tok v).rt = s.rt := rfl
@[simp] theorem State.setToken_co (s : State) (c x tok v : Nat) : (s.setToken c x tok v).co = s.co := rfl
@[simp] theorem State.setToken_pm (s : State) (c x tok v : Nat) : (s.setToken c x tok v).pm = s.pm := rfl
@[simp] theorem State.setToken_job (s : State) (c x tok v : Nat) : (s.setToken c x tok v).job = s.job := rfl
@[simp] theorem State.setToken_cfg (s : State) (c x tok v : Nat) : (s.setToken c x tok v).cfg = s.cfg := rfl
@[simp] theorem State.setToken_rv (s : State) (c x tok v : Nat) : (s.setToken c x tok v).rv = s.rv := rfl
@[simp] theorem State.setToken_timers (s : State) (c x tok v : Nat) : (s.setToken c x tok v).timers = s.timers := rfl
@[simp] theorem State.setToken_alive (s : State) (c x tok v : Nat) : (s.setToken c x tok v).alive = s.alive := rfl
@[simp] theorem State.setToken_tripped (s : State) (c x tok v : Nat) : (s.setToken c x tok v).tripped = s.tripped := rfl

/-! ### `State.putBytes` -/

@[simp] theorem State.putBytes_pending (s : State) (a : Nat) (bs : List Byte) : (s.putBytes a bs).pending = s.pending := rfl
@[simp] theorem State.putBytes_free (s : State) (a : Nat) (bs : List Byte) : (s.putBytes a bs).free = s.free := rfl
@[simp] theorem State.putBytes_tb (s : State) (a : Nat) (bs : List Byte) : (s.putBytes a bs).tb = s.tb := rfl
@[simp] theorem State.putBytes_seals (s : State) (a : Nat) (bs : List Byte) : (s.putBytes a bs).seals = s.seals := rfl
@[simp] theorem State.putBytes_poison (s : State) (a : Nat) (bs : List Byte) : (s.putBytes a bs).poison = s.poison := rfl
@[simp] theorem State.putBytes_dirty (s : State) (a : Nat) (bs : List Byte) : (s.putBytes a bs).dirty = s.dirty := rfl
@[simp] theorem State.putBytes_regs (s : State) (a : Nat) (bs : List Byte) : (s.putBytes a bs).regs = s.regs := rfl
@[simp] theorem State.putBytes_residues (s : State) (a : Nat) (bs : List Byte) : (s.putBytes a bs).residues = s.residues := rfl
@[simp] theorem State.putBytes_counted (s : State) (a : Nat) (bs : List Byte) : (s.putBytes a bs).counted = s.counted := rfl
@[simp] theorem State.putBytes_tokens (s : State) (a : Nat) (bs : List Byte) : (s.putBytes a bs).tokens = s.tokens := rfl
@[simp] theorem State.putBytes_cores (s : State) (a : Nat) (bs : List Byte) : (s.putBytes a bs).cores = s.cores := rfl
@[simp] theorem State.putBytes_side (s : State) (a : Nat) (bs : List Byte) : (s.putBytes a bs).side = s.side := rfl
@[simp] theorem State.putBytes_ctxCounts (s : State) (a : Nat) (bs : List Byte) : (s.putBytes a bs).ctxCounts = s.ctxCounts := rfl
@[simp] theorem State.putBytes_sn (s : State) (a : Nat) (bs : List Byte) : (s.putBytes a bs).sn = s.sn := rfl
@[simp] theorem State.putBytes_fab (s : State) (a : Nat) (bs : List Byte) : (s.putBytes a bs).fab = s.fab := rfl
@[simp] theorem State.putBytes_ce (s : State) (a : Nat) (bs : List Byte) : (s.putBytes a bs).ce = s.ce := rfl
@[simp] theorem State.putBytes_sk (s : State) (a : Nat) (bs : List Byte) : (s.putBytes a bs).sk = s.sk := rfl
@[simp] theorem State.putBytes_le (s : State) (a : Nat) (bs : List Byte) : (s.putBytes a bs).le = s.le := rfl
@[simp] theorem State.putBytes_cmd (s : State) (a : Nat) (bs : List Byte) : (s.putBytes a bs).cmd = s.cmd := rfl
@[simp] theorem State.putBytes_hp (s : State) (a : Nat) (bs : List Byte) : (s.putBytes a bs).hp = s.hp := rfl
@[simp] theorem State.putBytes_rt (s : State) (a : Nat) (bs : List Byte) : (s.putBytes a bs).rt = s.rt := rfl
@[simp] theorem State.putBytes_co (s : State) (a : Nat) (bs : List Byte) : (s.putBytes a bs).co = s.co := rfl
@[simp] theorem State.putBytes_pm (s : State) (a : Nat) (bs : List Byte) : (s.putBytes a bs).pm = s.pm := rfl
@[simp] theorem State.putBytes_job (s : State) (a : Nat) (bs : List Byte) : (s.putBytes a bs).job = s.job := rfl
@[simp] theorem State.putBytes_cfg (s : State) (a : Nat) (bs : List Byte) : (s.putBytes a bs).cfg = s.cfg := rfl
@[simp] theorem State.putBytes_rv (s : State) (a : Nat) (bs : List Byte) : (s.putBytes a bs).rv = s.rv := rfl
@[simp] theorem State.putBytes_timers (s : State) (a : Nat) (bs : List Byte) : (s.putBytes a bs).timers = s.timers := rfl
@[simp] theorem State.putBytes_alive (s : State) (a : Nat) (bs : List Byte) : (s.putBytes a bs).alive = s.alive := rfl
@[simp] theorem State.putBytes_tripped (s : State) (a : Nat) (bs : List Byte) : (s.putBytes a bs).tripped = s.tripped := rfl

/-! ### `State.setPoison` -/

@[simp] theorem State.setPoison_pending (s : State) (g : Nat) (b : Bool) : (s.setPoison g b).pending = s.pending := rfl
@[simp] theorem State.setPoison_free (s : State) (g : Nat) (b : Bool) : (s.setPoison g b).free = s.free := rfl
@[simp] theorem State.setPoison_tb (s : State) (g : Nat) (b : Bool) : (s.setPoison g b).tb = s.tb := rfl
@[simp] theorem State.setPoison_mem (s : State) (g : Nat) (b : Bool) : (s.setPoison g b).mem = s.mem := rfl
@[simp] theorem State.setPoison_seals (s : State) (g : Nat) (b : Bool) : (s.setPoison g b).seals = s.seals := rfl
@[simp] theorem State.setPoison_dirty (s : State) (g : Nat) (b : Bool) : (s.setPoison g b).dirty = s.dirty := rfl
@[simp] theorem State.setPoison_regs (s : State) (g : Nat) (b : Bool) : (s.setPoison g b).regs = s.regs := rfl
@[simp] theorem State.setPoison_residues (s : State) (g : Nat) (b : Bool) : (s.setPoison g b).residues = s.residues := rfl
@[simp] theorem State.setPoison_counted (s : State) (g : Nat) (b : Bool) : (s.setPoison g b).counted = s.counted := rfl
@[simp] theorem State.setPoison_tokens (s : State) (g : Nat) (b : Bool) : (s.setPoison g b).tokens = s.tokens := rfl
@[simp] theorem State.setPoison_cores (s : State) (g : Nat) (b : Bool) : (s.setPoison g b).cores = s.cores := rfl
@[simp] theorem State.setPoison_side (s : State) (g : Nat) (b : Bool) : (s.setPoison g b).side = s.side := rfl
@[simp] theorem State.setPoison_ctxCounts (s : State) (g : Nat) (b : Bool) : (s.setPoison g b).ctxCounts = s.ctxCounts := rfl
@[simp] theorem State.setPoison_sn (s : State) (g : Nat) (b : Bool) : (s.setPoison g b).sn = s.sn := rfl
@[simp] theorem State.setPoison_fab (s : State) (g : Nat) (b : Bool) : (s.setPoison g b).fab = s.fab := rfl
@[simp] theorem State.setPoison_ce (s : State) (g : Nat) (b : Bool) : (s.setPoison g b).ce = s.ce := rfl
@[simp] theorem State.setPoison_sk (s : State) (g : Nat) (b : Bool) : (s.setPoison g b).sk = s.sk := rfl
@[simp] theorem State.setPoison_le (s : State) (g : Nat) (b : Bool) : (s.setPoison g b).le = s.le := rfl
@[simp] theorem State.setPoison_cmd (s : State) (g : Nat) (b : Bool) : (s.setPoison g b).cmd = s.cmd := rfl
@[simp] theorem State.setPoison_hp (s : State) (g : Nat) (b : Bool) : (s.setPoison g b).hp = s.hp := rfl
@[simp] theorem State.setPoison_rt (s : State) (g : Nat) (b : Bool) : (s.setPoison g b).rt = s.rt := rfl
@[simp] theorem State.setPoison_co (s : State) (g : Nat) (b : Bool) : (s.setPoison g b).co = s.co := rfl
@[simp] theorem State.setPoison_pm (s : State) (g : Nat) (b : Bool) : (s.setPoison g b).pm = s.pm := rfl
@[simp] theorem State.setPoison_job (s : State) (g : Nat) (b : Bool) : (s.setPoison g b).job = s.job := rfl
@[simp] theorem State.setPoison_cfg (s : State) (g : Nat) (b : Bool) : (s.setPoison g b).cfg = s.cfg := rfl
@[simp] theorem State.setPoison_rv (s : State) (g : Nat) (b : Bool) : (s.setPoison g b).rv = s.rv := rfl
@[simp] theorem State.setPoison_timers (s : State) (g : Nat) (b : Bool) : (s.setPoison g b).timers = s.timers := rfl
@[simp] theorem State.setPoison_alive (s : State) (g : Nat) (b : Bool) : (s.setPoison g b).alive = s.alive := rfl
@[simp] theorem State.setPoison_tripped (s : State) (g : Nat) (b : Bool) : (s.setPoison g b).tripped = s.tripped := rfl

/-! ### `State.drawn` -/

@[simp] theorem State.drawn_pending (s : State) : (s.drawn).pending = s.pending := rfl
@[simp] theorem State.drawn_tb (s : State) : (s.drawn).tb = s.tb := rfl
@[simp] theorem State.drawn_mem (s : State) : (s.drawn).mem = s.mem := rfl
@[simp] theorem State.drawn_seals (s : State) : (s.drawn).seals = s.seals := rfl
@[simp] theorem State.drawn_poison (s : State) : (s.drawn).poison = s.poison := rfl
@[simp] theorem State.drawn_dirty (s : State) : (s.drawn).dirty = s.dirty := rfl
@[simp] theorem State.drawn_regs (s : State) : (s.drawn).regs = s.regs := rfl
@[simp] theorem State.drawn_residues (s : State) : (s.drawn).residues = s.residues := rfl
@[simp] theorem State.drawn_counted (s : State) : (s.drawn).counted = s.counted := rfl
@[simp] theorem State.drawn_tokens (s : State) : (s.drawn).tokens = s.tokens := rfl
@[simp] theorem State.drawn_cores (s : State) : (s.drawn).cores = s.cores := rfl
@[simp] theorem State.drawn_side (s : State) : (s.drawn).side = s.side := rfl
@[simp] theorem State.drawn_ctxCounts (s : State) : (s.drawn).ctxCounts = s.ctxCounts := rfl
@[simp] theorem State.drawn_sn (s : State) : (s.drawn).sn = s.sn := rfl
@[simp] theorem State.drawn_fab (s : State) : (s.drawn).fab = s.fab := rfl
@[simp] theorem State.drawn_ce (s : State) : (s.drawn).ce = s.ce := rfl
@[simp] theorem State.drawn_sk (s : State) : (s.drawn).sk = s.sk := rfl
@[simp] theorem State.drawn_le (s : State) : (s.drawn).le = s.le := rfl
@[simp] theorem State.drawn_cmd (s : State) : (s.drawn).cmd = s.cmd := rfl
@[simp] theorem State.drawn_hp (s : State) : (s.drawn).hp = s.hp := rfl
@[simp] theorem State.drawn_rt (s : State) : (s.drawn).rt = s.rt := rfl
@[simp] theorem State.drawn_co (s : State) : (s.drawn).co = s.co := rfl
@[simp] theorem State.drawn_pm (s : State) : (s.drawn).pm = s.pm := rfl
@[simp] theorem State.drawn_job (s : State) : (s.drawn).job = s.job := rfl
@[simp] theorem State.drawn_cfg (s : State) : (s.drawn).cfg = s.cfg := rfl
@[simp] theorem State.drawn_rv (s : State) : (s.drawn).rv = s.rv := rfl
@[simp] theorem State.drawn_timers (s : State) : (s.drawn).timers = s.timers := rfl
@[simp] theorem State.drawn_alive (s : State) : (s.drawn).alive = s.alive := rfl
@[simp] theorem State.drawn_tripped (s : State) : (s.drawn).tripped = s.tripped := rfl

/-! ### `State.ran` -/

@[simp] theorem State.ran_pending (s : State) (id : Nat) : (s.ran id).pending = s.pending := rfl
@[simp] theorem State.ran_free (s : State) (id : Nat) : (s.ran id).free = s.free := rfl
@[simp] theorem State.ran_tb (s : State) (id : Nat) : (s.ran id).tb = s.tb := rfl
@[simp] theorem State.ran_mem (s : State) (id : Nat) : (s.ran id).mem = s.mem := rfl
@[simp] theorem State.ran_seals (s : State) (id : Nat) : (s.ran id).seals = s.seals := rfl
@[simp] theorem State.ran_poison (s : State) (id : Nat) : (s.ran id).poison = s.poison := rfl
@[simp] theorem State.ran_dirty (s : State) (id : Nat) : (s.ran id).dirty = s.dirty := rfl
@[simp] theorem State.ran_regs (s : State) (id : Nat) : (s.ran id).regs = s.regs := rfl
@[simp] theorem State.ran_residues (s : State) (id : Nat) : (s.ran id).residues = s.residues := rfl
@[simp] theorem State.ran_counted (s : State) (id : Nat) : (s.ran id).counted = s.counted := rfl
@[simp] theorem State.ran_tokens (s : State) (id : Nat) : (s.ran id).tokens = s.tokens := rfl
@[simp] theorem State.ran_cores (s : State) (id : Nat) : (s.ran id).cores = s.cores := rfl
@[simp] theorem State.ran_side (s : State) (id : Nat) : (s.ran id).side = s.side := rfl
@[simp] theorem State.ran_ctxCounts (s : State) (id : Nat) : (s.ran id).ctxCounts = s.ctxCounts := rfl
@[simp] theorem State.ran_sn (s : State) (id : Nat) : (s.ran id).sn = s.sn := rfl
@[simp] theorem State.ran_fab (s : State) (id : Nat) : (s.ran id).fab = s.fab := rfl
@[simp] theorem State.ran_ce (s : State) (id : Nat) : (s.ran id).ce = s.ce := rfl
@[simp] theorem State.ran_sk (s : State) (id : Nat) : (s.ran id).sk = s.sk := rfl
@[simp] theorem State.ran_le (s : State) (id : Nat) : (s.ran id).le = s.le := rfl
@[simp] theorem State.ran_cmd (s : State) (id : Nat) : (s.ran id).cmd = s.cmd := rfl
@[simp] theorem State.ran_hp (s : State) (id : Nat) : (s.ran id).hp = s.hp := rfl
@[simp] theorem State.ran_rt (s : State) (id : Nat) : (s.ran id).rt = s.rt := rfl
@[simp] theorem State.ran_co (s : State) (id : Nat) : (s.ran id).co = s.co := rfl
@[simp] theorem State.ran_pm (s : State) (id : Nat) : (s.ran id).pm = s.pm := rfl
@[simp] theorem State.ran_job (s : State) (id : Nat) : (s.ran id).job = s.job := rfl
@[simp] theorem State.ran_cfg (s : State) (id : Nat) : (s.ran id).cfg = s.cfg := rfl
@[simp] theorem State.ran_rv (s : State) (id : Nat) : (s.ran id).rv = s.rv := rfl
@[simp] theorem State.ran_alive (s : State) (id : Nat) : (s.ran id).alive = s.alive := rfl
@[simp] theorem State.ran_tripped (s : State) (id : Nat) : (s.ran id).tripped = s.tripped := rfl

/-! ### `State.setSide` -/

@[simp] theorem State.setSide_pending (s : State) (c x : Nat) (v : SideState) : (s.setSide c x v).pending = s.pending := rfl
@[simp] theorem State.setSide_free (s : State) (c x : Nat) (v : SideState) : (s.setSide c x v).free = s.free := rfl
@[simp] theorem State.setSide_tb (s : State) (c x : Nat) (v : SideState) : (s.setSide c x v).tb = s.tb := rfl
@[simp] theorem State.setSide_mem (s : State) (c x : Nat) (v : SideState) : (s.setSide c x v).mem = s.mem := rfl
@[simp] theorem State.setSide_seals (s : State) (c x : Nat) (v : SideState) : (s.setSide c x v).seals = s.seals := rfl
@[simp] theorem State.setSide_poison (s : State) (c x : Nat) (v : SideState) : (s.setSide c x v).poison = s.poison := rfl
@[simp] theorem State.setSide_dirty (s : State) (c x : Nat) (v : SideState) : (s.setSide c x v).dirty = s.dirty := rfl
@[simp] theorem State.setSide_regs (s : State) (c x : Nat) (v : SideState) : (s.setSide c x v).regs = s.regs := rfl
@[simp] theorem State.setSide_residues (s : State) (c x : Nat) (v : SideState) : (s.setSide c x v).residues = s.residues := rfl
@[simp] theorem State.setSide_counted (s : State) (c x : Nat) (v : SideState) : (s.setSide c x v).counted = s.counted := rfl
@[simp] theorem State.setSide_tokens (s : State) (c x : Nat) (v : SideState) : (s.setSide c x v).tokens = s.tokens := rfl
@[simp] theorem State.setSide_cores (s : State) (c x : Nat) (v : SideState) : (s.setSide c x v).cores = s.cores := rfl
@[simp] theorem State.setSide_ctxCounts (s : State) (c x : Nat) (v : SideState) : (s.setSide c x v).ctxCounts = s.ctxCounts := rfl
@[simp] theorem State.setSide_sn (s : State) (c x : Nat) (v : SideState) : (s.setSide c x v).sn = s.sn := rfl
@[simp] theorem State.setSide_fab (s : State) (c x : Nat) (v : SideState) : (s.setSide c x v).fab = s.fab := rfl
@[simp] theorem State.setSide_ce (s : State) (c x : Nat) (v : SideState) : (s.setSide c x v).ce = s.ce := rfl
@[simp] theorem State.setSide_sk (s : State) (c x : Nat) (v : SideState) : (s.setSide c x v).sk = s.sk := rfl
@[simp] theorem State.setSide_le (s : State) (c x : Nat) (v : SideState) : (s.setSide c x v).le = s.le := rfl
@[simp] theorem State.setSide_cmd (s : State) (c x : Nat) (v : SideState) : (s.setSide c x v).cmd = s.cmd := rfl
@[simp] theorem State.setSide_hp (s : State) (c x : Nat) (v : SideState) : (s.setSide c x v).hp = s.hp := rfl
@[simp] theorem State.setSide_rt (s : State) (c x : Nat) (v : SideState) : (s.setSide c x v).rt = s.rt := rfl
@[simp] theorem State.setSide_co (s : State) (c x : Nat) (v : SideState) : (s.setSide c x v).co = s.co := rfl
@[simp] theorem State.setSide_pm (s : State) (c x : Nat) (v : SideState) : (s.setSide c x v).pm = s.pm := rfl
@[simp] theorem State.setSide_job (s : State) (c x : Nat) (v : SideState) : (s.setSide c x v).job = s.job := rfl
@[simp] theorem State.setSide_cfg (s : State) (c x : Nat) (v : SideState) : (s.setSide c x v).cfg = s.cfg := rfl
@[simp] theorem State.setSide_rv (s : State) (c x : Nat) (v : SideState) : (s.setSide c x v).rv = s.rv := rfl
@[simp] theorem State.setSide_timers (s : State) (c x : Nat) (v : SideState) : (s.setSide c x v).timers = s.timers := rfl
@[simp] theorem State.setSide_alive (s : State) (c x : Nat) (v : SideState) : (s.setSide c x v).alive = s.alive := rfl
@[simp] theorem State.setSide_tripped (s : State) (c x : Nat) (v : SideState) : (s.setSide c x v).tripped = s.tripped := rfl

/-! ### What is read back -/

theorem State.reg_setReg (s : State) (a b : Nat) (v : Word) : (s.setReg a v).reg b = if b = a then v else s.reg b :=
  SMap.get_set 0 s.regs a b v

@[simp] theorem State.reg_setReg_same (s : State) (a : Nat) (v : Word) : (s.setReg a v).reg a = v := by
  simp [State.reg_setReg]

theorem State.reg_setReg_ne (s : State) {a b : Nat} (v : Word) (h : b ≠ a) : (s.setReg a v).reg b = s.reg b := by
  simp [State.reg_setReg, h]

theorem State.reg_setFld (s : State) (a b : Nat) (f : BitField) (v : Nat) :
    (s.setFld a f v).reg b = if b = a then f.put (s.reg a) v else s.reg b := s.reg_setReg a b _

theorem State.reg_setFld_ne (s : State) {a b : Nat} (f : BitField) (v : Nat) (h : b ≠ a) : (s.setFld a f v).reg b = s.reg b := by
  simp [State.reg_setFld, h]

theorem State.reg_count (s : State) (a b n : Nat) :
    (s.count a n).reg b = if b = a then (countIn (s.reg a) (SMap.get 0 s.counted a) n).1 else s.reg b := s.reg_setReg a b _

/-- One event, in a cycle in which the counter has not advanced: it advances by one (R541). -/
theorem countIn_one (w : Word) : countIn w 0 1 = (counterAdd w 1, 1) := by simp [countIn, holdResidue]

theorem State.reg_count_one (s : State) (a : Nat) (h : SMap.get 0 s.counted a = 0) :
    (s.count a 1).reg a = counterAdd (s.reg a) 1 := by simp [State.reg_count, h, countIn_one]

theorem SMap.get_not_mem {α : Type} (d : α) (l : SMap α) (a : Nat) (h : a ∉ l.map (·.1)) : SMap.get d l a = d := by
  induction l with
  | nil => rfl
  | cons p l ih =>
    simp only [List.map_cons, List.mem_cons, not_or] at h
    show (if a = p.1 then p.2 else SMap.get d l a) = d
    rw [if_neg h.1, ih h.2]

/-- A cycle that passes applies one held event to each counter that holds some (R541). -/
theorem State.drainResidues_spec (s : State) (hl : (s.counted.map (·.1)).Nodup) (a : Nat) :
    s.drainResidues.reg a = (if 1 < SMap.get 0 s.counted a then counterAdd (s.reg a) 1 else s.reg a) ∧
      SMap.get 0 s.drainResidues.counted a = SMap.get 0 s.counted a - 1 := by
  have key : ∀ (l : List (Nat × Nat)) (t : State), (l.map (·.1)).Nodup → ∀ u, u = l.foldl (fun t p =>
      if p.2 ≤ 1 then { t with counted := SMap.set 0 t.counted p.1 0 }
      else { t.setReg p.1 (counterAdd (t.reg p.1) 1) with counted := SMap.set 0 t.counted p.1 (p.2 - 1) }) t →
      u.reg a = (if 1 < SMap.get 0 l a then counterAdd (t.reg a) 1 else t.reg a) ∧
      SMap.get 0 u.counted a = if a ∈ l.map (·.1) then SMap.get 0 l a - 1 else SMap.get 0 t.counted a := by
    intro l
    induction l with
    | nil => rintro t - u rfl; simp [SMap.get]
    | cons p l ih =>
      obtain ⟨k, b⟩ := p
      intro t hl u hu
      simp only [List.map_cons, List.nodup_cons] at hl
      rw [List.foldl_cons] at hu
      obtain ⟨h1, h2⟩ := ih _ hl.2 u hu
      by_cases hk : a = k
      · subst hk
        rw [h1, h2, if_neg hl.1, SMap.get_not_mem 0 l a hl.1]
        have hg : SMap.get 0 ((a, b) :: l) a = b := if_pos rfl
        rw [hg]
        by_cases hb : b ≤ 1
        · simp only [hb, if_true, List.map_cons, List.mem_cons, true_or, SMap.get_set_same]
          exact ⟨by rw [if_neg (by omega), if_neg (by omega)]; rfl, by omega⟩
        · simp only [hb, if_false, List.map_cons, List.mem_cons, true_or, if_true, SMap.get_set_same]
          exact ⟨by rw [if_neg (by omega), if_pos (by omega)]; exact State.reg_setReg_same t a _, trivial⟩
      · have hg : SMap.get 0 ((k, b) :: l) a = SMap.get 0 l a := if_neg hk
        have e : ∀ v, v = (if b ≤ 1 then ({ t with counted := SMap.set 0 t.counted k 0 } : State)
            else { t.setReg k (counterAdd (t.reg k) 1) with counted := SMap.set 0 t.counted k (b - 1) }) →
            v.reg a = t.reg a ∧ SMap.get 0 v.counted a = SMap.get 0 t.counted a := by
          rintro v rfl
          split
          · exact ⟨rfl, SMap.get_set_ne 0 t.counted 0 hk⟩
          · exact ⟨State.reg_setReg_ne t _ hk, SMap.get_set_ne 0 t.counted _ hk⟩
        obtain ⟨e1, e2⟩ := e _ rfl
        rw [hg, h1, h2, e1, e2]
        refine ⟨rfl, ?_⟩
        rw [List.map_cons]
        by_cases hm : a ∈ l.map (·.1)
        · rw [if_pos hm, if_pos (List.mem_cons_of_mem _ hm)]
        · rw [if_neg hm, if_neg (fun h => (List.mem_cons.1 h).elim hk hm)]
  obtain ⟨h1, h2⟩ := key s.counted s hl _ rfl
  refine ⟨h1, ?_⟩
  rw [State.drainResidues, h2]
  split
  · rfl
  · next h => rw [SMap.get_not_mem 0 _ a h]

theorem State.core_setCore (s : State) (c d : Nat) (k : Core) : (s.setCore c k).core d = if d = c then k else s.core d :=
  SMap.get_set Core.reset s.cores c d k

@[simp] theorem State.core_setCore_same (s : State) (c : Nat) (k : Core) : (s.setCore c k).core c = k := by
  simp [State.core_setCore]

theorem State.core_setCore_ne (s : State) {c d : Nat} (k : Core) (h : d ≠ c) : (s.setCore c k).core d = s.core d := by
  simp [State.core_setCore, h]

@[simp] theorem State.core_modCore_same (s : State) (c : Nat) (f : Core → Core) : (s.modCore c f).core c = f (s.core c) := by
  simp [State.modCore]

theorem State.core_modCore_ne (s : State) {c d : Nat} (f : Core → Core) (h : d ≠ c) : (s.modCore c f).core d = s.core d := by
  simp [State.modCore, State.core_setCore, h]

theorem State.token_setToken (s : State) (c x tok v : Nat) : (s.setToken c x tok v).token c x tok = v % 65536 := by
  simp [State.token, State.setToken]

@[simp] theorem State.reg_setCore (s : State) (c : Nat) (k : Core) (a : Nat) : (s.setCore c k).reg a = s.reg a := rfl
@[simp] theorem State.reg_modCore (s : State) (c : Nat) (f : Core → Core) (a : Nat) : (s.modCore c f).reg a = s.reg a := rfl
@[simp] theorem State.reg_setToken (s : State) (c x tok v a : Nat) : (s.setToken c x tok v).reg a = s.reg a := rfl
@[simp] theorem State.reg_putBytes (s : State) (b : Nat) (bs : List Byte) (a : Nat) : (s.putBytes b bs).reg a = s.reg a := rfl
@[simp] theorem State.byte_setReg (s : State) (b : Nat) (v : Word) (a : Nat) : (s.setReg b v).byte a = s.byte a := rfl
@[simp] theorem State.byte_setFld (s : State) (b : Nat) (f : BitField) (v a : Nat) : (s.setFld b f v).byte a = s.byte a := rfl
@[simp] theorem State.byte_count (s : State) (b n a : Nat) : (s.count b n).byte a = s.byte a := rfl
@[simp] theorem State.byte_setCore (s : State) (c : Nat) (k : Core) (a : Nat) : (s.setCore c k).byte a = s.byte a := rfl
@[simp] theorem State.byte_modCore (s : State) (c : Nat) (f : Core → Core) (a : Nat) : (s.modCore c f).byte a = s.byte a := rfl
@[simp] theorem State.byte_setToken (s : State) (c x tok v a : Nat) : (s.setToken c x tok v).byte a = s.byte a := rfl

/-- A byte outside what `putBytes` writes stands. -/
theorem State.byte_putBytes_ne (s : State) (a b : Nat) (bs : List Byte) (h : b < a ∨ a + bs.length ≤ b) :
    (s.putBytes a bs).byte b = s.byte b := SMap.get_setList_ne 0 s.mem a b bs h

/-- A byte that `putBytes` writes reads as written. -/
theorem State.byte_putBytes_at (s : State) (a i : Nat) (bs : List Byte) (h : i < bs.length) :
    (s.putBytes a bs).byte (a + i) = bs.getD i 0 := by
  have e : (s.putBytes a bs).byte (a + i) = bs[i] := SMap.get_setList_at 0 s.mem a i bs h
  simp [e, h]

/-! ### The fields of a register -/

theorem BitField.put_getLsbD (f : BitField) (w : Word) (v i : Nat) (hi : i < 64) :
    (f.put w v).getLsbD i = if f.lo ≤ i ∧ i < f.hi + 1 then v.testBit (i - f.lo) else w.getLsbD i := by
  have hm : f.mask.getLsbD i = decide (f.lo ≤ i ∧ i < f.hi + 1) := by
    simp only [BitField.mask, BitVec.getLsbD_ofNat, Nat.testBit_shiftLeft, Nat.testBit_two_pow_sub_one, hi, decide_true, Bool.true_and]
    by_cases h : f.lo ≤ i <;> simp [h]
    omega
  simp only [BitField.put, BitVec.getLsbD_or, BitVec.getLsbD_and, BitVec.getLsbD_not, hm, hi, decide_true, Bool.true_and,
    BitVec.getLsbD_ofNat, Nat.testBit_shiftLeft]
  by_cases h1 : f.lo ≤ i <;> by_cases h2 : i < f.hi + 1 <;> simp [h1, h2]

/-- A field written reads as written, cut to its width. -/
theorem BitField.get_put (f : BitField) (w : Word) (v : Nat) (hf : f.hi < 64) :
    f.get (f.put w v) = v % 2 ^ (f.hi + 1 - f.lo) := by
  apply Nat.eq_of_testBit_eq
  intro i
  simp only [BitField.get, bitsOf, Nat.testBit_mod_two_pow, Nat.testBit_shiftRight]
  by_cases h : i < f.hi + 1 - f.lo
  · have := BitField.put_getLsbD f w v (f.lo + i) (by omega)
    rw [← BitVec.testBit_toNat] at this
    simp [h, this]
    omega
  · simp [h]

/-- A field that shares no bit with a written one stands. -/
theorem BitField.get_put_ne (f g : BitField) (w : Word) (v : Nat) (hg : g.hi < 64) (h : g.hi < f.lo ∨ f.hi < g.lo) :
    g.get (f.put w v) = g.get w := by
  apply Nat.eq_of_testBit_eq
  intro i
  simp only [BitField.get, bitsOf, Nat.testBit_mod_two_pow, Nat.testBit_shiftRight]
  by_cases hi : i < g.hi + 1 - g.lo
  · have := BitField.put_getLsbD f w v (g.lo + i) (by omega)
    rw [← BitVec.testBit_toNat] at this
    have hn : ¬(f.lo ≤ g.lo + i ∧ g.lo + i < f.hi + 1) := by omega
    rw [if_neg hn, ← BitVec.testBit_toNat] at this
    simp [hi, this]
  · simp [hi]

theorem State.fld_setFld_same (s : State) (a : Nat) (f : BitField) (v : Nat) (hf : f.hi < 64) :
    (s.setFld a f v).fld a f = v % 2 ^ (f.hi + 1 - f.lo) := by
  simp [State.fld, State.setFld, BitField.get_put _ _ _ hf]

theorem State.fld_setFld_ne (s : State) {a b : Nat} (f g : BitField) (v : Nat) (h : b ≠ a) : (s.setFld a f v).fld b g = s.fld b g := by
  simp [State.fld, State.reg_setFld_ne _ _ _ h]

end Sys2Proof.Machine
end

