-- ==== Sys2Proof/Laws/Tension.lean ====
section
/-! SUPPORT. What showing and clearing a load-step forewarning does to the state (R674, R675). -/

-- Elaborated one after another: the package as one text holds thousands of lemmas, and each waiting one keeps a thread.
set_option Elab.async false

namespace Sys2Proof.Machine

@[simp] theorem State.showForewarning_cores (s : State) (p : Nat) (rise : Bool) (d : Nat) (e : Course) :
    (s.showForewarning p rise d e).cores = s.cores := rfl
@[simp] theorem State.showForewarning_mem (s : State) (p : Nat) (rise : Bool) (d : Nat) (e : Course) :
    (s.showForewarning p rise d e).mem = s.mem := rfl
@[simp] theorem State.showForewarning_core (s : State) (p : Nat) (rise : Bool) (d : Nat) (e : Course) (c : Nat) :
    (s.showForewarning p rise d e).core c = s.core c := rfl
@[simp] theorem State.showForewarning_byte (s : State) (p : Nat) (rise : Bool) (d : Nat) (e : Course) (a : Nat) :
    (s.showForewarning p rise d e).byte a = s.byte a := rfl
@[simp] theorem State.showForewarning_clearAt (s : State) (p : Nat) (rise : Bool) (d : Nat) (e : Course) :
    SMap.get none (s.showForewarning p rise d e).pm.clearAt p = some (e + 2) :=
  SMap.get_set_same none s.pm.clearAt p (some (e + 2))
@[simp] theorem State.showForewarning_fullGrant (s : State) (p : Nat) (rise : Bool) (d : Nat) (e : Course) :
    (s.showForewarning p rise d e).pm.fullGrant = s.pm.fullGrant := rfl

theorem State.keepForewarning_pm (s : State) (p : Nat) (e : Course) :
    ∃ pm, s.keepForewarning p e = { s with pm := pm } ∧ pm.fullGrant = s.pm.fullGrant ∧
      (SMap.get none pm.clearAt p = some (e + 2) ∨
        ∃ a, SMap.get none s.pm.clearAt p = some a ∧ SMap.get none pm.clearAt p = some a ∧ reached a (e + 2) = true) := by
  unfold State.keepForewarning
  cases h : SMap.get none s.pm.clearAt p with
  | none =>
    exact ⟨{ s.pm with clearAt := SMap.set none s.pm.clearAt p (some (e + 2)) }, rfl, rfl,
      Or.inl (SMap.get_set_same none s.pm.clearAt p (some (e + 2)))⟩
  | some a =>
    cases hr : reached a (e + 2) with
    | true => exact ⟨s.pm, by simp only [hr]; rfl, rfl, Or.inr ⟨a, rfl, h, hr⟩⟩
    | false =>
      exact ⟨{ s.pm with clearAt := SMap.set none s.pm.clearAt p (some (e + 2)) }, by simp only [hr]; rfl, rfl,
        Or.inl (SMap.get_set_same none s.pm.clearAt p (some (e + 2)))⟩

theorem lstepClass_lt (n : Nat) : lstepClass n < 4 := by
  unfold lstepClass; split <;> (try split) <;> (try split) <;> decide

theorem State.showForewarning_reg (s : State) (p : Nat) (rise : Bool) (d : Nat) (e : Course) {a : Nat}
    (h1 : a ≠ Reg.pmRail (coreRail p)) (h2 : a ≠ Reg.pmForewarnings (coreRail p)) :
    (s.showForewarning p rise d e).reg a = s.reg a := by
  show ((s.setLstep p (8 + bit rise * 4 + lstepClass (s.expectedChange p d))).count (Reg.pmForewarnings (coreRail p)) 1).reg a = _
  rw [State.reg_count, if_neg h2]
  exact State.reg_setFld_ne _ _ _ h1

theorem pmRail_ne_forewarnings (p : Nat) : Reg.pmRail (coreRail p) ≠ Reg.pmForewarnings (coreRail p) := by
  simp only [Reg.pmRail, Reg.pmForewarnings]; omega

theorem State.showForewarning_lstep (s : State) (p : Nat) (rise : Bool) (d : Nat) (e : Course) :
    (s.showForewarning p rise d e).lstep p = 8 + bit rise * 4 + lstepClass (s.expectedChange p d) := by
  have hl := lstepClass_lt (s.expectedChange p d)
  have hb : bit rise ≤ 1 := by cases rise <;> decide
  show ((s.setLstep p (8 + bit rise * 4 + lstepClass (s.expectedChange p d))).count (Reg.pmForewarnings (coreRail p)) 1).fld
    (Reg.pmRail (coreRail p)) Fld.pmRailLstep = _
  simp only [State.fld, State.reg_count, pmRail_ne_forewarnings, if_false]
  have h := State.fld_setFld_same s (Reg.pmRail (coreRail p)) Fld.pmRailLstep (8 + bit rise * 4 + lstepClass (s.expectedChange p d)) (by decide)
  simp only [State.fld] at h
  simp only [State.setLstep, h]
  have e4 : 2 ^ (Fld.pmRailLstep.hi + 1 - Fld.pmRailLstep.lo) = 16 := by decide
  rw [e4]; omega

end Sys2Proof.Machine
end

