-- ==== Sys2Proof/Laws/Vector.lean ====
section
/-! SUPPORT. What the lanes of a vector register hold after elements are written to it. -/

-- Elaborated one after another: the package as one text holds thousands of lemmas, and each waiting one keeps a thread.
set_option Elab.async false

namespace Sys2Proof.Machine

/-- A lane reads as written; every other lane stands. -/
theorem Core.lane_setLane (k : Core) (r l r' l' : Nat) (v : BitVec 32) (hl : l < 512) (hl' : l' < 512) :
    (k.setLane r l v).lane r' l' = if r' = r ∧ l' = l then v else k.lane r' l' := by
  simp only [Core.lane, Core.setLane, SMap.get_set]
  have : (r' * 512 + l' = r * 512 + l) ↔ (r' = r ∧ l' = l) := by omega
  simp only [this]

/-- Writing one element more writes it last. -/
theorem Core.setElems_snoc (k : Core) (r : Nat) (f : Fmt) (xs : List Nat) (x : Nat) :
    k.setElems r f (xs ++ [x]) = (k.setElems r f xs).setElem r f xs.length x := by
  simp [Core.setElems, List.zipIdx_append]

/-- What a lane of 32-bit elements holds after they are written. -/
theorem Core.setElems_f32_lane (k : Core) (r : Nat) (codes : List Nat) (r' l : Nat) (hn : codes.length ≤ 512) (hl : l < 512) :
    (k.setElems r .f32 codes).lane r' l =
      if r' = r ∧ l < codes.length then BitVec.ofNat 32 (codes.getD l 0) else k.lane r' l := by
  induction codes using List.reverseRecOn with
  | nil => simp [Core.setElems]
  | append_singleton xs x ih =>
    simp only [List.length_append, List.length_singleton] at hn
    rw [Core.setElems_snoc]
    simp only [Core.setElem, reduceCtorEq, if_false]
    rw [Core.lane_setLane _ _ _ _ _ _ (by omega) hl, ih (by omega)]
    simp only [List.length_append, List.length_singleton]
    by_cases hr : r' = r
    swap
    · simp [hr]
    subst hr
    by_cases h1 : l = xs.length
    · subst h1; simp [List.getD_eq_getElem?_getD]
    · by_cases h2 : l < xs.length
      · have h3 : l < xs.length + 1 := by omega
        simp [h1, h2, h3, List.getD_eq_getElem?_getD, List.getElem?_append]
      · have h3 : ¬l < xs.length + 1 := by omega
        simp [h1, h2, h3]

/-- Writing elements changes vector registers alone. -/
theorem Core.setElems_only (k : Core) (r : Nat) (f : Fmt) (codes : List Nat) :
    k.setElems r f codes = { k with vregs := (k.setElems r f codes).vregs } := by
  induction codes using List.reverseRecOn with
  | nil => rfl
  | append_singleton xs x ih =>
    rw [Core.setElems_snoc]
    unfold Core.setElem
    split <;> (simp only [Core.setLane]; rw [ih])

/-- The 32-bit elements of a register are its lanes. -/
theorem Core.elems_f32 (k : Core) (r n : Nat) : k.elems r .f32 n = (List.range n).map (fun l => (k.lane r l).toNat) := by
  simp [Core.elems, ← List.map_eq_flatMap]

/-- What a lane holds after 16-bit elements are written, two a lane, the lower half first. -/
theorem Core.setElems_b16_lane (k : Core) (r : Nat) (codes : List Nat) (r' l : Nat) (hn : codes.length ≤ 1024) (hl : l < 512) :
    (k.setElems r .b16 codes).lane r' l =
      if r' = r ∧ 2 * l + 1 < codes.length then BitVec.ofNat 32 (codes.getD (2 * l) 0 % 65536 + codes.getD (2 * l + 1) 0 % 65536 * 65536)
      else if r' = r ∧ 2 * l + 1 = codes.length then BitVec.ofNat 32 ((k.lane r' l).toNat / 65536 * 65536 + codes.getD (2 * l) 0 % 65536)
      else k.lane r' l := by
  induction codes using List.reverseRecOn with
  | nil => simp [Core.setElems]
  | append_singleton xs x ih =>
    simp only [List.length_append, List.length_singleton] at hn
    rw [Core.setElems_snoc]
    simp only [Core.setElem, if_true]
    rw [Core.lane_setLane _ _ _ _ _ _ (by omega) hl, ih (by omega)]
    simp only [List.length_append, List.length_singleton]
    by_cases hr : r' = r
    swap
    · simp [hr]
    subst hr
    simp only [true_and]
    by_cases h1 : l = xs.length / 2
    · subst h1
      simp only [if_true]
      rcases Nat.even_or_odd' xs.length with ⟨m, hm | hm⟩
      · have e1 : xs.length / 2 = m := by omega
        have e2 : xs.length % 2 = 0 := by omega
        have hlt : ((Core.setElems k r' Fmt.b16 xs).lane r' m) = k.lane r' m := by
          rw [e1] at ih; rw [ih (by omega)]; simp [hm]
        simp only [e1, e2, if_true, hlt]
        rw [if_neg (by omega), if_pos (by omega)]
        simp [List.getD_eq_getElem?_getD, ← hm]
      · have e1 : xs.length / 2 = m := by omega
        have e2 : xs.length % 2 = 1 := by omega
        have hlt : ((Core.setElems k r' Fmt.b16 xs).lane r' m) = BitVec.ofNat 32 ((k.lane r' m).toNat / 65536 * 65536 + xs.getD (2 * m) 0 % 65536) := by
          rw [e1] at ih; rw [ih (by omega), if_neg (by omega), if_pos (by omega)]
        simp only [e1, e2, hlt]
        rw [if_neg (by decide), if_pos (by omega)]
        congr 1
        have hk : (k.lane r' m).toNat < 2 ^ 32 := (k.lane r' m).isLt
        simp only [BitVec.toNat_ofNat]
        have g1 : (xs ++ [x]).getD (2 * m) 0 = xs.getD (2 * m) 0 := by
          simp [List.getD_eq_getElem?_getD, List.getElem?_append, hm]
        have g2 : (xs ++ [x]).getD (2 * m + 1) 0 = x := by
          simp [List.getD_eq_getElem?_getD, List.getElem?_append, hm]
        rw [g1, g2]
        omega
    · simp only [h1, if_false]
      by_cases h2 : 2 * l + 1 < xs.length
      · rw [if_pos h2, if_pos (by omega)]
        have g1 : (xs ++ [x]).getD (2 * l) 0 = xs.getD (2 * l) 0 := by
          simp [List.getD_eq_getElem?_getD, List.getElem?_append, show 2 * l < xs.length by omega]
        have g2 : (xs ++ [x]).getD (2 * l + 1) 0 = xs.getD (2 * l + 1) 0 := by
          simp [List.getD_eq_getElem?_getD, List.getElem?_append, h2]
        rw [g1, g2]
      · rw [if_neg h2, if_neg (by omega), if_neg (by omega), if_neg (by omega)]

end Sys2Proof.Machine
end

