-- ==== Sys2Proof/WellFormed.lean ====
section
/-! DEFINITION. Well-formed commands: operands that the device's environment can give. A meaning is total on every
command; what it does with an ill-formed one is not the device's (assumption 204). -/

namespace Sys2Proof

/-- Numbers of reset domains (R15): the partitions, the fabric domain, the chip, the contexts, the cores and the three
fixed engines. -/
def isDomain (d : Nat) : Bool :=
  decide (d < 6) || (decide (16 ≤ d) && decide (d < 32)) || (decide (256 ≤ d) && decide (d < 256 + 163))

/-- A block carries 40 flits (R273). -/
def Block.wellFormed (b : Block) : Bool := decide (b.flits.length = 40)

/-- What stands in the areas of a flash device fits them (R644). -/
def Flash.wellFormed (f : Flash) : Bool :=
  decide (f.slot0.length ≤ 0x1000) && decide (f.slot1.length ≤ 0x1000) && decide (f.base.length ≤ 0x600_0000) &&
    decide (f.site.length ≤ 0x10_0000)

/-- A training report names the twelve channels, and the swatches' report the four rails (R640). -/
def PhaseReport.wellFormed : PhaseReport → Bool
  | .quiet => true
  | .disagreement => true
  | .training channels _ _ _ => decide (channels.length = 12)
  | .memory corrected _ _ => corrected.all (fun g => decide (g < 0x400_0000_0000))
  | .swatches _ currents => decide (currents.length = 4)

/-- The keys of a secure channel: a SAK of 32 bytes and a salt of 12 (R621). -/
def SecureKeys.wellFormed (k : SecureKeys) : Bool := decide (k.sak.length = 32) && decide (k.salt.length = 12)

/-- The keys under which a protected frame validates are keys of a secure channel. -/
def Frame.wellFormed (f : Frame) : Bool :=
  match f.prot with
  | .plain => true
  | .macsec keys _ _ => keys.all SecureKeys.wellFormed

/-- The operands of a command are ones that can occur. -/
def Instr.wellFormed : Instr → Bool
  | .dispatch _ => true
  | .cSeti _ => true
  | .cAddi _ => true
  | .cLoop _ => true
  | .cJump _ => true
  | .maLoadw _ => true
  | .maMul _ => true
  | .maDrain _ => true
  | .vLd _ => true
  | .vSt _ => true
  | .vFma _ => true
  | .vAdd _ => true
  | .vMul _ => true
  | .vMax _ => true
  | .vMin _ => true
  | .vScale _ => true
  | .vRsq _ => true
  | .vRsum _ => true
  | .vRmax _ => true
  | .vCvt _ => true
  | .gQuant _ => true
  | .gPrepass _ => true
  | .mCopy _ => true
  | .moveTransfer _ _ => true
  | .cNop _ => true
  | .cRaise _ => true
  | .cRraise _ => true
  | .cYield _ => true
  | .cHalt _ => true
  | .instructionComplete _ _ _ => true
  | .cablePathWork _ => true
  | .lowRankWork _ => true
  | .checkClose _ _ => true
  | .ctxLoad => true
  | .contextSelect _ => true
  | .quantumExpiry _ => true
  | .contextSaveRestore _ => true
  | .ctxFree => true
  | .ctxSwitch => true
  | .gapForewarning _ => true
  | .tensionFall _ => true
  | .tensionStepDown _ => true
  | .streamRampStep _ => true
  | .eventForewarning _ => true
  | .lstepClear _ => true
  | .serveBlockClose _ => true
  | .serveBlockStart _ => true
  | .serveBlockDone _ => true
  | .scrub granule _ => decide (granule < 0x400_0000_0000)
  | .blockSend _ => true
  | .blockReceive _ block _ => block.wellFormed
  | .replayTimeout _ => true
  | .peerSilent _ => true
  | .portTrainingStep _ _ delay _ => decide (delay < 1024)
  | .linkKeyChange _ _ => true
  | .packetRoute _ _ => true
  | .write => true
  | .readReq => true
  | .readResp => true
  | .raise_ => true
  | .e2eAck => true
  | .e2eRetransmit => true
  | .flowIdleFree _ _ => true
  | .fault => true
  | .hello => true
  | .finish _ => true
  | .finishTimeout _ => true
  | .coll => true
  | .grant => true
  | .return_ => true
  | .reduceScatter _ => true
  | .allReduce _ => true
  | .allGather _ => true
  | .ringPass _ => true
  | .descriptorComplete _ => true
  | .collectiveTimeout _ => true
  | .reclaimHoldEnd _ => true
  | .stepEndContribute => true
  | .stepEndSum parts => parts.all (fun axis => axis.all (fun v => decide (v.length ≤ 4096)))
  | .beaconSend => true
  | .beacon _ => true
  | .parentTimeout => true
  | .masterElection => true
  | .freeRunTimeout => true
  | .eventFire _ _ => true
  | .resetRelease r => isDomain r.domain && r.lost.all (fun g => decide (g < 0x400_0000_0000))
  | .overlaySwitch => true
  | .lifelineCut => true
  | .snapshot => true
  | .swatchWindow _ => true
  | .swatchWindowEnd _ results => decide (results.length ≤ 4096)
  | .contextSwitch _ => true
  | .stepStart _ => true
  | .journalRecord => true
  | .journalDurable => true
  | .partnerCopy => true
  | .copyRefused => true
  | .cutDeltaWrite => true
  | .cutWritten => true
  | .skeinReport => true
  | .manifest => true
  | .manifestQuery => true
  | .tear => true
  | .manifestTimeout => true
  | .reportTimeout => true
  | .foldComplete => true
  | .parityChain _ p q _ => decide (p.bytes.length = q.bytes.length) && decide (p.bytes.length ≤ 0x1_0000)
  | .domainTags => true
  | .tagExchangeTimeout => true
  | .restoreComplete _ => true
  | .fillComplete _ _ => true
  | .unitDue _ => true
  | .ladderWindow => true
  | .fsrSummary => true
  | .waitForSample _ => true
  | .heartbeat => true
  | .abort_ => true
  | .mapRequest => true
  | .mapReply => true
  | .epochAdvanceReceive => true
  | .epochApply => true
  | .epochDigestTimeout => true
  | .originForget => true
  | .resetL0 => true
  | .resetL1 => true
  | .resetL2 => true
  | .resetL3 => true
  | .resetL4 => true
  | .resetLimitExpiry domain => isDomain domain
  | .watchEnd domain => isDomain domain
  | .dumpUnitTimeout _ => true
  | .isolationLimit => true
  | .fcpDatagram frame bytes => frame.wellFormed && decide (bytes.length ≤ frame.len)
  | .pfcFrame _ quanta => decide (quanta.length = 8)
  | .xoffRepeat _ _ => true
  | .announce => true
  | .neighborDiscovery frame _ => frame.wellFormed
  | .arp frame => frame.wellFormed
  | .echoRequest frame => frame.wellFormed
  | .rdmaWrite frame _ _ data => frame.wellFormed && decide (data.length ≤ 4096)
  | .rdmaRead frame _ => frame.wellFormed
  | .cnp frame _ => frame.wellFormed
  | .cnpRateRaise => true
  | .hostLinkUp => true
  | .dadRetry => true
  | .macsecPreviousAnEnd => true
  | .sessionLapse => true
  | .sessionOpenLapse => true
  | .statusRead => true
  | .identityGet => true
  | .attest => true
  | .sessionOpen => true
  | .sessionConfirm _ => true
  | .sessionRekey => true
  | .sessionClose => true
  | .approvalSubmit _ => true
  | .approvalWindowEnd => true
  | .grantLapse => true
  | .jobKeyProvision _ => true
  | .csRead => true
  | .csWrite => true
  | .genericRegisterWrite => true
  | .protectedWrite => true
  | .prAliasWrite => true
  | .dtRegionWrite => true
  | .skConfigWrite => true
  | .lifelineEnable => true
  | .leDomainWrite => true
  | .hpWindowWrite => true
  | .hpIpv6Write => true
  | .scrubHoursWrite => true
  | .eventEntryArm => true
  | .contextTableWrite => true
  | .tjThrottleWrite => true
  | .suspectRemove => true
  | .jobLoad => true
  | .jobUnload => true
  | .overlayStage => true
  | .stepArm => true
  | .stepReplay => true
  | .diagnosisReplay => true
  | .eventSchedule => true
  | .eventCancel => true
  | .lifelineArm => true
  | .lifelineRestore => true
  | .spareFill => true
  | .manifestRead => true
  | .epochAdvance => true
  | .faultDeclare => true
  | .isolationReport => true
  | .dumpRead => true
  | .dumpRelease => true
  | .logRead => true
  | .fsrRead => true
  | .fsrFree => true
  | .qpCreate => true
  | .qpDestroy => true
  | .serveOpen => true
  | .serveSubmit => true
  | .serveClose => true
  | .resultRead => true
  | .resultRelease => true
  | .resultLeaseEnd _ => true
  | .bindOff => true
  | .perstNRise _ _ flash0 flash1 => flash0.all Flash.wellFormed && flash1.all Flash.wellFormed
  | .perstNAssert => true
  | .pwrOkDeassert => true
  | .castonPhaseEnd report => report.wellFormed
  | .castonPhaseTimeout _ => true
  | .avsSample _ rails => decide (rails.length = 4)
  | .envelopeStep => true
  | .thermalStep => true
  | .setpointStep _ => true
  | .vrFault _ => true
  | .junctionRead junctions stackTemps => decide (junctions.length = 6) && decide (stackTemps.length = 16)
  | .pfcPauseExpiry => true
  | .dadPass _ => true
  | .faultNPulse => true
  | .snapshotComplete => true
  | .bindOffComplete => true
  | .overlayStageComplete _ => true
  | .manifestWaitExpiry => true

end Sys2Proof
end

