-- ==== Sys2Proof/Tests/Slice0.lean ====
section
/-! SUPPORT. Witnesses that the hypotheses of each statement can be met, tests of the checks of well-formedness, and small
tests whose expected values are the specification's worked examples or computed from its rules by hand. -/

-- Elaborated one after another: the package as one text holds thousands of lemmas, and each waiting one keeps a thread.
set_option Elab.async false

namespace Sys2Proof.Tests

open Sys2Proof Sys2Proof.Machine

/-- A device after the rise of `PERST_N`, no register of it set. -/
def dev : State := { State.reset with alive := true, regs := [] }

/-- The device with fields of registers written. -/
def regsSet (s : State) (l : List (Nat × BitField × Nat)) : State := l.foldl (fun t x => t.setFld x.1 x.2.1 x.2.2) s

/-- A running context 0 on core 0 that holds `k`. -/
def onCore (k : Core) : State :=
  { regsSet dev [(Reg.ctxControl 0, Fld.ctxControlState, 1), (Reg.pmStatus, Fld.pmStatusDuty, 16),
      (Reg.ctxAllotment 0, Fld.ctxAllotmentSize, 192)] with
    cores := [(0, { k with resident := some 0, grantDuty := 16 })] }

/-- The device of a torus of one chip. -/
def oneChip (s : State) : State :=
  regsSet s [(Reg.prTorus, Fld.prTorusValid, 1)]

/-- The device at a course. -/
def late (s : State) (c : Course) : State := { s with tb := { s.tb with course := c } }

/-- Of StepOnEmptyQueueIdles. -/
theorem witness_step_on_empty_queue : State.reset.pending = [] ∧ State.reset.poweredUp = false := by decide

/-- Of EveryStepKeepsASoundState. -/
theorem witness_every_step : State.reset.Sound ∧ ∃ t, step State.reset = .next t := ⟨⟨by decide, by decide, by decide⟩, _, rfl⟩

/-- Of CommandsLeaveTheWaitingOnes and of OutsideCommandsLeaveMemoryAndCores. -/
theorem witness_commands_leave : State.reset.Sound ∧ outsideCores .heartbeat = true ∧ ∃ t, exec .heartbeat State.reset = .next t :=
  ⟨⟨by decide, by decide, by decide⟩, rfl, _, rfl⟩

/-- Of MemoryReadsAsWritten: the first granule of HBM, covered whole, and a byte of the next. -/
theorem witness_memory : inTier 0 = false ∧ (0 ∈ granulesOf 0 64 ∧ coversGranule 0 64 0 = true) ∧
    (1 ∈ granulesOf 64 1 ∧ coversGranule 64 1 1 = false) ∧ 1 ∉ granulesOf 0 64 ∧ (64 : Nat) < 0 ∨ 0 + 64 ≤ 64 := by decide

/-- A word of an operation, with its wait and raise fields 0. -/
def wordOf (op : Nat × Nat) (rest : Nat) : BitVec 128 := BitVec.ofNat 128 (op.1 * 2 ^ 124 + op.2 * 2 ^ 118 + rest)

/-- A device whose core 0 is at the first of these words of context 0's pattern. -/
def atWord (w : BitVec 128) : State := { onCore Core.reset with mem := SMap.setList 0 [] 0 (leBytes 16 w.toNat) }

/-- Of FrontEndInstructionsAtDispatch: `C.SETI`, `C.ADDI`, `C.LOOP` and `C.JUMP`. -/
theorem witness_front_end : ∀ op ∈ [opSeti, opAddi, opLoop, opJump],
    (atWord (wordOf op 0)).dispatching 0 = some 0 ∧ (atWord (wordOf op 0)).patternWord 0 ((atWord (wordOf op 0)).core 0).pc = wordOf op 0 ∧
    (atWord (wordOf op 0)).fetchPoisoned 0 0 = false ∧ legalWord (wordOf op 0) = true ∧ opOf (wordOf op 0) = op := by decide +kernel

/-- Of DispatchQueuesTheNextInstruction: `C.NOP`. -/
theorem witness_dispatch : (atWord (wordOf opNop 0)).dispatching 0 = some 0 ∧ legalWord (wordOf opNop 0) = true ∧
    (atWord (wordOf opNop 0)).patternWord 0 0 = wordOf opNop 0 ∧ (atWord (wordOf opNop 0)).fetchPoisoned 0 0 = false ∧
    frontEnd (wordOf opNop 0) = false ∧ (((atWord (wordOf opNop 0)).core 0).queue (queueOf (wordOf opNop 0))).length < 16 := by decide +kernel

/-- A word at the head of its queue on core 0. -/
def headed (q : Queue) (w : BitVec 128) : State :=
  onCore (match q with
    | .matrix => { Core.reset with qMatrix := [⟨0, 0, w⟩] }
    | .gauge => { Core.reset with qGauge := [⟨0, 0, w⟩] }
    | .vector => { Core.reset with qVector := [⟨0, 0, w⟩] }
    | .move => { Core.reset with qMove := [⟨0, 0, w⟩] }
    | .control => { Core.reset with qControl := [⟨0, 0, w⟩] })

/-- The head is issuable. -/
def issues (q : Queue) (w : BitVec 128) : Bool := decide ((headed q w).issuable 0 q (opOf w) = some (0, ⟨0, 0, w⟩))

/-- Of IssueTakesTheHeadAndItsWait, and of QueuedControlInstructionsComplete where a `C.YIELD` has no other context. -/
theorem witness_control : (∀ op ∈ [opNop, opHalt, opRaise, opRraise, opYield], issues .control (wordOf op 0) = true) ∧
    (((headed .control (wordOf opYield 0)).issuing 0 0 .control ⟨0, 0, wordOf opYield 0⟩).noteYield 0 0).nextContext 0 = none ∧
    ((headed .control (wordOf opRraise 0)).issuing 0 0 .control ⟨0, 0, wordOf opRraise 0⟩).isDiag 0 = false := by decide +kernel

/-- A device of a torus of one chip, whose core 0 runs context 0 with context 1 ready. -/
def twoContexts (k : Core) : State :=
  regsSet (onCore k) [(Reg.ctxControl 1, Fld.ctxControlState, 1), (Reg.ctxCoreMask 0, Fld.ctxCoreMaskMask, 1),
    (Reg.ctxCoreMask 1, Fld.ctxCoreMaskMask, 1)]

/-- Of QueuedControlInstructionsComplete: a remote raise within the torus, and a `C.YIELD` with another context. -/
theorem witness_rraise_yield :
    (oneChip (headed .control (wordOf opRraise 0))).issuable 0 .control opRraise = some (0, ⟨0, 0, wordOf opRraise 0⟩) ∧
    ((oneChip (headed .control (wordOf opRraise 0))).issuing 0 0 .control ⟨0, 0, wordOf opRraise 0⟩).inExtents 0 = true ∧
    (twoContexts { Core.reset with qControl := [⟨0, 0, wordOf opYield 0⟩] }).issuable 0 .control opYield = some (0, ⟨0, 0, wordOf opYield 0⟩) ∧
    ((((twoContexts { Core.reset with qControl := [⟨0, 0, wordOf opYield 0⟩] }).issuing 0 0 .control ⟨0, 0, wordOf opYield 0⟩).noteYield 0 0).nextContext
      0).isSome = true := by decide +kernel

/-- Of VectorLanesInF32, VectorLanesInB16, VectorReductions and VectorMemoryAndConversion. -/
theorem witness_vector :
    (∀ r ∈ vectorRows 0 24 0, issues .vector (wordOf r.2.1 (5 * 2 ^ 72)) = true ∧ vecFmt (vfmt (wordOf r.2.1 (5 * 2 ^ 72))) = some .f32) ∧
    (∀ r ∈ vectorRows 0 8 0, issues .vector (wordOf r.2.1 (4 * 2 ^ 72)) = true ∧ vecFmt (vfmt (wordOf r.2.1 (4 * 2 ^ 72))) = some .b16) ∧
    (∀ op ∈ [0, 1, 9, 10, 11], issues .vector (wordOf (2, op) (5 * 2 ^ 72 + 5 * 2 ^ 64)) = true ∧
      vecFmt (vfmt (wordOf (2, op) (5 * 2 ^ 72 + 5 * 2 ^ 64))) = some .f32 ∧ vecFmt (vtarget (wordOf (2, op) (5 * 2 ^ 72 + 5 * 2 ^ 64))) = some .f32) ∧
    issues .vector (wordOf (2, 11) (4 * 2 ^ 72 + 5 * 2 ^ 64)) = true ∧
    (let i := (headed .vector (wordOf (2, 0) (5 * 2 ^ 72))).issuing 0 0 .vector ⟨0, 0, wordOf (2, 0) (5 * 2 ^ 72)⟩;
      i.inAllotment 0 0 4 = true ∧ i.firstPoison [(coreBase 0, 4)] = none) := by decide +kernel

/-- A core whose array 0 holds a loaded tile of format T4. -/
def loaded (w : BitVec 128) : Core := { Core.reset with
  qMatrix := [⟨0, 0, w⟩], arrays := [{ MArray.reset with slot0 := { Slot.empty with loaded := true } }, .reset, .reset, .reset] }

/-- Of MatrixInstructionsAtIssue: the three that select no array, a load at the foot of the store, a product whose scales stand
right below its tile, a drain in F32. -/
theorem witness_matrix :
    (∀ op ∈ [opLoadw, opMul, opDrain], issues .matrix (wordOf op 0) = true ∧ arrayMask (wordOf op 0) = 0) ∧
    (let w := wordOf opLoadw (2 ^ 92); issues .matrix w = true ∧ arrayMask w ≠ 0 ∧ matrixFmt w ≠ 5 ∧ ncolsM1 w < tileWidth .t4 ∧
      (headed .matrix w).outside 0 [(0, 0x4000), (0, 0x200)] = false) ∧
    (let w := wordOf opMul (2 ^ 92 + 0x200 * 2 ^ 40); let s := onCore (loaded w); let e : QEntry := ⟨0, 0, w⟩;
      let i := s.issuing 0 0 .matrix e; let j := i.mulJob 0 0 w;
      s.issuable 0 .matrix opMul = some (0, e) ∧ (∀ p ∈ i.mulCases 0 0 w j, p.1 = false) ∧ 0x200 ≤ streamAt w j ∧
        i.outside 0 (i.mulReads 0 e j) = false ∧ i.firstPoison ((i.mulReads 0 e j).map (fun p => (storeAt 0 p.1, p.2))) = none) ∧
    (let w := wordOf opDrain (2 ^ 92 + 5 * 2 ^ 88); issues .matrix w = true ∧ (Fmt.ofCode (matrixFmt w)).getD .f32 = .f32 ∧
      (headed .matrix w).outside 0 [(matrixAddr w, rowsOf w * (selected w).length * (ncolsM1 w + 1) * 4)] = false) := by decide +kernel

/-- Of GaugeInstructionsAtIssue: a quantisation without a record, scales right below its tiles, and a prepass of record 1. -/
theorem witness_gauge :
    (let w := wordOf opQuant (0x200 * 2 ^ 16); let s := headed .gauge w; let i := s.issuing 0 0 .gauge ⟨0, 0, w⟩; let j := i.gaugeJob 0 w false;
      issues .gauge w = true ∧ (∀ p ∈ i.gaugeCases 0 w j, p.1 = false) ∧ j.scalesAbove = true ∧
        i.outside 0 ((j.src, j.rows * j.width * j.elem) :: (j.outExtents ++ j.scaleExtents ++ j.cableExtents)) = false ∧
        i.firstPoison ((storeAt 0 j.src, j.rows * j.width * j.elem) :: j.listExtents) = none) ∧
    (let w := wordOf opPrepass 1; let s := regsSet (headed .gauge w) [(Reg.guRecords 0, Fld.guRecordsCount, 1)];
      let i := s.issuing 0 0 .gauge ⟨0, 0, w⟩; let j := i.gaugeJob 0 w true;
      s.issuable 0 .gauge opPrepass = some (0, ⟨0, 0, w⟩) ∧ (∀ p ∈ i.gaugeCases 0 w j, p.1 = false) ∧
        i.outside 0 [(j.src, j.rows * j.width * j.elem)] = false ∧
        i.firstPoison ((storeAt 0 j.src, j.rows * j.width * j.elem) :: j.listExtents) = none) := by decide +kernel

/-- Of MovesAndTheirTransfer: a copy of a granule, the transfer of a move in each direction, on the device and to another, and one to or
from a partition in reset, whose requests have credits. -/
theorem witness_moves :
    (let w := wordOf opCopy 0; let s := oneChip (headed .move w); let i := s.issuing 0 0 .move ⟨0, 0, w⟩;
      s.issuable 0 .move opCopy = some (0, ⟨0, 0, w⟩) ∧ i.moveAdmitted 0 0 w = true ∧ i.isDiag 0 = false) ∧
    (∀ dir remote : Bool, let m : MoveOp := ⟨0, dir, coreBase 0, 0, 0, remote, 64, 0, 0, 0⟩; let s := onCore { Core.reset with moves0 := [m] };
      nextMove ((s.core 0).channel 0) = some 0 ∧ ((s.core 0).channel 0)[0]? = some m ∧ s.running = true ∧ s.coreClear 0 = true ∧
        NatSet.has s.pm.fenced (corePartition 0) = false ∧ s.memWaits m.devAddr m.len = false) ∧
    (∀ dir : Bool, let m : MoveOp := ⟨0, dir, coreBase 0, 2 ^ 38, 0, false, 64, 0, 0, 0⟩;
      let s := { onCore { Core.reset with moves0 := [m] } with rv := { dev.rv with domains := [(1, .inReset 2 0 0 0)] } };
      nextMove ((s.core 0).channel 0) = some 0 ∧ ((s.core 0).channel 0)[0]? = some m ∧ s.running = true ∧ s.coreClear 0 = true ∧
        NatSet.has s.pm.fenced (corePartition 0) = false ∧ s.memWaits m.devAddr m.len = true ∧ s.memWaits (m.devAddr + m.sent) 64 = true ∧
        ((List.range 4).flatMap (s.core 0).channel).find? (fun d => decide (d.seq = m.seq)) = some m ∧ memPool (m.devAddr + m.sent) = some 256 ∧
        (s.core 0).bytesOut m.seq dir < 2048 ∧ s.hasCredit 256 dir (corePartition 0) = true) := by decide +kernel

/-- A device whose core 0 has this issued. -/
def working (q : Queue) (w : BitVec 128) : State := onCore { Core.reset with issued := [⟨q, ⟨0, 0, w⟩⟩] }

/-- An instruction of core 0 that may complete and whose completion counts at most one token. -/
def completable (w : BitVec 128) : Bool :=
  decide (((working .control w).core 0).issued[0]? = some ⟨.control, ⟨0, 0, w⟩⟩) && (working .control w).running &&
    (working .control w).coreClear 0 && ((working .control w).core 0).mayComplete ⟨.control, ⟨0, 0, w⟩⟩ &&
    decide (((working .control w).core 0).resident = some 0) && decide (((working .control w).core 0).haltAt = none) &&
    decide (raiseAt w = 2 → (working .control w).token 0 0 (raiseTok w) < 65535)

/-- Of CompletionOfAnInstruction: a `C.NOP` that raises nothing and one that raises at its completion, and a `C.HALT` whose
context halts at once, and one that waits for an earlier instruction. -/
theorem witness_completion :
    (completable (wordOf opNop 0) = true ∧ completable (wordOf opNop (2 * 2 ^ 98)) = true ∧ opNop ≠ opMul ∧ opNop ≠ opCopy ∧ opNop ≠ opHalt) ∧
    (completable (wordOf opHalt 0) = true ∧ opOf (wordOf opHalt 0) = opHalt ∧ raiseAt (wordOf opHalt 0) ≠ 2) ∧
    ({ Core.reset with haltAt := some 0 } : Core).fenceMet 0 = true ∧
      ({ Core.reset with haltAt := some 1, qVector := [⟨0, 0, 0⟩] } : Core).fenceMet 1 = false := by decide +kernel

/-- A core with work of its side units and a comparison. -/
def sided (c : List CableTile) (l : List LrcWork) (o : List OpenCheck) : Core := { Core.reset with cableQ := c, lrcQ := l, checks := o }

/-- Of SideWorkOfACore: whatever the work, the core may act. -/
theorem witness_side_units (c : List CableTile) (l : List LrcWork) (o : List OpenCheck) :
    (onCore (sided c l o)).running = true ∧ (onCore (sided c l o)).coreClear 0 = true ∧ ((onCore (sided c l o)).core 0).cableQ = c ∧
      ((onCore (sided c l o)).core 0).lrcQ = l ∧ ((onCore (sided c l o)).core 0).checks = o := ⟨rfl, rfl, rfl, rfl, rfl⟩

/-- Of SideWorkOfACore: a tile with and without outliers, a stage of rank 0 and 4, a close, and comparisons that fail and that do not. -/
theorem witness_side_work :
    (∀ o : Bool, (⟨0, [0], 0, 0, false, 0, 1, o, false, 0, [], 0⟩ : CableTile).cycles = 0) ∧
    (∀ r : Nat, (LrcWork.stage 0 [0] 0 r 1 1 0 0 0 0).cycles = 0) ∧ (LrcWork.close 0 [0] 0).cycles = 0 ∧
    (∀ f : List (Nat × Nat), [(⟨0, 0, 0, 0, [0], f, [], false, true, 0⟩ : OpenCheck)].find? (fun d => d.completed) = some ⟨0, 0, 0, 0, [0], f, [], false, true, 0⟩) :=
  ⟨fun _ => rfl, fun _ => rfl, rfl, fun _ => rfl⟩

/-- Core 0 of this device holds no context. -/
def vacant : State := regsSet dev [(Reg.ctxControl 0, Fld.ctxControlState, 1), (Reg.ctxCoreMask 0, Fld.ctxCoreMaskMask, 1)]

/-- Of ContextsChangeOnACore: an empty core, a halted and a faulted context with another ready, a quantum at its last course,
and a switch to a context that has not run. -/
theorem witness_contexts :
    ((vacant.core 0).switch_ = none ∧ (vacant.core 0).inWindow = false ∧ (vacant.core 0).resident = none ∧
      (vacant.nextContext 0).isSome = true) ∧
    (let s := twoContexts { Core.reset with halted := true };
      (s.core 0).switch_ = none ∧ (s.core 0).resident = some 0 ∧ (s.core 0).halted = true ∧ (s.nextContext 0).isSome = true) ∧
    (let s := regsSet (twoContexts Core.reset) [(Reg.ctxControl 0, Fld.ctxControlState, 3)];
      s.ctxState 0 = ctxFaulted ∧ (s.core 0).resident = some 0 ∧ (s.nextContext 0).isSome = true) ∧
    (let s := late (regsSet (twoContexts Core.reset) [(Reg.ctxControl 0, Fld.ctxControlQuantum, 7)]) 7;
      (s.core 0).resident = some 0 ∧ 0 < s.fld (Reg.ctxControl 0) Fld.ctxControlQuantum ∧
        s.fld (Reg.ctxControl 0) Fld.ctxControlQuantum ≤ coursesSince s.course (s.core 0).residentSince ∧ s.ctxState 0 = ctxReady ∧
        (s.core 0).halted = false ∧ (s.nextContext 0).isSome = true ∧ s.running = true ∧ s.coreClear 0 = true) ∧
    (let s := { vacant with cores := [(0, { Core.reset with switch_ := some .select })] };
      (s.core 0).switch_ = some .select ∧ (s.core 0).inWindow = false ∧ (s.core 0).issued = [] ∧ s.switchTarget 0 .select = some 0 ∧
        (s.core 0).resident = none ∧ (s.sideOf 0 0).resident = false) := by decide +kernel

/-- An event table 0 with an entry of this action at course 16. -/
def eventAt (t action : Nat) (s : State) : State := s.armEntry t 0 action 0 0 16 0

/-- The device `n` cycles after the rise of `PERST_N`. -/
def cycled (n : Nat) (s : State) : State := { s with co := { s.co with elapsed := n } }

/-- The `LSTEP` pins of partition 0 show a code. -/
def showing (v : Nat) (s : State) : State := s.setLstep 0 v

/-- Of GapsTensionAndForewarning. -/
theorem witness_gaps :
    (∀ v ∈ [0, 8, 11], let s := showing v (cycled 40960 (onCore { Core.reset with gapSince := some 0, tensionDuty := 1 }));
      s.gapReached 0 16 = true ∧ (s.core 0).forewarned = false ∧ (s.core 0).tensionFalling = false ∧ (s.core 0).tensionDuty ≠ 0 ∧
        s.eventWithin (corePartition 0) 33 = none ∧ s.lstep (corePartition 0) = v ∧ s.running = true) ∧
    (let s := cycled 81919 (onCore { Core.reset with gapSince := some 0 });
      s.gapReached 0 16 = true ∧ (s.core 0).forewarned = false ∧ (s.core 0).tensionFalling = false ∧ s.gapReached 0 32 = false ∧
        s.eventWithin (corePartition 0) 33 = none ∧ s.lstep (corePartition 0) = 0) ∧
    (let s := cycled 81920 (onCore { Core.reset with gapSince := some 0, tensionDuty := 1, forewarned := true });
      s.gapReached 0 32 = true ∧ (s.core 0).forewarned = true ∧ (s.core 0).tensionFalling = false ∧
        0 < min (s.core 0).tensionDuty (s.fld Reg.pmStatus Fld.pmStatusDuty) ∧ (s.core 0).fallDue ≤ s.cycleNo) ∧
    (let s := onCore { Core.reset with tensionFalling := true, tensionNext := 0 };
      (s.core 0).tensionFalling = true ∧ (s.core 0).tensionNext ≤ s.cycleNo) ∧
    (let s := { dev with cores := [(0, { Core.reset with grantDuty := 15, grantNext := 0 })] };
      (s.core 0).grantDuty < 16 ∧ (s.core 0).grantNext ≤ s.cycleNo) ∧
    (∀ v ∈ [0, 8, 12, 15], let s := showing v (eventAt 0 actStepStart (onCore { Core.reset with tensionDuty := 1, forewarned := true }));
      s.unwarnedEvent 0 = some 16 ∧ s.lstep 0 = v ∧ 0 ∈ coresOfPartition 0 ∧ (s.core 0).forewarned = true ∧ (s.core 0).tensionFalling = false ∧
        0 < (s.core 0).tensionDuty) ∧
    (let s := { dev with pm := { dev.pm with clearAt := [(0, some 0)] } };
      SMap.get none s.pm.clearAt 0 = some 0 ∧ reached s.course 0 = true) := by decide +kernel

/-- A stream of context 0 with these requests waiting. -/
def streamOf (closed : List (List Request)) (running : Option (List Request)) : Stream :=
  ⟨0, 0, 0, 1, 0, 0, [⟨1, 0, 1, 0, 0⟩], closed, running, false, false⟩

/-- The device with this stream, its context in a state. -/
def serving (st : Nat) (v : Stream) : State :=
  { regsSet dev [(Reg.ctxControl 0, Fld.ctxControlState, st)] with cmd := { dev.cmd with streams := [(0, some v)] } }

/-- Of ServingBlocks: 128 requests of which the last arrives at the deadline's end, one alone whose deadline is over, with and
without a deadline, and a block due, closed, running to its halt, running to a fault. -/
theorem witness_serving :
    (let w := (List.range 128).map (fun n => (⟨1, 0, 1, 0, if n = 127 then 2560 else 0⟩ : Request));
      let v := { streamOf [] none with deadline := 1, waiting := w };
      v.byArrival = w ∧ w[127]? = some ⟨1, 0, 1, 0, 2560⟩ ∧ 2560 ≤ 0 + 2560 * v.deadline ∧ 2560 ≤ (late dev 1).now) ∧
    (∀ d ∈ [0, 1], let v := { streamOf [] none with deadline := d };
      v.byArrival = [⟨1, 0, 1, 0, 0⟩] ∧ ([] : List Request).length ≤ 126 ∧ 0 + 2560 * v.deadline ≤ (late dev 1).now) ∧
    (let s := serving 2 (streamOf [] none); s.stream 0 = some (streamOf [] none) ∧ s.running = true ∧ s.blockOf (streamOf [] none) ≠ []) ∧
    (let s := serving 2 (streamOf [[⟨1, 0, 1, 0, 0⟩]] none); s.stream 0 = some (streamOf [[⟨1, 0, 1, 0, 0⟩]] none) ∧
      s.ctxState 0 = ctxHalted ∧ s.inReset (ctxPartition 0) = false ∧ s.inReset 5 = false) ∧
    (let s := serving 2 (streamOf [] (some [])); s.stream 0 = some (streamOf [] (some [])) ∧ s.ctxState 0 = ctxHalted) ∧
    (let s := serving 3 (streamOf [] (some [])); s.stream 0 = some (streamOf [] (some [])) ∧ s.ctxState 0 = ctxFaulted) := by decide +kernel

/-- Of ScrubReadsAGranule: the first granule of HBM and the last of it. -/
theorem witness_scrub : dev.running = true ∧ ∀ g ∈ [0, 0x100_0000_0000 / 64 - 1],
    dev.coded (g * 64) = true ∧ NatSet.has dev.poison g = false ∧ inHbm (g * 64) = true := by decide +kernel

/-- The device with a state of port 0: its register and its own part. -/
def portOf (st : Nat) (p : Port) (s : State) : State :=
  { regsSet s [(Reg.ppStatus 0, Fld.ppStatusState, st)] with fab := { s.fab with ports := [(0, p)] } }

/-- `n` idle flits kept for replay. -/
def kept (n : Nat) : List TxFlit := List.replicate n ⟨.idle, [], false⟩

/-- Of LinkBlocksAndTimers. -/
theorem witness_link :
    (∀ p ∈ [{ Port.reset with replayBuf := kept 2000 }, { Port.reset with replayBuf := kept 2040, replayFrom := some 0 }], let s := portOf 3 p dev;
      s.running = true ∧ s.inReset 4 = false ∧ s.inReset 5 = false ∧ s.linked 0 = true ∧ s.portUp 0 = true ∧
        ((s.port 0).replayFrom.isSome = true ∨ (s.port 0).replayBuf.length ≤ 2000)) ∧
    ((portOf 3 Port.reset dev).linked 0 = true ∧ ((portOf 3 Port.reset dev).port 0).replayFrom = none ∧ ((portOf 3 Port.reset dev).port 0).holds = false) ∧
    ((portOf 3 { Port.reset with fast := true, replayBuf := kept 2040 } dev).linked 0 = true ∧
      ((portOf 3 { Port.reset with fast := true, replayBuf := kept 2040 } dev).port 0).holds = true) ∧
    (∀ n ∈ [6, 7], let s := late (portOf 3 { Port.reset with replayBuf := kept 1, sameAckReplays := n } dev) 1;
      s.linked 0 = true ∧ (s.port 0).holds = false ∧ (s.port 0).replayBuf ≠ [] ∧ (s.port 0).unackedSince + 2500 ≤ s.now ∧ (s.port 0).sameAckReplays = n) ∧
    (let s := late (portOf 3 Port.reset dev) 10; s.linked 0 = true ∧ (s.port 0).lastHeard + 25000 ≤ s.now) ∧
    (let s := portOf 3 { Port.reset with nonceTx := BitVec.ofNat 64 (2 ^ 40) } dev; s.portUp 0 = true ∧ 2 ^ 40 ≤ (s.port 0).nonceTx.toNat) ∧
    ({ Port.reset with keyPending := true } : Port).keyPending = true ∧ tyWrite ≠ tySession := by decide +kernel

/-- A packet of a type. -/
def packetOf (ty : BitVec 4) (ep : BitVec 8) (payload : List Byte) : Packet :=
  ⟨ty, 0, true, false, 0, false, ep, 0, false, 0, 0, 0, 0, 0, 0, true, 0, 0, payload⟩

/-- A link session of port 0 whose own message is out. -/
def linkOf (theirs : Option (List Byte)) (verified : Bool) : LinkSession := ⟨[], 0, theirs, some 0, verified, [], true⟩

/-- The device in step `n` of the training of port 0, with a session of it. -/
def trainingAt (n : Nat) (l : LinkSession) : State :=
  { portOf 1 { Port.reset with trainStep := n, rxResync := 8 } dev with rt := { dev.rt with links := [(0, some l)] } }

/-- The device to which this packet has come over port 0. -/
def heardOver (p : Packet) (s : State) : State := { s with fab := { s.fab with linkArrived := [⟨0, p, 0, 0⟩] } }

/-- Of PortsTrainAndLinkSessions: the steps, both outcomes, a `HELLO` and a `FINISH` that are taken and dropped, and a session at
its last stitch. -/
theorem witness_training :
    (∀ n ∈ [1, 2, 3, 4, 5, 6], (trainingAt n (linkOf none false)).running = true ∧ (trainingAt n (linkOf none false)).inReset 4 = false ∧
      (trainingAt n (linkOf none false)).inReset 5 = false ∧ ((trainingAt n (linkOf none false)).port 0).trainStep = n ∧
      ((trainingAt n (linkOf none false)).port 0).resyncLeft = 0 ∧ ((trainingAt n (linkOf none false)).port 0).rxResync = 8) ∧
    (trainingAt 5 (linkOf none true)).linkSession 0 = some (linkOf none true) ∧
    (∀ ty : Byte, ty = 1 ∨ ty = 2 → ∀ v : Bool, ∀ h : Option (List Byte),
      ∃ t, (heardOver (packetOf tySession 0 [ty]) (trainingAt 5 (linkOf h v))).takeSession ty = some (⟨0, packetOf tySession 0 [ty], 0, 0⟩, t) ∧
        t.linkSession 0 = some (linkOf h v) ∧ (t.port 0).trainStep = 5) ∧
    (let s := late (trainingAt 5 (linkOf none false)) 9766;
      s.linkSession 0 = some (linkOf none false) ∧ (linkOf none false).helloAt = some 0 ∧ (s.port 0).trainStep = 5 ∧ 0 + 25000000 ≤ s.now) := by
  refine ⟨by decide +kernel, by decide +kernel, fun ty h v g => ?_, by decide +kernel⟩
  rcases h with rfl | rfl <;> exact ⟨_, rfl, rfl, rfl⟩

/-- The device with this packet at the head of an input's virtual channel. -/
def arriving (p : Packet) : State := { oneChip dev with fab := { dev.fab with ports := [(0, { Port.reset with inBuf := [(0, [p])] })] } }

/-- Of RoutingAPacket: a packet of a bad type, one that is 65 courses old, one to no place of the torus, one for this device, and
one for an endpoint that does not exist. -/
theorem witness_routing :
    (let p := packetOf 0 0 []; (arriving p).headAt 0 0 = some (p, false) ∧ (arriving p).headFault p = some Reg.prBadType) ∧
    (let p := { packetOf tyWrite 0 [] with stamp := 191 }; (arriving p).headAt 0 0 = some (p, false) ∧ (arriving p).headFault p = some Reg.prExpired) ∧
    (let p := { packetOf tyWrite 0 [] with dst := 1 };
      (arriving p).headAt 0 0 = some (p, false) ∧ (arriving p).headFault p = none ∧ (arriving p).hopAt 0 0 ((arriving p).turned p) = .unreachable) ∧
    (∀ e ∈ [(0, true), (255, false)], let p := packetOf tyWrite e.1 [];
      (arriving p).headAt 0 0 = some (p, false) ∧ (arriving p).headFault p = none ∧ (arriving p).hopAt 0 0 ((arriving p).turned p) = .local_ ∧
        deliverable ((arriving p).turned p) = e.2) ∧
    (arriving (packetOf tyWrite 0 [])).running = true ∧ (arriving (packetOf tyWrite 0 [])).flag Reg.prTorus Fld.prTorusValid = true := by decide +kernel

/-- Of RoutingAPacket: a packet for the device's other side, which port 7 leads to, wholly arrived and still arriving, and a beacon
for a port that is not up. -/
theorem witness_forwarding :
    (let p := { packetOf tyWrite 0 [] with dstSide := true };
      let s := { regsSet (arriving p) [(Reg.ppStatus 7, Fld.ppStatusState, 3)] with
        fab := { dev.fab with ports := [(0, { Port.reset with inBuf := [(1, [p])] }), (7, { Port.reset with rxResync := 8 })] } };
      s.headAt 0 1 = some (p, false) ∧ s.headFault p = none ∧ s.hopAt 0 1 (s.turned p) = .port 7 ∧
        (s.granted 7).map (fun g => (g.1, g.2.1)) = some (0, 1)) ∧
    (let p := { packetOf tyWrite 0 [] with dstSide := true };
      let s := { regsSet (arriving p) [(Reg.ppStatus 7, Fld.ppStatusState, 3)] with
        fab := { dev.fab with ports := [(0, { Port.reset with rxPart := some (p, 1) }), (7, { Port.reset with rxResync := 8 })] } };
      s.headAt 0 1 = some (p, true) ∧ s.hopAt 0 1 (s.turned p) = .port 7 ∧ (s.granted 7).map (fun g => (g.1, g.2.1)) = some (0, 1)) ∧
    (let p := packetOf tyBeacon 0 []; let s := { oneChip dev with fab := { dev.fab with inject := [(0, [(p, some 0)])] } };
      s.headAt 8 0 = some (p, false) ∧ s.headFault p = none ∧ s.hopAt 8 0 (s.turned p) = .gone) := by decide +kernel

/-- The device with this packet arrived at an endpoint. -/
def received (p : Packet) (s : State) : State := { s with fab := { s.fab with arrived := [(0, p)] } }

/-- The packet's flow, where it finds the packet fresh, has seen it, or is of another generation. -/
def flowOf (p : Packet) (seen : Bool) (gen : Option (BitVec 8)) : RecvFlow :=
  ⟨srcKey p, 0, if seen then [0] else [], [(domainOfEp p.dstEp, gen)], 0⟩

/-- Of ReliableArrivalsTakeEffectOnce: each row's packet, fresh on its first arrival. -/
theorem witness_arrivals_fresh : ∀ ty ∈ [tyWrite, tyReadReq, tyRaise], ∃ t f,
    (received (packetOf ty 0 []) dev).takeArrived (fun q => decide (q.ty = ty) && (decide (ty ≠ tyWrite) || decide (q.dstEp ≠ epStepKeeper)) &&
      (received (packetOf ty 0 []) dev).epOpen q.dstEp) = some (0, packetOf ty 0 [], t) ∧
    t.judge (packetOf ty 0 []) false = (.fresh, some f) ∧ t.fab.readTable.length < 4096 := by
  intro ty h
  simp only [List.mem_cons, List.not_mem_nil, or_false] at h
  rcases h with rfl | rfl | rfl <;> exact ⟨_, _, rfl, rfl, by decide⟩

/-- A packet that does not start its flow. -/
def laterPacket (ty : BitVec 4) (ep : BitVec 8) (payload : List Byte) : Packet := { packetOf ty ep payload with start := false, gen := 1 }

/-- The device whose flow of this packet stands so. -/
def flowing (p : Packet) (f : RecvFlow) : State := { received p dev with fab := { (received p dev).fab with recvFlows := [f] } }

/-- Of ReliableArrivalsTakeEffectOnce: a packet seen before, one of a generation the flow has passed, one beyond the window, one
that finds no flow free, and a read with the table full. -/
theorem witness_arrivals_judged :
    (let p := { packetOf tyWrite 0 [] with start := false }; let f := flowOf p true none;
      ((flowing p f).judge p false).1 = .duplicate ∧ ((flowing p f).judge p false).2 = some f) ∧
    (let p := laterPacket tyWrite 0 []; let f := flowOf p false (some 2); ((flowing p f).judge p false).1 = .stale) ∧
    (let p := { packetOf tyWrite 0 [] with start := false, e2eSeq := 256 }; let f := flowOf p false none;
      ((flowing p f).judge p false).1 = .beyond) ∧
    (let p := packetOf tyWrite 0 []; let s := { dev with fab := { dev.fab with recvFlows := (List.range 16384).map (fun n => freshFlow (n + 2) 0) } };
      (s.judge p false).1 = .full) ∧
    (let p := packetOf tyReadReq 0 []; 
      let s := { received p dev with fab := { (received p dev).fab with readTable := List.replicate 4096 ⟨0, 0, 1⟩ } };
      (s.judge p false).1 = .fresh ∧ 4096 ≤ s.fab.readTable.length) := by decide +kernel

/-- Of ReliableArrivalsTakeEffectOnce: a raise for a core outside its context's mask, one that is late and one that is taken. -/
theorem witness_raises : let p := packetOf tyRaise 0 []; let s := regsSet dev [(Reg.ctxCoreMask 0, Fld.ctxCoreMaskMask, 1)];
    dev.inMask 0 0 = false ∧ s.inMask (raisedCtx p) p.dstEp.toNat = true ∧ s.raiseLate p = false ∧
      s.token 0 (raisedCtx p) (raisedTok p) + raisedAmount p ≤ 65535 ∧
      ({ s with rv := { s.rv with tokenZeroed := [(0, some 0)] } } : State).inMask 0 0 = true ∧
      ({ s with rv := { s.rv with tokenZeroed := [(0, some 0)] } } : State).raiseLate p = true := by decide +kernel

/-- An unacknowledged packet sent at course 0. -/
def sent (p : Packet) : Unacked := ⟨0, p, .literal, .none, none, 0, 0⟩

/-- A reply, its flow where it has been seen, and the device that waits for reads. -/
def replied (seen : Bool) (rs : List ReadWait) : State :=
  let s := if seen then flowing (packetOf tyReadResp 0 []) (flowOf (packetOf tyReadResp 0 []) true none) else received (packetOf tyReadResp 0 []) dev
  { s with fab := { s.fab with reads := rs } }

/-- Of RepliesAcknowledgementsAndFlows: a reply fresh, with and without a read of its tag, seen before, and stale. -/
theorem witness_read_replies :
    (∀ rs ∈ [[], [(⟨0, .fill 0, 1⟩ : ReadWait)]], ∃ t f, (replied false rs).takeArrived (fun q => decide (q.ty = tyReadResp) &&
        (replied false rs).epOpen q.dstEp) = some (0, packetOf tyReadResp 0 [], t) ∧ t.replyStale (packetOf tyReadResp 0 []) = false ∧
      t.judge (packetOf tyReadResp 0 []) true = (.fresh, some f) ∧
      (t.putFlow (f.take (packetOf tyReadResp 0 []) true t.course)).fab.reads.find? (fun w => decide (w.tag = 0)) = rs.head?) ∧
    (let p := { packetOf tyReadResp 0 [] with start := false };
      ((flowing p (flowOf p true none)).judge p true).1 = .duplicate ∧ (flowing p (flowOf p true none)).replyStale p = false) ∧
    (let p := { packetOf tyReadResp 0 [] with gen := 1 };
      ∃ t, (received p dev).takeArrived (fun q => decide (q.ty = tyReadResp) && (received p dev).epOpen q.dstEp) = some (0, p, t) ∧
        t.replyStale p = true) := by
  refine ⟨fun rs h => ?_, by decide +kernel, ⟨_, rfl, by decide +kernel⟩⟩
  simp only [List.mem_cons, List.not_mem_nil, or_false] at h
  rcases h with rfl | rfl <;> exact ⟨_, _, rfl, rfl, rfl, rfl⟩

/-- Of RepliesAcknowledgementsAndFlows: an acknowledgement fresh and stale, a packet overdue at its seventh and eighth try, a fault
record of each kind, and flows at their last course. -/
theorem witness_replies :
    (∃ t, (received (packetOf tyE2eAck 0 []) dev).takeArrived (fun q => decide (q.ty = tyE2eAck)) = some (0, packetOf tyE2eAck 0 [], t) ∧
      t.replyStale (packetOf tyE2eAck 0 []) = false) ∧
    (let p := { packetOf tyE2eAck 0 [] with gen := 1 };
      ∃ t, (received p dev).takeArrived (fun q => decide (q.ty = tyE2eAck)) = some (0, p, t) ∧ t.replyStale p = true) ∧
    (∀ n ∈ [7, 8], let u := { sent (packetOf tyWrite 0 []) with tries := n };
      let s := late { dev with fab := { dev.fab with sendFlows := [⟨0, 1, [u], 0⟩] } } 128;
      s.overdue = some (⟨0, 1, [u], 0⟩, u) ∧ s.running = true ∧ s.inReset 4 = false ∧ s.inReset 5 = false) ∧
    (∀ b ∈ [zeroBytes 8, beBytes 8 (2 ^ 64 - 1)], ∃ t,
      (heardOver (packetOf tyFault 0 b) dev).takeLink (fun p => decide (p.ty = tyFault)) = some (⟨0, packetOf tyFault 0 b, 0, 0⟩, t) ∧
      (frKind (BitVec.ofNat 64 (beNat (b.take 8))) < 2 ↔ b = zeroBytes 8)) ∧
    (let s := late { dev with fab := { dev.fab with sendFlows := [⟨0, 1, [], 0⟩] } } 256;
      s.flowTo 0 = some ⟨0, 1, [], 0⟩ ∧ 256 ≤ coursesSince s.course 0) ∧
    (let s := late { dev with fab := { dev.fab with recvFlows := [⟨0, 1, [], [], 0⟩] } } 512;
      s.flowFrom 0 = some ⟨0, 1, [], [], 0⟩ ∧ 512 ≤ coursesSince s.course 0) := by
  refine ⟨⟨_, rfl, by decide +kernel⟩, ⟨_, rfl, by decide +kernel⟩, by decide +kernel, fun b h => ?_, by decide +kernel, by decide +kernel⟩
  simp only [List.mem_cons, List.not_mem_nil, or_false] at h
  rcases h with rfl | rfl <;> exact ⟨_, rfl, by decide +kernel⟩

/-- The head descriptor of context 0 in its queue's slot 0: its operation, formats of 4 bytes, one granule, from `src` to 4096. -/
def described (op src : Nat) (s : State) : State :=
  { regsSet s [(Reg.ceQueue 0, Fld.ceQueueTail, 1)] with
    mem := SMap.setList 0 s.mem 0 ([BitVec.ofNat 8 op, 0, 2, 1, 1] ++ zeroBytes 7 ++ [3, 0, 0, 0] ++ leBytes 8 src ++ leBytes 8 4096 ++ zeroBytes 16 ++ [1]) }

/-- The device of a torus of four chips along its first axis, its job running with context 0. -/
def ofFour (s : State) : State :=
  { regsSet s [(Reg.prTorus, Fld.prTorusValid, 1), (Reg.prTorus, Fld.prTorusXnM1, 3), (Reg.rvStatus, Fld.rvStatusJobState, 1)] with
    job := ⟨true, [0, 0, 0, 3] ++ zeroBytes 60, 1⟩ }

/-- The head descriptor with a byte of it changed. -/
def patched (o : Nat) (v : Byte) (s : State) : State := s.putBytes o [v]

/-- What DescriptorsStart asks of the head descriptor, with whether it is offered. -/
def startable (op : Nat) (s : State) : Bool :=
  let d := s.descriptorAt 0 0
  s.mayStart 0 && decide (d.op = op) && !s.poisoned 0 64 && !d.badWait 0 && !d.badShape && !d.badForm 0 (s.asRunning 0 0 d).extent &&
    s.descriptorReady 0 d && s.roomFor (s.asRunning 0 0 d) && !s.memHeld (s.asRunning 0 0 d)

/-- Of DescriptorsStart: each operation with its source out of reach, with nothing to receive, to be offered with its neighbours'
grants still out, and the same descriptor as a LAST one. -/
theorem witness_descriptors_start : ∀ op ∈ [1, 2, 3, 4],
    (let s := described op (2 ^ 47) dev; let r := s.asRunning 0 0 (s.descriptorAt 0 0);
      startable op s = true ∧ s.isOffered 0 r.seq = false ∧ (s.offer r).grantsIn r = true ∧
        (r.extents.find? (fun e => decide (0 < e.2) && !(s.offer r).reachable e.1 e.2)).isSome = true) ∧
    (let s := described op 8192 dev; let r := s.asRunning 0 0 (s.descriptorAt 0 0);
      startable op s = true ∧ (s.offer r).grantsIn r = true ∧ r.extents.find? (fun e => decide (0 < e.2) && !(s.offer r).reachable e.1 e.2) = none) ∧
    (let s := described op 8192 (ofFour dev); let r := s.asRunning 0 0 (s.descriptorAt 0 0);
      startable op s = true ∧ s.isOffered 0 r.seq = false ∧ (s.offer r).grantsIn r = false) ∧
    (let s := patched 5 2 (described op 8192 dev); (s.descriptorAt 0 0).last = true ∧ startable op s = true) := by decide +kernel

/-- Of DescriptorsStart: a poisoned descriptor, one that waits on a core of another partition, one on a token that is not there, one of
a reserved axis, one without buffers, one whose memory is in reset, and one of a bad form. -/
theorem witness_descriptors_held : ∀ op ∈ [1, 2, 3, 4],
    (let s := { described op 8192 dev with poison := NatSet.put [] 0 true }; s.mayStart 0 = true ∧ (s.descriptorAt 0 0).op = op ∧ s.poisoned 0 64 = true) ∧
    (let s := patched 6 40 (described op 8192 dev); s.mayStart 0 = true ∧ s.poisoned 0 64 = false ∧ (s.descriptorAt 0 0).badWait 0 = true) ∧
    (let s := patched 8 1 (described op 8192 dev); let d := s.descriptorAt 0 0;
      s.mayStart 0 = true ∧ d.badWait 0 = false ∧ s.descriptorReady 0 d = false) ∧
    (let s := patched 1 4 (described op 8192 dev); let d := s.descriptorAt 0 0;
      s.mayStart 0 = true ∧ d.op = op ∧ s.poisoned 0 64 = false ∧ d.badWait 0 = false ∧ s.descriptorReady 0 d = true ∧ d.badShape = true) ∧
    (let s := { described op 8192 (ofFour dev) with ce := { dev.ce with buffersUsed := 12288 } }; let d := s.descriptorAt 0 0;
      s.mayStart 0 = true ∧ s.poisoned 0 64 = false ∧ d.badWait 0 = false ∧ s.descriptorReady 0 d = true ∧ d.badShape = false ∧
        s.roomFor (s.asRunning 0 0 d) = false) ∧
    (let s := described op 8192 { dev with rv := { dev.rv with domains := [(0, .inReset 2 0 0 0)] } }; let d := s.descriptorAt 0 0;
      s.mayStart 0 = true ∧ s.poisoned 0 64 = false ∧ d.badWait 0 = false ∧ s.descriptorReady 0 d = true ∧ d.badShape = false ∧
        s.memHeld (s.asRunning 0 0 d) = true) ∧
    (let s := patched 3 3 (described op 8192 dev); let d := s.descriptorAt 0 0; let r := s.asRunning 0 0 d;
      s.mayStart 0 = true ∧ s.poisoned 0 64 = false ∧ d.badWait 0 = false ∧ s.descriptorReady 0 d = true ∧ d.badShape = false ∧ s.roomFor r = true ∧
        s.memHeld r = false ∧ (s.offer r).grantsIn r = true ∧ d.badForm 0 r.extent = true) := by
  decide +kernel

/-- A running descriptor: that of `described`, of a job of four, or of a context that is alone and so has nothing to send or take. -/
def runningOf (alone : Bool) : Running :=
  let s := described 1 8192 (if alone then dev else ofFour dev)
  s.asRunning 0 0 (s.descriptorAt 0 0)

/-- The device with this descriptor running. -/
def colling (rs : List Running) (s : State) : State := { s with ce := { s.ce with running := rs } }

/-- The first packet that has come to that device with this descriptor running. -/
def collTaken (p : Packet) (rs : List Running) (s : State) : Option (Nat × Packet × State) :=
  let u := received p (colling rs s)
  u.takeArrived (fun p => decide (p.ty = tyColl) && u.epOpen p.dstEp && !u.collWaits p)

/-- Of DescriptorsRunAndEnd: a packet of another epoch, an orphan, one of a running descriptor that comes from none of its neighbours,
and one from its neighbour, the descriptor lost and not. -/
theorem witness_descriptor_packets : ∀ c ∈ [({ packetOf tyColl epCollective [] with epoch := 1 }, ([] : List Running)),
    (packetOf tyColl epCollective [], []), (packetOf tyColl epCollective [], [runningOf false]),
    ({ packetOf tyColl epCollective [] with src := 0xC00 }, [runningOf false]),
    ({ packetOf tyColl epCollective [] with src := 0xC00 }, [{ runningOf false with lost := true }])],
    ∃ t, collTaken c.1 c.2 (ofFour dev) = some (0, c.1, t) ∧ (received c.1 (colling c.2 (ofFour dev))).ce.ownSwatch = false ∧
      (c.1.epoch.toNat ≠ t.epochNow ∨ t.runningIndex (collCtx c.1) (collSeq c.1) = (if c.2 = [] then none else some 0)) ∧
      t.ce.running[0]? = c.2[0]? ∧ (∀ r ∈ c.2, (t.wayOfPacket r c.1).isSome = decide (c.1.src = 0xC00)) ∧ (runningOf false).lost = false := by
  intro c h
  simp only [List.mem_cons, List.not_mem_nil, or_false] at h
  rcases h with rfl | rfl | rfl | rfl | rfl <;> exact ⟨_, rfl, by decide +kernel⟩

/-- Of DescriptorsRunAndEnd: a grant and a return, fresh and seen before; a descriptor that is done, that has still to pass data on or
not, one timed out; one that is lost; a reclaim at its last course. -/
theorem witness_descriptors_run :
    (∀ msg ∈ [0x10, 0x11], let p := packetOf tyCtrl epCollective (beBytes 1 msg);
      ∃ t f, (received p dev).takeCtrl epCollective msg = some (0, p, t) ∧ (received p dev).epOpen p.dstEp = true ∧ t.judge p false = (.fresh, some f)) ∧
    (let p := { packetOf tyCtrl epCollective (beBytes 1 0x10) with start := false };
      ((flowing p (flowOf p true none)).judge p false).1 = .duplicate ∧ ((flowing p (flowOf p true none)).takeCtrl epCollective 0x10).isSome = true) ∧
    ((runningOf true).done = true ∧ (runningOf true).lost = false ∧ (runningOf true).allSent = true ∧ (runningOf true).completed = false ∧
      dev.running = true ∧ dev.inReset 4 = false ∧ dev.inReset 5 = false) ∧
    (let s := late (colling [runningOf false] (ofFour dev)) 65535;
      (runningOf false).done = false ∧ s.packetKept (runningOf false) = false ∧ (runningOf false).allSent = false ∧ s.ceTimeoutCourses ≤ coursesSince s.course (runningOf false).lastPacket) ∧
    ({ runningOf false with lost := true } : Running).lost = true ∧
    (let s := late { dev with ce := { dev.ce with reclaimed := [(0, some 0)] } } 65;
      SMap.get none s.ce.reclaimed 0 = some 0 ∧ 65 ≤ coursesSince s.course 0) := by
  refine ⟨fun msg h => ?_, by decide +kernel⟩
  simp only [List.mem_cons, List.not_mem_nil, or_false] at h
  rcases h with rfl | rfl <;> exact ⟨_, _, rfl, by decide +kernel, rfl⟩

/-- The timebase in a state. -/
def timed (st : Nat) (s : State) : State := regsSet s [(Reg.tbStatus, Fld.tbStatusState, st)]

/-- Of CourseTimeAndMastership: each row's conditions; an entry that fires, one that a device in FREE_RUN misses, and a step's. -/
theorem witness_course_time :
    (∀ st ∈ [tbLocked, tbHoldover], let s := late (timed st dev) 64;
      s.periodic tmrBeacon 64 = true ∧ s.tbState = st ∧ s.running = true ∧ s.inReset 4 = false ∧
        (regsSet s [(Reg.tbStatus, Fld.tbStatusRole, 1)]).isMaster = true) ∧
    (∃ t, (heardOver (packetOf tyBeacon 0 (zeroBytes 16)) dev).takeLink (fun p => decide (p.ty = tyBeacon)) =
      some (⟨0, packetOf tyBeacon 0 (zeroBytes 16), 0, 0⟩, t)) ∧
    (let s := late { timed tbLocked dev with tb := { dev.tb with parentAt := some 0 } } 256;
      s.tbState = tbLocked ∧ s.isMaster = false ∧ s.tb.parentAt = some 0 ∧ 256 ≤ coursesSince s.course 0 ∧ s.parentPort = none) ∧
    (∀ st ∈ [tbLocked, tbHoldover, tbAcquiring], let s := regsSet { timed st dev with tb := { dev.tb with locked := true } } [(Reg.tbConfig, Fld.tbConfigMasterValid, 1)];
      s.electionTerm false = some 0 ∧ s.isMaster = false ∧ s.tb.locked = true ∧ s.tbState = st) ∧
    (∀ st ∈ [tbFreeRun, tbAcquiring], let s := late (regsSet (timed st dev) [(Reg.tbConfig, Fld.tbConfigMasterValid, 1)]) 4096;
      s.electionTerm true = some 0 ∧ s.isMaster = false ∧ s.tb.locked = false ∧ s.tbState = st ∧ 4096 ≤ coursesSince s.course s.tb.quietSince) ∧
    (∀ st ∈ [tbFreeRun, tbLocked], let s := late (eventAt 0 actContextSwitch (timed st dev)) 16;
      s.nextDue = some (0, 0) ∧ s.missesNow 0 0 = decide (st = tbFreeRun) ∧ s.evAction 0 0 ≠ actStepStart ∧ s.evAction 0 0 ≠ actSwatchWindow) ∧
    (let s := late (eventAt 0 actStepStart dev) 16; s.nextDue = some (0, 0)) := by
  refine ⟨by decide +kernel, ⟨_, rfl⟩, by decide +kernel⟩

/-- The device to which event table `t` has handed an event with this parameter. -/
def handed (t action param : Nat) (s : State) : State := { s with tb := { s.tb with handed := [⟨t, action, 0, param, 0⟩] } }

/-- A journal entry of step 1. -/
def stepOne : JournalEntry :=
  ⟨1, 0, 0, 0, [], false, false, false, 0, false, false, false, false, false, false, []⟩

/-- The device that holds this entry in its slot, with the boundary of step 0 complete. -/
def keeping (e : JournalEntry) (s : State) : State := { s with sk := { s.sk with own := [(1, some e)], boundary := some 0 } }

/-- Of HandedEventsTakeEffect: switches, an overlay and a step start. -/
theorem witness_handed :
    (∀ m ∈ [1, 2], ∃ h t, (regsSet (handed 0 actContextSwitch 0 dev) [(Reg.ctxControl 0, Fld.ctxControlState, m)]).takeHanded 0 actContextSwitch = some (h, t) ∧
      dev.inReset 0 = false ∧ dev.inReset 5 = false ∧ ctxPartition (h.param % 16) = 0 ∧ (t.ctxState (h.param % 16) = ctxReady ↔ m = 1)) ∧
    (∃ h t, (handed 4 actOverlaySwitch 0 dev).takeHanded 4 actOverlaySwitch = some (h, t) ∧ (handed 4 actOverlaySwitch 0 dev).jobState = jobIdle) ∧
    (let s := handed 0 actStepStart 1 (keeping { stepOne with durable := true } (ofFour dev));
      ∃ h t, s.takeHanded 0 actStepStart = some (h, t) ∧ s.diagnosisOf h = none ∧ s.entryOf (BitVec.ofNat 32 h.param) = some { stepOne with durable := true } ∧
        s.stepMayStart 0 { stepOne with durable := true } = true) ∧
    (∃ h t, (handed 0 actStepStart 1 dev).takeHanded 0 actStepStart = some (h, t) ∧ (handed 0 actStepStart 1 dev).diagnosisOf h = none ∧
      (handed 0 actStepStart 1 dev).entryOf (BitVec.ofNat 32 h.param) = none) ∧
    (let s := handed 0 actStepStart 1 { dev with cmd := { dev.cmd with diagnosis := some ⟨0, 0, 1⟩ } };
      ∃ h t, s.takeHanded 0 actStepStart = some (h, t) ∧ s.diagnosisOf h = some ⟨0, 0, 1⟩ ∧ s.inReset 0 = false ∧ s.inReset 4 = false ∧ s.inReset 5 = false) := by
  refine ⟨fun m h => ?_, ⟨_, _, rfl, by decide +kernel⟩, ⟨_, _, rfl, by decide +kernel⟩, ⟨_, _, rfl, by decide +kernel⟩, ⟨_, _, rfl, by decide +kernel⟩⟩
  simp only [List.mem_cons, List.not_mem_nil, or_false] at h
  rcases h with rfl | rfl <;> exact ⟨_, _, rfl, by decide +kernel⟩

/-- The device whose partition 0 has been in a reset since course 0. -/
def inReset0 (level : Nat) (s : State) : State := late { s with rv := { s.rv with domains := [(0, .inReset level 0 0 0)] } } 64

/-- Table 0 full of armed events. -/
def full0 (s : State) : State := (List.range 64).foldl (fun t n => t.armEntry 0 n actSnapshot 0 0 100 0) s

/-- A release of partition 0 that the stitch's end gives its entry. -/
def releaseWaits (s : State) : State := { s with tb := { s.tb with arming := [⟨0, actResetRelease, 0, 100, false⟩] } }

/-- Of HandedEventsTakeEffect: windows, and a release that no table times, one handed over, one to be armed, and a table with an entry
free and one without. -/
theorem witness_handed_windows :
    (∀ t ∈ [0, 4], ∃ h u, (handed t actSwatchWindow 0 dev).takeHanded t actSwatchWindow = some (h, u)) ∧
    (dev.window 0 = none ∧ (∀ c ∈ coresOfPartition 0, (dev.core c).issued = []) ∧ dev.running = true) ∧
    (let w : Window := ⟨0, 16, 0, 0, []⟩; let s := late { dev with sn := { dev.sn with windows := [(0, some w)] } } 16;
      s.window 0 = some w ∧ reached s.course (w.start + BitVec.ofNat 48 w.length) = true) ∧
    ((inReset0 1 dev).domainState 0 = .inReset 1 0 0 0 ∧ (inReset0 1 dev).dumpOpen 0 = false ∧ releaseTable 1 0 = none ∧ 64 ≤ coursesSince (inReset0 1 dev).course (BitVec.ofNat 48 0)) ∧
    ((inReset0 2 dev).dumpOpen 0 = false ∧ ∃ h u, (inReset0 2 (handed 0 actResetRelease 0 dev)).takeHanded 0 actResetRelease = some (h, u)) ∧
    (releaseTable 2 0 = some 0 ∧ (inReset0 2 dev).takeHanded 0 actResetRelease = none ∧ (inReset0 2 dev).releaseArmed 0 = false) ∧
    (∀ s ∈ [dev, full0 dev], (releaseWaits s).tb.arming = [⟨0, actResetRelease, 0, 100, false⟩]) ∧
    (let s := releaseWaits dev; ({ s with tb := { s.tb with arming := [] } } : State).freeEntry 0 = some 0) ∧
    (let s := releaseWaits (full0 dev); ({ s with tb := { s.tb with arming := [] } } : State).freeEntry 0 = none) := by
  refine ⟨fun t h => ?_, by decide +kernel, by decide +kernel, by decide +kernel, ⟨by decide +kernel, _, _, rfl⟩, by decide +kernel,
    by decide +kernel, by decide +kernel, by decide +kernel⟩
  simp only [List.mem_cons, List.not_mem_nil, or_false] at h
  rcases h with rfl | rfl <;> exact ⟨_, _, rfl⟩

/-- The device with region `r` valid for a use. -/
def region (r use : Nat) (s : State) : State :=
  regsSet s [(Reg.dtRegionA r, Fld.dtRegionAValid, 1), (Reg.dtRegionA r, Fld.dtRegionAUse, use), (Reg.dtRegionB r, Fld.dtRegionBSize, 16)]

/-- Of StepsAreRecordedAndDecided: a record due, one mirrored and one not, a step at its end, and the vectors of the three others of a
job of four along its first axis. -/
theorem witness_steps :
    (let s := regsSet (region 0 useJournal (keeping stepOne dev)) [(Reg.skConfig, Fld.skConfigSlotSize, 1)];
      s.recordDue = some stepOne ∧ s.journalUsable = true ∧ s.recordWaits = false ∧ s.running = true ∧ s.inReset 4 = false ∧ s.inReset 5 = false) ∧
    (∀ r : Bool, let e := { stepOne with recorded := true, localDone := true, copyDone := !r, unmirrored := r };
      (keeping e dev).durableDue = some e) ∧
    (let e := { stepOne with started := true }; let s := regsSet (keeping e (ofFour dev)) [(Reg.guStep 0, Fld.guStepStep, 1)];
      let u := { s with ce := { s.ce with durationFixed := [(0, 1)] } };
      u.openStep = some e ∧ u.job.loaded = true ∧ u.jobState = jobRunning ∧ u.endReached = true ∧ u.compareOpen e.step = false ∧
        u.openTile (e.step - 1) = false) ∧
    (let s := { ofFour dev with ce := { dev.ce with vector := zeroBytes 80 } };
      s.ce.vector ≠ [] ∧ s.jobState = jobRunning ∧ (zeroBytes 80).length = 64 + 4 * s.replicaCount ∧
        (sumAxes.map (fun k => List.replicate (s.othersOn k) (zeroBytes 80))).map List.length = sumAxes.map s.othersOn ∧
        sumAxes.map s.othersOn = [0, 0, 0, 0, 3]) := by decide +kernel

/-- Of StepsAreRecordedAndDecided: a copy, and refusals of a step held, of one that is not, and of a wrong length. -/
theorem witness_step_messages :
    (let p := packetOf tyWrite epStepKeeper [];
      ∃ t f, (received p dev).takeCopy = some (0, p, t) ∧ t.judge p false = (.fresh, some f) ∧
        (received p dev).memWaits ((received p dev).regionBase (received p dev).journalRegion) ((received p dev).regionBytes (received p dev).journalRegion) = false) ∧
    (let p := packetOf tyCtrl epStepKeeper (beBytes 1 0x30 ++ beBytes 4 1 ++ zeroBytes 3); let s := received p (keeping stepOne dev);
      ∃ t f, s.takeCtrl epStepKeeper 0x30 = some (0, p, t) ∧ s.epOpen p.dstEp = true ∧ p.payload.length = 8 ∧ t.judge p false = (.fresh, some f) ∧
        BitVec.ofNat 32 (beNat ((p.payload.drop 1).take 4)) = 1 ∧ (t.putFlow (f.take p false t.course)).entryOf 1 = some stepOne) ∧
    (let p := packetOf tyCtrl epStepKeeper (beBytes 1 0x30 ++ beBytes 4 1 ++ zeroBytes 3);
      ∃ t f, (received p dev).takeCtrl epStepKeeper 0x30 = some (0, p, t) ∧ t.judge p false = (.fresh, some f) ∧
        (t.putFlow (f.take p false t.course)).entryOf 1 = none) ∧
    (let p := packetOf tyCtrl epStepKeeper [0x30]; ∃ t, (received p dev).takeCtrl epStepKeeper 0x30 = some (0, p, t) ∧ p.payload.length ≠ 8) := by
  refine ⟨⟨_, _, rfl, rfl, by decide +kernel⟩, ⟨_, _, rfl, by decide +kernel, by decide +kernel, rfl, by decide +kernel⟩,
    ⟨_, _, rfl, rfl, by decide +kernel⟩, ⟨_, rfl, by decide +kernel⟩⟩

/-- A cut of generation 1 in a phase. -/
def cutOf (phase : Nat) (reportAt queriedAt : Option Course) : Cut := ⟨1, 0, 0, 0, 1, phase, 0, 0, [], reportAt, queriedAt, none⟩

/-- The lifeline engine enabled with these cuts and a skein region. -/
def cutting (cs : List Cut) (s : State) : State :=
  { regsSet (region 0 useSkein s) [(Reg.leConfig, Fld.leConfigEnable, 1), (Reg.leMember 0, Fld.leMemberValid, 1),
      (Reg.leMember 0, Fld.leMemberPresent, 1)] with le := { s.le with cuts := cs } }

/-- The cut of boundary 0 handed over, and due as generation 1 where `due` holds. -/
def cutHanded (due : Bool) (s : State) : State :=
  { handed 4 actLifelineCut 0 (keeping stepOne s) with le := { s.le with due := if due then [(0, 1, 0, 0)] else [] } }

/-- Of CutsAreWrittenAndReported: a cut no longer due, one that begins, and one on a device without lifelines. -/
theorem witness_cut_begins :
    (∃ h t, (cutHanded false dev).takeHanded 4 actLifelineCut = some (h, t) ∧ t.le.due = []) ∧
    (∃ h t, (cutHanded true (cutting [] dev)).takeHanded 4 actLifelineCut = some (h, t) ∧
      t.le.due.find? (fun d => decide (d.1 = BitVec.ofNat 32 h.param)) = some (0, 1, 0, 0) ∧ (cutHanded true (cutting [] dev)).cutsHere = true ∧
      (cutHanded true (cutting [] dev)).cutReady (BitVec.ofNat 32 h.param) = true) ∧
    (∃ h t, (cutHanded true dev).takeHanded 4 actLifelineCut = some (h, t) ∧
      t.le.due.find? (fun d => decide (d.1 = BitVec.ofNat 32 h.param)) = some (0, 1, 0, 0) ∧ (cutHanded true dev).cutsHere = false) := by
  refine ⟨⟨_, _, rfl, by decide +kernel⟩, ⟨_, _, rfl, by decide +kernel⟩, ⟨_, _, rfl, by decide +kernel⟩⟩

/-- Of CutsAreWrittenAndReported: a cut that may be written, one whose section is poisoned, one that the partner has, and the cuts at
the ends of their waits. -/
theorem witness_cuts :
    (let c := cutOf 0 none none; let s := cutting [c] dev;
      s.le.cuts = [c] ∧ c.phase = 0 ∧ s.foldsDone = true ∧ s.skeinOpen = true ∧ s.leWaits = false ∧ s.cutPoison c = none ∧ s.running = true ∧ s.inReset 4 = false ∧ s.inReset 5 = false) ∧
    (let c := cutOf 0 none none;
      let s := { regsSet (cutting [c] dev) [(Reg.skExtent 0, Fld.skExtentValid, 1)] with poison := NatSet.put [] 0 true };
      s.le.cuts = [c] ∧ s.foldsDone = true ∧ s.skeinOpen = true ∧ s.leWaits = false ∧ s.cutPoison c = some 0) ∧
    (let s := cutting [cutOf 4 none none] dev;
      s.le.cuts.find? (fun c => decide (c.phase = 4)) = some (cutOf 4 none none) ∧ s.buddyDone = true ∧ s.skeinOpen = true) ∧
    (let s := late (cutting [cutOf 5 none (some 0)] dev) 4096; 4096 ≤ coursesSince s.course 0 ∧ s.le.cuts = [cutOf 5 none (some 0)]) ∧
    (let s := late (cutting [cutOf 5 (some 0) none] dev) 65536;
      65536 ≤ coursesSince s.course 0 ∧ s.isLeader = true ∧ 0 ∈ s.presentMembers ∧ s.le.reports = []) := by
  refine ⟨by decide +kernel, by decide +kernel, by decide +kernel, by decide +kernel, by decide +kernel⟩

/-- Of CutsAreWrittenAndReported: the four messages, each fresh in its flow, of this group and of another. -/
theorem witness_cut_messages : ∀ g ∈ [0, 1], ∀ m ∈ [(0x20, 61), (0x21, 5 + manifestLength 0), (0x22, 5), (0x23, 5)],
    let p := packetOf tyCtrl epLifeline (beBytes 1 m.1 ++ beBytes 2 g ++ zeroBytes m.2); let s := received p (cutting [] dev);
    ∃ t f, s.takeCtrl epLifeline m.1 = some (0, p, t) ∧ s.epOpen epLifeline = true ∧ t.judge p false = (.fresh, some f) ∧
      (let u := t.putFlow (f.take p false t.course); u.groupId = 0 ∧ u.isLeader = true ∧ u.le.restore = none ∧ u.le.reports = []) ∧
      beNat ((p.payload.drop 1).take 2) = g ∧ shortGroup p.payload = g ∧ p.payload.length = m.2 + 3 ∧
      leNat (((p.payload.drop 8).drop 0x10).take 1) = 0 := by
  intro g k m h
  simp only [List.mem_cons, List.not_mem_nil, or_false] at h k
  rcases k with rfl | rfl <;> rcases h with rfl | rfl | rfl | rfl <;> exact ⟨_, _, rfl, by decide +kernel, rfl, by decide +kernel⟩

/-- Of CutsAreWrittenAndReported: messages of a wrong length, a report that the leader has, and a manifest for a restore that waits for
one or has one. -/
theorem witness_cut_messages_held :
    (∀ m ∈ [0x20, 0x21, 0x22, 0x23], let p := packetOf tyCtrl epLifeline (beBytes 1 m);
      ((received p dev).takeCtrl epLifeline m).map (fun x => x.1) = some 0 ∧ p.payload.length = 1 ∧ manifestLength 0 + 8 ≠ 1) ∧
    (let b := beBytes 1 0x20 ++ zeroBytes 63; let q := reportOf b; ∃ r, r ∈ [q] ∧ r.gen = q.gen ∧ r.index = q.index) ∧
    (∀ m ∈ [[], [0]], ({ dev with le := { dev.le with restore := some ⟨0, 0, m, 0⟩ } } : State).le.restore = some ⟨0, 0, m, 0⟩) := by
  refine ⟨by decide +kernel, ⟨_, List.mem_singleton_self _, rfl, rfl⟩, by decide +kernel⟩

/-- The tier memory's bytes of the skein region's header, whose base is of another generation than its folds. -/
def skeinHeaded (base fold : Nat) (s : State) : State :=
  { s with mem := SMap.setList 0 s.mem (s.regionBase 0) (leBytes 4 0x4C46_534B ++ leBytes 4 base ++ leBytes 4 fold) }

/-- The device in a restore of generation 0 that holds this manifest. -/
def restoring (m : List Byte) (s : State) : State := { s with le := { s.le with restore := some ⟨0, 0, m, 0⟩ } }

/-- The bytes of a delta slot of 64 bytes. -/
def slotOf64 : List Byte := zeroBytes 24 ++ leBytes 8 64 ++ zeroBytes 32

/-- The device with that slot first in its skein region. -/
def skeinStored (s : State) : State := { s with mem := SMap.setList 0 s.mem (s.slotAddr 0) slotOf64 }

/-- Of FoldsRestoresAndSnapshots. -/
theorem witness_folds :
    ((skeinHeaded 0 1 (cutting [] dev)).ownFoldDue = true ∧ (skeinHeaded 0 1 (cutting [] dev)).chainsNeedBase = false ∧
      (skeinHeaded 0 1 (cutting [] dev)).leWaits = false) ∧
    (let s := { cutting [] dev with le := { (cutting [] dev).le with fold := some ⟨1, NatSet.put [] 0 true⟩ } };
      s.le.fold = some ⟨1, NatSet.put [] 0 true⟩ ∧ NatSet.has (NatSet.put [] 0 true) 0 = true ∧ s.skeinOpen = true ∧ s.running = true ∧
        s.inReset 4 = false ∧ s.inReset 5 = false ∧ NatSet.has (NatSet.put [] 0 true) 1 = false) ∧
    (let p := packetOf tyCtrl epLifeline (beBytes 1 0x24);
      ∃ t f, (received p dev).takeCtrl epLifeline 0x24 = some (0, p, t) ∧ (received p dev).epOpen epLifeline = true ∧ t.judge p false = (.fresh, some f)) ∧
    (let s := late { dev with le := { dev.le with exchange := some ⟨0, []⟩ } } 4096; 4096 ≤ coursesSince s.course 0 ∧ s.le.exchange = some ⟨0, []⟩) ∧
    (let s := late (restoring [] dev) 4096; 4096 ≤ coursesSince s.course 0 ∧ s.le.restore = some ⟨0, 0, [], 0⟩) ∧
    (restoring [0] dev).le.restore = some ⟨0, 0, [0], 0⟩ ∧
    (let s := { dev with le := { dev.le with fill := some ⟨0, 1, 1024⟩ } }; s.le.fill = some ⟨0, 1, 1024⟩ ∧ s.fab.reads = []) ∧
    (∃ h t, (handed 4 actSnapshot 0 dev).takeHanded 4 actSnapshot = some (h, t)) ∧
    (∀ d ∈ [⟨0, true, none⟩, ⟨0, false, some 0⟩], let s := keeping stepOne { dev with le := { dev.le with snapshotDue := [d] } };
      s.takeHanded 4 actSnapshot = none ∧ s.le.snapshotDue = [d] ∧ s.snapshotBoundary d = some 0 ∧ s.le.holdUpdate = false ∧ s.snapshotWaits d.region = false) ∧
    (let s : State := { dev with le := { dev.le with holdUpdate := true } }; s.le.holdUpdate = true ∧ s.regionWaits s.le.snapshot.region = false) := by
  refine ⟨by decide +kernel, by decide +kernel, ⟨_, _, rfl, by decide +kernel, rfl⟩, by decide +kernel, by decide +kernel, by decide +kernel,
    by decide +kernel, ⟨_, _, rfl⟩, by decide +kernel, by decide +kernel⟩

/-- A manifest whose first entry is that of a skein of these bytes, its step and generation 0. -/
def manifestFor (b : List Byte) : List Byte := zeroBytes 96 ++ skeinDigest b

/-- A skein's digest is of 32 bytes. -/
theorem skeinDigest_length (b : List Byte) : (skeinDigest b).length = 32 := by simp [skeinDigest, shake, fitTo, zeroBytes]

/-- A manifest of one byte matches no skein. -/
theorem short_matches (n : Nat) (b : List Byte) : skeinMatches [0] n b = false := by
  have l := skeinDigest_length b
  have h : skeinDigest b ≠ [] := fun h => by simp [h] at l
  have e : entryAt [0] n = [] := by
    rw [entryAt, List.drop_eq_nil_of_le (by simp; omega)]
    rfl
  simp only [skeinMatches, e]
  simp [h]

/-- Such a manifest matches the skein, whatever its digest is. -/
theorem manifestFor_matches (b : List Byte) (h : (b.drop 12).take 4 = zeroBytes 4) (g : (b.drop 8).take 4 = zeroBytes 4) :
    skeinMatches (manifestFor b) 0 b = true := by
  have l := skeinDigest_length b
  have e : entryAt (manifestFor b) 0 = zeroBytes 32 ++ skeinDigest b := by
    simp only [entryAt, manifestFor, Nat.mul_zero, Nat.add_zero]
    rw [List.drop_append_of_le_length (by decide), List.take_of_length_le (by simp [l, zeroBytes])]
    rfl
  simp only [skeinMatches, e, h, g]
  rw [List.drop_append_of_le_length (by decide), List.drop_append_of_le_length (by decide), List.drop_append_of_le_length (by decide)]
  simp [zeroBytes, List.take_of_length_le (Nat.le_of_eq l)]

/-- The link that slot's bytes hold. -/
def slotLink : SkeinLink := Machine.linkOf (skeinStored dev).sectionPages (skeinStored dev).indexPages slotOf64

/-- Of FoldsRestoresAndSnapshots: a device whose own share is whole, one whose share is not, and a partner's share that is. -/
theorem witness_whole :
    (∀ s : State, s.ownWhole [0] 0 = none) ∧ (skeinStored dev).ownWhole (manifestFor slotOf64) 0 = some (slotOf64, slotLink) ∧
    dev.shareWhole (manifestFor slotOf64) 0 ⟨slotOf64, [], [], [], 0, 0, 0⟩ = some slotLink ∧ manifestFor slotOf64 ≠ [] := by
  have m := manifestFor_matches slotOf64 (by decide) (by decide)
  have o : dev.ownIndex = 0 ∧ (skeinStored dev).ownIndex = 0 := by decide +kernel
  have k : ((List.range 2).filter (fun j => !(skeinStored dev).poisoned ((skeinStored dev).slotAddr j)
      ((skeinStored dev).slotField ((skeinStored dev).slotAddr j) 24 8))).map (fun j => (skeinStored dev).slotBytes ((skeinStored dev).slotAddr j)) =
      [slotOf64, []] := by decide +kernel
  have x : (skeinStored dev).ownBase.leads 0 (skeinStored dev).basePages slotLink = true := by decide +kernel
  have y : BaseState.leads ⟨0, 0, 0⟩ 0 dev.basePages slotLink = true := by decide +kernel
  have z : Machine.linkOf dev.sectionPages dev.indexPages slotOf64 = slotLink := by decide +kernel
  have g : leNat ((slotOf64.drop 8).take 4) = 0 := by decide
  have w : Machine.linkOf (skeinStored dev).sectionPages (skeinStored dev).indexPages slotOf64 = slotLink := rfl
  have n (s : State) : s.ownSkein [0] = none := by
    rw [State.ownSkein, List.find?_eq_none]
    intro b _
    rw [short_matches]
    decide
  refine ⟨fun s => by rw [State.ownWhole, n s], ?_, ?_, by simp [manifestFor, zeroBytes]⟩
  · have q : (skeinStored dev).ownSkein (manifestFor slotOf64) = some slotOf64 := by
      simp only [State.ownSkein, k, o.2, List.find?, m]
    simp only [State.ownWhole, q, State.linkFor, State.linkWhole, List.find?, g, o.2, m, if_true, Bool.true_and, w, x, Option.map]
  · simp only [State.shareWhole, o.1, m, if_true, State.linkFor, State.linkWhole, List.find?, g, shareBase, z, y, Bool.true_and, Option.map]

/-- A device whose buddy region 1 holds a committed slot of generation 1 with its manifest's first words. -/
def buddied : State :=
  let s := regsSet (region 1 useBuddy dev) [(Reg.leConfig, Fld.leConfigBuddy, 1), (Reg.dtRegionA 1, Fld.dtRegionABase, 16)]
  let m := SMap.setList 0 s.mem (s.buddySlotAddr 0) (leBytes 4 0x4C46_444C ++ leBytes 4 slotCommitted ++ leBytes 4 1)
  { s with mem := SMap.setList 0 m (manifestAddr s.buddyBase 1) (leBytes 4 0x4C46_4D4E ++ zeroBytes 4 ++ leBytes 4 1 ++ zeroBytes 20 ++ [1]) }

/-- Of FoldsRestoresAndSnapshots: the buddy's fold. -/
theorem witness_buddy_fold : buddied.ownFoldDue = false ∧ buddied.buddyFoldDue = some 1 := by decide +kernel

/-- Of SentinelWindowsAndSamples. -/
theorem witness_sentinel :
    (late dev (2 ^ 20)).periodic tmrLadder (2 ^ 20) = true ∧ (late dev (2 ^ 20)).periodic tmrSample 1024 = true ∧
    (late dev 3515625000).periodic tmrSummary 3515625000 = true ∧ (late dev (2 ^ 47)).kindDue 0 = true ∧ (late dev 0).running = true ∧
    (late dev 0).inReset 5 = false := by decide +kernel

/-- Of TheHeartbeatAdvances: a multiple of 16,384 courses, and the course after it. -/
theorem witness_heartbeat : (late dev 16384).running = true ∧ (late dev 16384).inReset 5 = false ∧ (late dev 16384).course.toNat % 16384 = 0 ∧
    (late dev 16384).timer tmrHeartbeat ≠ (late dev 16384).course ∧ (late dev 16385).course.toNat % 16384 ≠ 0 := by decide +kernel

/-- Of FleetMessagesAndEpochs: each message, fresh in its flow; a reply holds one record. -/
theorem witness_fleet_messages : ∀ m ∈ [(1, 64), (2, 64), (3, 72), (4, 64)],
    let p := packetOf tyCtrl epRecovery (beBytes 1 m.1 ++ zeroBytes (m.2 - 1)); let s := received p (ofFour dev);
    ∃ t f, s.takeRv m.1 = some (0, p, t) ∧ t.judge p false = (.fresh, some f) ∧ (rvMessageOf p.payload).records.length = (m.2 - 64) / 8 ∧
      (let u := t.putFlow (f.take p false t.course); u.knowsOrigin 0 0 = false ∧ u.job.loaded = true ∧ u.jobState = jobRunning) := by
  intro m h
  simp only [List.mem_cons, List.not_mem_nil, or_false] at h
  rcases h with rfl | rfl | rfl | rfl <;> exact ⟨_, _, rfl, rfl, by decide +kernel⟩

/-- An abort or epoch advance of some mapping. -/
def messageOf (msg : Byte) (tag : BitVec 32) : List Byte :=
  [msg, 0, 0, 0, 0, 0, 0, 0, 0, 0, 0, 0, tag.extractLsb' 24 8, tag.extractLsb' 16 8, tag.extractLsb' 8 8, tag.extractLsb' 0 8] ++ zeroBytes 48

/-- Of FleetMessagesAndEpochs: a message may carry any mapping's tag, this job's among them. -/
theorem witness_fleet_tag (msg : Byte) (tag : BitVec 32) : (rvMessageOf (messageOf msg tag)).mappingTag = tag := by
  simp only [rvMessageOf, messageOf, beNat, List.drop, List.cons_append, List.take, List.reverse_cons, List.reverse_nil, List.nil_append, leNat]
  apply BitVec.eq_of_toNat_eq
  simp only [BitVec.toNat_ofNat, BitVec.extractLsb'_toNat, Nat.shiftRight_eq_div_pow]
  omega

/-- The device that waits for this advance since course 0. -/
def advancing (m : RvMessage) (s : State) : State := { s with rv := { s.rv with advance := some (m, 0) } }

/-- An advance whose map is this device's own, or of `n` records more. -/
def advanceOf (s : State) (n : Nat) : RvMessage := ⟨4, 0, 0, 0, 1, 0, 0, s.triples.length + n, s.mapDigest, 0, []⟩

/-- Of FleetMessagesAndEpochs: an advance that matches at an epoch below the last and at it, one that does not; an origin forgotten. -/
theorem witness_epochs :
    (∀ s : State, (advancing (advanceOf s 0) s).mapMatches (advanceOf s 0) = true) ∧
    dev.epoch ≠ 0xFFFF ∧ (regsSet dev [(Reg.ceEpoch, Fld.ceEpochEpoch, 0xFFFF)]).epoch = 0xFFFF ∧
    (∀ s : State, (advancing (advanceOf s 1) s).mapMatches (advanceOf s 1) = false) ∧
    (let s := late { dev with rv := { dev.rv with remembered := [(0, 0, 0)] } } 4096;
      (0, 0, 0) ∈ s.rv.remembered ∧ 4096 ≤ coursesSince s.course 0) ∧
    ({ dev with rv := { dev.rv with remembered := [(0, 0, 0)] } } : State).knowsOrigin 0 0 = true := by
  refine ⟨fun s => by simp [State.mapMatches, advanceOf, advancing, State.triples, State.mapDigest], by decide +kernel, by decide +kernel,
    fun s => by simp [State.mapMatches, advanceOf, advancing, State.triples], by decide +kernel, by decide +kernel⟩

/-- The device with a reset of this level due in partition 0. -/
def resetDue (level : Nat) (s : State) : State := { s with rv := { s.rv with due := [⟨level, 0, 1⟩] } }

/-- The device with a domain in a state, at a course. -/
def domained (d : DomainState) (c : Course) : State := late { dev with rv := { dev.rv with domains := [(0, d)] } } c

/-- Of DueResetsBegin: each level alone, within a chip reset, and the two that stop a running job's step. -/
theorem witness_due_resets :
    (∀ l ∈ [0, 1, 2, 3, 4], let e : ResetDue := ⟨l, 0, 1⟩; let s := resetDue l dev; let t := { s with rv := { s.rv with domains := [(5, .inReset 4 0 0 0)] } };
      s.dueAt l = some (e, e) ∧ s.abortLeaves e = false ∧ s.absorbed e = false ∧ s.mustAbort e = false ∧ s.running = true ∧
        t.dueAt l = some (e, e) ∧ t.abortLeaves e = false ∧ t.absorbed e = true) ∧
    (∀ l ∈ [3, 4], let e : ResetDue := ⟨l, 0, 1⟩; let s := resetDue l (keeping { stepOne with started := true } (ofFour dev));
      s.dueAt l = some (e, e) ∧ s.abortLeaves e = false ∧ s.absorbed e = false ∧ s.mustAbort e = true) := by decide +kernel

/-- Of OverrunningAndWatchedResets: each kind of level past its limit, the last with and without `AUTO_L5`, and a watch at its end. -/
theorem witness_resets_end :
    (∀ l ∈ [0, 1, 4], ∀ auto ∈ [0, 1], let s := regsSet (domained (.inReset l 1 0 0) (2 ^ 47)) [(Reg.rvConfig, Fld.rvConfigAutoL5, auto)];
      s.running = true ∧ s.domainState 0 = .inReset l 1 0 0 ∧ resetLimit l < s.now - 0 ∧ s.flag Reg.rvConfig Fld.rvConfigAutoL5 = decide (auto = 1)) ∧
    (let s := domained (.watch 1 1 0) 4097; s.domainState 0 = .watch 1 1 0 ∧ 4 ≤ s.samplesSince (BitVec.ofNat 48 0) ∧
      s.periodic tmrSample 1024 = false ∧ s.rv.due = []) := by decide +kernel

/-- The device isolating context 0, these contexts still to run. -/
def isolating (queue : List Nat) : State :=
  { dev with rv := { dev.rv with isolation := some ⟨0, queue, some 0, 0, [0], [0], [], [], 1⟩ } }

/-- Of DumpsAndIsolationsGoOn: a dump whose first unit is late, with another after it and without; a suspect that is over, with another
after it and without. -/
theorem witness_dumps :
    (∀ rest ∈ [[], [(1, 8)]], let t : Dumping := ⟨0, ⟨1, 0, 0, 0, [], false⟩, (0, 8) :: rest, 0⟩;
      let s := late { dev with rv := { dev.rv with dumping := some t } } 98;
      s.rv.dumping = some t ∧ t.toRead[0]? = some (0, 8) ∧ 98 ≤ coursesSince s.course t.turn ∧ (s.readUnits 0).rv.dumping = some t) ∧
    (∀ q ∈ [[], [1]], (isolating q).rv.isolation = some ⟨0, q, some 0, 0, [0], [0], [], [], 1⟩ ∧ (isolating q).ctxState 0 ≠ ctxReady) := by
  decide +kernel

/-- The host link up and commands open. -/
def hosted (s : State) : State := { s with hp := { s.hp with linkUp := true, localOk := true, globalOk := true }, co := { s.co with commands := true } }

/-- A plain frame of 64 bytes to the link-local address, the global one or by IPv4. -/
def frameTo (to_ : Fin 3) : Frame := ⟨⟨0, 0, true⟩, 64, 9216, .plain, to_, true⟩

/-- A frame that is too long. -/
def longFrame (to_ : Fin 3) : Frame := { frameTo to_ with len := 9217 }

/-- Of HostFramesAreTaken: the link coming up at the first and last phases that allow it; detection over; a frame for each address,
in use and not, which passes or does not, with an address under detection and not. -/
theorem witness_host_link :
    (∀ ph ∈ [3, 8], let s := regsSet dev [(Reg.castonStatus, Fld.castonStatusPhase, ph)];
      s.running = true ∧ s.hp.linkUp = false ∧ s.inReset 4 = false ∧ s.inReset 5 = false ∧ s.fld Reg.castonStatus Fld.castonStatusPhase = ph) ∧
    (let s := late { hosted dev with hp := { (hosted dev).hp with dadRetryAt := some 1, dadLocal := true, dadGlobal := true } } 1;
      s.portHUp = true ∧ s.hp.dadRetryAt = some 1 ∧ reached s.course 1 = true ∧ s.hp.dadLocal = true ∧ s.hp.dadGlobal = true) ∧
    (∀ to_ : Fin 3, ∀ v : Bool,
      let s := { regsSet (hosted dev) [(Reg.hpConfig, Fld.hpConfigIpv4En, bit v)] with
        hp := { (hosted dev).hp with localOk := v, globalOk := v, dadLocal := !v, dadGlobal := !v } };
      s.portHUp = true ∧ (s.unprotect (frameTo to_)).2 = true ∧ (s.unprotect (frameTo to_)).1.addressed (frameTo to_) = v ∧
        (s.unprotect (longFrame to_)).2 = false ∧ (s.unprotect (frameTo to_)).1.hp.dadLocal = !v ∧ (s.unprotect (frameTo to_)).1.hp.dadGlobal = !v ∧
        (s.unprotect (frameTo to_)).1.hp.echoes = []) := by decide +kernel

/-- Of HostFramesAreTaken: a datagram that is received, one that is not, and an announcement, the first and one a second on. -/
theorem witness_host_commands :
    (let s := hosted dev; s.hostOpen = true ∧ (s.receive (frameTo 0) 0).2 = true ∧ (s.receive (frameTo 0) 0).1.addressed (frameTo 0) = true ∧
      (s.receive (longFrame 0) 0).2 = false) ∧
    (∀ a ∈ [none, some 0], let s := late { regsSet (hosted dev) [(Reg.hpConfig, Fld.hpConfigAnnounce, 1)] with
        hp := { (hosted dev).hp with announcedAt := a } } 976563;
      s.hostOpen = true ∧ s.hp.session = none ∧ s.flag Reg.hpConfig Fld.hpConfigAnnounce = true ∧ s.hp.localOk = true ∧ s.hp.announcedAt = a ∧
        0 + 2_500_000_000 ≤ s.now) := by decide +kernel

/-- Of HostFlowControl: priorities 0 and 1 of the two classes; a class held off, at the threshold, above it, and at the repeat. -/
theorem witness_flow :
    (let s := regsSet (hosted dev) [(Reg.hpConfig, Fld.hpConfigPcpBulk, 1)];
      s.portHUp = true ∧ ∀ n : Fin 4, bitOf (BitVec.ofNat 8 n.val) (s.priorityOf 0) = decide (n.val % 2 = 1) ∧
        bitOf (BitVec.ofNat 8 n.val) (s.priorityOf 1) = decide (2 ≤ n.val)) ∧
    (∀ b : Bool, let s := late { hosted dev with hp := { (hosted dev).hp with xoffCmd := true, xoffBulk := true } } 20;
      s.xoff (bit b) = true ∧ SMap.get 0 s.hp.lastXoff (bit b) + 50000 ≤ s.now ∧ xonAbove (bit b) < xonAbove (bit b) + 1) ∧
    (let s := regsSet dev [(Reg.hpStatus, Fld.hpStatusPaused, 1)];
      s.running = true ∧ s.fld Reg.hpStatus Fld.hpStatusPaused ≠ bit (s.hpPaused 0) + 2 * bit (s.hpPaused 1)) := by decide +kernel

/-- A host session without frames so far. -/
def sessionOf : Session := ⟨1, [], 0, 1, [], some 1, some 0, true, [], 0⟩

/-- A queue pair that expects sequence number 5, of an MTU of 1024 bytes, within this message. -/
def pairOf (m : Option (Nat × Nat)) : QueuePair := ⟨1, 5, 5, 1024, false, 1024, 0, none, m, 0, [], 0⟩

/-- The device in a session, with this queue pair 2, its window 0 open to writes, these WRITE packets that wait, and partition 0 in a
reset or not. -/
def pairedWith (m : Option (Nat × Nat)) (held : List HeldWrite) (r : Bool) : State :=
  { regsSet (hosted dev) [(Reg.hpWindowA 0, Fld.hpWindowAValid, 1), (Reg.hpWindowA 0, Fld.hpWindowAWrite, 1), (Reg.hpWindowB 0, Fld.hpWindowBLen, 1)] with
    hp := { (hosted dev).hp with session := some sessionOf, qps := [(2, some (pairOf m))], heldWrites := held }
    rv := { dev.rv with domains := if r then [(0, .inReset 2 0 0 0)] else [] } }

/-- The device in a session, with queue pair 2 open. -/
def paired : State := pairedWith none [] false

/-- A frame of that session to the link-local address. -/
def securedFrame : Frame := { frameTo 0 with prot := .macsec (some (macsecKeys [] false)) 0 1 }

/-- The session accepts the frame. -/
theorem secured_accepted : sessionOf.accepts (some (macsecKeys [] false)) 0 1 0 = true := by
  simp [Session.accepts, Session.keysFor, sessionOf, Session.inWindow, SMap.get]

/-- The state after that frame's reception. -/
def securedAfter (m : Option (Nat × Nat)) (held : List HeldWrite) (r : Bool) : State :=
  { (pairedWith m held r).setRoom 1 9152 with hp := { ((pairedWith m held r).setRoom 1 9152).hp with session := some (sessionOf.heard 0 1 0) } }

/-- It is received so. -/
theorem secured_received (m : Option (Nat × Nat)) (held : List HeldWrite) (r : Bool) :
    (pairedWith m held r).receive securedFrame 1 = (securedAfter m held r, true) := by
  unfold State.receive
  rw [if_neg (by decide)]
  have l : (State.setRoom (pairedWith m held r) 1 (securedFrame.room - securedFrame.len)).lapseSession =
      State.setRoom (pairedWith m held r) 1 (securedFrame.room - securedFrame.len) := if_neg (by decide : ¬ sessionOf.over 0 = true)
  unfold State.unprotect
  simp only [l]
  rw [if_neg (by decide)]
  exact if_pos secured_accepted

/-- Of QueuePairsOfTheHost: a frame of the session, within a message or not, with requests that wait and without, with memory in a reset
and not. -/
theorem witness_queue_pairs (m : Option (Nat × Nat)) (held : List HeldWrite) (r : Bool) :
    (pairedWith m held r).hostOpen = true ∧ (pairedWith m held r).hp.session ≠ none ∧
      (pairedWith m held r).receive securedFrame 1 = (securedAfter m held r, true) ∧ (securedAfter m held r).addressed securedFrame = true ∧
      (securedAfter m held r).qp 2 = some (pairOf m) ∧ (pairOf m).error = false ∧ (securedAfter m held r).memWaits 0 64 = r ∧
      (securedAfter m held r).hp.heldWrites = held := by
  cases r <;> exact ⟨rfl, by simp [pairedWith], secured_received m held _, rfl, rfl, rfl, rfl, rfl⟩

/-- Of QueuePairsOfTheHost: in those states a request is admitted by a key's window or not. -/
theorem witness_queue_keys : ∀ held ∈ [[], [⟨2, ⟨0, 0, true⟩, 1, 0, [], 4, true⟩]], ∀ r : Bool,
    (securedAfter none held r).rdmaAllowed true ⟨2, 5, false, 0, 0, 64⟩ = true ∧
      (securedAfter none held r).rdmaAllowed true ⟨2, 5, false, 0, 1, 64⟩ = false := by
  intro held h r
  simp only [List.mem_cons, List.not_mem_nil, or_false] at h
  rcases h with rfl | rfl <;> cases r <;> decide +kernel

/-- Of QueuePairsOfTheHost: a number behind the one expected and one ahead; parts that fit and one that does not; a pair due for its
rise. -/
theorem witness_queue_numbers :
    behind 4 5 = true ∧ (4 : BitVec 24) ≠ 5 ∧ behind 6 5 = false ∧ (6 : BitVec 24) ≠ 5 ∧
    partFits (pairOf none) .only ⟨2, 5, false, 0, 0, 64⟩ 64 = true ∧ partFits (pairOf none) .first ⟨2, 5, false, 0, 0, 1025⟩ 1024 = true ∧
    partFits (pairOf (some (0, 1025))) .middle ⟨2, 5, false, 0, 0, 0⟩ 1024 = true ∧
    partFits (pairOf (some (0, 64))) .last ⟨2, 5, false, 0, 0, 0⟩ 64 = true ∧ partFits (pairOf none) .last ⟨2, 5, false, 0, 0, 64⟩ 64 = false ∧
    ((late paired 64).rateDue).isSome = true := by decide +kernel

/-- Of SessionsGrantsAndLeasesEnd, each at its last course. -/
theorem witness_endings :
    (let s := { dev with hp := { dev.hp with session := some sessionOf } };
      s.running = true ∧ s.hp.session = some sessionOf ∧ sessionOf.previousUntil = some 0 ∧ reached s.course 0 = true ∧
        16777216 ≤ coursesSince (late s 16777216).course sessionOf.lastFrame) ∧
    (let s := late { dev with hp := { dev.hp with opening := some ⟨[], [], [], 1, 0⟩ } } 65536;
      s.hp.opening = some ⟨[], [], [], 1, 0⟩ ∧ 65536 ≤ coursesSince s.course 0) ∧
    (let s := late { dev with rt := { dev.rt with approval := some ⟨[], 1, 0, 0⟩, grant := some ⟨[], 0⟩ } } 585939;
      s.rt.approval = some ⟨[], 1, 0, 0⟩ ∧ 585938 < coursesSince s.course 0 ∧ s.rt.grant = some ⟨[], 0⟩ ∧ 65536 ≤ coursesSince s.course 0) ∧
    (let r : ResultSlot := ⟨false, false, 1, 0, 0, 0, 0, 4, []⟩;
      ∀ n ∈ [0, 63], let s := late { dev with cmd := { dev.cmd with results := [(n, some r)] } } 4;
        s.resultSlot n = some r ∧ r.isPartial = false ∧ reached s.course r.leaseEnd = true) := by decide +kernel

/-- A device powered up but not yet released. -/
def unreleased : State := { dev with pm := { dev.pm with perstN := false, powerOk := true } }

/-- A device in a phase of cast-on for a time. -/
def phased (phase time : Nat) : State :=
  { regsSet dev [(Reg.castonStatus, Fld.castonStatusPhase, phase)] with co := { dev.co with active := true, elapsed := time } }

/-- Of CastOnBeginsAndRuns: the edges, a phase at its time and past it, phase 1 with erased flash, phase 6 at the swatches' time, a pulse
at half its period. -/
theorem witness_caston :
    (unreleased.pm.perstN = false ∧ unreleased.tripped = false) ∧
    ({ unreleased with tripped := true } : State).tripped = true ∧
    (let s := { dev with pm := { dev.pm with perstN := true, powerOk := true } }; s.pm.perstN = true ∧ s.pm.powerOk = true) ∧
    (∀ late_ ∈ [0, 1], let s := phased 0 (250000000 + late_);
      s.inPhase = true ∧ s.phase = 0 ∧ s.phaseMax s.phase = 250000000 ∧ s.phaseTime = 250000000 + late_) ∧
    (let s := phased 1 2000000000; s.inPhase = true ∧ s.phase = 1 ∧ s.phaseTime ≤ s.phaseMax s.phase ∧ s.flashTime ≤ s.phaseTime) ∧
    (let s := phased 6 1250000000; s.inPhase = true ∧ s.phase = 6 ∧ s.phaseTime ≤ s.phaseMax s.phase ∧ 1250000000 ≤ s.phaseTime) ∧
    (let s := { dev with pm := { dev.pm with perstN := true, powerOk := true, faultPulsing := true }, co := { dev.co with elapsed := 25000000 } };
      s.pm.powerOk = true ∧ s.pm.perstN = true ∧ s.tripped = false ∧ s.pm.faultPulsing = true ∧ 25000000 ≤ s.co.elapsed - s.pm.pulseAt) := by
  decide +kernel

/-- The core rails up, at a course. -/
def railed (c : Course) : State := late (regsSet dev [(Reg.pmRail 0, Fld.pmRailSetpoint, 700), (Reg.pmConfig, Fld.pmConfigTjThrottle, 95)]) c

/-- The readings of a die and a stack, in sixteenths of a degree. -/
def warmed (die stack : Nat) (s : State) : State :=
  { s with pm := { s.pm with dieTemp := [(0, BitVec.ofNat 16 die)], stackTemp := [(0, BitVec.ofNat 16 stack)] } }

/-- Of ThermalLimitSteps: at the throttle, a stack at 95 degrees, below both bands, and between. -/
theorem witness_thermal :
    (let s := warmed (95 * 16) 0 (railed 16); s.powered = true ∧ s.course.toNat % 16 = 0 ∧ s.timer tmrThermal ≠ s.course ∧
      s.pm.thermalLimit = 16 ∧ (s.fld Reg.pmConfig Fld.pmConfigTjThrottle : Int) * 16 ≤ s.junction) ∧
    (95 * 16 ≤ (warmed 0 (95 * 16) (railed 16)).hottestStack) ∧
    (let s := warmed (93 * 16 - 1) (93 * 16 - 1) (railed 16);
      s.junction < (s.fld Reg.pmConfig Fld.pmConfigTjThrottle : Int) * 16 - 2 * 16 ∧ s.hottestStack < 93 * 16) ∧
    (let s := warmed (93 * 16) 0 (railed 16);
      ¬ ((s.fld Reg.pmConfig Fld.pmConfigTjThrottle : Int) * 16 ≤ s.junction ∨ 95 * 16 ≤ s.hottestStack) ∧
        ¬ (s.junction < (s.fld Reg.pmConfig Fld.pmConfigTjThrottle : Int) * 16 - 2 * 16 ∧ s.hottestStack < 93 * 16)) := by decide +kernel

/-- The device with one sample of the first bus. -/
def sampled (n : Nat) : State := { railed 1024 with pm := { (railed 1024).pm with samples0 := [n] } }

/-- Of PowerIsSampledAndLimited: each period, and the average above, below 0.95 of and just under the envelope. -/
theorem witness_power :
    (∀ b : Fin 2, (railed 16).powered = true ∧ (railed 16).periodic (tmrAvs b.val) 16 = true) ∧
    ((railed 1024).periodic tmrEnvelope 1024 = true ∧ ∀ p : Fin 4, (railed 1024).periodic (tmrSetpoint p.val) 1024 = true) ∧
    (let s := sampled 100000000; s.envelopeWatts * 20000 * s.averagePower.2 < s.averagePower.1) ∧
    (let s := sampled 0; ¬ s.envelopeWatts * 20000 * s.averagePower.2 < s.averagePower.1 ∧
      20 * s.averagePower.1 < 19 * (s.envelopeWatts * 20000) * s.averagePower.2) ∧
    (let s := sampled (4500 * 20000 - trayAllowance); ¬ s.envelopeWatts * 20000 * s.averagePower.2 < s.averagePower.1 ∧
      ¬ 20 * s.averagePower.1 < 19 * (s.envelopeWatts * 20000) * s.averagePower.2) ∧
    (dev.running = true ∧ (late dev 1).periodic tmrJunction 1 = true) := by decide +kernel

/-- A command of opcode `op`, from a host. -/
def slotOf (op : BitVec 16) (body : List Byte) : CmdSlot := ⟨⟨0, 0, true⟩, 1, op, body, true, none⟩

/-- A ready device with this command first in the queue. -/
def commanding (op : Nat) (body : List Byte) (s : State) : State :=
  { regsSet s [(Reg.castonStatus, Fld.castonStatusPhase, 7)] with
    cmd := { s.cmd with queue := [slotOf (BitVec.ofNat 16 op) body] } }

/-- The interpreter can carry out a first command of this opcode. -/
def canRun (op : Nat) (s : State) : Bool :=
  (match s.cmd.queue with
    | [c] => decide (c.opcode.toNat = op)
    | _ => false) && s.running && s.interpreted && !s.inReset 4 && !s.inReset 5 && s.cmd.reading.isNone && s.ready

/-- What `canRun` says. -/
theorem commanded_of_canRun {op : Nat} {s : State} (h : canRun op s = true) : ∃ c, s.commanded op c [] := by
  unfold canRun at h
  split at h
  · next c hc =>
    simp only [Bool.and_eq_true, decide_eq_true_eq, Bool.not_eq_true'] at h
    obtain ⟨⟨⟨⟨⟨⟨h1, h2⟩, h3⟩, h4⟩, h5⟩, h7⟩, h6⟩ := h
    exact ⟨c, hc, h1, h2, h3, h4, h5, Option.isNone_iff_eq_none.1 h7, Or.inl h6⟩
  · simp at h

/-- Of CommandsAreRefusedFirst: a command before READY, one of a wrong length, one of another opcode. -/
theorem witness_refused_first :
    (let s := regsSet (commanding 0x20 [] dev) [(Reg.castonStatus, Fld.castonStatusPhase, 6)];
      s.running = true ∧ s.interpreted = true ∧ s.inReset 4 = false ∧ s.inReset 5 = false ∧ s.ready = false ∧ earlyClass 0x20 = false) ∧
    canRun 0x20 (commanding 0x20 [0] dev) = true ∧ [(0 : Byte)].length ≠ 66 ∧ (0x20 : Nat) ≠ 0x21 ∧ dev.cmd.queue = [] ∧
    ({ dev with rv := { dev.rv with domains := [0, 1, 2, 3].map (fun p => (p, .inReset 2 0 0 0)) } } : State).interpreted = false ∧
    ({ dev with cmd := { dev.cmd with reading := some ⟨slotOf 0x10 [], []⟩ } } : State).cmd.reading ≠ none := by decide +kernel

/-- Of TheAnswerOfACommand: a refusal for want of a slot, a command whose reply is kept and one whose reply is not, one counted at its
answer and one not, and a new command and a repeated one. -/
theorem witness_answer : stOk ≠ stNoResultSlot ∧ readClass 0x01 = true ∧ readClass 0x20 = false ∧ takesSlot 0x25 = true ∧ takesSlot 0x20 = false ∧
    (slotOf 0x25 []).prior = none ∧ ({ slotOf 0x25 [] with prior := some dev.cmd.seqOpen } : CmdSlot).prior = some dev.cmd.seqOpen ∧
    opcodes.contains 0x20 = true ∧ opcodes.contains 0x1F = false := by decide

/-- The device in a session. -/
def inSession (s : State) : State := { s with hp := { s.hp with session := some sessionOf } }

/-- Context 0 in a state. -/
def ctxIn (st : Nat) (s : State) : State := regsSet s [(Reg.ctxControl 0, Fld.ctxControlState, st)]

/-- A mapping of a job along the first axis of a torus of four. -/
def mappingBytes : List Byte := [1, 0, 0, 3, 3, 0, 3, 0, 3, 0, 3, 0, 0, 1, 4, 0] ++ zeroBytes 48

/-- Of SessionAndJobCommands: each row with a body of the right length in a state that allows it. -/
theorem witness_session_and_job :
    (∀ p ∈ [(0x01, 0), (0x02, 0), (0x03, 32)], canRun p.1 (commanding p.1 (zeroBytes p.2) dev) = true ∧ (zeroBytes p.2).length = p.2) ∧
    (∀ op ∈ [0x06, 0x07], canRun op (commanding op [] (inSession dev)) = true ∧ (inSession dev).hp.session ≠ none) ∧
    (let c := slotOf 0x10 (beBytes 8 controlBase ++ [0, 63]);
      c.body.length = 10 ∧ c.arg 8 2 + 1 = 64 ∧ inControl (c.arg 0 8) (c.arg 8 2 + 1) = true ∧ canRun 0x10 (commanding 0x10 c.body dev) = true) ∧
    (let c := slotOf 0x11 ([0] ++ beBytes 8 controlBase ++ zeroBytes 8);
      c.arg 0 1 < 64 ∧ c.body.length = 1 + 16 * (c.arg 0 1 + 1) ∧ c.pairsInside = true ∧ c.writeAgreed = true ∧ canRun 0x11 (commanding 0x11 c.body dev) = true) ∧
    (let c := slotOf 0x20 (mappingBytes ++ [0, 1]);
      let s := regsSet (commanding 0x20 c.body dev) [(Reg.prTorus, Fld.prTorusValid, 1), (Reg.prTorus, Fld.prTorusXnM1, 3)];
      canRun 0x20 s = true ∧ c.body.length = 66 ∧ mappingFormed (c.body.take 64) = true ∧
        (s.popped []).jobBusy (BitVec.ofNat 16 (c.arg 64 2)) = false ∧ (s.popped []).mappingFits (c.body.take 64) = true) ∧
    (let s := commanding 0x21 [] (ofFour dev); canRun 0x21 s = true ∧ (s.popped []).anyArmed = false ∧ s.le.cuts = [] ∧ s.le.fill = none ∧
      s.le.restore = none) ∧
    (let c := slotOf 0x22 (zeroBytes 26); let s := commanding 0x22 c.body dev;
      canRun 0x22 s = true ∧ c.body.length = 26 ∧ c.arg 0 1 < 16 ∧ c.arg 1 8 % 16 = 0 ∧ c.arg 22 4 / 16 % 8 = 0 ∧ (s.popped []).ctxState 0 = ctxFree ∧
        (c.arg 14 4 + c.arg 18 4) * 0x1_0000 ≤ 0xC0_0000) ∧
    (∀ st ∈ [ctxHalted, ctxFaulted], canRun 0x23 (commanding 0x23 [0] (ctxIn st dev)) = true ∧ (ctxIn st dev).ctxState 0 = st) ∧
    (canRun 0x24 (commanding 0x24 (zeroBytes 6) (ctxIn ctxReady dev)) = true ∧ (ctxIn ctxReady dev).ctxState 0 = ctxReady) := by decide +kernel

/-- Of SessionAndJobCommands: a read of the most words, and one with its last words to come, many or few. -/
theorem witness_long_read :
    (let c := slotOf 0x10 (beBytes 8 controlBase ++ [7, 0xFF]); canRun 0x10 (commanding 0x10 c.body dev) = true ∧ c.body.length = 10 ∧
      64 < c.arg 8 2 + 1 ∧ c.arg 8 2 + 1 ≤ 2048 ∧ inControl (c.arg 0 8) (c.arg 8 2 + 1) = true) ∧
    ((slotOf 0x10 (beBytes 8 controlBase ++ [7, 0xFF])).arg 8 2 + 1 = 2048 ∧ ∀ n : Nat, (zeroBytes (8 * n)).length / 8 = n) := by
  refine ⟨by decide +kernel, by decide +kernel, fun n => ?_⟩
  simp only [zeroBytes, List.length_replicate]
  omega

/-- A change record of one write, its device digest of these bytes. -/
def changeRecordOf (b : Byte) : List Byte :=
  beBytes 4 0x4D444E41 ++ [0, 1, 0, 1] ++ List.replicate 16 b ++ zeroBytes 16 ++ beBytes 8 (controlBase + Reg.rtDebug) ++ zeroBytes 8

/-- The one of zeros. -/
def changeRecord : List Byte := changeRecordOf 0

/-- Of SessionsAreOpenedAndApproved. -/
theorem witness_opened :
    (canRun 0x04 (commanding 0x04 (zeroBytes 152) dev) = true ∧ beNat (((zeroBytes 152).drop 145).take 7) = 0 ∧ dev.hp.session = none) ∧
    (let s := commanding 0x05 (zeroBytes 148) { dev with hp := { dev.hp with opening := some ⟨[], [], [], 1, 0⟩ } };
      canRun 0x05 s = true ∧ (s.popped []).openingNow = some ⟨[], [], [], 1, 0⟩ ∧ (s.popped []).hostKeyRefused [] = false) ∧
    (let c := slotOf 0x08 (zeroBytes 8 ++ [0, 56] ++ changeRecord ++ zeroBytes 114);
      canRun 0x08 (commanding 0x08 c.body dev) = true ∧ (c.body.drop 10).take (c.arg 8 2) = changeRecord ∧ c.arg 0 1 < 2 ∧ c.arg 1 7 = 0 ∧
        c.body.length = 10 + c.arg 8 2 + 114 ∧ recordFormed changeRecord = true) ∧
    (let c := slotOf 0x09 ([0, 1] ++ zeroBytes 250); let s := commanding 0x09 c.body (dev.setReg (Reg.rtKey 0 0) 1);
      canRun 0x09 s = true ∧ c.body.length = 252 ∧ c.arg 0 2 ≠ 0 ∧ (s.popped []).rt.jobKeys = [] ∧ (s.popped []).enrolled 0 = true) := by decide +kernel

/-- A `CS_WRITE` of one register. -/
def writing (a : Nat) : CmdSlot := slotOf 0x11 ([0] ++ beBytes 8 (controlBase + a) ++ zeroBytes 8)

/-- The device whose roots of trust do not agree on the first command. -/
def disagreeing (s : State) : State :=
  { s with cmd := { s.cmd with queue := s.cmd.queue.map (fun (c : CmdSlot) => { c with agree := false }) } }

/-- Of SessionsAreOpenedAndApproved: commands on whose outcome the roots of trust do not agree; a record names another device. -/
theorem witness_disagreements :
    (∀ p ∈ [(0x03, 32), (0x04, 152)], let s := disagreeing (commanding p.1 (zeroBytes p.2) dev); canRun p.1 s = true ∧
      s.cmd.queue.map (fun c => (c.agree, c.body.length, c.arg 145 7)) = [(false, p.2, 0)] ∧ (s.popped []).lapseSession.hp.session = none) ∧
    (let s := disagreeing (commanding 0x06 [] (inSession dev)); canRun 0x06 s = true ∧ s.cmd.queue.map (fun c => (c.agree, c.body.length)) = [(false, 0)] ∧
      (s.popped []).hp.session ≠ none) ∧
    (let s := disagreeing (commanding 0x11 (writing Reg.rtDebug).body dev); canRun 0x11 s = true ∧
      s.cmd.queue.map CmdSlot.writeAgreed = [false] ∧ (writing Reg.rtDebug).pairsInside = true) ∧
    (∀ b ∈ [0, 1], recordFormed (changeRecordOf b) = true ∧ (((changeRecordOf b).drop 8).take 16) = List.replicate 16 b) ∧
    ∃ b ∈ [0, 1], List.replicate 16 b ≠ keyDigest identityKey := by
  refine ⟨by decide +kernel, by decide +kernel, by decide +kernel, by decide +kernel, ?_⟩
  by_cases h : List.replicate 16 (0 : Byte) = keyDigest identityKey
  · exact ⟨1, by simp, by rw [← h]; decide⟩
  · exact ⟨0, by simp, h⟩

/-- A step, a course and a kind of replay. -/
def replayBytes (diag : Byte) : List Byte := [0, 0, 0, 1] ++ beBytes 8 17 ++ [diag, 0]

/-- Of DeferredCommandsTakeASlot: each row in a state that allows it, with a free slot. -/
theorem witness_deferred :
    (canRun 0x25 (commanding 0x25 (zeroBytes 13) dev) = true ∧ ((commanding 0x25 (zeroBytes 13) dev).popped []).freeResult = some 0) ∧
    (let s := commanding 0x31 (replayBytes 0) (keeping stepOne (ofFour dev));
      canRun 0x31 s = true ∧ (s.popped []).job.loaded = true ∧ (s.popped []).jobState = jobRunning ∧ (s.popped []).replayStatus 1 17 = stOk ∧
        beNat (((replayBytes 0).drop 4).take 8) = 17 ∧ beNat (((replayBytes 0).drop 12).take 1) = 0) ∧
    (∀ p ∈ [(0x41, 4), (0x42, 0)], canRun p.1 (commanding p.1 (zeroBytes p.2) dev) = true ∧
      ((commanding p.1 (zeroBytes p.2) dev).popped []).leBusy = false ∧ ((commanding p.1 (zeroBytes p.2) dev).popped []).bars = false) ∧
    (canRun 0xA0 (commanding 0xA0 [] (ofFour dev)) = true ∧ ((commanding 0xA0 [] (ofFour dev)).popped []).bindOffBarred = false) ∧
    (let s := commanding 0x31 (replayBytes 1) (regsSet (ctxIn ctxHalted dev) [(Reg.ctxControl 0, Fld.ctxControlDiag, 1)]);
      canRun 0x31 s = true ∧ (s.popped []).isDiag 0 = true ∧ (s.popped []).ctxState 0 = ctxHalted ∧ (s.popped []).cmd.diagnosis = none ∧
        (s.popped []).farEnough 17 0 = true ∧
        (s.popped []).freeEntry (ctxPartition 0) = some 0 ∧ (s.popped []).freeResult = some 0) ∧
    (∀ k ∈ [0, 1], let s := { dev with cmd := { dev.cmd with staging := [⟨0, k, 0, 64⟩] } };
      s.running = true ∧ s.cmd.staging = [⟨0, k, 0, 64⟩] ∧ s.poisoned 0 64 = false ∧
        ({ s with poison := NatSet.put [] 0 true } : State).poisoned 0 64 = true) ∧
    (let s := { dev with cmd := { dev.cmd with bindOff := some 0 } }; s.running = true ∧ s.inReset 5 = false ∧ s.cmd.bindOff = some 0) := by
  decide +kernel

/-- Of DeferredCommandsTakeASlot: no slot is free. -/
theorem witness_no_slot : (let full := (List.range 64).map (fun n => (n, some (⟨false, false, 1, 0, 0, 0, 0, 4, []⟩ : ResultSlot)));
    ({ dev with cmd := { dev.cmd with results := full } } : State).freeResult = none) := by decide +kernel

/-- A device of a running job with a journal region and a general one. -/
def journalling : State := regsSet (region 1 0 (region 0 useJournal (ofFour dev))) [(Reg.skConfig, Fld.skConfigSlotSize, 1)]

/-- The body that arms step 1 at course 17 with one granule. -/
def armBytes : List Byte := [0, 0, 0, 1] ++ beBytes 8 17 ++ zeroBytes 8 ++ [0, 0, 0, 1] ++ zeroBytes 64

/-- The isolation of a suspect whose report is awaited. -/
def isolated : Isolation := ⟨0, [], none, 0, [0], [0], [], [], 1⟩

/-- Of StepAndLifelineCommands: each row in a state that allows it. -/
theorem witness_step_commands :
    (let s := commanding 0x30 armBytes journalling;
      canRun 0x30 s = true ∧ armBytes.length = 88 ∧ (s.popped []).stepArmStatus 1 17 0 1 = stOk ∧ beNat ((armBytes.drop 4).take 8) = 17) ∧
    (let s := commanding 0x33 [0, 0] (eventAt 0 actStepStart dev); canRun 0x33 s = true ∧ (s.popped []).evArmed 0 0 = true ∧ (s.popped []).evDue 0 0 = false ∧
      (late (s.popped []) 16).evArmed 0 0 = true ∧ (late (s.popped []) 16).evDue 0 0 = true) ∧
    (let s := commanding 0x40 [0, 0, 0, 1] (cutting [] dev); canRun 0x40 s = true ∧ (s.popped []).leEnabled = true ∧ (s.popped []).endPassed 1 = false) ∧
    (let s := commanding 0x50 (zeroBytes 8) (regsSet dev [(Reg.rvStatus, Fld.rvStatusJobState, jobAborted)]);
      canRun 0x50 s = true ∧ (s.popped []).jobState = jobAborted ∧ (s.popped []).epoch ≠ 0xFFFF) ∧
    (∀ p ∈ [(0x43, 2), (0x51, 2), (0x53, 9), (0x54, 1)], canRun p.1 (commanding p.1 (zeroBytes p.2) dev) = true ∧ (zeroBytes p.2).length = p.2) ∧
    (let c := slotOf 0x32 ([4, BitVec.ofNat 8 actSnapshot, 0] ++ beBytes 8 17 ++ zeroBytes 6); let s := commanding 0x32 c.body dev;
      canRun 0x32 s = true ∧ (s.popped []).freeEntry (c.arg 0 1) = some 0 ∧ c.body.length = 17 ∧ c.arg 1 1 ≠ actOverlaySwitch ∧
        hostActions.contains (c.arg 1 1) = true ∧ actionAdmitted (c.arg 0 1) (c.arg 1 1) = true ∧ c.arg 1 1 ≠ actSwatchWindow ∧
        (s.popped []).farEnough (BitVec.ofNat 48 (c.arg 3 8)) (c.arg 11 2) = true) ∧
    (let s := commanding 0x52 [0, 1] { dev with rv := { dev.rv with isolation := some isolated } };
      canRun 0x52 s = true ∧ (s.popped []).rv.isolation = some isolated ∧ isolated.awaiting.contains 0 = true ∧ isolated.current = none ∧
        ({ isolated with current := some 1 } : Isolation).current.isSome = true) := by decide +kernel

/-- A stream of context 0. -/
def withStream (v : Stream) (s : State) : State := { s with cmd := { s.cmd with streams := [(0, some v)] } }

/-- The device that holds a complete result in slot 0. -/
def withResult (s : State) : State := { s with cmd := { s.cmd with results := [(0, some ⟨false, false, 1, 0, 0, 0, 0, 4, []⟩)] } }

/-- Of BookAndHostCommands: each row in a state that allows it. -/
theorem witness_books :
    (canRun 0x60 (commanding 0x60 (zeroBytes 10 ++ [1]) dev) = true ∧ beNat (((zeroBytes 10 ++ [1]).drop 9).take 2) = 1) ∧
    (canRun 0x61 (commanding 0x61 [0, 1] dev) = true ∧ canRun 0x62 (commanding 0x62 [0, 1] dev) = true) ∧
    (let s := commanding 0x70 (zeroBytes 9 ++ [3]) dev;
      canRun 0x70 s = true ∧ beNat (((zeroBytes 9 ++ [3]).drop 9).take 1) = 3 ∧ qpNumbers.find? (fun n => ((s.popped []).qp n).isNone) = some 2) ∧
    (let s := commanding 0x71 [0, 0, 2] paired; canRun 0x71 s = true ∧ (s.popped []).qp 2 ≠ none) ∧
    (let s := commanding 0x80 (zeroBytes 23) { ctxIn ctxHalted dev with cfg := { dev.cfg with mode := .serve } };
      canRun 0x80 s = true ∧ inPartitionHbm (ctxPartition 0) 0 (areaBytes 0) = true ∧ s.cfg.mode = .serve ∧ (s.popped []).ctxState 0 = ctxHalted ∧
        (∀ i < 16, (s.popped []).stream i = none) ∧ (s.popped []).freeResult = some 0) ∧
    (∀ f : Bool, let v := { streamOf [] none with faulted := f }; let b := zeroBytes 10 ++ beBytes 8 (tierBase 0) ++ [0, 0, 0, 64] ++ zeroBytes 12;
      let s := commanding 0x81 b (withStream v (regsSet (region 0 useGeneral dev) [(Reg.dtRegionA 0, Fld.dtRegionABase, tierBase 0 / 0x10000)]));
      canRun 0x81 s = true ∧ b.length = 2 + 32 * 1 ∧ (s.popped []).stream 0 = some v ∧ v.closing = false ∧
        (s.popped []).inGeneral (requestAt b 0 s.now).input (requestAt b 0 s.now).len = true) ∧
    (let s := commanding 0x82 [0] (withStream (streamOf [] none) dev); canRun 0x82 s = true ∧ (s.popped []).stream 0 = some (streamOf [] none)) ∧
    (let s := withResult dev; s.heldResult 0 = some ⟨false, false, 1, 0, 0, 0, 0, 4, []⟩ ∧ canRun 0x90 (commanding 0x90 (zeroBytes 13) s) = true ∧
      canRun 0x91 (commanding 0x91 (zeroBytes 5) s) = true) := by decide +kernel

/-- Of RegisterWriteRows: a register of each kind. -/
theorem witness_register_writes : ∀ p ∈ [(Reg.rvConfig, WriteKind.generic), (Reg.rtDebug, .protected_), (Reg.prAlias 0, .alias_),
    (Reg.dtRegionA 0, .region), (Reg.skConfig, .keeper), (Reg.leConfig, .enable), (Reg.leDomain, .domain), (Reg.hpWindowB 31, .window),
    (Reg.hpIpv6Lo, .ipv6), (Reg.scrubHours, .scrub), (Reg.tbFeventB 63, .event), (Reg.ceQueue 15, .context), (Reg.pmConfig, .thermal),
    (Reg.snSuspect 31, .suspect)],
    (writing p.1).arg 0 1 < 64 ∧ (writing p.1).body.length = 1 + 16 * ((writing p.1).arg 0 1 + 1) ∧ (writing p.1).pairsInside = true ∧ (writing p.1).writeAgreed = true ∧
      (∀ q ∈ (writing p.1).pairs, writeKind q.1 = p.2) ∧ canRun 0x11 (commanding 0x11 (writing p.1).body dev) = true ∧
      (p.2 ≠ .generic → ∃ q ∈ (writing Reg.rvConfig).pairs, writeKind q.1 ≠ p.2) := by decide +kernel

/-! ### Ill-formed commands -/

/-- A plain frame of no bytes. -/
def emptyFrame : Frame := { frameTo 0 with len := 0 }

/-- A frame under keys of the wrong length. -/
def misKeyed : Frame := { frameTo 0 with prot := .macsec (some ⟨[], [], 2⟩) 0 1 }

/-- Each check of well-formedness refuses a term: a granule beyond HBM, a short block, a delay of 10 bits and more, domains
that do not exist, a lost granule beyond the address space, operands of the wrong length, keys of the wrong length. -/
theorem test_ill_formed : ∀ i ∈ [Instr.scrub 0x400_0000_0000 .none, .blockReceive 0 ⟨[], 0, 0, false, false, 0, 0, false⟩ ⟨0, 0, true⟩,
    .portTrainingStep 0 ⟨true, 0xFFFF⟩ 1024 0, .resetRelease ⟨6, []⟩, .resetRelease ⟨0, [0x400_0000_0000]⟩, .resetLimitExpiry 32, .watchEnd 500,
    .stepEndSum [[zeroBytes 4097]], .parityChain 0 ⟨[0], []⟩ ⟨[], []⟩ true,
    .swatchWindowEnd 0 (List.replicate 4097 ⟨0, true⟩), .fcpDatagram emptyFrame [0], .pfcFrame 0 [], .rdmaWrite emptyFrame ⟨2, 0, false, 0, 0, 0⟩ .only
      (zeroBytes 4097), .castonPhaseEnd (.swatches [] []), .castonPhaseEnd (.training [] [] none []), .castonPhaseEnd (.memory [0x400_0000_0000] none false),
    .avsSample 0 [], .junctionRead [] [], .fcpDatagram misKeyed [], .neighborDiscovery misKeyed .solicit, .arp misKeyed, .echoRequest misKeyed,
    .rdmaRead misKeyed ⟨2, 0, false, 0, 0, 0⟩, .cnp misKeyed ⟨2, 0, false, 0, 0, 0⟩], i.wellFormed = false := by decide +kernel

/-- Well-formed commands at the bounds of the checks. -/
theorem test_well_formed : ∀ i ∈ [Instr.scrub 0x3FF_FFFF_FFFF .none, .resetRelease ⟨418, [0x3FF_FFFF_FFFF]⟩, .watchEnd 31, .stepEndSum [[zeroBytes 4096]],
    .fcpDatagram { frameTo 0 with prot := .macsec (some ⟨zeroBytes 32, zeroBytes 12, 2⟩) 0 1 } [], .heartbeat],
    i.wellFormed = true := by decide +kernel

/-! ### Numbers (R131, R132; the examples of 03, 04 and 05) -/

/-- The eight non-negative `T4` codes stand for 0, 0.5, 1, 1.5, 2, 3, 4 and 6. -/
theorem test_t4_codes : (List.range 8).map (fun c => Fmt.t4.decode c) =
    [.fin false 0 (-1), .fin false 1 (-1), .fin false 2 (-1), .fin false 3 (-1), .fin false 2 0, .fin false 3 0, .fin false 2 1, .fin false 3 1] := by
  decide

/-- The largest finite numbers and canonical NaNs of R132. -/
theorem test_limits : Fmt.t8.decode 0x7E = .fin false 14 5 ∧ Fmt.t8.decode 0x7F = .nan ∧ Fmt.t8w.decode 0x7B = .fin false 7 13 ∧
    Fmt.t8w.decode 0xFC = .inf true ∧ Fmt.b16.decode 0x0001 = .fin false 1 (-133) ∧ Fmt.b16.encode .nan = 0x7FC0 ∧
    Fmt.f32.encode .nan = 0x7FC0_0000 ∧ Fmt.w36.encode .nan = 0x7_FC00_0000 := by decide

/-- 13.75. -/
def peak : Machine.Num := .fin false 55 (-2)

/-- The example of 04: the scale of a row with peak 13.75, and three of its elements. -/
theorem test_row_scale : chooseScale .t4 peak = 0x4013 := by decide

/-- 13.75, -5.0 and 0.625 at the scale 0x4013 are 6, -2 and 0.5, none of them saturated. -/
theorem test_row_elements : [peak, .fin true 5 0, .fin false 5 (-3)].map (fun v => convertNarrow .t4 v (Fmt.b16.decode 0x4013)) =
    [⟨0b0111, false, false⟩, ⟨0b1100, false, false⟩, ⟨0b0001, false, false⟩] := by decide +kernel

/-- The example of 03: the group of three products is 747 at exponent -8, and the bound's exponent is the largest less 3. -/
theorem test_group_value : groupValue false [.fin false 140 (-5), .fin false 90 (-11), .fin true 96 (-6)] = .fin false 747 (-8) := by decide

/-- The example of 05: a roll after 37 saturations pushes `STEP_MAX`, raises `H` and clears `CLEAN`; the next scale is 0x3E9A. -/
theorem test_roll : (let r := rollRecord (recordOf ([2, 0, 1, 1, 0, 0, 0, 0, 0, 0, 0, 0, 5, 0, 0, 0, 37, 0, 0, 0, 0x67, 0x3F] ++ zeroBytes 42)) 1 0;
    r.room = 1 ∧ r.clean = 0 ∧ r.sat = 0 ∧ r.stepMax = 0 ∧ r.hist.getD 1 0 = 0x3F67 ∧ r.head = 2 ∧ r.count = 2) ∧
    chooseScale .t4 (Machine.Num.mul (Fmt.b16.decode 0x3F67) (.fin false 2 0)) = 0x3E9A := by decide +kernel

/-! ### Addresses and registers (the examples of 00, 07 and 21) -/

/-- Core 93's window, its populated end and the partition that holds it. -/
theorem test_core_window : coreBase 93 = 0x2000_5D00_0000 ∧ corePartition 93 = 2 := by decide

/-- The write of the example of 07 marks bit 0x1_2345 of partition 2's active bitmap. -/
theorem test_dirty_bit : (((dev.markDirty 0x81_2345_6AC0).dirtyOf 2).hbm0.has 0x1_2345) = true ∧
    (((dev.markDirty 0x81_2345_6AC0).dirtyOf 2).hbm0.has 0x1_2346) = false ∧ partitionOf 0x1300_0012_3440 = 2 := by decide

/-- Token 37 of context 9 on core 93 reads in bits 31 to 16 of its control-space word. -/
theorem test_token_word : ((dev.setToken 93 9 37 5).readWord 0x0D25_D0C8) = 5 * 2 ^ 16 := by decide +kernel

/-- Entry 5 of partition 2's table stands where the example of 21 says, and its window is admitted. -/
theorem test_event_entry : Reg.tbPeventA 2 5 = 0x0E40_1050 ∧ Reg.tbPeventB 2 5 = 0x0E40_1058 ∧ windowAdmitted 2 0x0021_02D4 = true ∧
    windowAdmitted 2 0x0021_02D3 = false := by decide

/-! ### Commands and time (the examples of 10, 17 and 20) -/

/-- The numbers of the example of 17: 0x10 is new at 0xFFFF_FF80, then seen; 0xFFFF_E000 lies outside. -/
theorem test_sequence_numbers : (let q : SeqState := ⟨false, 0xFFFF_FF80, []⟩;
    q.classOf 0x10 = .new ∧ (q.accept 0x10).high = 0x10 ∧ (q.accept 0x10).classOf 0x10 = .duplicate ∧
      (q.accept 0x10).classOf 0xFFFF_E000 = .outside) := by decide +kernel

/-- The example of 10: a beacon that arrives 121.25 stitches after it left over a cable of 120 is 1.25 stitches late. -/
theorem test_beacon_error :
    (regsSet dev [(Reg.ppStatus 5, Fld.ppStatusDelay, 120)]).beaconError
      ⟨5, packetOf tyBeacon 0 ([0, 0, 0, 0, 0, 0, 0, 0] ++ beBytes 6 0x1234_5640 ++ [0, 0]), 0x1234_5640, 121⟩ 64 = 320 := by decide +kernel

/-- The example of 20: a change of 1,076 A shows as 0b1010 for a fall and 0b1110 for a rise. -/
theorem test_forewarning : (let s := { dev with pm := { dev.pm with arrayCurrent := [(2, 1076)] } };
    (s.showForewarning 2 false 16 0).lstep 2 = 0b1010 ∧ (s.showForewarning 2 true 16 0).lstep 2 = 0b1110) := by decide +kernel

/-! ### Single steps -/

/-- A test of the next state, false of any other outcome. -/
def next (o : Host.Outcome State Fault Refusal) (f : State → Bool) : Bool :=
  match o with
  | .next t => f t
  | .fault _ => false
  | .refused _ => false

/-- `C.SETI` sets its register and the next word follows. -/
theorem test_seti : next (exec (.cSeti 0) (atWord (wordOf opSeti (3 * 2 ^ 92 + 7)))) (fun t =>
    decide (((t.core 0).sreg 3) = 7 ∧ (t.core 0).pc = 1)) = true := by decide +kernel

/-- Where `C.LOOP` to 9 with its register at `v` leaves that register and the pattern counter. -/
def looped (v : BitVec 64) (t : State) : Bool := decide ((t.core 0).sreg 0 = v - 1) && decide ((t.core 0).pc = if v = 1 then 1 else 9)

/-- `C.LOOP` of register 0 at `v`. -/
def looping (v : BitVec 64) : State :=
  { atWord (wordOf opLoop 0x9_0000_0000) with cores := [(0, ((atWord 0).core 0).setSreg 0 v)] }

/-- `C.LOOP` at 1 counts down to 0 and falls through; at 2 it goes to its target. -/
theorem test_loop : next (exec (.cLoop 0) (looping 1)) (looped 1) = true ∧ next (exec (.cLoop 0) (looping 2)) (looped 2) = true := by
  decide +kernel

/-- `V.ADD` of 1.0 and 2.0 in F32, the destination also a source, is 3.0; the lane beyond stands. -/
theorem test_vadd : (let w := wordOf (2, 3) (1 * 2 ^ 91 + 1 * 2 ^ 86 + 2 * 2 ^ 81 + 5 * 2 ^ 72);
    let k := (((headed .vector w).core 0).setLane 1 0 0x3F80_0000).setLane 2 0 0x4000_0000;
    next (exec (.vAdd 0) { headed .vector w with cores := [(0, k.setLane 1 1 7)] })
      (fun t => decide ((t.core 0).lane 1 0 = 0x4040_0000 ∧ (t.core 0).lane 1 1 = 7 ∧ (t.core 0).qVector = []))) = true := by decide +kernel

/-- `V.ST` in F32 writes its lane little-endian into the core store. -/
theorem test_vst : (let w := wordOf (2, 1) (1 * 2 ^ 91 + 1 * 2 ^ 86 + 5 * 2 ^ 72 + 5 * 2 ^ 64 + 0x40 * 2 ^ 40);
    next (exec (.vSt 0) { headed .vector w with cores := [(0, ((headed .vector w).core 0).setLane 1 0 0x3F80_0000)] })
      (fun t => decide (t.load (coreBase 0 + 0x40) 4 = [0, 0, 0x80, 0x3F]))) = true := by decide +kernel

/-- `C.RAISE` at its issue counts a token of its context; an empty queue answers the state itself. -/
theorem test_step : (let w := wordOf opNop (2 ^ 98 + 5 * 2 ^ 100);
    next (step { headed .control w with pending := [.cNop 0] }) (fun t => decide (t.token 0 0 5 = 1 ∧ t.pending = []))) = true := by decide +kernel

end Sys2Proof.Tests
end

section
/-! PROOF. What an instruction's issue leaves of the state, and what a head that may issue has met (R57, R58). -/

namespace Sys2Proof.Machine

/-! ### The queues of a core -/

@[simp] theorem Core.queue_setQueue_same (k : Core) (q : Queue) (es : List QEntry) : (k.setQueue q es).queue q = es := by
  cases q <;> rfl

@[simp] theorem Core.setQueue_issued (k : Core) (q : Queue) (es : List QEntry) : (k.setQueue q es).issued = k.issued := by
  cases q <;> rfl

/-- The list of issued instructions is no part of a queue. -/
@[simp] theorem Core.queue_with_issued (k : Core) (q : Queue) (l : List Issued) :
    ({ k with issued := l } : Core).queue q = k.queue q := by
  cases q <;> rfl

/-- The core in which an entry of queue `q` has issued. -/
def Core.afterIssue (k : Core) (q : Queue) (e : QEntry) : Core :=
  { k.setQueue q (k.queue q).tail with issued := if atOnce e.word then k.issued else k.issued ++ [⟨q, e⟩] }

@[simp] theorem Core.queue_afterIssue_same (k : Core) (q : Queue) (e : QEntry) :
    (k.afterIssue q e).queue q = (k.queue q).tail := by simp [Core.afterIssue]

/-- An entry that issues joins the issued ones, unless it is a matrix instruction that selects no array (R91). -/
theorem Core.afterIssue_issued (k : Core) (q : Queue) (e : QEntry) :
    (k.afterIssue q e).issued =
      if (opOf e.word).1 = 1 ∧ arrayMask e.word = 0 then k.issued else k.issued ++ [⟨q, e⟩] := by
  simp [Core.afterIssue, atOnce]

/-! ### Tokens -/

theorem State.token_lt (s : State) (c x tok : Nat) : s.token c x tok < 65536 := (SMap.get 0 s.tokens (tokenKey c x tok)).isLt

/-- Writing a token leaves every other one. -/
theorem State.tokens_setToken_ne (s : State) (c x tok v : Nat) {k : Nat} (h : k ≠ tokenKey c x tok) :
    SMap.get 0 (s.setToken c x tok v).tokens k = SMap.get 0 s.tokens k := SMap.get_set_ne 0 s.tokens _ h

/-! ### The state after an issue -/

/-- An issue changes its core, and then its token where it waits on one. -/
theorem State.issuing_eq (s : State) (c x : Nat) (q : Queue) (e : QEntry) :
    s.issuing c x q e =
      if waitCnt e.word = 0 then s.setCore c ((s.core c).afterIssue q e)
      else (s.setCore c ((s.core c).afterIssue q e)).setToken c x (waitTok e.word)
        (s.token c x (waitTok e.word) - waitCnt e.word) := by
  simp only [State.issuing, Core.afterIssue, Core.setQueue_issued]

@[simp] theorem State.issuing_regs (s : State) (c x : Nat) (q : Queue) (e : QEntry) : (s.issuing c x q e).regs = s.regs := by
  rw [State.issuing_eq]; split <;> simp

@[simp] theorem State.issuing_mem (s : State) (c x : Nat) (q : Queue) (e : QEntry) : (s.issuing c x q e).mem = s.mem := by
  rw [State.issuing_eq]; split <;> simp

theorem State.issuing_cores (s : State) (c x : Nat) (q : Queue) (e : QEntry) :
    (s.issuing c x q e).cores = (s.setCore c ((s.core c).afterIssue q e)).cores := by
  rw [State.issuing_eq]; split <;> simp

@[simp] theorem State.reg_issuing (s : State) (c x : Nat) (q : Queue) (e : QEntry) (a : Nat) :
    (s.issuing c x q e).reg a = s.reg a := by simp [State.reg]

@[simp] theorem State.byte_issuing (s : State) (c x : Nat) (q : Queue) (e : QEntry) (a : Nat) :
    (s.issuing c x q e).byte a = s.byte a := by simp [State.byte]

theorem State.core_issuing (s : State) (c x : Nat) (q : Queue) (e : QEntry) (d : Nat) :
    (s.issuing c x q e).core d = (s.setCore c ((s.core c).afterIssue q e)).core d := by
  simp only [State.core, State.issuing_cores]

@[simp] theorem State.core_issuing_same (s : State) (c x : Nat) (q : Queue) (e : QEntry) :
    (s.issuing c x q e).core c = (s.core c).afterIssue q e := by
  rw [State.core_issuing, State.core_setCore_same]

theorem State.core_issuing_ne (s : State) {c d : Nat} (x : Nat) (q : Queue) (e : QEntry) (h : d ≠ c) :
    (s.issuing c x q e).core d = s.core d := by
  rw [State.core_issuing, State.core_setCore_ne _ _ h]

/-- The wait is subtracted from the token it names (R58). -/
theorem State.token_issuing (s : State) (c x : Nat) (q : Queue) (e : QEntry) :
    (s.issuing c x q e).token c x (waitTok e.word) = s.token c x (waitTok e.word) - waitCnt e.word := by
  rw [State.issuing_eq]
  split
  · next h => rw [h, Nat.sub_zero, State.token, State.setCore_tokens, State.token]
  · have := s.token_lt c x (waitTok e.word)
    rw [State.token_setToken, Nat.mod_eq_of_lt (by omega)]

/-- Every other token stands. -/
theorem State.tokens_issuing_ne (s : State) (c x : Nat) (q : Queue) (e : QEntry) {k : Nat}
    (h : k ≠ tokenKey c x (waitTok e.word)) : SMap.get 0 (s.issuing c x q e).tokens k = SMap.get 0 s.tokens k := by
  rw [State.issuing_eq]
  split
  · rw [State.setCore_tokens]
  · rw [State.tokens_setToken_ne _ _ _ _ _ h, State.setCore_tokens]

/-! ### What a head that may issue has met -/

/-- A met wait is covered by the token, whatever the heads tested before take of it. -/
theorem State.waitCnt_le_token_of_tokenReady {s : State} {c x : Nat} {q : Queue} {w : IWord} (h : s.tokenReady c x q w = true) :
    waitCnt w ≤ s.token c x (waitTok w) := by
  simp only [State.tokenReady, Bool.or_eq_true, decide_eq_true_eq] at h
  omega

/-- The head of a queue that may issue, with what R57 asks of it. -/
theorem State.issuable_eq_some_iff {s : State} {c x : Nat} {q : Queue} {e : QEntry} {op : Nat × Nat} :
    s.issuable c q op = some (x, e) ↔
      s.activeCtx c = some x ∧ (∃ es, (s.core c).queue q = e :: es) ∧ opOf e.word = op ∧ (s.core c).holds e = true ∧
        s.cycleGranted c e.word = true ∧ s.tokenReady c x q e.word = true := by
  unfold State.issuable
  cases s.activeCtx c with
  | none => simp
  | some y =>
    cases (s.core c).queue q with
    | nil => simp
    | cons d ds =>
      simp only [Option.ite_none_right_eq_some, Option.some.injEq, Prod.mk.injEq, Bool.and_eq_true, decide_eq_true_eq,
        List.cons.injEq, exists_and_left, exists_eq', and_true]
      constructor
      · rintro ⟨⟨⟨⟨hop, hholds⟩, hcycle⟩, htok⟩, rfl, rfl⟩
        exact ⟨rfl, rfl, hop, hholds, hcycle, htok⟩
      · rintro ⟨rfl, rfl, hop, hholds, hcycle, htok⟩
        exact ⟨⟨⟨⟨hop, hholds⟩, hcycle⟩, htok⟩, rfl, rfl⟩

/-- Settles O13: what R57 asks of the head, and what its issue changes and leaves. -/
theorem issueTakesTheHeadAndItsWait : Obligations.IssueTakesTheHeadAndItsWait := by
  intro s c x q e op h
  obtain ⟨-, ⟨es, hq⟩, hop, -, -, htok⟩ := State.issuable_eq_some_iff.mp h
  refine ⟨hop, ?issued, ?queue, State.waitCnt_le_token_of_tokenReady htok, s.token_issuing c x q e,
    fun _ hk => s.tokens_issuing_ne c x q e hk, s.reg_issuing c x q e, s.byte_issuing c x q e,
    fun _ hd => s.core_issuing_ne x q e hd⟩
  case issued => rw [State.core_issuing_same, Core.afterIssue_issued]
  case queue => rw [State.core_issuing_same, Core.queue_afterIssue_same, hq, List.tail_cons]

end Sys2Proof.Machine
end

section
/-! PROOF. When a periodic work is due, and the heartbeat that is one (R496). -/

namespace Sys2Proof.Machine

/-! ### Steps under a condition -/

theorem act_of_true {s t : State} {c : Bool} (h : c = true) : act s c t = .next t := by rw [act, if_pos h]

theorem act_of_false {s t : State} {c : Bool} (h : c = false) : act s c t = .next s := by
  rw [act, if_neg (Bool.eq_false_iff.mp h)]

/-! ### Periodic works -/

/-- A periodic work is due at the multiples of its period, once in each. -/
theorem State.periodic_eq_true_iff {s : State} {id period : Nat} :
    s.periodic id period = true ↔ s.course.toNat % period = 0 ∧ s.timer id ≠ s.course := by
  simp only [State.periodic, State.course, Bool.and_eq_true, decide_eq_true_eq]

theorem State.periodic_eq_false_iff {s : State} {id period : Nat} :
    s.periodic id period = false ↔ s.course.toNat % period ≠ 0 ∨ s.timer id = s.course := by
  rw [← Bool.not_eq_true, State.periodic_eq_true_iff, not_and_or, not_not]

/-! ### The heartbeat -/

/-- The heartbeat is due: the device runs, no chip reset stops its sampling, and the course's beat is still to be done. -/
def State.beatDue (s : State) : Bool := s.running && !s.inReset 5 && s.periodic tmrHeartbeat 16384

theorem State.beatDue_eq_true_iff {s : State} :
    s.beatDue = true ↔ s.running = true ∧ s.inReset 5 = false ∧ s.periodic tmrHeartbeat 16384 = true := by
  simp only [State.beatDue, Bool.and_eq_true, Bool.not_eq_true', and_assoc]

theorem State.beatDue_eq_false_iff {s : State} :
    s.beatDue = false ↔ s.running = false ∨ s.inReset 5 = true ∨ s.periodic tmrHeartbeat 16384 = false := by
  simp only [State.beatDue, Bool.and_eq_false_iff, Bool.not_eq_false', or_assoc]

/-- The state after a beat. -/
def State.beaten (s : State) : State := { s.ran tmrHeartbeat with rv := { s.rv with heartbeat := s.rv.heartbeat + 1 } }

theorem exec_heartbeat (s : State) : exec .heartbeat s = act s s.beatDue s.beaten := rfl

/-- Settles O41: a due heartbeat advances the count and notes the course, any other changes nothing. -/
theorem theHeartbeatAdvances : Obligations.TheHeartbeatAdvances := by
  intro s
  rw [exec_heartbeat]
  constructor
  · intro hrun hchip hcourse htimer
    exact act_of_true (State.beatDue_eq_true_iff.mpr ⟨hrun, hchip, State.periodic_eq_true_iff.mpr ⟨hcourse, htimer⟩⟩)
  · intro hnot
    rw [← State.periodic_eq_false_iff] at hnot
    exact act_of_false (State.beatDue_eq_false_iff.mpr hnot)

end Sys2Proof.Machine
end

section
/-! PROOF. The thermal limit's law, and the step that applies it (R681). -/

namespace Sys2Proof.Machine

/-! ### The law of the thermal limit -/

/-- A junction at the throttle or a stack at 95 degrees lowers the limit. -/
theorem thermalNext_of_hot {junction stack throttle : Int} (h : throttle ≤ junction ∨ 95 * 16 ≤ stack) (d : Nat) :
    thermalNext junction stack throttle d = max (d - 1) 4 := if_pos h

/-- What raises the limit excludes what lowers it: both lower bounds stand 2 degrees under their upper ones. -/
theorem not_hot_of_cool {junction stack throttle : Int} (h : junction < throttle - 2 * 16 ∧ stack < 93 * 16) :
    ¬ (throttle ≤ junction ∨ 95 * 16 ≤ stack) := by omega

/-- A junction and stacks below their lower bounds raise the limit. -/
theorem thermalNext_of_cool {junction stack throttle : Int} (h : junction < throttle - 2 * 16 ∧ stack < 93 * 16) (d : Nat) :
    thermalNext junction stack throttle d = min (d + 1) 16 := by
  rw [thermalNext, if_neg (not_hot_of_cool h), if_pos h]

/-- Between the bounds the limit stands. -/
theorem thermalNext_of_between {junction stack throttle : Int} (hhot : ¬ (throttle ≤ junction ∨ 95 * 16 ≤ stack))
    (hcool : ¬ (junction < throttle - 2 * 16 ∧ stack < 93 * 16)) (d : Nat) : thermalNext junction stack throttle d = d := by
  rw [thermalNext, if_neg hhot, if_neg hcool]

/-- The law keeps a limit from 4 to 16 there. -/
theorem thermalNext_bounds (junction stack throttle : Int) {d : Nat} (hlow : 4 ≤ d) (hhigh : d ≤ 16) :
    4 ≤ thermalNext junction stack throttle d ∧ thermalNext junction stack throttle d ≤ 16 := by
  by_cases hhot : throttle ≤ junction ∨ 95 * 16 ≤ stack
  · rw [thermalNext_of_hot hhot]; omega
  by_cases hcool : junction < throttle - 2 * 16 ∧ stack < 93 * 16
  · rw [thermalNext_of_cool hcool]; omega
  · rw [thermalNext_of_between hhot hcool]; exact ⟨hlow, hhigh⟩

/-! ### The limits held -/

@[simp] theorem State.setLimits_envelopeLimit (s : State) (e t : Nat) : (s.setLimits e t).pm.envelopeLimit = e := rfl

@[simp] theorem State.setLimits_thermalLimit (s : State) (e t : Nat) : (s.setLimits e t).pm.thermalLimit = t := rfl

/-! ### The step -/

/-- The throttle temperature `PM_CONFIG.TJ_THROTTLE`, in 1/16 °C. -/
def State.tjThrottle (s : State) : Int := (s.fld Reg.pmConfig Fld.pmConfigTjThrottle : Int) * 16

/-- The thermal step is due: the core rails are up, and a multiple of 16 courses begins whose step is still to be done. -/
def State.thermalDue (s : State) : Bool := s.powered && s.periodic tmrThermal 16 && decide (s.stitch = 0)

theorem State.thermalDue_eq_true_iff {s : State} :
    s.thermalDue = true ↔ s.powered = true ∧ s.periodic tmrThermal 16 = true ∧ s.stitch = 0 := by
  simp only [State.thermalDue, Bool.and_eq_true, decide_eq_true_eq, and_assoc]

theorem State.thermalDue_eq_false_iff {s : State} :
    s.thermalDue = false ↔ s.powered = false ∨ s.periodic tmrThermal 16 = false ∨ s.stitch ≠ 0 := by
  simp only [State.thermalDue, Bool.and_eq_false_iff, decide_eq_false_iff_not, or_assoc]

/-- The state after a thermal step. -/
def State.thermalStepped (s : State) : State :=
  (s.setLimits s.pm.envelopeLimit (thermalNext s.junction s.hottestStack s.tjThrottle s.pm.thermalLimit)).ran tmrThermal

theorem exec_thermalStep (s : State) : exec .thermalStep s = act s s.thermalDue s.thermalStepped := rfl

@[simp] theorem State.thermalStepped_envelopeLimit (s : State) : s.thermalStepped.pm.envelopeLimit = s.pm.envelopeLimit := by
  rw [State.thermalStepped, State.ran_pm, State.setLimits_envelopeLimit]

@[simp] theorem State.thermalStepped_thermalLimit (s : State) :
    s.thermalStepped.pm.thermalLimit = thermalNext s.junction s.hottestStack s.tjThrottle s.pm.thermalLimit := by
  rw [State.thermalStepped, State.ran_pm, State.setLimits_thermalLimit]

/-- Settles O51: a due step applies the law to the thermal limit, any other changes nothing. -/
theorem thermalLimitSteps : Obligations.ThermalLimitSteps := by
  intro s throttle hthrottle hpowered hlow hhigh
  obtain rfl : throttle = s.tjThrottle := hthrottle
  rw [exec_thermalStep]
  constructor
  · intro hnot
    rw [← or_assoc, ← State.periodic_eq_false_iff] at hnot
    exact act_of_false (State.thermalDue_eq_false_iff.mpr (.inr hnot))
  · intro hcourse htimer hstitch
    have hdue : s.thermalDue = true :=
      State.thermalDue_eq_true_iff.mpr ⟨hpowered, State.periodic_eq_true_iff.mpr ⟨hcourse, htimer⟩, hstitch⟩
    refine ⟨s.thermalStepped, act_of_true hdue, s.thermalStepped_envelopeLimit, ?_⟩
    rw [State.thermalStepped_thermalLimit]
    obtain ⟨hlow', hhigh'⟩ := thermalNext_bounds s.junction s.hottestStack s.tjThrottle hlow hhigh
    exact ⟨hlow', hhigh', (thermalNext_of_hot · _), (thermalNext_of_cool · _), (thermalNext_of_between · · _)⟩

end Sys2Proof.Machine
end

section
/-! PROOF. The invariants of every step: the queue of waiting commands, the sound state, and that no command stops. -/

namespace Sys2Proof.Machine

/-! ### The queue and the sound state -/

/-- Settles O1: the front command is taken off the queue, and its meaning answers. -/
theorem stepRunsTheFrontCommand : Obligations.StepRunsTheFrontCommand := by
  intro c rest s
  rfl

theorem step_of_pending_nil {s : State} (h : s.pending = []) : step s = .next s.idle := by rw [step, h]

theorem step_of_pending_cons {s : State} {c : Instr} {rest : List Instr} (h : s.pending = c :: rest) :
    step s = exec c { s with pending := rest } := by rw [step, h]

theorem State.idle_of_not_poweredUp {s : State} (h : s.poweredUp = false) : s.idle = s := by simp [State.idle, h]

/-- Settles O2: an idle step lets time pass, and before power nothing at all. -/
theorem stepOnEmptyQueueIdles : Obligations.StepOnEmptyQueueIdles := by
  intro s hpending
  have hstep := step_of_pending_nil hpending
  exact ⟨hstep, fun hoff => by rw [hstep, State.idle_of_not_poweredUp hoff]⟩

/-- Settles O4: memory is empty, the register table is the literal one of its tables, and the stitch is 0. -/
theorem resetIsSound : Obligations.ResetIsSound :=
  ⟨State.reset_memoryWf, by decide, by decide⟩

/-- Every command keeps the waiting commands and the sound state: each by the lemma about its row. -/
theorem exec_kept {q : List Instr} (c : Instr) {s : State} (h : s.Kept q) : keptOutcome q (exec c s) := by
  cases c <;> simp [exec, h]

/-- A step keeps the sound state, and takes at most the front command off the queue. -/
theorem step_kept {s : State} (h : s.Sound) : keptOutcome s.pending.tail (step s) := by
  cases hq : s.pending with
  | nil =>
    rw [step_of_pending_nil hq]
    exact State.idle_kept ⟨hq, h⟩
  | cons c rest =>
    rw [step_of_pending_cons hq]
    exact exec_kept c ⟨rfl, h⟩

/-- Settles O5: a step keeps its state sound, together with the commands that wait. -/
theorem everyStepKeepsASoundState : Obligations.EveryStepKeepsASoundState := by
  intro s t hsound hstep
  have hkept := step_kept hsound
  rw [hstep] at hkept
  exact hkept.2

/-- Settles O6: the commands that wait are part of what every command keeps. -/
theorem commandsLeaveTheWaitingOnes : Obligations.CommandsLeaveTheWaitingOnes := by
  intro c s t hsound hexec
  have hkept := exec_kept c ⟨rfl, hsound⟩
  rw [hexec] at hkept
  exact hkept.1

/-! ### No command stops -/

/-- A next state is answered. -/
def Answers (o : Host.Outcome State Fault Refusal) : Prop := ∃ t, o = .next t

@[simp] theorem answers_next (t : State) : Answers (.next t) := ⟨t, rfl⟩

@[simp] theorem act_answers (s t : State) (b : Bool) : Answers (act s b t) := answers_next _

/-- An instruction that faults at its issue faults its context, and the row completes. -/
@[simp] theorem execIssue_answers (q : Queue) (op : Nat × Nat) (f) (c : Nat) (s : State) : Answers (execIssue q op f c s) := by
  unfold execIssue; split <;> simp

@[simp] theorem execFront_answers (op : Nat × Nat) (f) (c : Nat) (s : State) : Answers (execFront op f c s) := by
  unfold execFront; split <;> simp

/-- A command of the host is answered or dropped. -/
@[simp] theorem runTrusted_answers (g : CmdSlot → Bool) (op : Nat) (f) (s : State) : Answers (runTrusted g op f s) := by
  unfold runTrusted; split <;> simp

@[simp] theorem runCommand_answers (op : Nat) (f) (s : State) : Answers (runCommand op f s) := runTrusted_answers _ op f s

@[simp] theorem execCsWrite_answers (s : State) : Answers (execCsWrite s) := runTrusted_answers _ _ _ s

@[simp] theorem kindRow_answers (k : WriteKind) (s : State) : Answers (kindRow k s) := by
  unfold kindRow; split <;> simp

@[simp] theorem resetRow_answers (level : Nat) (s : State) : Answers (resetRow level s) := by
  unfold resetRow; split <;> simp

@[simp] theorem State.leArrived_answers (s : State) (msg len : Nat) (f) : Answers (s.leArrived msg len f) := by
  unfold State.leArrived; split <;> simp

theorem execFillComplete_answers (peer : FillPeer) (sets : ParitySets) (s : State) : Answers (execFillComplete peer sets s) := by
  unfold execFillComplete
  split
  · exact answers_next s
  · exact act_answers _ _ _

/-- Every row has one of the shapes above, on each of the paths by which it finds what it acts on. -/
theorem exec_answers (c : Instr) (s : State) : Answers (exec c s) := by
  cases c <;> simp only [exec,
    execGQuant, execGPrepass, execDispatch, execCSeti, execCAddi, execCLoop, execCJump, execCNop, execCRaise,
    execCYield, execCHalt, execInstructionComplete, execContextSelect, execQuantumExpiry, execContextSaveRestore,
    execGapForewarning, execTensionFall, execTensionStepDown, execStreamRampStep, execEventForewarning,
    execLstepClear, execMCopy, execMoveTransfer, execCRraise, execBlockSend, execBlockReceive, execReplayTimeout,
    execPeerSilent, execLinkKeyChange, execHello, execFinish, execFinishTimeout, execPortTrainingStep,
    execPacketRoute, execWrite, execReadReq, execRaise, execE2eAck, execE2eRetransmit, execFlowIdleFree, execFault,
    execMaLoadw, execMaMul, execMaDrain, execCablePathWork, execLowRankWork, execJournalRecord, execJournalDurable,
    execPartnerCopy, execCopyRefused, execScrub, execCheckClose, execSwatchWindow, execSwatchWindowEnd, execUnitDue,
    execLadderWindow, execFsrSummary, execColl, execGrant, execReturn, execReduceScatter, execAllReduce,
    execAllGather, execRingPass, execDescriptorComplete, execCollectiveTimeout, execReclaimHoldEnd,
    execStepEndContribute, execStepEndSum, execStepStart, execEventFire, execBeaconSend, execBeacon,
    execParentTimeout, execMasterElection, execFreeRunTimeout, execFcpDatagram, execWaitForSample, execHeartbeat,
    execAbort, execMapRequest, execMapReply, execOriginForget, execEpochAdvance, execEpochAdvanceReceive,
    execEpochApply, execEpochDigestTimeout, execFaultDeclare, execCtxLoad, execCtxFree, execCtxSwitch,
    execContextSwitch, execServeOpen, execServeSubmit, execServeClose, execServeBlockClose, execServeBlockStart,
    execServeBlockDone, execResultRead, execResultRelease, execResultLeaseEnd, execOverlaySwitch, execOverlayStage,
    execOverlayStageComplete, execIdentityGet, execAttest, execSessionOpen, execSessionConfirm, execSessionOpenLapse,
    execSessionRekey, execSessionClose, execSessionLapse, execMacsecPreviousAnEnd, execJobKeyProvision,
    execApprovalSubmit, execApprovalWindowEnd, execGrantLapse, execDumpUnitTimeout, execIsolationLimit,
    execIsolationReport, execResetL0, execResetL1, execResetL2, execResetL3, execResetL4, execResetRelease,
    execResetLimitExpiry, execWatchEnd, execDumpRead, execDumpRelease, execStatusRead, execCsRead, execLogRead,
    execFsrRead, execFsrFree, execDomainTags, execTagExchangeTimeout, execGenericRegisterWrite, execProtectedWrite,
    execPrAliasWrite, execDtRegionWrite, execSkConfigWrite, execLifelineEnable, execLeDomainWrite, execHpWindowWrite,
    execHpIpv6Write, execScrubHoursWrite, execEventEntryArm, execContextTableWrite, execTjThrottleWrite,
    execSuspectRemove, execStepArm, execStepReplay, execDiagnosisReplay, execReadResp, execEventSchedule,
    execEventCancel, execLifelineArm, execJobLoad, execJobUnload, execBindOff, execBindOffComplete, execLifelineCut,
    execCutDeltaWrite, execCutWritten, execSkeinReport, execTear, execReportTimeout, execManifestWaitExpiry,
    execManifestTimeout, execFoldComplete, execParityChain, execManifest, execManifestQuery, execLifelineRestore,
    execRestoreComplete, execSpareFill, execManifestRead, execSnapshot, execSnapshotComplete,
    execPfcFrame, execPfcPauseExpiry, execXoffRepeat, execAnnounce, execHostLinkUp, execDadRetry, execDadPass,
    execNeighborDiscovery, execArp, execEchoRequest, execQpCreate, execQpDestroy, execRdmaWrite, execRdmaRead,
    execCnp, execCnpRateRaise, execAvsSample, execEnvelopeStep, execThermalStep, execSetpointStep, execVrFault,
    execFaultNPulse, execJunctionRead, execPerstNAssert, execPwrOkDeassert, execPerstNRise, execCastonPhaseTimeout,
    execCastonPhaseEnd, execVLd, execVSt, execVFma, execVAdd, execVMul, execVMax, execVMin, execVScale, execVRsq,
    execVRsum, execVRmax, execVCvt] <;> (repeat' split) <;> simp [execFillComplete_answers]

/-- Settles O8: every row of the table answers a next state. -/
theorem noCommandStops : Obligations.NoCommandStops := exec_answers

end Sys2Proof.Machine
end

section
/-! PROOF. What commands that act outside memory and the cores leave, how memory and counters read after they are written,
and what a scrub finds (R236, R250–R254, R541, R542). -/

namespace Sys2Proof.Machine

/-! ### Commands that act outside memory and the cores -/

/-- Each of these commands keeps memory, poison marks, tokens and cores, by the lemma about its row. -/
theorem exec_framed {c : Instr} (h : outsideCores c = true) (s : State) : framedOutcome s (exec c s) := by
  have hs : s.Framed s := ⟨rfl, rfl, rfl, rfl⟩
  revert h
  cases c <;> simp [outsideCores, exec, hs]

/-- What stands in a framed state is read there as before. -/
theorem State.Framed.reads {t s : State} (h : t.Framed s) :
    (∀ a, t.byte a = s.byte a) ∧ (∀ g, NatSet.has t.poison g = NatSet.has s.poison g) ∧
      (∀ c x tok, t.token c x tok = s.token c x tok) ∧ ∀ c, t.core c = s.core c := by
  obtain ⟨hmem, hpoison, htokens, hcores⟩ := h
  simp only [State.byte, State.token, State.core, hmem, hpoison, htokens, hcores, implies_true, and_self]

/-- Settles O7: the frame of each of these commands, read byte by byte and core by core. -/
theorem outsideCommandsLeaveMemoryAndCores : Obligations.OutsideCommandsLeaveMemoryAndCores := by
  intro c s t houtside hexec
  have hframed := exec_framed houtside s
  rw [hexec] at hframed
  exact State.Framed.reads hframed

/-! ### A write to memory -/

/-- Marking a page dirty changes the bitmaps alone. -/
theorem State.markDirty_only (s : State) (a : Nat) : ∃ d, s.markDirty a = { s with dirty := d } := by
  unfold State.markDirty
  dsimp only
  split
  · exact ⟨_, rfl⟩
  · split
    · split
      · exact ⟨_, rfl⟩
      · split
        · exact ⟨_, rfl⟩
        · exact ⟨_, rfl⟩
    · exact ⟨_, rfl⟩

@[simp] theorem State.markDirty_poison (s : State) (a : Nat) : (s.markDirty a).poison = s.poison := by
  obtain ⟨d, h⟩ := s.markDirty_only a
  rw [h]

@[simp] theorem State.markDirty_mem (s : State) (a : Nat) : (s.markDirty a).mem = s.mem := by
  obtain ⟨d, h⟩ := s.markDirty_only a
  rw [h]

@[simp] theorem State.markDirty_regs (s : State) (a : Nat) : (s.markDirty a).regs = s.regs := by
  obtain ⟨d, h⟩ := s.markDirty_only a
  rw [h]

/-- What a write does at one granule: its poison goes where the write covers it, and its page is dirty. -/
def State.touchGranule (a n : Nat) (t : State) (g : Nat) : State :=
  (if coversGranule a n g then t.setPoison g false else t).markDirty (g * 64)

theorem State.touched_eq_foldl (s : State) (a n : Nat) : s.touched a n = (granulesOf a n).foldl (State.touchGranule a n) s := rfl

@[simp] theorem State.touchGranule_mem (a n g : Nat) (t : State) : (t.touchGranule a n g).mem = t.mem := by
  rw [State.touchGranule, State.markDirty_mem]; split <;> rfl

@[simp] theorem State.touchGranule_regs (a n g : Nat) (t : State) : (t.touchGranule a n g).regs = t.regs := by
  rw [State.touchGranule, State.markDirty_regs]; split <;> rfl

theorem State.has_poison_touchGranule (a n g h : Nat) (t : State) :
    NatSet.has (t.touchGranule a n g).poison h =
      if h = g ∧ coversGranule a n g = true then false else NatSet.has t.poison h := by
  rw [State.touchGranule, State.markDirty_poison]
  by_cases hc : coversGranule a n g = true
  · by_cases hg : h = g
    · subst hg; simp [hc, State.setPoison]
    · simp [hc, hg, State.setPoison, NatSet.has_put_ne _ _ hg]
  · simp [hc]

theorem State.foldl_touchGranule_mem (a n : Nat) (gs : List Nat) (s : State) :
    (gs.foldl (State.touchGranule a n) s).mem = s.mem := by
  induction gs generalizing s with
  | nil => rfl
  | cons g gs ih => rw [List.foldl_cons, ih, State.touchGranule_mem]

theorem State.foldl_touchGranule_regs (a n : Nat) (gs : List Nat) (s : State) :
    (gs.foldl (State.touchGranule a n) s).regs = s.regs := by
  induction gs generalizing s with
  | nil => rfl
  | cons g gs ih => rw [List.foldl_cons, ih, State.touchGranule_regs]

/-- Of the granules touched, those covered whole lose their poison, and no other granule does. -/
theorem State.has_poison_foldl_touchGranule (a n h : Nat) (gs : List Nat) (s : State) :
    NatSet.has (gs.foldl (State.touchGranule a n) s).poison h =
      if h ∈ gs ∧ coversGranule a n h = true then false else NatSet.has s.poison h := by
  induction gs generalizing s with
  | nil => simp
  | cons g gs ih =>
    rw [List.foldl_cons, ih, State.has_poison_touchGranule]
    by_cases hg : h = g
    · subst hg; by_cases hc : coversGranule a n h = true <;> simp [hc]
    · simp [hg]

/-- Outside the tier a write is its bytes, and what it does to the granules they touch. -/
theorem State.store_of_not_inTier {a : Nat} (h : inTier a = false) (s : State) (bs : List Byte) :
    s.store a bs = (s.putBytes a bs).touched a bs.length := by simp [State.store, h]

theorem State.byte_touched (s : State) (a n b : Nat) : (s.touched a n).byte b = s.byte b := by
  rw [State.byte, State.touched_eq_foldl, State.foldl_touchGranule_mem, State.byte]

theorem State.reg_touched (s : State) (a n r : Nat) : (s.touched a n).reg r = s.reg r := by
  rw [State.reg, State.touched_eq_foldl, State.foldl_touchGranule_regs, State.reg]

theorem State.has_poison_touched (s : State) (a n g : Nat) :
    NatSet.has (s.touched a n).poison g =
      if g ∈ granulesOf a n ∧ coversGranule a n g = true then false else NatSet.has s.poison g := by
  rw [State.touched_eq_foldl, State.has_poison_foldl_touchGranule]

/-- Settles O9: the bytes by what `putBytes` writes, the poison by the granules the write touches. -/
theorem memoryReadsAsWritten : Obligations.MemoryReadsAsWritten := by
  intro s a bs htier
  rw [State.store_of_not_inTier htier]
  refine ⟨fun i hi => ?_, fun b hb => ?_, fun r => ?_, fun g hmem hcov => ?_, fun g hnot => ?_⟩
  · rw [State.byte_touched, State.byte_putBytes_at _ _ _ _ hi]
  · rw [State.byte_touched, State.byte_putBytes_ne _ _ _ _ hb]
  · rw [State.reg_touched, State.reg_putBytes]
  · rw [State.has_poison_touched, if_pos ⟨hmem, hcov⟩]
  · rw [State.has_poison_touched, if_neg, State.putBytes_poison]
    rintro ⟨hmem, hcov⟩
    exact hnot.elim (fun h => absurd hcov (Bool.eq_false_iff.mp h)) (fun h => h hmem)

/-! ### Counters -/

/-- `OVF` lies outside `COUNT`. -/
theorem counterCount_put_ovf (w : Word) (v : Nat) :
    Fld.counterCount.get (Fld.counterOvf.put w v) = Fld.counterCount.get w :=
  BitField.get_put_ne _ _ _ _ (by decide) (.inl (by decide))

theorem counterOvf_put_count (w : Word) (v : Nat) :
    Fld.counterOvf.get (Fld.counterCount.put w v) = Fld.counterOvf.get w :=
  BitField.get_put_ne _ _ _ _ (by decide) (.inr (by decide))

theorem counterOvf_put_one (w : Word) : Fld.counterOvf.get (Fld.counterOvf.put w 1) = 1 :=
  BitField.get_put _ _ _ (by decide)

theorem counterCount_counterAdd (w : Word) (n : Nat) :
    Fld.counterCount.get (counterAdd w n) = (Fld.counterCount.get w + n) % 2 ^ 48 := by
  have h : Fld.counterCount.get (Fld.counterCount.put w (Fld.counterCount.get w + n)) =
      (Fld.counterCount.get w + n) % 2 ^ 48 := BitField.get_put _ _ _ (by decide)
  unfold counterAdd
  dsimp only
  split
  · rw [counterCount_put_ovf, h]
  · exact h

theorem counterOvf_counterAdd (w : Word) (n : Nat) :
    Fld.counterOvf.get (counterAdd w n) = if 2 ^ 48 ≤ Fld.counterCount.get w + n then 1 else Fld.counterOvf.get w := by
  unfold counterAdd
  dsimp only
  split
  · exact counterOvf_put_one _
  · exact counterOvf_put_count _ _

theorem counterCount_holdResidue (w : Word) (r : Nat) : Fld.counterCount.get (holdResidue w r) = Fld.counterCount.get w := by
  unfold holdResidue
  split
  · exact counterCount_put_ovf _ _
  · rfl

theorem counterOvf_holdResidue (w : Word) (r : Nat) :
    Fld.counterOvf.get (holdResidue w r) = if 65535 ≤ r then 1 else Fld.counterOvf.get w := by
  unfold holdResidue
  split
  · exact counterOvf_put_one _
  · rfl

/-- Events of a cycle in which the counter has not advanced: it takes one at once. -/
theorem countIn_first (w : Word) {n : Nat} (hn : 0 < n) :
    countIn w 0 n = (holdResidue (counterAdd w 1) (n - 1), min n 65536) := by
  rw [countIn, if_neg (by omega), if_pos rfl]

/-- Events of a cycle in which it has: all go to the residue. -/
theorem countIn_later (w : Word) (r : Nat) {n : Nat} (hn : 0 < n) :
    countIn w (1 + r) n = (holdResidue w (r + n), min (1 + r + n) 65536) := by
  rw [countIn, if_neg (by omega), if_neg (by omega), show 1 + r + n - 1 = r + n by omega]

theorem State.fld_count_same (s : State) (a n : Nat) (f : BitField) :
    (s.count a n).fld a f = f.get (countIn (s.reg a) (SMap.get 0 s.counted a) n).1 := by
  rw [State.fld, State.reg_count, if_pos rfl]

theorem State.counted_count (s : State) (a n b : Nat) :
    SMap.get 0 (s.count a n).counted b =
      if b = a then (countIn (s.reg a) (SMap.get 0 s.counted a) n).2 else SMap.get 0 s.counted b :=
  SMap.get_set 0 s.counted a b _

/-- Settles O10: the first event of a cycle is counted, the others are held; a cycle that passes counts one of those held. -/
theorem countersCountAndWrap : Obligations.CountersCountAndWrap := by
  refine ⟨fun s a n hn => ⟨fun h0 => ?first, fun r hr => ?later, fun b hb => ⟨?reg, ?residue⟩⟩,
    fun s a hnodup => s.drainResidues_spec hnodup a⟩
  case first =>
    simp only [State.fld_count_same, State.counted_count, if_pos, h0, countIn_first _ hn, counterCount_holdResidue,
      counterCount_counterAdd, counterOvf_holdResidue, counterOvf_counterAdd]
    refine ⟨rfl, ?_, by omega⟩
    by_cases hmany : 65536 ≤ n
    · rw [if_pos (by omega), if_pos (.inr hmany)]
    · rw [if_neg (by omega)]
      simp only [hmany, or_false]
      rfl
  case later =>
    simp only [State.fld_count_same, State.counted_count, if_pos, hr, countIn_later _ _ hn, counterCount_holdResidue,
      counterOvf_holdResidue]
    exact ⟨rfl, rfl, by omega⟩
  case reg => rw [State.reg_count, if_neg hb]
  case residue => rw [State.counted_count, if_neg hb]

/-! ### Scrubbing -/

@[simp] theorem State.drawn_framed {s q : State} (h : s.Framed q) : s.drawn.Framed q := h

/-- A corrected error is counted and reported. -/
theorem State.memCorrected_framed (s : State) (a : Nat) : (s.memCorrected a).Framed s := by
  have hs : s.Framed s := ⟨rfl, rfl, rfl, rfl⟩
  refine State.report_framed _ (State.drawn_framed ?_)
  split
  · exact State.count_framed _ _ hs
  · split
    · exact State.count_framed _ _ hs
    · exact ⟨rfl, rfl, rfl, rfl⟩

theorem State.poisonAt_framed (s : State) (a : Nat) : (s.poisonAt a).Framed (s.setPoison (granuleOf a) true) := by
  have hs : (s.setPoison (granuleOf a) true).Framed (s.setPoison (granuleOf a) true) := ⟨rfl, rfl, rfl, rfl⟩
  unfold State.poisonAt
  simp [hs]

/-- An error past correction poisons its granule; what follows counts and reports it. -/
theorem State.memUncorrected_framed (s : State) (a : Nat) :
    (s.memUncorrected a).Framed (s.setPoison (granuleOf a) true) :=
  State.report_framed _ (State.drawn_framed (s.poisonAt_framed a))

theorem exec_scrub (g : Nat) (found : MemError) (s : State) :
    exec (.scrub g found) s = act s (s.running && s.coded (g * 64) && !NatSet.has s.poison g)
      (match found with
        | .none => s
        | .corrected => s.memCorrected (g * 64)
        | .uncorrectable => s.memUncorrected (g * 64)) := rfl

/-- Settles O27: the scrubbed granule may be read, and each finding has its own frame. -/
theorem scrubReadsAGranule : Obligations.ScrubReadsAGranule := by
  intro s g hrun hcoded hpoison
  have hmay : (s.running && s.coded (g * 64) && !NatSet.has s.poison g) = true := by simp [hrun, hcoded, hpoison]
  simp only [exec_scrub, act_of_true hmay]
  obtain ⟨hmem, hmarks, htokens, hcores⟩ := s.memCorrected_framed (g * 64)
  obtain ⟨hmem', hmarks', htokens', hcores'⟩ := s.memUncorrected_framed (g * 64)
  refine ⟨trivial, ⟨_, rfl, hmarks, hmem, htokens, hcores, fun hhbm => ?hbm⟩,
    ⟨_, rfl, hmem', htokens', hcores', ?poisoned, fun h hne => ?others⟩⟩
  case hbm => simp [State.memCorrected, hhbm]
  all_goals rw [hmarks', granuleOf, Nat.mul_div_cancel g (by decide : 0 < 64)]
  case poisoned => exact NatSet.has_put_same s.poison g true
  case others => exact NatSet.has_put_ne s.poison true hne

end Sys2Proof.Machine
end

section
/-! PROOF. The front end's instructions at dispatch, and the control instructions at their issue (R39–R41, R56–R58). -/

namespace Sys2Proof.Machine

/-! ### Dispatch -/

/-- The word at the pattern counter of a core that may dispatch, where the front end can read it. -/
def State.fetched (s : State) (c x : Nat) (w : IWord) : Prop :=
  s.dispatching c = some x ∧ w = s.patternWord x (s.core c).pc ∧ s.fetchPoisoned x (s.core c).pc = false ∧ legalWord w = true

/-- A front-end instruction that is fetched has its effect on its core (R41). -/
theorem execFront_of_fetched {s : State} {c x : Nat} {w : IWord} (h : s.fetched c x w) {op : Nat × Nat} (hop : opOf w = op)
    (effect : IWord → Core → Core) : execFront op effect c s = .next (s.setCore c (effect w (s.core c))) := by
  obtain ⟨hdispatching, rfl, hpoison, hlegal⟩ := h
  simp only [execFront, hdispatching]
  exact act_of_true (by simp [hpoison, hlegal, hop])

/-- Settles O11: each of the four instructions, fetched, has its effect on the core. -/
theorem frontEndInstructionsAtDispatch : Obligations.FrontEndInstructionsAtDispatch := by
  rintro core s x w hdispatching hword hpoison hlegal k rfl
  have hfetched : s.fetched core.val x w := ⟨hdispatching, hword, hpoison, hlegal⟩
  exact ⟨fun hop => (execFront_of_fetched hfetched hop _ : execCSeti core s = _),
    fun hop => (execFront_of_fetched hfetched hop _ : execCAddi core s = _),
    fun hop => (execFront_of_fetched hfetched hop _ : execCLoop core s = _),
    fun hop => (execFront_of_fetched hfetched hop _ : execCJump core s = _)⟩

theorem Core.queue_setQueue_ne (k : Core) {q r : Queue} (es : List QEntry) (h : r ≠ q) : (k.setQueue q es).queue r = k.queue r := by
  cases q <;> cases r <;> simp_all [Core.queue, Core.setQueue]

/-- Writing a queue leaves what is not a queue. -/
theorem Core.setQueue_only (k : Core) (q : Queue) (es : List QEntry) : k.setQueue q es = { k with
    qMatrix := (k.setQueue q es).qMatrix, qGauge := (k.setQueue q es).qGauge, qVector := (k.setQueue q es).qVector
    qMove := (k.setQueue q es).qMove, qControl := (k.setQueue q es).qControl } := by
  cases q <;> rfl

theorem onlyCore_setCore (s : State) (c : Nat) (k : Core) : onlyCore c s (s.setCore c k) :=
  ⟨rfl, fun _ hd => State.core_setCore_ne _ _ hd⟩

/-- The core with a word dispatched to the end of its queue. -/
def Core.dispatched (k : Core) (w : IWord) : Core :=
  let k1 := k.setQueue (queueOf w) (k.queue (queueOf w) ++ [⟨k.nextSeq, k.pc, w⟩])
  { k1 with nextSeq := k1.nextSeq + 1, pc := k1.pc + 1 }

theorem Core.queue_dispatched (k : Core) (w : IWord) (q : Queue) :
    (k.dispatched w).queue q = (k.setQueue (queueOf w) (k.queue (queueOf w) ++ [⟨k.nextSeq, k.pc, w⟩])).queue q := by
  cases q <;> rfl

theorem State.enqueue_eq (s : State) (c : Nat) (w : IWord) : s.enqueue c w = s.setCore c ((s.core c).dispatched w) := rfl

/-- A fetched word that is not the front end's own enters its queue, where that has room (R39). -/
theorem exec_dispatch_of_fetched {core : Fin 160} {s : State} {x : Nat} {w : IWord} (h : s.fetched core.val x w)
    (hfront : frontEnd w = false) (hroom : ((s.core core.val).queue (queueOf w)).length < 16) :
    exec (.dispatch core) s = .next (s.setCore core.val ((s.core core.val).dispatched w)) := by
  obtain ⟨hdispatching, rfl, hpoison, hlegal⟩ := h
  show execDispatch core s = _
  simp only [execDispatch, hdispatching, hpoison, hlegal]
  exact act_of_true (by simp [hfront, hroom])

/-- Settles O12: the dispatched word stands at the end of its queue, and all else of the core but its counters stands. -/
theorem dispatchQueuesTheNextInstruction : Obligations.DispatchQueuesTheNextInstruction := by
  intro core s x w hdispatching hword hpoison hlegal hfront hroom
  refine ⟨_, exec_dispatch_of_fetched ⟨hdispatching, hword, hpoison, hlegal⟩ hfront hroom, onlyCore_setCore _ _ _, ?_⟩
  rw [State.core_setCore_same]
  have honly := (s.core core.val).setQueue_only (queueOf w)
  refine ⟨?_, fun q hq => ?_, ?_⟩
  · rw [Core.queue_dispatched, Core.queue_setQueue_same]
  · rw [Core.queue_dispatched, Core.queue_setQueue_ne _ _ hq]
  · unfold Core.dispatched
    rw [honly]
    exact ⟨rfl, rfl, rfl, rfl⟩

/-! ### Instructions at their issue -/

/-- A head that may issue and meets no fault has its effect on the state of its issue, and its raise there (R45, R57). -/
theorem execIssue_of_done {q : Queue} {op : Nat × Nat} {f : Nat → Nat → QEntry → State → AtIssue} {c x : Nat} {s t : State} {e : QEntry}
    (h : s.issuable c q op = some (x, e)) (hdone : f c x e (s.issuing c x q e) = .done t) :
    execIssue q op f c s = .next (t.raisedAtIssue c x e) := by
  simp only [execIssue, h, State.issue, hdone]

/-- `C.RRAISE` with a `COORD` inside the torus, of a context that diagnoses nothing, sends the raise (R56). -/
theorem exec_cRraise_of_inExtents {core : Fin 160} {s i : State} {x : Nat} {e : QEntry} (hi : i = s.issuing core.val x .control e)
    (h : s.issuable core.val .control opRraise = some (x, e)) (hin : i.inExtents (BitVec.ofNat 15 (bitsOf e.word 95 81)) = true)
    (hdiag : i.isDiag x = false) :
    exec (.cRraise core) s = .next ((i.sendRaise (BitVec.ofNat 15 (bitsOf e.word 95 81)) (bitsOf e.word 80 73)
      (bitsOf e.word 72 69) (bitsOf e.word 68 63) (bitsOf e.word 62 47) (BitVec.ofNat 8 core.val)
      (.rraise core.val x e.seq)).raisedAtIssue core.val x e) := by
  subst hi
  refine (execIssue_of_done h ?_ : execCRraise core s = _)
  simp only [hin, hdiag, Bool.not_true, Bool.false_and, Bool.false_eq_true, if_false]

/-- `C.YIELD` requests a switch where another context qualifies (R72). -/
theorem exec_cYield {core : Fin 160} {s i : State} {x : Nat} {e : QEntry} (hi : i = s.issuing core.val x .control e)
    (h : s.issuable core.val .control opYield = some (x, e)) :
    exec (.cYield core) s = .next ((if ((i.noteYield core.val x).nextContext core.val).isSome
      then (i.noteYield core.val x).requestSwitch core.val (.gaveUp false) else i.noteYield core.val x).raisedAtIssue core.val x e) := by
  subst hi
  exact (execIssue_of_done h rfl : execCYield core s = _)

/-- Settles O14: each control instruction by its effect at issue. -/
theorem queuedControlInstructionsComplete : Obligations.QueuedControlInstructionsComplete := by
  intro core s x e i hi
  refine ⟨fun h => ?_, fun h => ?_, fun h => ?_, exec_cRraise_of_inExtents hi, fun h hnone => ?_, fun h hsome => ?_⟩
  · subst hi; exact (execIssue_of_done h rfl : execCNop core s = _)
  · subst hi; exact (execIssue_of_done h rfl : execCHalt core s = _)
  · subst hi; exact (execIssue_of_done h rfl : execCRaise core s = _)
  · rw [exec_cYield hi h, hnone]; rfl
  · rw [exec_cYield hi h, if_pos hsome]

end Sys2Proof.Machine
end

section
/-! PROOF. The vector instructions at their issue (R51, R52, R146–R152, R725). -/

namespace Sys2Proof.Machine

/-! ### What an issue leaves of the registers of its core -/

@[simp] theorem Core.afterIssue_sregs (k : Core) (q : Queue) (e : QEntry) : (k.afterIssue q e).sregs = k.sregs := by
  cases q <;> rfl

@[simp] theorem Core.afterIssue_vregs (k : Core) (q : Queue) (e : QEntry) : (k.afterIssue q e).vregs = k.vregs := by
  cases q <;> rfl

@[simp] theorem Core.lane_afterIssue (k : Core) (q : Queue) (e : QEntry) (r l : Nat) : (k.afterIssue q e).lane r l = k.lane r l := by
  simp [Core.lane]

/-! ### Elements of a register -/

theorem vlanes_le (w : IWord) : vlanes w ≤ 512 := by
  have : bitsOf w 34 26 < 2 ^ 9 := Nat.mod_lt _ (by decide)
  unfold vlanes
  omega

/-- Element `i` of a register of B16 elements, two a lane, the low half first. -/
def Core.half (k : Core) (r i : Nat) : Nat :=
  if i % 2 = 0 then (k.lane r (i / 2)).toNat % 65536 else (k.lane r (i / 2)).toNat / 65536

theorem Core.half_even (k : Core) (r l : Nat) : k.half r (2 * l) = (k.lane r l).toNat % 65536 := by
  rw [Core.half, if_pos (by omega), show 2 * l / 2 = l by omega]

theorem Core.half_odd (k : Core) (r l : Nat) : k.half r (2 * l + 1) = (k.lane r l).toNat / 65536 := by
  rw [Core.half, if_neg (by omega), show (2 * l + 1) / 2 = l by omega]

/-- The 16-bit elements of a register are the halves of its lanes. -/
theorem Core.elems_b16 (k : Core) (r n : Nat) : k.elems r .b16 n = (List.range (2 * n)).map (k.half r) := by
  induction n with
  | zero => rfl
  | succ n ih =>
    have hlast : k.elems r .b16 (n + 1) = k.elems r .b16 n ++ [k.half r (2 * n), k.half r (2 * n + 1)] := by
      simp [Core.elems, List.range_succ, Core.half_even, Core.half_odd]
    rw [hlast, ih, show 2 * (n + 1) = 2 * n + 1 + 1 by omega, List.range_succ, List.range_succ]
    simp

/-- A value formed from three lists that run over the same numbers, number by number. -/
theorem map_zip_zip_range (n : Nat) (a b d : Nat → Nat) (g : Nat → Nat → Nat → Nat) :
    ((List.range n).map a |>.zip (((List.range n).map b).zip ((List.range n).map d))).map (fun p => g p.1 p.2.1 p.2.2) =
      (List.range n).map (fun i => g (a i) (b i) (d i)) := by
  rw [List.zip_map', List.zip_map', List.map_map]
  rfl

theorem getD_map_range (n i : Nat) (g : Nat → Nat) (h : i < n) : ((List.range n).map g).getD i 0 = g i := by
  simp [List.getD_eq_getElem?_getD, h]

/-! ### Lanewise instructions -/

/-- What a lanewise instruction writes of element codes. -/
def laneCode (op : Num → Num → Num → Num) (fmt : Fmt) (a b d : Nat) : Nat :=
  fmt.encode (op (fmt.decode a) (fmt.decode b) (fmt.decode d))

theorem lanewise_f32 (op : Num → Num → Num → Num) (e : QEntry) (k : Core) :
    lanewise op .f32 e k = k.setElems (vd e.word) .f32 ((List.range (vlanes e.word)).map (fun l =>
      laneCode op .f32 (k.lane (va e.word) l).toNat (k.lane (vb e.word) l).toNat (k.lane (vc e.word) l).toNat)) := by
  simp only [lanewise, Core.elems_f32]
  exact congrArg _ (map_zip_zip_range _ _ _ _ (laneCode op .f32))

theorem lanewise_b16 (op : Num → Num → Num → Num) (e : QEntry) (k : Core) :
    lanewise op .b16 e k = k.setElems (vd e.word) .b16 ((List.range (2 * vlanes e.word)).map (fun i =>
      laneCode op .b16 (k.half (va e.word) i) (k.half (vb e.word) i) (k.half (vc e.word) i))) := by
  simp only [lanewise, Core.elems_b16]
  exact congrArg _ (map_zip_zip_range _ _ _ _ (laneCode op .b16))

theorem lane_lanewise_f32 (op : Num → Num → Num → Num) (e : QEntry) (k : Core) (r : Nat) {l : Nat} (hl : l < 512) :
    (lanewise op .f32 e k).lane r l = if r = vd e.word ∧ l < vlanes e.word
      then BitVec.ofNat 32 (laneCode op .f32 (k.lane (va e.word) l).toNat (k.lane (vb e.word) l).toNat (k.lane (vc e.word) l).toNat)
      else k.lane r l := by
  rw [lanewise_f32, Core.setElems_f32_lane _ _ _ _ _ (by simpa using vlanes_le e.word) hl, List.length_map, List.length_range]
  split
  · next h => rw [getD_map_range _ _ _ h.2]
  · rfl

theorem lane_lanewise_b16 (op : Num → Num → Num → Num) (e : QEntry) (k : Core) (r : Nat) {l : Nat} (hl : l < 512) :
    (lanewise op .b16 e k).lane r l = if r = vd e.word ∧ l < vlanes e.word
      then BitVec.ofNat 32
        (laneCode op .b16 (k.half (va e.word) (2 * l)) (k.half (vb e.word) (2 * l)) (k.half (vc e.word) (2 * l)) % 65536 +
          laneCode op .b16 (k.half (va e.word) (2 * l + 1)) (k.half (vb e.word) (2 * l + 1)) (k.half (vc e.word) (2 * l + 1)) % 65536 * 65536)
      else k.lane r l := by
  have hn : 2 * vlanes e.word ≤ 1024 := by have := vlanes_le e.word; omega
  rw [lanewise_b16, Core.setElems_b16_lane _ _ _ _ _ (by simpa using hn) hl, List.length_map, List.length_range]
  by_cases h : r = vd e.word ∧ l < vlanes e.word
  · rw [if_pos ⟨h.1, by omega⟩, if_pos h, getD_map_range _ _ _ (by omega), getD_map_range _ _ _ (by omega)]
  · rw [if_neg (by omega), if_neg (by omega), if_neg h]

/-- A lanewise instruction writes vector registers alone. -/
theorem lanewise_only (op : Num → Num → Num → Num) (fmt : Fmt) (e : QEntry) (k : Core) :
    lanewise op fmt e k = { k with vregs := (lanewise op fmt e k).vregs } := Core.setElems_only _ _ _ _

/-- Of a core the lanewise rows read scalar registers beside their elements. -/
theorem vectorRow_congr {core : Fin 160} {p : Nat} {w : IWord} {i : Instr} {op : Nat × Nat} {f : Core → Num → Num → Num → Num}
    (h : (i, op, f) ∈ vectorRows core p w) {k j : Core} (hk : k.sregs = j.sregs) : f k = f j := by
  simp only [vectorRows, List.mem_cons, Prod.mk.injEq, List.not_mem_nil, or_false] at h
  rcases h with ⟨-, -, rfl⟩ | ⟨-, -, rfl⟩ | ⟨-, -, rfl⟩ | ⟨-, -, rfl⟩ | ⟨-, -, rfl⟩ | ⟨-, -, rfl⟩ | ⟨-, -, rfl⟩
  case inr.inr.inr.inr.inr.inl => simp only [Core.sreg, hk]
  all_goals rfl

/-- A lanewise row that may issue, in a format of its own, has its effect on its core. -/
theorem exec_vectorRow {core : Fin 160} {s : State} {x : Nat} {e : QEntry} {i : Instr} {op : Nat × Nat}
    {f : Core → Num → Num → Num → Num} {fmt : Fmt} (h : (i, op, f) ∈ vectorRows core fmt.precision e.word)
    (hissue : s.issuable core.val .vector op = some (x, e)) (hfmt : vecFmt (vfmt e.word) = some fmt) :
    exec i s = .next (((s.issuing core.val x .vector e).setCore core.val
      (lanewise (f ((s.core core.val).afterIssue .vector e)) fmt e ((s.core core.val).afterIssue .vector e))).raisedAtIssue core.val x e) := by
  have hdone : ∀ g, vecOp g core.val x e (s.issuing core.val x .vector e) =
      .done ((s.issuing core.val x .vector e).setCore core.val (g fmt e ((s.core core.val).afterIssue .vector e))) := fun g => by
    simp only [vecOp, hfmt, State.modCore, State.core_issuing_same]
  simp only [vectorRows, List.mem_cons, Prod.mk.injEq, List.not_mem_nil, or_false] at h
  rcases h with ⟨rfl, rfl, rfl⟩ | ⟨rfl, rfl, rfl⟩ | ⟨rfl, rfl, rfl⟩ | ⟨rfl, rfl, rfl⟩ | ⟨rfl, rfl, rfl⟩ | ⟨rfl, rfl, rfl⟩ | ⟨rfl, rfl, rfl⟩
  · exact (execIssue_of_done hissue (hdone _) : execVFma core s = _)
  · exact (execIssue_of_done hissue (hdone _) : execVAdd core s = _)
  · exact (execIssue_of_done hissue (hdone _) : execVMul core s = _)
  · exact (execIssue_of_done hissue (hdone _) : execVMax core s = _)
  · exact (execIssue_of_done hissue (hdone _) : execVMin core s = _)
  · exact (execIssue_of_done hissue (hdone _) : execVScale core s = _)
  · exact (execIssue_of_done hissue (hdone _) : execVRsq core s = _)

/-- Settles O15: each lane is written from the same lane of the operands, as they stood before the issue. -/
theorem vectorLanesInF32 : Obligations.VectorLanesInF32 := by
  intro core s x e i op f hrow hissue hfmt
  refine ⟨_, exec_vectorRow (fmt := .f32) hrow hissue hfmt, ?_, fun r l hl => ?_⟩
  · rw [State.core_issuing_same]
    exact lanewise_only _ _ _ _
  · rw [lane_lanewise_f32 _ _ _ _ hl, vectorRow_congr hrow (Core.afterIssue_sregs (s.core core.val) .vector e)]
    simp only [Core.lane_afterIssue, laneCode]

/-- Settles O16: each half of a lane is written from the same half of the operands' lanes. -/
theorem vectorLanesInB16 : Obligations.VectorLanesInB16 := by
  intro core s x e i op f hrow hissue hfmt
  refine ⟨_, exec_vectorRow (fmt := .b16) hrow hissue hfmt, ?_, ?_⟩
  · rw [State.core_issuing_same]
    exact lanewise_only _ _ _ _
  · rintro r l hl a b d rfl rfl rfl
    rw [lane_lanewise_b16 _ _ _ _ hl, vectorRow_congr hrow (Core.afterIssue_sregs (s.core core.val) .vector e)]
    simp only [Core.lane_afterIssue, Core.half_even, Core.half_odd, laneCode]

/-! ### Reductions -/

/-- Settles O17: a reduction writes element 0 of its destination. -/
theorem vectorReductions : Obligations.VectorReductions := by
  rintro core s x e f i k xs rfl rfl hfmt rfl
  refine ⟨fun hissue => ?_, fun hissue a r hxs => ?_⟩
  · exact (execIssue_of_done hissue (by simp only [vecOp, hfmt]; rfl) : execVRsum core s = _)
  · refine (execIssue_of_done hissue ?_ : execVRmax core s = _)
    simp only [vecOp, hfmt, State.modCore, rmax, hxs]

/-! ### Loads, stores and conversions -/

/-- Operands that lie in the allotment, what is read in no poisoned granule, pass the tests of R71 and R253. -/
theorem State.checked_of_clear {s t : State} {c x : Nat} {reads writes others : List (Nat × Nat)}
    (hin : s.outside x (reads ++ writes) = false)
    (hclean : s.firstPoison (reads.map (fun e => (storeAt c e.1, e.2)) ++ others) = none) :
    s.checked c x reads writes others t = .done t := by
  simp [State.checked, hin, hclean]

theorem State.outside_singleton {s : State} {x a n : Nat} (h : s.inAllotment x a n = true) : s.outside x [(a, n)] = false := by
  simp [State.outside, h]

/-- Lanes written one after the other, from lane 0 upward. -/
theorem Core.lane_foldl_setLane (k : Core) (v n : Nat) (g : Nat → BitVec 32) (hn : n ≤ 512) (r : Nat) {l : Nat} (hl : l < 512) :
    ((List.range n).foldl (fun j i => j.setLane v i (g i)) k).lane r l = if r = v ∧ l < n then g l else k.lane r l := by
  induction n with
  | zero => simp
  | succ n ih =>
    rw [List.range_succ, List.foldl_append, List.foldl_cons, List.foldl_nil, Core.lane_setLane _ _ _ _ _ _ (by omega) hl, ih (by omega)]
    by_cases hr : r = v
    · by_cases hln : l = n
      · subst hln; simp [hr]
      · simp only [hr, hln, and_false, if_false, true_and, show (l < n + 1) = (l < n) from propext (by omega)]
    · simp [hr]

theorem Core.foldl_setLane_only (k : Core) (v : Nat) (ls : List Nat) (g : Nat → BitVec 32) :
    ls.foldl (fun j i => j.setLane v i (g i)) k =
      { k with vregs := (ls.foldl (fun j i => j.setLane v i (g i)) k).vregs } := by
  induction ls generalizing k with
  | nil => rfl
  | cons i ls ih => rw [List.foldl_cons, ih]; rfl

theorem inTier_storeAt (c off : Nat) : inTier (storeAt c off) = false := by
  have : ¬ storeAt c off < 0x1600_0000_0000 := by unfold storeAt coreBase; omega
  simp [inTier, this]

/-- A piece of the bytes read from a core store is read from its own place. -/
theorem State.load_storeAt_slice (s : State) (c off n m l : Nat) (h : l + m ≤ n) :
    ((s.load (storeAt c off) n).drop l).take m = s.bytes (storeAt c off + l) m := by
  simp only [State.load, inTier_storeAt, Bool.false_eq_true, if_false, State.bytes, SMap.getList]
  apply List.ext_getElem
  · simp; omega
  · intro i h1 h2
    simp [Nat.add_assoc]

/-- `V.LD` puts into each lane the four bytes of its place (R51). -/
theorem vLd_of_clear {s : State} {c x : Nat} {e : QEntry} {f : Fmt} (hfmt : vecFmt (vfmt e.word) = some f)
    (hin : s.inAllotment x (vaddr e.word) (4 * vlanes e.word) = true)
    (hclean : s.firstPoison [(storeAt c (vaddr e.word), 4 * vlanes e.word)] = none) :
    vLd c x e s = .done (s.setCore c ((List.range (vlanes e.word)).foldl (fun k l => k.setLane (vd e.word) l
      (BitVec.ofNat 32 (leNat (((s.load (storeAt c (vaddr e.word)) (4 * vlanes e.word)).drop (4 * l)).take 4)))) (s.core c))) := by
  simp only [vLd, hfmt]
  exact State.checked_of_clear (State.outside_singleton hin) hclean

/-- `V.ST` stores the elements converted to the target format (R148). -/
theorem vSt_of_clear {s : State} {c x : Nat} {e : QEntry} {f g : Fmt} (hf : vecFmt (vfmt e.word) = some f)
    (hg : vecFmt (vtarget e.word) = some g) {xs : List Num} (hxs : xs = ((s.core c).elems (va e.word) f (vlanes e.word)).map f.decode)
    {bs : List Byte} (hbs : bs = xs.flatMap (fun v => leBytes g.bytes (g.encode v)))
    (hin : s.inAllotment x (vaddr e.word) bs.length = true) :
    vSt c x e s = .done ((s.store (storeAt c (vaddr e.word)) bs).addNonFinite x
      (xs.countP (fun v => !(g.decode (g.encode v)).isFinite))) := by
  subst hbs hxs
  simp only [vSt, hf, hg]
  exact State.checked_of_clear (State.outside_singleton hin) rfl

/-- Settles O18: each of the three instructions by its effect at issue. -/
theorem vectorMemoryAndConversion : Obligations.VectorMemoryAndConversion := by
  rintro core s x e f i k rfl rfl hfmt
  refine ⟨fun hissue hin hclean => ?load, fun g xs bs hg hxs hbs hissue hin => ?store,
    fun g hg hissue => ⟨fun heq => ?copy, ?convert⟩⟩
  case load =>
    refine ⟨_, (execIssue_of_done hissue (vLd_of_clear hfmt hin hclean) : execVLd core s = _), Core.foldl_setLane_only _ _ _ _,
      fun r l hl => ?_⟩
    rw [Core.lane_foldl_setLane _ _ _ _ (vlanes_le _) _ hl]
    by_cases h : r = vd e.word ∧ l < vlanes e.word
    · rw [if_pos h, if_pos h, State.load_storeAt_slice _ _ _ _ _ _ (by omega)]
      rfl
    · rw [if_neg h, if_neg h]
  case store => exact (execIssue_of_done hissue (vSt_of_clear hfmt hg hxs hbs hin) : execVSt core s = _)
  case copy =>
    subst heq
    exact ⟨_, (execIssue_of_done hissue (by simp only [vCvt, hfmt, hg, if_true]) : execVCvt core s = _), rfl⟩
  case convert =>
    rintro hne xs rfl
    exact (execIssue_of_done hissue (by simp only [vCvt, hfmt, hg, if_neg hne]; rfl) : execVCvt core s = _)

end Sys2Proof.Machine
end

section
/-! PROOF. The gauge at its issue, the completion of an instruction, the work beside a core's stream and the change of
its context (R155, R156, R185; R58, R59, R476; R43–R50). -/

namespace Sys2Proof.Machine

/-! ### The gauge -/

theorem firstFault_of_clear {cases : List (Bool × CtxFaultClass × Nat)} {rest : AtIssue} (h : ∀ p ∈ cases, p.1 = false) :
    firstFault cases rest = rest := by
  have hnone : cases.find? (fun p => p.1) = none := List.find?_eq_none.mpr (fun p hp => by simp [h p hp])
  simp only [firstFault, hnone]

theorem gQuant_of_clear {c x : Nat} {e : QEntry} {s : State} {j : GaugeJob} {given : List (Nat × Nat)}
    (hj : j = s.gaugeJob x e.word false) (hcases : ∀ p ∈ s.gaugeCases x e.word j, p.1 = false) (hscales : j.scalesAbove = true)
    (hgiven : given = if j.mode = 2 then (if j.layout = 0 then j.scaleExtents.take 1 else j.scaleExtents) else [])
    (hin : s.outside x (((j.src, j.rows * j.width * j.elem) :: given) ++ (j.outExtents ++ j.scaleExtents ++ j.cableExtents)) = false)
    (hclean : s.firstPoison (((j.src, j.rows * j.width * j.elem) :: given).map (fun p => (storeAt c p.1, p.2)) ++ j.listExtents) = none) :
    gQuant c x e s = .done (s.quantEffect c x j) := by
  subst hj hgiven
  simp only [gQuant]
  rw [firstFault_of_clear, State.checked_of_clear hin hclean]
  intro p hp
  rcases List.mem_append.mp hp with hp | hp
  · exact hcases p hp
  · simp only [List.mem_singleton] at hp
    simp [hp, hscales]

theorem gPrepass_of_clear {c x : Nat} {e : QEntry} {s : State} {j : GaugeJob} (hj : j = s.gaugeJob x e.word true)
    (hcases : ∀ p ∈ s.gaugeCases x e.word j, p.1 = false) (hin : s.outside x [(j.src, j.rows * j.width * j.elem)] = false)
    (hclean : s.firstPoison ((storeAt c j.src, j.rows * j.width * j.elem) :: j.listExtents) = none) :
    gPrepass c x e s = .done (s.prepassEffect c x j) := by
  subst hj
  simp only [gPrepass]
  rw [firstFault_of_clear hcases]
  exact State.checked_of_clear hin hclean

/-- Settles O20: past the tests of R155 the instruction has its effect, which touches neither tokens nor cores. -/
theorem gaugeInstructionsAtIssue : Obligations.GaugeInstructionsAtIssue := by
  rintro core s x e i rfl
  constructor
  · intro j given hissue hj hcases hscales hgiven hin hclean
    obtain ⟨htokens, hcores⟩ := State.quantEffect_aside core.val x j
      (⟨rfl, rfl⟩ : (s.issuing core.val x .gauge e).Aside (s.issuing core.val x .gauge e))
    refine ⟨_, (execIssue_of_done hissue (gQuant_of_clear hj hcases hscales hgiven hin hclean) : execGQuant core s = _), rfl,
      hcores, htokens, ?_⟩
    rintro houtlier hres src rot scales out u rfl rfl rfl rfl rfl
    simp only [State.quantEffect, houtlier, hres, Bool.false_eq_true, if_false, Bool.false_and]
    rfl
  · intro j hissue hj hcases hin hclean
    obtain ⟨htokens, hcores⟩ := State.prepassEffect_aside core.val x j
      (⟨rfl, rfl⟩ : (s.issuing core.val x .gauge e).Aside (s.issuing core.val x .gauge e))
    exact ⟨_, _, (execIssue_of_done hissue (gPrepass_of_clear hj hcases hin hclean) : execGPrepass core s = _), hcores, htokens,
      rfl, rfl⟩

/-! ### Completion -/

/-- A core whose open comparisons all stay as they are, of an instruction that is no matrix one. -/
theorem Core.retire_of_plain {k : Core} {n : Nat} {i : Issued} (hcopy : opOf i.entry.word ≠ opCopy) (hqueue : i.queue ≠ .matrix) :
    k.retire n i = { k with issued := k.issued.eraseIdx n } := by
  simp [Core.retire, hcopy, hqueue]

/-- The completion of an instruction that is neither a matrix multiply, nor a move, nor a C.HALT. -/
theorem State.complete_of_plain {s : State} {c n x : Nat} {i : Issued} (hx : (s.core c).resident = some x)
    (hmul : opOf i.entry.word ≠ opMul) (hcopy : opOf i.entry.word ≠ opCopy) (hhalt : opOf i.entry.word ≠ opHalt)
    (hqueue : i.queue ≠ .matrix) : s.complete c n i =
      (if raiseAt i.entry.word = 2
        then (s.setCore c { s.core c with issued := (s.core c).issued.eraseIdx n }).raiseToken c x (raiseTok i.entry.word) 1
          (.core c i.entry.pc i.entry.word)
        else s.setCore c { s.core c with issued := (s.core c).issued.eraseIdx n }).haltIfDry c x := by
  simp [State.complete, hmul, hhalt, hx, State.modCore, Core.retire_of_plain hcopy hqueue]

theorem State.haltIfDry_of_none {s : State} {c x : Nat} (h : (s.core c).haltAt = none) : s.haltIfDry c x = s := by
  simp [State.haltIfDry, h]

theorem State.raiseToken_of_room {s : State} {c x tok n : Nat} {site : FaultSite} (h : s.token c x tok + n ≤ 65535) :
    s.raiseToken c x tok n site = s.setToken c x tok (s.token c x tok + n) := by
  simp [State.raiseToken, h]

/-- The state in which a completed C.HALT waits for its fence. -/
def State.haltNoted (s : State) (c n : Nat) (i : Issued) : State :=
  (s.modCore c (fun k => k.retire n i)).modCore c (fun k => { k with haltAt := some i.entry.seq })

/-- A C.HALT that raises no token at its completion notes that its fence waits, and halts its context once the fence is
met (R59). -/
theorem State.complete_of_halt {s : State} {c n x : Nat} {i : Issued} (hx : (s.core c).resident = some x)
    (hhalt : opOf i.entry.word = opHalt) (hraise : raiseAt i.entry.word ≠ 2) :
    s.complete c n i = (s.haltNoted c n i).haltIfDry c x := by
  have hmul : opHalt ≠ opMul := by decide
  simp only [State.complete, hhalt, hmul, hx, hraise, decide_false, Bool.false_and, Bool.false_eq_true, if_false, if_true,
    State.haltNoted]

theorem State.haltNoted_onlyCore (s : State) (c n : Nat) (i : Issued) : onlyCore c s (s.haltNoted c n i) :=
  ⟨rfl, fun _ hd => (State.core_modCore_ne _ _ hd).trans (State.core_modCore_ne _ _ hd)⟩

theorem State.core_haltNoted {s : State} {c n : Nat} {i : Issued} (hhalt : opOf i.entry.word = opHalt) (hqueue : i.queue ≠ .matrix) :
    (s.haltNoted c n i).core c = { s.core c with issued := (s.core c).issued.eraseIdx n, haltAt := some i.entry.seq } := by
  have hcopy : opOf i.entry.word ≠ opCopy := by rw [hhalt]; decide
  simp only [State.haltNoted, State.core_modCore_same, Core.retire_of_plain hcopy hqueue]

/-- Settles O22: the row completes with the completion's effect, which is read off for the plain instructions and C.HALT. -/
theorem completionOfAnInstruction : Obligations.CompletionOfAnInstruction := by
  intro core s n i hi hrun hclear hmay
  have hrow : ∀ p, execInstructionComplete core n p s = .next (match p, (s.core core.val).resident with
      | true, some x => (s.complete core.val n i).stateParity x core.val i.entry.pc i.entry.word
      | _, _ => s.complete core.val n i) := fun p => by
    simp only [execInstructionComplete, hi]
    exact act_of_true (by simp [hrun, hclear, hmay])
  refine ⟨hrow false, fun x hx => ?parity, fun x hx hmul hcopy hhalt hqueue hhaltAt hroom => ?plain,
    fun x j hx hhalt hqueue hraise hj => ?halt⟩
  case parity =>
    have h := hrow true
    rw [hx] at h
    exact h
  case plain =>
    refine ⟨_, rfl, ?_⟩
    rw [State.complete_of_plain hx hmul hcopy hhalt hqueue]
    by_cases hraise : raiseAt i.entry.word = 2
    · have hlow := hroom hraise
      rw [if_pos hraise, if_pos hraise, State.raiseToken_of_room (by simpa [State.token] using hlow),
        State.haltIfDry_of_none (by simpa [State.core, State.setToken, State.setCore] using hhaltAt)]
      refine ⟨?_, fun d hd => State.core_setCore_ne s _ hd, fun a => rfl, fun a => rfl, ?_, fun k hk => ?_⟩
      · exact State.core_setCore_same s _ _
      · rw [State.token_setToken]
        exact Nat.mod_eq_of_lt (Nat.succ_lt_succ hlow)
      · rw [State.tokens_setToken_ne _ _ _ _ _ hk, State.setCore_tokens]
    · rw [if_neg hraise, if_neg hraise, State.haltIfDry_of_none (by simpa using hhaltAt)]
      exact ⟨State.core_setCore_same s _ _, fun d hd => State.core_setCore_ne s _ hd, fun a => rfl, fun a => rfl, rfl, fun k _ => rfl⟩
  case halt =>
    subst hj
    have hcore := State.core_haltNoted (s := s) (c := core.val) (n := n) hhalt (by simp [hqueue])
    refine ⟨_, State.haltNoted_onlyCore s core.val n i, hcore, (hrow false).trans ?_⟩
    simp only [State.complete_of_halt hx hhalt hraise, State.haltIfDry, hcore]

/-! ### Beside the stream -/

/-- What the oldest work of the low-rank unit does. -/
theorem State.lrcStep_of_close {s : State} {c : Nat} {q : Nat} {arrays : List Nat} {n : Nat} {rest : List LrcWork}
    (h : (s.core c).lrcQ = .close q arrays n :: rest) :
    s.lrcStep c = (s.settle c).modCore c (fun k => { k with lrcQ := k.lrcQ.tail }) := by
  simp [State.lrcStep, h]

theorem State.lrcStep_of_stage {s : State} {c q u r rows kv f a b n : Nat} {arrays : List Nat} {rest : List LrcWork}
    (h : (s.core c).lrcQ = .stage q arrays u r rows kv f a b n :: rest) :
    s.lrcStep c = (if r = 0 then s else s.lrcStage c arrays u r rows kv ((Fmt.ofCode f).getD .t4) a b).modCore c
      (fun k => { k with lrcQ := k.lrcQ.tail }) := by
  simp [State.lrcStep, h, State.workLrc]

/-- Settles O23: each of the three units takes the head of its own list. -/
theorem sideWorkOfACore : Obligations.SideWorkOfACore := by
  intro core s hrun hclear
  have hself : s.Inner s := ⟨rfl, rfl, rfl⟩
  refine ⟨fun w rest hq hcycles => ?cable, fun w rest hq hcycles => ?lowRank, fun k t hk ht => ?close⟩
  case cable =>
    obtain ⟨hmem, hpoison, htokens⟩ := State.workCable_inner core.val w hself
    refine ⟨s.workCable core.val w, ?_, rfl, fun hno => by simp [State.workCable, hno], hmem, hpoison, htokens⟩
    show act s _ (s.cableStep core.val) = _
    rw [act_of_true (by simp [hrun, hclear, hq, hcycles])]
    simp only [State.cableStep, hq, State.modCore]
  case lowRank =>
    have hdue : (s.running && s.coreClear core.val && (s.core core.val).lrcQ.head?.any (fun w => decide (w.cycles = 0))) = true := by
      simp [hrun, hclear, hq, hcycles]
    cases w with
    | close q arrays n =>
      obtain ⟨hmem, hpoison, htokens⟩ := State.settle_inner core.val hself
      refine ⟨s.settle core.val, ?_, hmem, hpoison, htokens, fun _ _ _ _ => rfl, nofun⟩
      exact (act_of_true hdue).trans (congrArg _ (State.lrcStep_of_close hq))
    | stage q arrays u r rows kv f a b n =>
      refine ⟨_, (act_of_true hdue).trans (congrArg _ (State.lrcStep_of_stage hq)), ?_⟩
      obtain ⟨hmem, hpoison, htokens⟩ :
          (if r = 0 then s else s.lrcStage core.val arrays u r rows kv ((Fmt.ofCode f).getD .t4) a b).Inner s := by
        split
        · exact hself
        · exact State.lrcStage_inner _ _ _ _ _ _ _ _ _ hself
      refine ⟨hmem, hpoison, htokens, (nofun), ?_⟩
      rintro _ _ _ _ _ _ _ _ _ _ ⟨⟩
      rfl
  case close =>
    subst ht
    have hrow : ∀ fault, execCheckClose core fault s = .next (s.closeCheck core.val k fault) := fun fault => by
      simp only [execCheckClose, Core.closing, hk]
      exact act_of_true (by simp [hrun, hclear])
    exact ⟨hrow none, fun hnone => by rw [hnone, List.foldl_nil], fun f => hrow (some f)⟩

/-! ### Change of context -/

/-- A context that has never been resident since its load comes in afresh (R45). -/
theorem State.doSwitch_of_fresh {s : State} {c x : Nat} {r : SwitchReq} (htarget : s.switchTarget c r = some x)
    (hresident : (s.core c).resident = none) (hfresh : (s.sideOf c x).resident = false) :
    s.doSwitch c r = (s.startFresh c x).nextRequest c := by
  simp [State.doSwitch, htarget, hresident, State.saveContext, State.bringIn, hfresh]

/-- Settles O24: each row's conditions are those named; a first residence starts from cleared registers. -/
theorem contextsChangeOnACore : Obligations.ContextsChangeOnACore := by
  rintro core s k rfl hrun hclear
  refine ⟨fun hswitch hwindow hidle hnext => ?select, fun x hx hquantum hlong hready hhalted hnext => ?quantum,
    fun r hr hwindow hissued => ⟨?row, fun x htarget hnone hfresh => ?fresh⟩⟩
  case select =>
    have hrow : execContextSelect core s = .next (s.requestSwitch core.val .select) := by
      refine act_of_true ?_
      cases hres : (s.core core.val).resident with
      | none => simp [hrun, hclear, hswitch, hwindow, hnext]
      | some x =>
        rw [hres] at hidle
        have : (s.core core.val).halted = true ∨ s.ctxState x = ctxFaulted := by simpa using hidle
        simp [hrun, hclear, hswitch, hwindow, hnext, this]
    exact ⟨fun _ => hrow, fun _ => hrow⟩
  case quantum =>
    show execQuantumExpiry core s = _
    simp only [execQuantumExpiry, hx]
    exact act_of_true (by simp [hrun, hclear, hquantum, hlong, hready, hhalted, hnext])
  case row =>
    show execContextSaveRestore core s = _
    simp only [execContextSaveRestore, hr]
    exact act_of_true (by simp [hrun, hclear, hwindow, hissued])
  case fresh =>
    rw [State.doSwitch_of_fresh htarget hnone hfresh]
    simp [State.nextRequest, State.startFresh, Core.cleared]

end Sys2Proof.Machine
end

section
/-! PROOF. A gap of a core: the forewarning, the fall of tension, the ramp and the pins (R120–R123, R675, R678). -/

namespace Sys2Proof.Machine

/-! ### The pins of a partition -/

/-- The pins show what the rail's register holds. -/
theorem State.lstep_congr {s t : State} {p : Nat} (h : t.reg (Reg.pmRail (coreRail p)) = s.reg (Reg.pmRail (coreRail p))) :
    t.lstep p = s.lstep p := by
  simp only [State.lstep, State.fld, h]

theorem State.lstep_clearLstep (s : State) (p : Nat) : (s.clearLstep p).lstep p = 0 := by
  show (s.setFld (Reg.pmRail (coreRail p)) Fld.pmRailLstep 0).fld (Reg.pmRail (coreRail p)) Fld.pmRailLstep = 0
  rw [State.fld_setFld_same s (Reg.pmRail (coreRail p)) Fld.pmRailLstep 0 (by decide), Nat.zero_mod]

theorem State.fallShown_eq_true_iff (s : State) (p : Nat) : s.fallShown p = true ↔ 8 ≤ s.lstep p ∧ s.lstep p < 12 := by
  simp [State.fallShown]

/-- A code forewarned anew is a fall's or a rise's. -/
theorem State.showForewarning_lstep_fall (s : State) (p d : Nat) (e : Course) :
    8 ≤ (s.showForewarning p false d e).lstep p ∧ (s.showForewarning p false d e).lstep p < 12 := by
  have := lstepClass_lt (s.expectedChange p d)
  simp only [State.showForewarning_lstep, bit, Bool.false_eq_true, if_false]
  omega

theorem State.showForewarning_lstep_rise (s : State) (p d : Nat) (e : Course) :
    12 ≤ (s.showForewarning p true d e).lstep p ∧ (s.showForewarning p true d e).lstep p < 16 := by
  have := lstepClass_lt (s.expectedChange p d)
  simp only [State.showForewarning_lstep, bit, if_true]
  omega

/-! ### Falls withdrawn for an event -/

theorem State.foldl_unwarn_only (cs : List Nat) (s : State) :
    ∃ l, cs.foldl (fun t c => t.modCore c (fun k => { k with forewarned := false })) s = { s with cores := l } := by
  induction cs generalizing s with
  | nil => exact ⟨_, rfl⟩
  | cons c cs ih => exact ⟨_, (ih _).choose_spec⟩

theorem State.core_foldl_unwarn (cs : List Nat) (s : State) (c : Nat) :
    (cs.foldl (fun t c => t.modCore c (fun k => { k with forewarned := false })) s).core c =
      if c ∈ cs then { s.core c with forewarned := false } else s.core c := by
  induction cs generalizing s with
  | nil => simp
  | cons d cs ih =>
    rw [List.foldl_cons, ih]
    by_cases hd : c = d
    · subst hd
      simp
    · simp [State.core_modCore_ne s _ hd, hd]

/-- Withdrawing the falls of a partition changes cores and the count of what is withdrawn. -/
theorem State.withdrawFalls_only (s : State) (p : Nat) : ∃ l, s.withdrawFalls p = { s with cores := l } ∨
    s.withdrawFalls p = ({ s with cores := l } : State).count (Reg.pmWithdrawn (coreRail p)) 1 := by
  simp only [State.withdrawFalls]
  split
  · obtain ⟨l, hl⟩ := State.foldl_unwarn_only _ s
    exact ⟨l, Or.inr (congrArg (fun t => State.count t _ 1) hl)⟩
  · exact ⟨s.cores, Or.inl rfl⟩

theorem State.withdrawFalls_reg (s : State) {p a : Nat} (h : a ≠ Reg.pmWithdrawn (coreRail p)) :
    (s.withdrawFalls p).reg a = s.reg a := by
  obtain ⟨l, hl | hl⟩ := s.withdrawFalls_only p <;> rw [hl]
  · rfl
  · rw [State.reg_count, if_neg h]
    rfl

theorem State.withdrawFalls_byte (s : State) (p a : Nat) : (s.withdrawFalls p).byte a = s.byte a := by
  obtain ⟨l, hl | hl⟩ := s.withdrawFalls_only p <;> exact (congrArg (State.byte · a) hl).trans rfl

theorem State.withdrawFalls_pm (s : State) (p : Nat) : (s.withdrawFalls p).pm = s.pm := by
  obtain ⟨l, hl | hl⟩ := s.withdrawFalls_only p <;> exact (congrArg State.pm hl).trans rfl

theorem State.withdrawFalls_of_not_fallShown {s : State} {p : Nat} (h : s.fallShown p = false) : s.withdrawFalls p = s := by
  simp [State.withdrawFalls, h]

/-- A fall that is forewarned and has not begun is forewarned no more. -/
theorem State.core_withdrawFalls {s : State} {p c : Nat} (hfall : s.fallShown p = true) (hc : c ∈ coresOfPartition p)
    (hwarned : (s.core c).forewarned = true) (hfalling : (s.core c).tensionFalling = false) (hduty : 0 < (s.core c).tensionDuty) :
    (s.withdrawFalls p).core c = { s.core c with forewarned := false } := by
  have hheld : c ∈ (coresOfPartition p).filter (fun c =>
      (s.core c).forewarned && !(s.core c).tensionFalling && decide (0 < (s.core c).tensionDuty)) := by
    simp [hc, hwarned, hfalling, hduty]
  simp only [State.withdrawFalls]
  rw [if_pos (by rw [hfall, List.isEmpty_eq_false_iff.2 (List.ne_nil_of_mem hheld)]; rfl)]
  exact (State.core_foldl_unwarn _ s c).trans (if_pos hheld)

/-! ### The rows -/

/-- The stream of a partition is granted in full from one course more. -/
def State.granting (t : State) (p : Nat) (e : Course) : State :=
  { t with pm := { t.pm with fullGrant := SMap.set [] t.pm.fullGrant p (SMap.get [] t.pm.fullGrant p ++ [e]) } }

@[simp] theorem State.granting_reg (t : State) (p : Nat) (e : Course) (a : Nat) : (t.granting p e).reg a = t.reg a := rfl
@[simp] theorem State.granting_byte (t : State) (p : Nat) (e : Course) (a : Nat) : (t.granting p e).byte a = t.byte a := rfl
@[simp] theorem State.granting_core (t : State) (p : Nat) (e : Course) (c : Nat) : (t.granting p e).core c = t.core c := rfl
@[simp] theorem State.granting_lstep (t : State) (p : Nat) (e : Course) (q : Nat) : (t.granting p e).lstep q = t.lstep q := rfl
@[simp] theorem State.granting_clearAt (t : State) (p : Nat) (e : Course) : (t.granting p e).pm.clearAt = t.pm.clearAt := rfl
@[simp] theorem State.granting_fullGrant (t : State) (p : Nat) (e : Course) :
    SMap.get [] (t.granting p e).pm.fullGrant p = SMap.get [] t.pm.fullGrant p ++ [e] := SMap.get_set_same _ _ _ _

/-- A gap is forewarned: with nothing on the pins a fall code is shown, with a fall code standing it is kept (R121, R675). -/
theorem execGapForewarning_of_due {core : Fin 160} {s : State} {d p : Nat} {e : Course} {k : Core} (hrun : s.running = true)
    (hk : k = s.core core.val) (hd : d = min k.tensionDuty (s.fld Reg.pmStatus Fld.pmStatusDuty))
    (hp : p = corePartition core.val) (he : e = s.fallEnd d) (hgap : s.gapReached core.val 16 = true)
    (hwarned : k.forewarned = false) (hfalling : k.tensionFalling = false)
    (htension : k.tensionDuty ≠ 0 ∨ s.gapReached core.val 32 = false) (hevent : s.eventWithin p 33 = none)
    (hpins : s.lstep p = 0 ∨ (8 ≤ s.lstep p ∧ s.lstep p < 12)) :
    execGapForewarning core s = .next (if s.fallShown p
      then (s.setCore core.val { k with forewarned := true, fallDue := s.cycleNo + 16 * 2560 }).keepForewarning p e
      else (s.setCore core.val { k with forewarned := true, fallDue := s.cycleNo + 16 * 2560 }).showForewarning p false (s.meanDuty p) e) := by
  subst hk hd hp he
  have hfallen : s.tensionFallen core.val = false := by
    rcases htension with h | h <;> simp [State.tensionFallen, h]
  have hshown : (decide (s.lstep (corePartition core.val) = 0) || s.fallShown (corePartition core.val)) = true := by
    rcases hpins with h | h <;> simp [State.fallShown, h]
  exact act_of_true (by simp [hrun, hgap, hwarned, hfalling, hfallen, hevent, hshown])

/-- An event is forewarned: with a rise code standing it is kept, and otherwise falls give way to it (R123, R675). -/
theorem execEventForewarning_of_due {p : Fin 4} {s t : State} {e : Course} (hrun : s.running = true)
    (hevent : s.unwarnedEvent p.val = some e)
    (ht : t = if s.riseShown p.val then s.keepForewarning p.val e
      else (s.withdrawFalls p.val).showForewarning p.val true (s.fld Reg.pmStatus Fld.pmStatusDuty - s.meanDuty p.val) e) :
    execEventForewarning p s = .next (t.granting p.val e) := by
  subst ht
  simp only [execEventForewarning, hevent]
  exact act_of_true hrun

/-- Settles O25: each row at its time, what it changes read off the codes shown and the falls withdrawn. -/
theorem gapsTensionAndForewarning : Obligations.GapsTensionAndForewarning := by
  intro s hrun
  refine ⟨fun core k d p e hk hd hp he => ⟨fun hgap hwarned hfalling htension hevent hpins => ?gap,
      fun hgap hwarned hfalling hpos hdue => ?fall, fun hfalling hnext => ?down, fun hlow hnext => ?ramp⟩,
    fun p => ⟨fun e hevent => ?event, fun a ha hreached => ?clear⟩⟩
  case gap =>
    refine ⟨_, execGapForewarning_of_due hrun hk hd hp he hgap hwarned hfalling htension hevent hpins, ?_⟩
    rcases hpins with hzero | hfall
    · have hno : s.fallShown p = false := by simp [State.fallShown, hzero]
      rw [hno, if_neg Bool.false_ne_true]
      obtain ⟨hge, hlt⟩ := (s.setCore core.val
        { k with forewarned := true, fallDue := s.cycleNo + 16 * 2560 }).showForewarning_lstep_fall p (s.meanDuty p) e
      exact ⟨(State.showForewarning_core _ _ _ _ _ _).trans (State.core_setCore_same _ _ _),
        fun c hc => (State.showForewarning_core _ _ _ _ _ _).trans (State.core_setCore_ne s _ hc),
        State.showForewarning_byte _ _ _ _ _, fun a h1 h2 => State.showForewarning_reg _ _ _ _ _ h1 h2,
        fun _ => ⟨hge, hlt, State.showForewarning_clearAt _ _ _ _ _⟩, fun h => by omega⟩
    · rw [(s.fallShown_eq_true_iff p).2 hfall, if_pos rfl]
      obtain ⟨pm, hpm, -, hclear⟩ := (s.setCore core.val
        { k with forewarned := true, fallDue := s.cycleNo + 16 * 2560 }).keepForewarning_pm p e
      rw [hpm]
      exact ⟨State.core_setCore_same s _ _, fun c hc => State.core_setCore_ne s _ hc, fun a => rfl, fun a _ _ => rfl,
        fun h => by omega, fun _ => ⟨rfl, hclear⟩⟩
  case fall =>
    subst hk hd
    exact (act_of_true (by simp [hrun, hgap, hwarned, hfalling, State.fallFrom, hpos, hdue]) : execTensionFall core s = _)
  case down =>
    subst hk
    exact (act_of_true (by simp [hrun, hfalling, hnext]) : execTensionStepDown core s = _)
  case ramp =>
    subst hk
    exact (act_of_true (by simp [hrun, hlow, hnext]) : execStreamRampStep core s = _)
  case event =>
    refine ⟨_, execEventForewarning_of_due hrun hevent rfl, ?_⟩
    simp only [State.granting_reg, State.granting_byte, State.granting_core, State.granting_lstep, State.granting_clearAt,
      State.granting_fullGrant]
    by_cases hrise : 12 ≤ s.lstep p.val
    · have hshown : s.riseShown p.val = true := by simp [State.riseShown, hrise]
      rw [hshown, if_pos rfl]
      obtain ⟨pm, hpm, hgrant, -⟩ := s.keepForewarning_pm p.val e
      rw [hpm]
      exact ⟨by rw [hgrant], fun a => rfl, fun a _ _ _ => rfl, fun h => by omega, fun h => by omega, fun _ c => rfl, fun _ => rfl⟩
    · have hshown : s.riseShown p.val = false := by simp [State.riseShown, hrise]
      rw [hshown, if_neg Bool.false_ne_true]
      simp only [State.showForewarning_byte, State.showForewarning_core, State.showForewarning_clearAt,
        State.showForewarning_fullGrant, State.withdrawFalls_byte, State.withdrawFalls_pm]
      obtain ⟨h12, h16⟩ := (s.withdrawFalls p.val).showForewarning_lstep_rise p.val
        (s.fld Reg.pmStatus Fld.pmStatusDuty - s.meanDuty p.val) e
      refine ⟨trivial, fun a => trivial, fun a h1 h2 h3 =>
          (State.showForewarning_reg _ _ _ _ _ h1 h2).trans (s.withdrawFalls_reg h3),
        fun _ => ⟨h12, h16, trivial⟩,
        fun hlt hge c hc hw hf hd => State.core_withdrawFalls ((s.fallShown_eq_true_iff _).2 ⟨hge, hlt⟩) hc hw hf hd,
        fun h c => ?_, fun h => absurd h hrise⟩
      have hno : s.fallShown p.val = false := by
        simp only [State.fallShown, Bool.and_eq_false_iff, decide_eq_false_iff_not]
        omega
      rw [State.withdrawFalls_of_not_fallShown hno]
  case clear =>
    refine ⟨s.clearLstep p.val, ?_, s.lstep_clearLstep _, SMap.get_set_same none s.pm.clearAt p.val none, fun b => rfl, fun c => rfl,
      fun b hb => State.reg_setFld_ne _ _ _ hb⟩
    show execLstepClear p s = _
    simp only [execLstepClear, ha]
    exact act_of_true (by simp [hrun, hreached])

end Sys2Proof.Machine
end

section
/-! PROOF. Moves and their transfer, and the blocks of a serving stream (R54, R241, R242, R534; R124, R125, R605). -/

namespace Sys2Proof.Machine

/-! ### Moves -/

theorem State.modCore_eq_setCore (s : State) (c : Nat) (f : Core → Core) : s.modCore c f = s.setCore c (f (s.core c)) := rfl

/-- Settles O21: an admitted move enters its channel; a transfer takes one of its five ways. -/
theorem movesAndTheirTransfer : Obligations.MovesAndTheirTransfer := by
  intro core s
  refine ⟨?enter, fun channel n m hn hm hrun hclear hfenced => ⟨?row, fun hlocal hfree => ?copy, fun hlocal hwait => ?request,
    fun hremote hto b hb => ?write, fun hremote hfrom b hb => ?read⟩,
    fun m far pool hfar hm hleft hwait hpool hout hcredit => ?granule⟩
  case enter =>
    rintro x e i rfl hissue hadmitted hdiag
    refine (execIssue_of_done hissue ?_ : execMCopy core s = _)
    simp [hadmitted, hdiag, State.modCore_eq_setCore]
  case row =>
    show execMoveTransfer core channel s = _
    simp only [execMoveTransfer, hn, hm]
    exact act_of_true (by simp [hrun, hclear, hfenced])
  case copy => simp [State.transfer, hlocal, hfree]
  case request => simp [State.transfer, hlocal, hwait]
  case write => simp [State.transfer, hremote, hto, hb]
  case read => simp [State.transfer, hremote, hfrom, hb]
  case granule =>
    subst hfar
    simp only [State.requestGranule, hm, hwait, hpool, hout, hcredit, Nat.not_le.mpr hleft, Bool.not_true, Bool.false_eq_true,
      if_false, and_self, if_true]

/-! ### Serving blocks -/

/-- A block is full once its 128th request has come in time (R124). -/
theorem State.blockOf_of_full {s : State} {v : Stream} {q r : Request} {rest : List Request} (hv : v.byArrival = q :: rest)
    (hr : rest[126]? = some r) (hdue : r.arrives ≤ q.arrives + 2560 * v.deadline) (hnow : r.arrives ≤ s.now) :
    s.blockOf v = q :: rest.take 127 := by
  simp [State.blockOf, hv, hr, hdue, hnow]

/-- A block that cannot be full closes at its deadline (R124). -/
theorem State.blockOf_of_short {s : State} {v : Stream} {q : Request} {rest : List Request} (hv : v.byArrival = q :: rest)
    (hshort : rest.length ≤ 126) (hdue : q.arrives + 2560 * v.deadline ≤ s.now) :
    s.blockOf v = (q :: rest).filter (fun r =>
      if v.deadline = 0 then decide (r.arrives = q.arrives) else decide (r.arrives < q.arrives + 2560 * v.deadline)) := by
  have hnone : rest[126]? = none := List.getElem?_eq_none hshort
  simp [State.blockOf, hv, hnone, hdue]

theorem ctxHalted_ne_ctxFaulted : ctxHalted ≠ ctxFaulted := by decide

/-- Settles O26: what a block is, and each row under its own conditions. -/
theorem servingBlocks : Obligations.ServingBlocks := by
  intro stream s v hv hrun
  refine ⟨fun q rest harrival => ⟨fun r hr hdue hnow => State.blockOf_of_full harrival hr hdue hnow,
      fun hshort hdue => State.blockOf_of_short harrival hshort hdue⟩,
    fun hblock => ?close, fun b more hclosed hnone hhalted hreset hchip => ?start, fun b hb hhalted => ?done,
    fun b hb hfaulted => ?lost⟩
  case close =>
    show execServeBlockClose stream s = _
    simp only [execServeBlockClose, hv]
    exact act_of_true (by simp [hrun, hblock])
  case start =>
    show execServeBlockStart stream s = _
    simp only [execServeBlockStart, hv, hclosed]
    exact act_of_true (by simp [hrun, hnone, hhalted, hreset, hchip])
  case done =>
    show execServeBlockDone stream s = _
    simp only [execServeBlockDone, hv, hhalted, if_neg ctxHalted_ne_ctxFaulted, hb]
    exact act_of_true (by simp [hrun])
  case lost =>
    show execServeBlockDone stream s = _
    simp only [execServeBlockDone, hv, hfaulted, if_true, hb]
    exact act_of_true (by simp [hrun])

end Sys2Proof.Machine
end

section
/-! PROOF. The blocks and timers of a link, its training and session, and the routing of a packet (R273–R276, R287,
R291–R294, R301, R305, R526, R621). -/

namespace Sys2Proof.Machine

/-! ### A port of the state -/

@[simp] theorem State.port_setPort_same (s : State) (n : Nat) (p : Port) : (s.setPort n p).port n = p :=
  SMap.get_set_same _ _ _ _

@[simp] theorem State.port_setFld (s : State) (a : Nat) (f : BitField) (v n : Nat) : (s.setFld a f v).port n = s.port n := rfl

/-! ### The tag of a block -/

theorem Port.tagged_replayBuf (p : Port) (seq : BitVec 12) (fs : List TxFlit) :
    (Port.tagged p seq fs).1.replayBuf = p.replayBuf := by
  unfold Port.tagged
  dsimp only
  split <;> rfl

theorem Port.tagged_txSeq (p : Port) (seq : BitVec 12) (fs : List TxFlit) : (Port.tagged p seq fs).1.txSeq = p.txSeq := by
  unfold Port.tagged
  dsimp only
  split <;> rfl

theorem Port.tagged_seq (p : Port) (seq : BitVec 12) (fs : List TxFlit) : (Port.tagged p seq fs).2.seq = seq := by
  unfold Port.tagged
  dsimp only
  split <;> rfl

theorem Port.tagged_flits (p : Port) (seq : BitVec 12) (fs : List TxFlit) :
    (Port.tagged p seq fs).2.flits = fs.map TxFlit.flit := by
  unfold Port.tagged
  dsimp only
  split <;> rfl

/-! ### The flits of a block -/

theorem State.beginPacket_replayBuf (s : State) (n : Nat) (p : Port) (pk : Packet) :
    (s.beginPacket n p pk).replayBuf = p.replayBuf := by
  unfold State.beginPacket
  dsimp only
  split
  · rfl
  · split <;> rfl

theorem State.beginPacket_txSeq (s : State) (n : Nat) (p : Port) (pk : Packet) : (s.beginPacket n p pk).txSeq = p.txSeq := by
  unfold State.beginPacket
  dsimp only
  split
  · rfl
  · split <;> rfl

/-- Filling `k` slots gives `k` flits, and leaves what is kept for replay and its numbers. -/
def FillsSlots (k : Nat) (p : Port) (r : Port × List TxFlit) : Prop :=
  r.2.length = k ∧ r.1.replayBuf = p.replayBuf ∧ r.1.txSeq = p.txSeq

theorem State.fillFlits_fillsSlots (s : State) (n : Nat) : ∀ (k : Nat) (p : Port), FillsSlots k p (s.fillFlits n k p) := by
  intro k
  induction k with
  | zero => exact fun p => ⟨rfl, rfl, rfl⟩
  | succ k ih =>
    intro p
    have hnext : ∀ (q : Port) (f : TxFlit), q.replayBuf = p.replayBuf → q.txSeq = p.txSeq →
        FillsSlots (k + 1) p ((s.fillFlits n k q).1, f :: (s.fillFlits n k q).2) := by
      intro q f hbuf hseq
      obtain ⟨hlen, hbuf', hseq'⟩ := ih q
      exact ⟨congrArg Nat.succ hlen, hbuf'.trans hbuf, hseq'.trans hseq⟩
    rw [State.fillFlits]
    cases hq : p.txQueue with
    | nil => exact hnext p _ rfl rfl
    | cons head rest =>
      dsimp only
      split
      · exact hnext p _ rfl rfl
      · refine hnext _ _ ?_ ?_
        · split <;> split <;> simp only [State.beginPacket_replayBuf]
        · split <;> split <;> simp only [State.beginPacket_txSeq]

/-! ### The rows of blocks -/

theorem State.sendBlock_of_holds {s : State} {n : Nat} (h : (s.port n).holds = true) :
    ((s.sendBlock n).port n).replayBuf = (s.port n).replayBuf ∧ ((s.sendBlock n).port n).txSeq = (s.port n).txSeq := by
  simp only [State.sendBlock, h, if_true, State.port_setPort_same, Port.tagged_replayBuf, Port.tagged_txSeq, and_self]

/-- A block sent anew carries the flits that fill it, under the next number. -/
theorem State.sendBlock_of_new {s : State} {n : Nat} (h : (s.port n).holds = false) (hnew : (s.port n).replayFrom = none) :
    ∃ fs b, fs.length = 40 ∧ ((s.sendBlock n).port n).replayBuf = (s.port n).replayBuf ++ fs ∧
      ((s.sendBlock n).port n).txSeq = (s.port n).txSeq + 40 ∧ ((s.sendBlock n).port n).lastBlock = some b ∧
      b.seq = (s.port n).txSeq ∧ b.flits = fs.map TxFlit.flit := by
  obtain ⟨hlen, hbuf, hseq⟩ := s.fillFlits_fillsSlots n 40 (s.port n)
  refine ⟨(s.fillFlits n 40 (s.port n)).2,
    (Port.tagged (s.fillFlits n 40 (s.port n)).1 (s.fillFlits n 40 (s.port n)).1.txSeq (s.fillFlits n 40 (s.port n)).2).2, hlen, ?_⟩
  simp only [State.sendBlock, h, Bool.false_eq_true, if_false, hnew, State.port_setFld, State.port_setPort_same,
    Port.tagged_replayBuf, Port.tagged_txSeq, Port.tagged_seq, Port.tagged_flits, hbuf, hseq, and_self]

/-- The next packet after a key change is requested begins under the next key (R291). -/
theorem State.beginPacket_of_keyPending {s : State} {n : Nat} {q : Port} {pk : Packet} (hpending : q.keyPending = true)
    (hty : pk.ty ≠ tySession) :
    (s.beginPacket n q pk).keyIndexTx = q.keyIndexTx + 1 ∧ (s.beginPacket n q pk).nonceTx = 1 ∧
    (s.beginPacket n q pk).keyPhaseTx = (!q.keyPhaseTx) ∧ (s.beginPacket n q pk).keyPending = false ∧
    (s.beginPacket n q pk).txBytes = s.sealed n true (q.keyIndexTx + 1) 0 pk := by
  simp [State.beginPacket, hty, hpending]

/-- Settles O28: each row's condition is met, and its effect read off. -/
theorem linkBlocksAndTimers : Obligations.LinkBlocksAndTimers := by
  rintro port s p rfl hrun
  refine ⟨fun hfabric hchip hlinked => ⟨fun hmay => ?send, State.sendBlock_of_holds, State.sendBlock_of_new, ?receive⟩,
    fun t => rfl, fun hlinked hholds hbuf hlate => ?replay, fun hlinked hlate => ?silent, fun requested hup hcause => ?key,
    fun q pk hpending hty => State.beginPacket_of_keyPending hpending hty⟩
  case send =>
    have hroom : ((s.port port.val).holds || (s.port port.val).replayFrom.isSome ||
        decide ((s.port port.val).replayBuf.length + 40 ≤ 2040)) = true := by
      simp only [Bool.or_eq_true, decide_eq_true_eq]
      rcases hmay with h | h | h
      · exact .inl (.inr h)
      · exact .inl (.inl h)
      · exact .inr (by omega)
    exact (act_of_true (by simp only [hrun, hfabric, hchip, hlinked, hroom]; rfl) : execBlockSend port s = _)
  case receive =>
    rintro b f u rfl
    have hrow : execBlockReceive port b f s = .next (s.receiveBlock port.val b f) :=
      act_of_true (by simp [hrun, hfabric, hchip, hlinked])
    refine ⟨fun hbad => hrow.trans ?_, fun hgood hcrc => hrow.trans ?_, fun hgood hcrc => hrow.trans ?_⟩
    · simp only [State.receiveBlock, hbad, if_true]
    · simp only [State.receiveBlock, hgood, Nat.lt_irrefl, if_false, hcrc, if_true]
    · simp only [State.receiveBlock, hgood, Nat.lt_irrefl, if_false, hcrc, Bool.false_eq_true]
  case replay =>
    rintro t rfl
    exact (act_of_true (by simp [hrun, hlinked, hholds, hbuf, hlate]) : execReplayTimeout port s = _)
  case silent => exact (act_of_true (by simp [hrun, hlinked, hlate]) : execPeerSilent port s = _)
  case key =>
    have hdue : (requested || decide (2 ^ 40 ≤ (s.port port.val).nonceTx.toNat)) = true := by
      simpa only [Bool.or_eq_true, decide_eq_true_eq] using hcause
    exact (act_of_true (by simp only [hrun, hup, hdue]; rfl) : execLinkKeyChange port requested s = _)

/-! ### Training -/

theorem State.trainStep_portComesUp (s : State) (n : Nat) : ((s.portComesUp n).port n).trainStep = 0 := by
  simp only [State.portComesUp, State.setPortState, State.port_setFld, State.port_setPort_same]

/-- Settles O29: the steps of training by their number, the messages by what the port still awaits. -/
theorem portsTrainAndLinkSessions : Obligations.PortsTrainAndLinkSessions := by
  intro port s hrun
  refine ⟨fun hfabric hchip => ⟨fun lanes d r hstep => ?early, fun ok lanes d r t hstep ht => ?lanes, fun lanes d r hstep => ?measure,
      fun lanes d r l hstep hl hverified => ?verified, fun lanes d r hstep hleft hresync => ?up, fun lanes d r hpos hstep => ?failed⟩,
    rfl, s.trainStep_portComesUp _, fun a t hfabric hchip => ⟨fun hsession => ⟨fun l hl hstep htheirs => ?hello, fun hother => ?noHello⟩,
      fun hsession => ⟨fun l hl hstep hverified => ?finish, fun agree hother => ?noFinish⟩⟩,
    fun l a hl ha hstep hverified hlate => ?timeout⟩
  case early =>
    show execPortTrainingStep port ⟨true, lanes⟩ d r s = _
    rcases hstep with hstep | hstep <;>
    · simp only [execPortTrainingStep, hstep]
      exact act_of_true (by simp [hrun, hfabric, hchip])
  case lanes =>
    subst ht
    show execPortTrainingStep port ⟨ok, lanes⟩ d r s = _
    simp only [execPortTrainingStep, hstep]
    rw [act_of_true (by simp [hrun, hfabric, hchip])]
    by_cases hgood : ok = true ∧ lanes = 0xFFFF
    · simp [hgood]
    · rw [if_neg hgood]
      simp only [not_and] at hgood
      simp
      tauto
  case measure =>
    show execPortTrainingStep port ⟨true, lanes⟩ d r s = _
    simp only [execPortTrainingStep, hstep]
    exact act_of_true (by simp [hrun, hfabric, hchip])
  case verified =>
    show execPortTrainingStep port ⟨true, lanes⟩ d r s = _
    simp only [execPortTrainingStep, hstep, hl]
    exact act_of_true (by simp [hrun, hfabric, hchip, hverified])
  case up =>
    show execPortTrainingStep port ⟨true, lanes⟩ d r s = _
    simp only [execPortTrainingStep, hstep]
    exact act_of_true (by simp [hrun, hfabric, hchip, hleft, hresync])
  case failed =>
    show execPortTrainingStep port ⟨false, lanes⟩ d r s = _
    simp only [execPortTrainingStep, if_neg hstep]
    exact act_of_true (by simp [hrun, hfabric, hchip, hpos])
  case hello =>
    show execHello s = _
    simp only [execHello, hsession, hl, hstep, htheirs, and_self, if_true]
    exact act_of_true (by simp [hrun, hfabric, hchip])
  case noHello =>
    show execHello s = _
    simp only [execHello, hsession]
    rw [act_of_true (by simp [hrun, hfabric, hchip])]
    cases hl : t.linkSession a.port with
    | none => rfl
    | some l => exact congrArg _ (if_neg fun h => hother l hl h.1 h.2)
  case finish =>
    have hrow : ∀ agree, execFinish agree s = .next (if agree then t.takeFinish a.port a.packet l else t.trustDisagrees) := fun agree => by
      simp only [execFinish, hsession, hl, hstep, hverified, and_self, if_true]
      exact act_of_true (by simp [hrun, hfabric, hchip])
    exact ⟨hrow true, hrow false⟩
  case noFinish =>
    show execFinish agree s = _
    simp only [execFinish, hsession]
    rw [act_of_true (by simp [hrun, hfabric, hchip])]
    cases hl : t.linkSession a.port with
    | none => rfl
    | some l => exact congrArg _ (if_neg fun h => Bool.false_ne_true (h.2.symm.trans (hother l hl h.1)))
  case timeout =>
    show execFinishTimeout port s = _
    simp only [execFinishTimeout, hl]
    exact act_of_true (by simp [hrun, hstep, hverified, LinkSession.late, ha, hlate])

/-! ### Routing -/

/-- Settles O30: one case for each fate of the packet at the head. -/
theorem routingAPacket : Obligations.RoutingAPacket := by
  intro input vc s p arriving hhead hrun hfabric hchip htorus
  refine ⟨rfl, fun counter hwhole hfault => ?fault, fun hsound => ⟨fun hhop => ?gone, fun hwhole hhop => ?unreachable,
    fun hwhole hhop => ⟨?local_, fun hown => ?owned, fun hown => ?foreign⟩, fun o d hhop hgrant => ?forward⟩⟩
  case fault =>
    show execPacketRoute input vc s = _
    simp only [execPacketRoute, hhead, hfault]
    exact act_of_true (by simp [hrun, hfabric, hchip, htorus, hwhole])
  case gone =>
    show execPacketRoute input vc s = _
    simp only [execPacketRoute, hhead, hsound, hhop]
    exact act_of_true (by simp [hrun, hfabric, hchip, htorus])
  case unreachable =>
    show execPacketRoute input vc s = _
    simp only [execPacketRoute, hhead, hsound, hhop]
    exact act_of_true (by simp [hrun, hfabric, hchip, htorus, hwhole])
  case local_ =>
    show execPacketRoute input vc s = _
    simp only [execPacketRoute, hhead, hsound, hhop]
    exact act_of_true (by simp [hrun, hfabric, hchip, htorus, hwhole])
  case owned => simp only [State.deliver, hown, if_true]
  case foreign => simp only [State.deliver, hown, Bool.false_eq_true, if_false]
  case forward =>
    show execPacketRoute input vc s = _
    simp only [execPacketRoute, hhead, hsound, hhop, hgrant]
    exact act_of_true (by simp [hrun, hfabric, hchip, htorus])

end Sys2Proof.Machine
end

section
/-! PROOF. Packets that take effect exactly once, their replies and flows, and the descriptors of the collective engine
(R302–R310, R316–R319, R335, R337, R343, R508, R529–R531). -/

namespace Sys2Proof.Machine

/-! ### Reliable packets -/

theorem State.accept_full {s : State} {p : Packet} {reply : Bool} {f : Option RecvFlow} (h : s.judge p reply = (.full, f))
    (effect : State → State) : s.accept p reply effect = s.count Reg.prFlowFull 1 := by
  cases f <;> simp only [State.accept, h]

theorem State.accept_beyond {s : State} {p : Packet} {reply : Bool} {f : Option RecvFlow} (h : s.judge p reply = (.beyond, f))
    (effect : State → State) : s.accept p reply effect = s := by
  cases f <;> simp only [State.accept, h]

/-- The rows of the three reliable packets, each with its type and its effect. -/
def reliableRows : List (Instr × BitVec 4 × (State → Packet → State)) := [
  (.write, tyWrite, fun u p => if u.remoteAdmitted p p.payload.length then u.storeCopied (packetAddress p) p.payload (packetPoison p)
    else u.count Reg.dtRemoteRefused 1),
  (.readReq, tyReadReq, fun u p => u.serveRead p),
  (.raise_, tyRaise, fun u p => u.remoteRaise p)]

/-- The packets that a reliable row takes: of its type, at an open endpoint; a WRITE to the step keeper is another row's. -/
def State.reliableFor (s : State) (ty : BitVec 4) (q : Packet) : Bool :=
  decide (q.ty = ty) && (decide (ty ≠ tyWrite) || decide (q.dstEp ≠ epStepKeeper)) && s.epOpen q.dstEp

theorem State.reliableFor_write (s : State) :
    s.reliableFor tyWrite = fun p => decide (p.ty = tyWrite) && decide (p.dstEp ≠ epStepKeeper) && s.epOpen p.dstEp := by
  funext p
  simp [State.reliableFor]

theorem State.reliableFor_of_ne (s : State) {ty : BitVec 4} (h : ty ≠ tyWrite) :
    s.reliableFor ty = fun p => decide (p.ty = ty) && s.epOpen p.dstEp := by
  funext p
  simp [State.reliableFor, h]

theorem tyReadReq_ne_tyWrite : tyReadReq ≠ tyWrite := by decide

theorem tyRaise_ne_tyWrite : tyRaise ≠ tyWrite := by decide

/-- A row of a reliable packet lets its flow judge it; a READ_REQ without room in the table of reads is an exception. -/
theorem exec_reliable {row : Instr} {ty : BitVec 4} {effect : State → Packet → State} {s t : State} {a : Nat} {p : Packet}
    (hrow : (row, ty, effect) ∈ reliableRows) (hrun : s.running = true)
    (htake : s.takeArrived (s.reliableFor ty) = some (a, p, t)) :
    exec row s = .next (if ty = tyReadReq ∧ 4096 ≤ t.fab.readTable.length ∧ (t.judge p false).1 = .fresh
      then t.count Reg.prReadBusy 1 else t.accept p false (fun u => effect u p)) := by
  simp only [reliableRows, List.mem_cons, Prod.mk.injEq, List.not_mem_nil, or_false] at hrow
  rcases hrow with ⟨rfl, rfl, rfl⟩ | ⟨rfl, rfl, rfl⟩ | ⟨rfl, rfl, rfl⟩
  · rw [State.reliableFor_write] at htake
    show execWrite s = _
    simp only [execWrite, htake]
    rw [act_of_true hrun, if_neg fun h => tyReadReq_ne_tyWrite h.1.symm]
  · rw [State.reliableFor_of_ne s tyReadReq_ne_tyWrite] at htake
    show execReadReq s = _
    simp only [execReadReq, htake, true_and]
    exact act_of_true hrun
  · rw [State.reliableFor_of_ne s tyRaise_ne_tyWrite] at htake
    show execRaise s = _
    simp only [execRaise, htake]
    rw [act_of_true hrun, if_neg fun h => absurd h.1 (by decide)]

/-- Settles O31: each judgement of the flow has its own outcome, and each way of a raise its own effect. -/
theorem reliableArrivalsTakeEffectOnce : Obligations.ReliableArrivalsTakeEffectOnce := by
  intro s t a p row ty effect hmem hrun htake
  obtain ⟨effect', hrow, rfl⟩ : ∃ e, (row, ty, e) ∈ reliableRows ∧ effect = fun u => e u p := by
    simp only [List.mem_cons, Prod.mk.injEq, List.not_mem_nil, or_false] at hmem
    rcases hmem with ⟨rfl, rfl, rfl⟩ | ⟨rfl, rfl, rfl⟩ | ⟨rfl, rfl, rfl⟩
    · exact ⟨_, List.mem_cons_self, rfl⟩
    · exact ⟨_, List.mem_cons_of_mem _ List.mem_cons_self, rfl⟩
    · exact ⟨_, List.mem_cons_of_mem _ (List.mem_cons_of_mem _ List.mem_cons_self), rfl⟩
  have hexec := exec_reliable hrow hrun htake
  have hother : (t.judge p false).1 ≠ .fresh → exec row s = .next (t.accept p false (fun u => effect' u p)) := fun hne => by
    rw [hexec, if_neg fun h => hne h.2.2]
  refine ⟨fun f hfresh hty hfull => ?busy, fun f hfresh hroom => ?fresh, fun f hdup => ?duplicate, fun f hstale => ?stale,
    fun f hfull => ?full, fun f hbeyond => ?beyond, ?raise⟩
  case busy => rw [hexec, if_pos ⟨hty, hfull, by rw [hfresh]⟩]
  case fresh => rw [hexec, if_neg fun h => absurd h.2.1 (Nat.not_le.mpr (hroom h.1)), State.accept_fresh hfresh]
  case duplicate => rw [hother (by simp [hdup]), State.accept_duplicate hdup]
  case stale => rw [hother (by simp [hstale]), State.accept_stale hstale]
  case full => rw [hother (by simp [hfull]), State.accept_full hfull]
  case beyond => rw [hother (by simp [hbeyond]), State.accept_beyond hbeyond]
  case raise =>
    rintro u c x k n rfl rfl rfl rfl
    refine ⟨fun hmask => ?_, fun hmask hlate => ?_, fun hmask hlate hroom => ?_⟩
    · simp [State.remoteRaise, hmask]
    · simp [State.remoteRaise, hmask, hlate]
    · simp [State.remoteRaise, hmask, hlate, hroom]

/-! ### Replies, acknowledgements and flows -/

theorem State.again_header (s : State) (u : Unacked) :
    (s.again u).retx = true ∧ (s.again u).stamp = s.stampNow ∧ (s.again u).e2eSeq = u.packet.e2eSeq := by
  unfold State.again
  cases u.origin <;> exact ⟨rfl, rfl, rfl⟩

/-- A fault that is already in the map has no further effect. -/
theorem State.takeFault_of_known {s : State} {r : BitVec 64} {except : Option Nat} (h : s.fab.faultMap.any (sameFault r) = true) :
    s.takeFault r except = s := by
  simp only [State.takeFault, State.floodFault, h, if_true]

/-- Settles O32: each row under its conditions, by the judgement of its flow or the state of it. -/
theorem repliesAcknowledgementsAndFlows : Obligations.RepliesAcknowledgementsAndFlows := by
  intro s hrun
  refine ⟨fun a p t htake => ⟨fun hstale => ?staleReply, fun f u hcurrent hfresh hu => ⟨fun hnone => ?noRead, fun w v hw hv => ?read⟩,
      fun f hcurrent hdup => ?duplicate⟩,
    fun hfabric hchip => ⟨fun a p t htake => ⟨fun hcurrent => ?acks, fun hstale => ?staleAck⟩,
      fun f u hover => ⟨fun htries => ?abandon, fun htries => ?again, s.again_header u⟩,
      fun a t r htake hr => ⟨fun hkind => ⟨?fault, State.takeFault_of_known⟩, fun hkind => ?reserved⟩⟩,
    fun key f hf hempty hidle => ?freeSend, fun key f hf hidle => ?freeReceive⟩
  case staleReply =>
    show execReadResp s = _
    simp only [execReadResp, htake, hstale, if_true]
    exact act_of_true hrun
  case noRead =>
    subst hu
    show execReadResp s = _
    simp only [execReadResp, htake, hcurrent, Bool.false_eq_true, if_false, State.accept_fresh hfresh, hnone]
    exact act_of_true hrun
  case read =>
    subst hu hv
    show execReadResp s = _
    simp only [execReadResp, htake, hcurrent, Bool.false_eq_true, if_false, State.accept_fresh hfresh, hw, State.landData,
      List.all_eq_true, decide_eq_true_eq]
    exact act_of_true hrun
  case duplicate =>
    show execReadResp s = _
    simp only [execReadResp, htake, hcurrent, Bool.false_eq_true, if_false, State.accept_duplicate hdup]
    exact act_of_true hrun
  case acks =>
    show execE2eAck s = _
    simp only [execE2eAck, htake, hcurrent, Bool.false_eq_true, if_false]
    exact act_of_true (by simp [hrun, hfabric, hchip])
  case staleAck =>
    show execE2eAck s = _
    simp only [execE2eAck, htake, hstale, if_true]
    exact act_of_true (by simp [hrun, hfabric, hchip])
  case abandon =>
    show execE2eRetransmit s = _
    simp only [execE2eRetransmit, hover, State.retransmit, htries, if_true]
    exact act_of_true (by simp [hrun, hfabric, hchip])
  case again =>
    show execE2eRetransmit s = _
    simp only [execE2eRetransmit, hover]
    exact act_of_true (by simp [hrun, hfabric, hchip])
  case fault =>
    subst hr
    show execFault s = _
    simp only [execFault, htake, hkind, if_true]
    exact act_of_true (by simp [hrun, hfabric, hchip])
  case reserved =>
    subst hr
    show execFault s = _
    simp only [execFault, htake, if_neg (Nat.not_lt.mpr hkind)]
    exact act_of_true (by simp [hrun, hfabric, hchip])
  case freeSend =>
    show execFlowIdleFree true key s = _
    simp only [execFlowIdleFree, if_true, hf]
    exact act_of_true (by simp [hrun, hempty, hidle])
  case freeReceive =>
    show execFlowIdleFree false key s = _
    simp only [execFlowIdleFree, Bool.false_eq_true, if_false, hf]
    exact act_of_true (by simp [hrun, hidle])

/-! ### Descriptors that start -/

/-- Each row of a start runs the head descriptor, if it is of the row's operation. -/
theorem exec_startRow {x : Fin 16} {s : State} {row : Fin 16 → Instr} {ofOp : Nat → Bool} (h : (row, ofOp) ∈ ([
      (.reduceScatter, fun o => decide (o ≠ opAllReduce) && decide (o ≠ opAllGather) && decide (o ≠ opRingPass)),
      (.allReduce, fun o => decide (o = opAllReduce)), (.allGather, fun o => decide (o = opAllGather)),
      (.ringPass, fun o => decide (o = opRingPass))] : List ((Fin 16 → Instr) × (Nat → Bool)))) :
    exec (row x) s = .next (s.startRow x.val ofOp) := by
  simp only [List.mem_cons, Prod.mk.injEq, List.not_mem_nil, or_false] at h
  rcases h with ⟨rfl, rfl⟩ | ⟨rfl, rfl⟩ | ⟨rfl, rfl⟩ | ⟨rfl, rfl⟩ <;> rfl

/-- A head descriptor whose wait is met and that has its buffers passes its wait and, once granted, starts. -/
theorem State.startRow_of_room {s : State} {x slot : Nat} {ofOp : Nat → Bool} {d : Descriptor} {r : Running}
    (hslot : slot = s.fld (Reg.ceQueue x) Fld.ceQueueHead) (hd : d = s.descriptorAt x slot) (hr : r = s.asRunning x slot d)
    (hstart : s.mayStart x = true) (hop : ofOp d.op = true)
    (hclean : s.poisoned (s.fld (Reg.ceQueue x) Fld.ceQueueBase * 64 + slot * 64) 64 = false) (hwait : d.badWait x = false)
    (hready : s.descriptorReady x d = true) (hshape : d.badShape = false) (hroom : s.roomFor r = true) (hfree : s.memHeld r = false) :
    s.startRow x ofOp = if (s.passWait x r).grantsIn r then (s.passWait x r).startOrFault x r else s.passWait x r := by
  subst hslot hd hr
  simp [State.startRow, hstart, hop, hclean, hwait, hready, hshape, hroom, hfree]

/-- Settles O33: the tests in their order, each with its outcome. -/
theorem descriptorsStart : Obligations.DescriptorsStart := by
  rintro x s row ofOp slot d r hrow hslot hd hr hstart hop at_ rfl
  have hdesc : r.desc = d := by rw [hr]; rfl
  have hslot' : r.slot = slot := by rw [hr]; rfl
  rw [exec_startRow hrow]
  refine ⟨fun hpoison => ?poison, fun hclean hwait => ?wait, fun hclean hwait hready => ?waits,
    fun hclean hwait hready hshape => ?shape, fun hclean hwait hready hshape hroom => ?room,
    fun hclean hwait hready hshape hroom hfree t ht => ?passes⟩
  case poison => subst hslot hd; simp [State.startRow, hstart, hop, hpoison]
  case wait => subst hslot hd; simp [State.startRow, hstart, hop, hclean, hwait]
  case waits => subst hslot hd; simp [State.startRow, hstart, hop, hclean, hwait, hready]
  case shape => subst hslot hd; simp [State.startRow, hstart, hop, hclean, hwait, hready, hshape]
  case room =>
    subst hslot hd hr
    have hheld : (!s.roomFor (s.asRunning x.val (s.fld (Reg.ceQueue x.val) Fld.ceQueueHead)
        (s.descriptorAt x.val (s.fld (Reg.ceQueue x.val) Fld.ceQueueHead))) ||
        s.memHeld (s.asRunning x.val (s.fld (Reg.ceQueue x.val) Fld.ceQueueHead)
        (s.descriptorAt x.val (s.fld (Reg.ceQueue x.val) Fld.ceQueueHead)))) = true := by
      rcases hroom with h | h <;> simp [h]
    simp only [State.startRow, hstart, hop, hclean, hwait, hready, hshape, hheld, Bool.and_self, if_true, Bool.false_eq_true,
      if_false, Bool.not_true]
  case passes =>
    have hpass : s.passWait x.val r = t := by rw [ht, State.passWait, hdesc]
    rw [State.startRow_of_room hslot hd hr hstart hop hclean hwait hready hshape hroom hfree, hpass]
    refine ⟨fun hgrant => ?_, fun hgrant hform => ?_, fun e hgrant hform hfar => ?_, fun hgrant hform hfar => ?_⟩
    · rw [hgrant, if_neg Bool.false_ne_true]
    · simp only [hgrant, if_true, State.startOrFault, hdesc, hform, hslot']
    · simp only [hgrant, if_true, State.startOrFault, hdesc, hform, Bool.false_eq_true, if_false, hfar, hslot']
    · simp only [hgrant, if_true, State.startOrFault, hdesc, hform, Bool.false_eq_true, if_false, hfar]

/-! ### Descriptors that run -/

/-- A completed descriptor stays for what it still passes on. -/
theorem State.letGo_of_sending {s : State} {n : Nat} {r : Running} (hr : s.ce.running[n]? = some r) (hsent : r.allSent = false) :
    (s.setRunning n { r with completed := true }).letGo n = s.setRunning n { r with completed := true } := by
  have hset : (s.ce.running.set n { r with completed := true })[n]? = some { r with completed := true } :=
    List.getElem?_set_self (List.getElem?_eq_some_iff.mp hr).1
  have hsent' : ({ r with completed := true } : Running).allSent = false := hsent
  simp [State.letGo, State.setRunning, hset, hsent']

/-- One that has sent all it passes on leaves the engine, with its buffers. -/
theorem State.letGo_of_sent {s : State} {n : Nat} {r : Running} (hr : s.ce.running[n]? = some r) (hsent : r.allSent = true) :
    (s.setRunning n { r with completed := true }).letGo n = { s with ce := { s.ce with
      running := s.ce.running.eraseIdx n, buffersUsed := s.ce.buffersUsed - r.buffers } } := by
  have hset : (s.ce.running.set n { r with completed := true })[n]? = some { r with completed := true } :=
    List.getElem?_set_self (List.getElem?_eq_some_iff.mp hr).1
  have hsent' : ({ r with completed := true } : Running).allSent = true := hsent
  simp only [State.letGo, State.setRunning, hset, hsent', Bool.and_self, if_true, List.eraseIdx_set_eq]
  rfl

/-- Settles O34: packets by what they find running, credits by their flow, completion by what is still to be sent. -/
theorem descriptorsRunAndEnd : Obligations.DescriptorsRunAndEnd := by
  intro s hrun hswatch
  refine ⟨fun a p t htake => ⟨fun hepoch => ?stale, fun hepoch hindex => ?orphan, fun i r hepoch hindex hr =>
      ⟨fun hway => ?noWay, fun w hway hlost => ?lost, fun w hway hlost => ?taken⟩⟩,
    fun row msg grant a p t hrow htake hopen => ?credit,
    fun n r hr hfabric hchip hlost => ⟨fun hdone hcompleted hsent => ?sending, fun hdone hcompleted hsent => ?sent,
      fun hdone hkept hlate => ?timeout⟩,
    fun x c hc hlate => ?reclaim⟩
  case stale =>
    show execColl s = _
    simp only [execColl, htake, if_pos hepoch]
    exact act_of_true hrun
  case orphan =>
    show execColl s = _
    simp only [execColl, htake, hepoch, ne_eq, not_true_eq_false, if_false, hindex]
    exact act_of_true hrun
  case noWay =>
    show execColl s = _
    simp only [execColl, htake, hepoch, ne_eq, not_true_eq_false, if_false, hindex, hr, hway]
    exact act_of_true hrun
  case lost =>
    show execColl s = _
    simp only [execColl, htake, hepoch, ne_eq, not_true_eq_false, if_false, hindex, hr, hway, hlost, if_true]
    exact act_of_true hrun
  case taken =>
    show execColl s = _
    simp only [execColl, htake, hepoch, ne_eq, not_true_eq_false, if_false, hindex, hr, hway, hlost, Bool.false_eq_true]
    exact act_of_true hrun
  case credit =>
    have hexec : exec row s = .next (t.accept p false (fun u => u.takeCredit p grant)) := by
      simp only [List.mem_cons, Prod.mk.injEq, List.not_mem_nil, or_false] at hrow
      rcases hrow with ⟨rfl, rfl, rfl⟩ | ⟨rfl, rfl, rfl⟩
      · show execGrant s = _
        simp only [execGrant, htake]
        exact act_of_true (by simp [hrun, hopen, hswatch])
      · show execReturn s = _
        simp only [execReturn, htake]
        exact act_of_true (by simp [hrun, hopen, hswatch])
    exact ⟨fun f hfresh => by rw [hexec, State.accept_fresh hfresh], fun f hdup => by rw [hexec, State.accept_duplicate hdup]⟩
  case sending =>
    show execDescriptorComplete n s = _
    simp only [execDescriptorComplete, hr, State.letGo_of_sending hr hsent]
    exact act_of_true (by simp [hrun, hfabric, hchip, hswatch, hlost, hcompleted, hdone])
  case sent =>
    show execDescriptorComplete n s = _
    simp only [execDescriptorComplete, hr, State.letGo_of_sent hr hsent]
    exact act_of_true (by simp [hrun, hfabric, hchip, hswatch, hlost, hcompleted, hdone])
  case timeout =>
    show execCollectiveTimeout n s = _
    simp only [execCollectiveTimeout, hr]
    exact act_of_true (by simp [hrun, hfabric, hchip, hlost, hdone, hkept, hlate])
  case reclaim =>
    show execReclaimHoldEnd x s = _
    simp only [execReclaimHoldEnd, hc]
    exact act_of_true (by simp [hrun, hlate])

end Sys2Proof.Machine
end

section
/-! PROOF. Course time and its event tables, the actions they hand over, and the record and decision of a step
(R351, R360–R376, R386–R396, R402–R410, R476–R480, R508). -/

namespace Sys2Proof.Machine

/-! ### Course time -/

theorem State.electionTerm_zero {s : State} {v : BitVec 16} (h : s.electionTerm true = some v) : v = 0 := by
  simp only [State.electionTerm, if_true, Option.map_eq_some_iff] at h
  obtain ⟨_, _, hv⟩ := h
  exact hv.symm

/-- The entry due next fires, or is missed. -/
theorem execEventFire_of_due {table : Fin 5} {n : Fin 64} {s : State} (hrun : s.running = true)
    (hdue : s.nextDue = some (table.val, n.val)) : execEventFire table n s = .next (s.entryTime table.val n.val) :=
  act_of_true (by simp [hrun, hdue])

/-- An entry that fires, of an action that no window holds back, hands it over. -/
theorem State.fireEntry_of_plain {s : State} {t n : Nat} (hstep : s.evAction t n ≠ actStepStart)
    (hwindow : s.evAction t n ≠ actSwatchWindow) {w u : State} (hw : w = (s.disarm t n).setFld (evA t n) Fld.tbPeventAFired 1)
    (hu : u = if forewarnedAction t (s.evAction t n) then (eventRails t).foldl State.grantInFull w else w) :
    s.fireEntry t n = { u with tb := { u.tb with handed := u.tb.handed ++ [⟨t, s.evAction t n, s.evContext t n, s.evParam t n, s.course⟩] } } := by
  subst hw hu
  simp only [State.fireEntry, hstep, hwindow, false_and, if_false]

theorem State.missEntry_of_plain {s : State} {t n : Nat} (hstep : s.evAction t n ≠ actStepStart) :
    s.missEntry t n = (((s.disarm t n).setFld (evA t n) Fld.tbPeventAMissed 1).count Reg.tbMissed 1).report
      (Report.bare clsEventMissed (enginePath 14)) := by
  simp only [State.missEntry, hstep, false_and, if_false]

/-- Settles O35: each row under its conditions; the event tables by whether the due entry is missed. -/
theorem courseTimeAndMastership : Obligations.CourseTimeAndMastership := by
  intro s hrun
  refine ⟨fun hfabric => ⟨fun hdue hstate => ?send, fun fraction a t htake hlen => ?beacon⟩,
    fun a hlocked hmaster ha hsilent hparent => ?parent, fun v hterm hmaster hlocked => ?election,
    fun v hterm hlocked hmaster hquiet => ⟨State.electionTerm_zero hterm, ?freeRun⟩, fun v t ht => by rw [ht]; rfl,
    fun table n hdue => ⟨fun w u hmiss hstep hwindow hw hu => ?fires, fun u hmiss hstep hu => ?missed, execEventFire_of_due hrun hdue⟩⟩
  case send =>
    have : (decide (s.tbState = tbLocked) || decide (s.tbState = tbHoldover) || s.isMaster) = true := by
      simpa [or_assoc] using hstate
    exact (act_of_true (by simp only [hrun, hdue, hfabric, this]; rfl) : execBeaconSend s = _)
  case beacon =>
    show execBeacon fraction s = _
    simp only [execBeacon, htake]
    exact act_of_true (by simp [hrun, hfabric, hlen])
  case parent =>
    have hne : tbHoldover ≠ tbLocked := by decide
    show execParentTimeout s = _
    simp only [execParentTimeout, ha]
    rw [act_of_true (by simp [hrun, hlocked, hmaster, hsilent, hparent]), State.setTbState, if_neg hne]
  case election =>
    show execMasterElection s = _
    simp only [execMasterElection, hterm]
    exact act_of_true (by simp [hrun, hmaster, hlocked])
  case freeRun =>
    show execFreeRunTimeout s = _
    simp only [execFreeRunTimeout, hterm]
    exact act_of_true (by simp [hrun, hlocked, hmaster, hquiet])
  case fires =>
    refine (execEventFire_of_due hrun hdue).trans ?_
    rw [State.entryTime, if_neg (by simp [hmiss]), State.fireEntry_of_plain hstep hwindow hw hu]
  case missed =>
    refine (execEventFire_of_due hrun hdue).trans ?_
    rw [State.entryTime, if_pos hmiss, State.missEntry_of_plain hstep, hu]

/-! ### What the tables hand over -/

/-- What a unit arms takes the lowest free entry of its table (R376). -/
theorem State.takeEntries_of_one {s : State} {a : UnitArm} (h : s.tb.arming = [a]) :
    s.takeEntries = ({ s with tb := { s.tb with arming := [] } } : State).takeEntry a := by
  rw [State.takeEntries, h]
  rfl

/-- Settles O36: each action handed over has its effect where its row's conditions hold. -/
theorem handedEventsTakeEffect : Obligations.HandedEventsTakeEffect := by
  intro s hrun
  refine ⟨fun p h t htake hreset hchip => ⟨fun hpartition hready => ?switch, fun hother => ?refused⟩,
    fun h t htake hmay => ⟨?overlay, rfl, rfl⟩,
    fun p h t htake => ⟨fun e t1 u hnone he hmay ht1 hu => ?step, fun hnone he => ?gone, fun d hd hreset hfabric hchip => ?diagnosis⟩,
    fun table h u w v htake hopen hissued hw hv => ?window, fun table results w hw hend => ?windowEnd,
    fun domain lost level cause b since hdomain hold hdump => ⟨fun x y hx hy => ?reset, fun htable => ?untimed,
      fun t h u htable htake => ?timed, fun t htable htake harmed => ?arm⟩,
    fun a n harming hsoon hfree => ?entry, fun a harming hfree => ?full⟩
  case switch =>
    show execContextSwitch p s = _
    simp only [execContextSwitch, htake, hpartition, hready, and_self, if_true]
    exact act_of_true (by simp [hrun, hreset, hchip])
  case refused =>
    have hno : ¬(ctxPartition (h.param % 16) = p.val ∧ t.ctxState (h.param % 16) = ctxReady) := fun hboth =>
      hother.elim (absurd hboth.1) (absurd hboth.2)
    show execContextSwitch p s = _
    simp only [execContextSwitch, htake, if_neg hno]
    exact act_of_true (by simp [hrun, hreset, hchip])
  case overlay =>
    show execOverlaySwitch s = _
    simp only [execOverlaySwitch, htake]
    exact act_of_true (by simpa [hrun] using hmay)
  case step =>
    subst ht1 hu
    show execStepStart p s = _
    simp only [execStepStart, htake, hnone, he]
    exact act_of_true hmay
  case gone =>
    show execStepStart p s = _
    simp only [execStepStart, htake, hnone, he]
    exact act_of_true hrun
  case diagnosis =>
    show execStepStart p s = _
    simp only [execStepStart, htake, hd]
    exact act_of_true (by simp [hrun, hreset, hfabric, hchip])
  case window =>
    subst hv hw
    have hidle : (if table.val < 4 then coresOfPartition table.val else []).all (fun c => decide ((s.core c).issued = [])) = true := by
      rw [List.all_eq_true]
      intro c hc
      by_cases ht : table.val < 4
      · rw [if_pos ht] at hc
        exact decide_eq_true (hissued c ht hc)
      · rw [if_neg ht] at hc
        exact absurd hc List.not_mem_nil
    show execSwatchWindow table s = _
    simp only [execSwatchWindow, htake]
    rw [act_of_true (by simp only [hrun, hopen, hidle, decide_true, Bool.and_self])]
    by_cases ht : table.val < 4
    · simp only [ht, if_true]
    · simp only [ht, if_false]
  case windowEnd =>
    show execSwatchWindowEnd table results s = _
    simp only [execSwatchWindowEnd, hw]
    exact act_of_true (by simp only [hrun, hend, Bool.and_self])
  case reset =>
    subst hy hx
    rfl
  case untimed =>
    show execResetRelease ⟨domain, lost⟩ s = _
    simp only [execResetRelease, hdomain, htable]
    exact act_of_true (by simp [hrun, hold, hdump])
  case timed =>
    show execResetRelease ⟨domain, lost⟩ s = _
    simp only [execResetRelease, hdomain, htable, htake]
    exact act_of_true (by simp [hrun, hold, hdump])
  case arm =>
    show execResetRelease ⟨domain, lost⟩ s = _
    simp only [execResetRelease, hdomain, htable, htake]
    exact act_of_true (by simp [hrun, hold, hdump, harmed])
  case entry => simp only [State.takeEntries_of_one harming, State.takeEntry, hfree, hsoon, Bool.false_eq_true, if_false]
  case full => simp only [State.takeEntries_of_one harming, State.takeEntry, hfree]

/-! ### The record and the decision of a step -/

/-- Settles O37: each row under its conditions. -/
theorem stepsAreRecordedAndDecided : Obligations.StepsAreRecordedAndDecided := by
  intro s hrun
  refine ⟨fun hfabric hchip => ⟨fun e hdue husable hwaits => ?record, fun e m hdue hm => ?durable,
      fun e hopen hloaded hstate hend hcompare htile => ?contribute, fun parts hvector hstate hmembers hlengths => ?sum⟩,
    fun m own parts ps => ⟨rfl, rfl⟩, fun a p t f htake hwaits hfresh => ?copy,
    fun a p t htake hopen => ⟨fun f u v hlen hfresh hu hv => ⟨fun e he => ?refused, fun he => ?unknown⟩, fun hlen => ?length⟩⟩
  case record =>
    show execJournalRecord s = _
    simp only [execJournalRecord, hdue]
    exact act_of_true (by simp [hrun, husable, hfabric, hchip, hwaits])
  case durable =>
    subst hm
    show execJournalDurable s = _
    simp only [execJournalDurable, hdue]
    exact act_of_true (by simp [hrun, hfabric, hchip])
  case contribute =>
    have hquiet : (!s.compareOpen e.step || !s.partnerPresent) = true := by
      rcases hcompare with h | h <;> simp [h]
    have hrow : execStepEndContribute s = .next (s.contribute e.step) := by
      simp only [execStepEndContribute, hopen]
      exact act_of_true (by simp only [hrun, hfabric, hchip, hloaded, hstate, hend, hquiet, htile]; rfl)
    exact ⟨_, hrow, rfl, rfl, rfl, rfl, rfl⟩
  case sum =>
    have hfit : s.partsFit parts = true := by
      simp only [State.partsFit, Bool.and_eq_true, decide_eq_true_eq, List.all_eq_true]
      exact ⟨hmembers, hlengths⟩
    exact (act_of_true (by simp [hrun, hfabric, hchip, hvector, hstate, hfit]) : execStepEndSum parts s = _)
  case copy =>
    show execPartnerCopy s = _
    simp only [execPartnerCopy, htake, State.accept_fresh hfresh]
    exact act_of_true (by simp [hrun, hwaits])
  case refused =>
    subst hu hv
    show execCopyRefused s = _
    simp only [execCopyRefused, htake, hlen, if_true, State.accept_fresh hfresh, he]
    exact act_of_true (by simp [hrun, hopen])
  case unknown =>
    subst hu hv
    show execCopyRefused s = _
    simp only [execCopyRefused, htake, hlen, if_true, State.accept_fresh hfresh, he]
    exact act_of_true (by simp [hrun, hopen])
  case length =>
    show execCopyRefused s = _
    simp only [execCopyRefused, htake, if_neg hlen]
    exact act_of_true (by simp [hrun, hopen])

end Sys2Proof.Machine
end

section
/-! PROOF. Cuts of the lifeline, folds, restores, fills and snapshots (R284, R420–R470, R485). -/

namespace Sys2Proof.Machine

/-! ### Messages to the lifeline engine -/

/-- A message of the right length that is fresh in its flow has its effect and is acknowledged. -/
theorem State.leArrived_of_fresh {s t : State} {msg len n : Nat} {p : Packet} {f : RecvFlow} {effect : State → Packet → State}
    (hrun : s.running = true) (hwaits : s.leWaits = false) (htake : s.takeCtrl epLifeline msg = some (n, p, t))
    (hopen : s.epOpen epLifeline = true) (hlen : p.payload.length = len) (hfresh : t.judge p false = (.fresh, some f)) :
    s.leArrived msg len effect = .next ((effect (t.putFlow (f.take p false t.course)) p).acknowledge p) := by
  simp only [State.leArrived, htake, if_pos hlen, State.accept_fresh hfresh]
  exact act_of_true (by simp [hrun, hopen, hwaits])

/-- A message of another length is counted. -/
theorem State.leArrived_of_length {s t : State} {msg len n : Nat} {p : Packet} {effect : State → Packet → State}
    (hrun : s.running = true) (hwaits : s.leWaits = false) (htake : s.takeCtrl epLifeline msg = some (n, p, t))
    (hopen : s.epOpen epLifeline = true) (hlen : p.payload.length ≠ len) :
    s.leArrived msg len effect = .next (t.count Reg.prBadType 1) := by
  simp only [State.leArrived, htake, if_neg hlen]
  exact act_of_true (by simp [hrun, hopen, hwaits])

/-- MANIFEST takes a message as long as its own manifest says. -/
theorem execManifest_of_fresh {s t u : State} {n : Nat} {p : Packet} {f : RecvFlow} {m : List Byte} (hrun : s.running = true)
    (hwaits : s.leWaits = false) (htake : s.takeCtrl epLifeline 0x21 = some (n, p, t)) (hopen : s.epOpen epLifeline = true)
    (hm : m = p.payload.drop 8) (hlen : p.payload.length = 8 + manifestLength (leNat ((m.drop 0x10).take 1)))
    (hfresh : t.judge p false = (.fresh, some f)) (hu : u = t.putFlow (f.take p false t.course)) :
    execManifest s = .next (State.acknowledge (if shortGroup p.payload = u.groupId then
      match u.le.restore with
      | none => u.takeManifest m
      | some w => if w.manifest = [] then u.offerManifest w m else u
    else u) p) := by
  subst hm hu
  simp only [execManifest, htake, if_pos hlen, State.accept_fresh hfresh]
  exact act_of_true (by simp [hrun, hopen, hwaits])

/-- Settles O38: each row of a cut under its conditions. -/
theorem cutsAreWrittenAndReported : Obligations.CutsAreWrittenAndReported := by
  intro s hrun hfabric hchip hwaits
  refine ⟨fun h t u htake hu => ⟨fun hnone => ?passed, fun v g c b hdue => ⟨fun hhere hready => ?begins, fun hhere => ?given⟩⟩,
    fun c more hcuts hphase hfolds hskein => ⟨fun hclean => ?write, fun g hpoison => ?tears⟩,
    fun c hc hbuddy hskein => ?written,
    fun n p t f u hfresh hu => ⟨fun htake hopen => ⟨fun hlen => ⟨fun hgroup hleader hnew => ?report, fun hother => ?noReport⟩, fun hlen => ?reportLength⟩,
      fun htake hopen m hm => ⟨fun hlen => ⟨fun hgroup hnone => ?manifest, fun w hgroup hw hempty => ?offer,
        fun w hgroup hw hheld => ?noManifest, fun hgroup => ?foreignManifest⟩, fun hlen => ?manifestLength⟩,
      fun htake hopen => ⟨fun v hv hlen => ?query, fun hlen => ?queryLength⟩,
      fun htake hopen => ⟨fun hlen => ⟨fun hgroup => ?tear, fun hgroup => ?foreignTear⟩, fun hlen => ?tearLength⟩⟩,
    fun c more a hcuts => ⟨fun hqueried hlate => ?queryTimeout, fun hreported hlate => ⟨fun i hleader hi hmissing => ?reportTimeout,
      fun u t hqueried hu ht => ?expiry⟩⟩⟩
  case passed =>
    subst hu
    show execLifelineCut s = _
    simp only [execLifelineCut, htake, hnone]
    exact act_of_true (by simp [hrun, hfabric, hchip])
  case begins =>
    subst hu
    show execLifelineCut s = _
    simp only [execLifelineCut, htake, hdue, hhere, if_true]
    exact act_of_true (by simp [hrun, hfabric, hchip, hready])
  case given =>
    subst hu
    show execLifelineCut s = _
    simp only [execLifelineCut, htake, hdue, hhere, Bool.false_eq_true, if_false]
    exact act_of_true (by simp [hrun, hfabric, hchip])
  case write =>
    show execCutDeltaWrite s = _
    simp only [execCutDeltaWrite, hcuts, hclean]
    exact act_of_true (by simp [hrun, hfabric, hchip, hphase, hfolds, hskein, hwaits])
  case tears =>
    show execCutDeltaWrite s = _
    simp only [execCutDeltaWrite, hcuts, hpoison]
    exact act_of_true (by simp [hrun, hfabric, hchip, hphase, hfolds, hskein, hwaits])
  case written =>
    show execCutWritten s = _
    simp only [execCutWritten, hc]
    exact act_of_true (by simp [hrun, hfabric, hchip, hbuddy, hskein, hwaits])
  case report =>
    subst hu
    have hfirst : ¬(t.putFlow (f.take p false t.course)).le.reports.any (fun q => decide (q.gen = (reportOf p.payload).gen) &&
        decide (q.index = (reportOf p.payload).index)) = true := by
      simpa using hnew
    refine (State.leArrived_of_fresh hrun hwaits htake hopen hlen hfresh : execSkeinReport s = _).trans ?_
    simp only [if_pos (And.intro hgroup (And.intro hleader hfirst))]
  case noReport =>
    subst hu
    refine (State.leArrived_of_fresh hrun hwaits htake hopen hlen hfresh : execSkeinReport s = _).trans ?_
    dsimp only
    rw [if_neg]
    rintro ⟨hgroup, hleader, hfirst⟩
    rcases hother with h | h | ⟨q, hq, hgen, hindex⟩
    · exact h hgroup
    · exact Bool.false_ne_true (h.symm.trans hleader)
    · exact hfirst (List.any_eq_true.mpr ⟨q, hq, by simp [hgen, hindex]⟩)
  case reportLength => exact (State.leArrived_of_length hrun hwaits htake hopen hlen : execSkeinReport s = _)
  case manifest =>
    refine (execManifest_of_fresh hrun hwaits htake hopen hm hlen hfresh hu).trans ?_
    simp only [hgroup, if_true, hnone]
  case offer =>
    refine (execManifest_of_fresh hrun hwaits htake hopen hm hlen hfresh hu).trans ?_
    simp only [hgroup, if_true, hw, hempty]
  case noManifest =>
    refine (execManifest_of_fresh hrun hwaits htake hopen hm hlen hfresh hu).trans ?_
    simp only [hgroup, if_true, hw, if_neg hheld]
  case foreignManifest =>
    refine (execManifest_of_fresh hrun hwaits htake hopen hm hlen hfresh hu).trans ?_
    simp only [if_neg hgroup]
  case manifestLength =>
    subst hm
    show execManifest s = _
    simp only [execManifest, htake, if_neg hlen]
    exact act_of_true (by simp [hrun, hopen, hwaits])
  case query =>
    subst hu hv
    exact (State.leArrived_of_fresh hrun hwaits htake hopen hlen hfresh : execManifestQuery s = _)
  case queryLength => exact (State.leArrived_of_length hrun hwaits htake hopen hlen : execManifestQuery s = _)
  case tear =>
    subst hu
    refine (State.leArrived_of_fresh hrun hwaits htake hopen hlen hfresh : execTear s = _).trans ?_
    simp only [if_pos hgroup]
  case foreignTear =>
    subst hu
    refine (State.leArrived_of_fresh hrun hwaits htake hopen hlen hfresh : execTear s = _).trans ?_
    simp only [if_neg hgroup]
  case tearLength => exact (State.leArrived_of_length hrun hwaits htake hopen hlen : execTear s = _)
  case queryTimeout =>
    show execManifestTimeout s = _
    simp only [execManifestTimeout, hcuts, List.find?_cons, hqueried, hlate, decide_true]
    exact act_of_true (by simp [hrun, hfabric, hchip])
  case reportTimeout =>
    have hopen : s.presentMembers.all (fun n => s.le.reports.any (fun r => decide (r.gen = c.gen) && decide (r.index = n))) = false := by
      rw [List.all_eq_false]
      exact ⟨i, hi, by simpa using hmissing⟩
    show execReportTimeout s = _
    simp only [execReportTimeout, hcuts, List.find?_cons, hreported, hlate, decide_true]
    exact act_of_true (by rw [← hcuts] at *; simp only [hrun, hfabric, hchip, hleader, hopen]; rfl)
  case expiry =>
    subst ht hu
    show execManifestWaitExpiry s = _
    simp only [execManifestWaitExpiry, hcuts, List.find?_cons, hreported, hlate, hqueried, decide_true, Bool.and_self]
    exact act_of_true (by simp [hrun, hfabric, hchip])

/-! ### Folds, restores, fills and snapshots -/

/-- RESTORE_COMPLETE with a manifest, by the source of the share. -/
theorem execRestoreComplete_of_manifest {s : State} {w : RestoreWork} {source : RestoreSource} {whole holders} {hs : List Nat}
    (hrun : s.running = true) (hfabric : s.inReset 4 = false) (hchip : s.inReset 5 = false) (hwaits : s.leWaits = false)
    (hw : s.le.restore = some w) (hs' : hs = s.holdersOf w.gen.toNat holders) (hmanifest : w.manifest ≠ []) :
    ∀ others, others = (whole.map Fin.val).filter (fun m => decide (m ≠ s.ownIndex)) →
    (∀ b l, source = .own → s.ownWhole w.manifest w.gen.toNat = some (b, l) → execRestoreComplete ⟨source, whole, holders⟩ s =
      .next (s.finishRestore w (s.ownIndex :: others) hs (s.ownImage w.gen.toNat l) (s.sectionsOf b) 0)) ∧
    (∀ share l, source = .partner share → s.ownWhole w.manifest w.gen.toNat = none →
      s.shareWhole w.manifest w.gen.toNat share = some l → execRestoreComplete ⟨source, whole, holders⟩ s =
        .next (s.finishRestore w (s.ownIndex :: others) hs (shareImage share w.gen.toNat l) (s.sectionsOf share.skein) 0)) ∧
    (∀ chains sections, source = .rebuilt chains sections → s.ownWhole w.manifest w.gen.toNat = none →
      execRestoreComplete ⟨source, whole, holders⟩ s =
        .next (s.finishRestore w others hs (s.rebuiltPage others hs chains) sections s.basePages)) := by
  rintro others rfl
  subst hs'
  have hopen : (s.running && !s.inReset 4 && !s.inReset 5 && !s.leWaits) = true := by simp [hrun, hfabric, hchip, hwaits]
  refine ⟨?_, ?_, ?_⟩
  · rintro b l rfl hown
    simp only [execRestoreComplete, hw, if_neg hmanifest, hown]
    exact act_of_true hopen
  · rintro share l rfl hown hshare
    simp only [execRestoreComplete, hw, if_neg hmanifest, hown, hshare]
    exact act_of_true hopen
  · rintro chains sections rfl hown
    simp only [execRestoreComplete, hw, if_neg hmanifest, hown]
    exact act_of_true hopen

/-- A refused enable reads as off, with its code. -/
theorem State.refuseEnable_reads (s : State) (code : Nat) (hcode : code < 16) :
    (s.refuseEnable code).fld Reg.leConfig Fld.leConfigEnable = 0 ∧ (s.refuseEnable code).fld Reg.leStatus Fld.leStatusRefuse = code ∧
      ∀ r, r ≠ Reg.leConfig → r ≠ Reg.leStatus → (s.refuseEnable code).reg r = s.reg r := by
  have hne : Reg.leConfig ≠ Reg.leStatus := by decide
  refine ⟨?_, ?_, fun r h1 h2 => ?_⟩
  · rw [State.refuseEnable, State.fld, State.reg_setFld_ne _ _ _ hne]
    exact (State.fld_setFld_same _ _ _ _ (by decide)).trans (Nat.zero_mod _)
  · rw [State.refuseEnable, State.fld_setFld_same _ _ _ _ (by decide)]
    exact Nat.mod_eq_of_lt hcode
  · rw [State.refuseEnable, State.reg_setFld_ne _ _ _ h2, State.reg_setFld_ne _ _ _ h1]
    rfl

/-- The field CUR_BUF of a filled device is its partner's. -/
theorem State.curBuf_of_fill {t : State} (s : State) (b : Fin 2) (v : Word)
    (h : t.regs = ((s.setFld Reg.skStatus Fld.skStatusCurBuf b.val).setReg Reg.leGen v).regs) :
    t.fld Reg.skStatus Fld.skStatusCurBuf = b.val := by
  have hreg : t.reg Reg.skStatus = (s.setFld Reg.skStatus Fld.skStatusCurBuf b.val).reg Reg.skStatus :=
    (congrArg (SMap.get 0 · Reg.skStatus) h).trans (State.reg_setReg_ne _ v (by decide))
  rw [State.fld, hreg]
  exact (State.fld_setFld_same _ _ _ _ (by decide)).trans (Nat.mod_eq_of_lt b.isLt)

/-- What is left of a fill once its reads are in: it is over, and the boundaries and the buffer are the partner's (R449). -/
theorem execFillComplete_of_read {s : State} {w : FillWork} (peer : FillPeer) (sets : ParitySets) (hrun : s.running = true)
    (hfabric : s.inReset 4 = false) (hchip : s.inReset 5 = false) (hwaits : s.leWaits = false) (hw : s.le.fill = some w)
    (hreads : s.fab.reads.any ReadWait.isFill = false) :
    ∃ x : State, execFillComplete peer sets s = .next (x.completeResult w.slot stOk (fillBody w.total w.total w.bytes)) ∧
      x.le.fill = none ∧ x.sk.filled = true ∧ x.sk.boundary = peer.boundary ∧ x.sk.prevBoundary = peer.prevBoundary ∧
      x.fld Reg.skStatus Fld.skStatusCurBuf = peer.curBuf.val := by
  simp only [execFillComplete, hw]
  exact ⟨_, act_of_true (by simp [hrun, hfabric, hchip, hwaits, hreads]), rfl, rfl, rfl, rfl,
    State.curBuf_of_fill ((s.putParitySet 0 sets.set0).putParitySet 1 sets.set1) _ _ rfl⟩

/-- Settles O39: each row under its conditions. -/
theorem foldsRestoresAndSnapshots : Obligations.FoldsRestoresAndSnapshots := by
  intro s hrun hfabric hchip hwaits
  refine ⟨fun hdue hchains => ?own, fun g hown hdue => ?buddy,
    fun stripe p q => ⟨fun done f hf hhas hskein => ?stripe, fun hnone => ?news⟩,
    fun n p t f htake hopen hfresh => ?tags, fun e he hlate => ?refuse,
    fun w whole holders others hs hw hothers hhs => ⟨fun source hempty hlate => ?noManifest, fun hmanifest => ?restore⟩,
    fun peer set0 set1 w hw hreads => ?fill, fun h t htake => ?noted, fun d more u htake hdue hboundary hfree hregion => ?begins,
    fun hheld hregion => ?complete⟩
  case own =>
    show execFoldComplete s = _
    simp only [execFoldComplete, hdue, if_true]
    exact act_of_true (by simp [hrun, hfabric, hchip, hwaits, hchains])
  case buddy =>
    show execFoldComplete s = _
    simp only [execFoldComplete, hown, Bool.false_eq_true, if_false, hdue]
    exact act_of_true (by simp [hrun, hfabric, hchip, hwaits])
  case stripe =>
    show execParityChain stripe p q done s = _
    simp only [execParityChain, hf, hhas, if_true]
    exact act_of_true (by simp [hrun, hfabric, hchip, hwaits, hskein])
  case news =>
    show execParityChain stripe p q true s = _
    cases hf : s.le.fold with
    | none =>
      simp only [execParityChain, hf]
      exact act_of_true (by simp [hrun, hfabric, hchip, hwaits])
    | some f =>
      simp only [execParityChain, hf, hnone f hf, Bool.false_eq_true, if_false]
      exact act_of_true (by simp [hrun, hfabric, hchip, hwaits])
  case tags =>
    show execDomainTags s = _
    simp only [execDomainTags, htake, State.accept_fresh hfresh]
    exact act_of_true (by simp [hrun, hopen])
  case refuse =>
    obtain ⟨henable, hrefuse, hregs⟩ := s.refuseEnable_reads 5 (by decide)
    refine ⟨s.refuseEnable 5, ?_, henable, hrefuse, rfl, rfl, hregs⟩
    show execTagExchangeTimeout s = _
    simp only [execTagExchangeTimeout, he]
    exact act_of_true (by simp [hrun, hlate])
  case noManifest =>
    show execRestoreComplete ⟨source, whole, holders⟩ s = _
    simp only [execRestoreComplete, hw, if_pos hempty]
    exact act_of_true (by simp [hrun, hfabric, hchip, hwaits, hlate])
  case restore =>
    refine ⟨fun b l hown => ?_, fun share l hown hshare => ?_, fun chains sections hown => ?_⟩
    · exact (execRestoreComplete_of_manifest hrun hfabric hchip hwaits hw hhs hmanifest others hothers).1 b l rfl hown
    · exact (execRestoreComplete_of_manifest hrun hfabric hchip hwaits hw hhs hmanifest others hothers).2.1 share l rfl hown hshare
    · exact (execRestoreComplete_of_manifest hrun hfabric hchip hwaits hw hhs hmanifest others hothers).2.2 chains sections rfl hown
  case fill =>
    have hnone : s.fab.reads.any ReadWait.isFill = false := by
      rw [List.any_eq_false]
      exact fun r hr => by simp [hreads r hr]
    exact execFillComplete_of_read peer ⟨set0, set1⟩ hrun hfabric hchip hwaits hw hnone
  case noted =>
    show execSnapshot s = _
    simp only [execSnapshot, htake]
    exact act_of_true (by simp [hrun, hfabric, hchip])
  case begins =>
    show execSnapshot s = _
    simp only [execSnapshot, htake, hdue, hboundary]
    exact act_of_true (by simp [hrun, hfabric, hchip, hfree, hregion])
  case complete =>
    have hrow : execSnapshotComplete s = _ := act_of_true (by simp [hrun, hfabric, hchip, hheld, hregion])
    exact ⟨_, hrow, rfl, rfl, rfl⟩

end Sys2Proof.Machine
end

section
/-! PROOF. Messages of the fleet and epochs, resets that begin, overrun and are watched, dumps and isolations
(R484–R511, R518–R521). -/

namespace Sys2Proof.Machine

/-! ### Messages of the fleet -/

theorem State.rvOpen_of_clear {s : State} (hrun : s.running = true) (hfabric : s.inReset 4 = false) (hchip : s.inReset 5 = false) :
    s.rvOpen = true := by
  simp [State.rvOpen, hrun, hfabric, hchip]

/-- The rows of the messages that flood, each with its effect on a device of the job. -/
theorem exec_floodedRow {s t : State} {i : Nat} {p : Packet} {row : Instr} {msg : Nat} {effect : State → State} {m : RvMessage}
    (hopen : s.rvOpen = true) (hm : m = rvMessageOf p.payload) (hrow : (row, msg, effect) ∈ ([
      (.abort_, 1, fun v => if v.jobState = jobRunning then v.enterAborted m.cause m.originSeq m.step else v),
      (.epochAdvanceReceive, 4, fun v => v.awaitMap m)] : List (Instr × Nat × (State → State))))
    (htake : s.takeRv msg = some (i, p, t)) :
    exec row s = .next (t.accept p false (fun u => u.onFlooded i m effect)) := by
  subst hm
  simp only [List.mem_cons, Prod.mk.injEq, List.not_mem_nil, or_false] at hrow
  rcases hrow with ⟨rfl, rfl, rfl⟩ | ⟨rfl, rfl, rfl⟩
  · show execAbort s = _
    simp only [execAbort, htake]
    exact act_of_true hopen
  · show execEpochAdvanceReceive s = _
    simp only [execEpochAdvanceReceive, htake]
    exact act_of_true hopen

theorem State.onFlooded_of_known {s : State} {i : Nat} {m : RvMessage} {effect : State → State}
    (h : s.knowsOrigin m.origin m.originSeq = true) : s.onFlooded i m effect = s := by
  simp only [State.onFlooded, h, if_true]

theorem State.onFlooded_of_new {s : State} {i : Nat} {m : RvMessage} {effect : State → State}
    (h : s.knowsOrigin m.origin m.originSeq = false) : s.onFlooded i m effect =
      if s.job.loaded = true ∧ m.mappingTag = s.mappingTag ∧ s.jobState ≠ jobRetired ∧ s.jobState ≠ jobIdle
        then effect ((s.rememberOrigin m.origin m.originSeq).floodCtrl (rvMessageBytes m) (some i))
        else s.rememberOrigin m.origin m.originSeq := by
  simp only [State.onFlooded, h, Bool.false_eq_true, if_false]

/-- Settles O42: messages by whether their origin is known and whose job they are of; advances by their map. -/
theorem fleetMessagesAndEpochs : Obligations.FleetMessagesAndEpochs := by
  intro s hrun hfabric hchip
  have hopen := State.rvOpen_of_clear hrun hfabric hchip
  refine ⟨fun i p t f u m hfresh hu hm => ⟨fun row msg effect hrow htake => ?flooded, fun htake => ?request, fun htake => ?reply⟩,
    fun m c hadvance => ⟨fun hmatch hlast => ?exhausted, fun hmatch hlast => ?applied, fun hmatch hlate => ?given⟩,
    fun p hp hold => ?forget⟩
  case flooded =>
    have hexec := exec_floodedRow hopen hm hrow htake
    rw [State.accept_fresh hfresh, ← hu] at hexec
    refine ⟨fun hknown => ?_, fun hnew => ⟨fun hloaded htag hretired hidle => ?_, fun hother => ?_⟩⟩
    · rw [hexec, State.onFlooded_of_known hknown]
    · rw [hexec, State.onFlooded_of_new hnew, if_pos ⟨hloaded, htag, hretired, hidle⟩]
    · rw [hexec, State.onFlooded_of_new hnew, if_neg]
      rintro ⟨hloaded, htag, hretired, hidle⟩
      rcases hother with h | h | h | h
      · exact Bool.false_ne_true (h.symm.trans hloaded)
      · exact h htag
      · exact hretired h
      · exact hidle h
  case request =>
    subst hu
    show execMapRequest s = _
    simp only [execMapRequest, htake, State.accept_fresh hfresh]
    exact act_of_true hopen
  case reply =>
    subst hu hm
    show execMapReply s = _
    simp only [execMapReply, htake, State.accept_fresh hfresh]
    exact act_of_true hopen
  case exhausted =>
    show execEpochApply s = _
    simp only [execEpochApply, hadvance, if_pos hlast]
    exact act_of_true (by simp [hopen, hmatch])
  case applied =>
    show execEpochApply s = _
    simp only [execEpochApply, hadvance, if_neg hlast]
    exact act_of_true (by simp [hopen, hmatch])
  case given =>
    show execEpochDigestTimeout s = _
    simp only [execEpochDigestTimeout, hadvance]
    exact act_of_true (by simp [hopen, hmatch, hlate])
  case forget =>
    have hany : s.rv.remembered.any (fun p => decide (4096 ≤ coursesSince s.course p.2.2)) = true :=
      List.any_eq_true.mpr ⟨p, hp, decide_eq_true hold⟩
    exact (act_of_true (by simp only [hrun, hany, Bool.and_self]) : execOriginForget s = _)

/-! ### Resets that are due -/

theorem exec_resetRow {row : Instr} {level : Nat}
    (h : (row, level) ∈ ([(.resetL0, 0), (.resetL1, 1), (.resetL2, 2), (.resetL3, 3), (.resetL4, 4)] : List (Instr × Nat))) (s : State) :
    exec row s = resetRow level s := by
  simp only [List.mem_cons, Prod.mk.injEq, List.not_mem_nil, or_false] at h
  rcases h with ⟨rfl, rfl⟩ | ⟨rfl, rfl⟩ | ⟨rfl, rfl⟩ | ⟨rfl, rfl⟩ | ⟨rfl, rfl⟩ <;> rfl

/-- A reset found due at a level is to run at it. -/
theorem State.dueAt_level {s : State} {level : Nat} {d e : ResetDue} (h : s.dueAt level = some (d, e)) : e.level = level :=
  of_decide_eq_true (List.find?_some (p := fun p : ResetDue × ResetDue => decide (p.2.level = level)) h)

/-- The interpreter's move to another partition is no part of a domain's state. -/
theorem State.moveInterpreter_rv (s : State) : s.moveInterpreter.rv = s.rv := by
  simp only [State.moveInterpreter]
  split <;> rfl

theorem State.domainState_setDomain (s : State) (d : Nat) (v : DomainState) : (s.setDomain d v).domainState d = v :=
  SMap.get_set_same _ _ _ _

/-- What is shown of a reset is no part of a domain's state. -/
theorem State.domainState_shown (s : State) (d : Nat) (v : DomainState) :
    (((s.setDomain d v).showReset.showStrict).moveInterpreter).domainState d = v := by
  simp only [State.domainState, State.moveInterpreter_rv]
  exact SMap.get_set_same _ _ _ _

/-- A domain whose reset begins is in reset, at the level and for the cause of what was due. -/
theorem State.domainState_beginReset (s : State) (e : ResetDue) :
    ∃ since at_, (s.beginReset e).domainState e.domain = .inReset e.level e.cause since at_ :=
  ⟨_, _, State.domainState_shown _ _ _⟩

/-- Settles O43: the first due reset of the level is passed over, aborted for, or begun. -/
theorem dueResetsBegin : Obligations.DueResetsBegin := by
  intro s row level d e hrow hrun hdue hleaves
  have hexec : exec row s = .next (if s.absorbed e then { s with rv := { s.rv with due := s.rv.due.erase d } }
      else if s.mustAbort e then (s.abortFor e).ran tmrAbort
      else { s with rv := { s.rv with due := s.rv.due.erase d } }.beginReset e) := by
    simp only [exec_resetRow hrow, resetRow, hdue]
    exact act_of_true (by simp [hrun, hleaves])
  refine ⟨fun habsorbed habort => ?_, fun habsorbed => ?_, fun habsorbed habort => ?_⟩
  · obtain ⟨since, at_, hstate⟩ := State.domainState_beginReset { s with rv := { s.rv with due := s.rv.due.erase d } } e
    rw [State.dueAt_level hdue] at hstate
    refine ⟨_, since, at_, ?_, rfl, hstate⟩
    simp only [hexec, habsorbed, habort, Bool.false_eq_true, if_false]
  · simp only [hexec, habsorbed, if_true]
  · simp only [hexec, habsorbed, habort, Bool.false_eq_true, if_false, if_true]

theorem State.dueReset_eq (s : State) (e : ResetDue) : s.dueReset e.level e.domain e.cause =
    { s with rv := { s.rv with due := if e ∈ s.rv.due then s.rv.due else s.rv.due ++ [e] } } := by
  by_cases h : e ∈ s.rv.due
  · simp only [State.dueReset, h, if_true]
  · simp only [State.dueReset, h, if_false]

/-- Settles O44: a limit that expires by its level; a watch that ends leaves the domain normal. -/
theorem overrunningAndWatchedResets : Obligations.OverrunningAndWatchedResets := by
  intro s domain hrun
  refine ⟨fun level cause since at_ hstate hlimit => ?limit, fun level cause at_ hstate hsamples hperiodic hnone =>
    ⟨?watch, s.domainState_setDomain _ _⟩⟩
  case limit =>
    have hexec : execResetLimitExpiry domain s = .next (if level = 4 then s.requestL5 else s.dueReset
        (s.risen ⟨level, domain, cause⟩).level (s.risen ⟨level, domain, cause⟩).domain (s.risen ⟨level, domain, cause⟩).cause) := by
      simp only [execResetLimitExpiry, hstate]
      exact act_of_true (by simp [hrun, hlimit])
    refine ⟨fun e he hlevel => hexec.trans ?_, fun hlevel hauto => hexec.trans ?_, fun hlevel hauto => hexec.trans ?_⟩
    · rw [if_neg hlevel, ← he, State.dueReset_eq]
    · simp only [if_pos hlevel, State.requestL5, hauto, if_true]
    · simp only [if_pos hlevel, State.requestL5, hauto, Bool.false_eq_true, if_false]
  case watch =>
    have hdue : s.rv.due.any (fun d => decide (d.domain = domain)) = false := by
      rw [List.any_eq_false]
      exact fun d hd => by simp [hnone d hd]
    show execWatchEnd domain s = _
    simp only [execWatchEnd, hstate]
    exact act_of_true (by simp only [hrun, hsamples, hperiodic, hdue]; rfl)

/-! ### Dumps -/

/-- Reading `n` units of a dump takes them from those to read and appends a section of each. -/
theorem State.readUnits_dumping (n : Nat) : ∀ (s : State) (t : Dumping), s.rv.dumping = some t → n ≤ t.toRead.length →
    ∃ d, (s.readUnits n).rv.dumping = some d ∧ d.toRead = t.toRead.drop n ∧ (s.readUnits n).course = s.course ∧
      d.dump.sections.map (fun x => x.unit_) = t.dump.sections.map (fun x => x.unit_) ++ (t.toRead.take n).map (fun x => x.1) := by
  induction n with
  | zero => exact fun s t ht _ => ⟨t, ht, rfl, rfl, by simp⟩
  | succ n ih =>
    intro s t ht hlen
    cases hread : t.toRead with
    | nil => simp [hread] at hlen
    | cons u rest =>
      have hstep : s.readUnit.rv.dumping = some { t with
          dump := { t.dump with sections := t.dump.sections ++ [⟨u.1, 0, s.unitState u, s.course⟩] }, toRead := rest, turn := s.course } := by
        simp only [State.readUnit, ht, hread]
      have hcourse : s.readUnit.course = s.course := by
        simp only [State.readUnit, ht, hread]
        rfl
      obtain ⟨d, hd, htoRead, hcourse', hunits⟩ := ih s.readUnit _ hstep (by rw [hread] at hlen; exact Nat.le_of_succ_le_succ hlen)
      exact ⟨d, hd, htoRead, hcourse'.trans hcourse, by rw [hunits]; simp⟩

/-- A unit that is skipped leaves those to read, with a section that says so. -/
theorem State.skipUnit_dumping {s : State} {t : Dumping} {u : BitVec 32 × Nat} {rest : List (BitVec 32 × Nat)}
    (ht : s.rv.dumping = some t) (hread : t.toRead = u :: rest) : s.skipUnit.rv.dumping = some { t with
      dump := { t.dump with sections := t.dump.sections ++ [⟨u.1, 1, [], s.course⟩] }, toRead := rest, turn := s.course } := by
  simp only [State.skipUnit, ht, hread]

/-! ### Isolations -/

/-- A context that goes on is no part of what isolation keeps. -/
theorem State.resume_rv (s : State) (x : Nat) : (s.resume x).rv = s.rv := by
  have hfold : ∀ (cs : List Nat) (t : State), (cs.foldl (fun t c =>
      if (t.core c).resident = some x then t.modCore c (fun k => { k with halted := false })
      else t.setSide c x { t.sideOf c x with halted := false }) t).rv = t.rv := by
    intro cs
    induction cs with
    | nil => exact fun t => rfl
    | cons c cs ih =>
      intro t
      rw [List.foldl_cons, ih]
      split <;> rfl
  unfold State.resume
  split
  · rw [State.setCtxState, State.setFld_rv, hfold]
  · rfl

/-- The next suspect of the queue runs (R519). -/
theorem State.isolation_nextSuspect {s : State} {i : Isolation} {y : Nat} {rest : List Nat} (h : i.queue = y :: rest) :
    (s.nextSuspect i).rv.isolation = some { i with queue := rest, current := some y, since := s.course, yielded := [] } := by
  unfold State.nextSuspect
  split
  · next x more hmore =>
    rw [h] at hmore
    obtain ⟨rfl, rfl⟩ := List.cons.inj hmore
    rw [State.showIsolation, State.setReg_rv, State.resume_rv]
  · next hnone => exact absurd (h.symm.trans hnone) (List.cons_ne_nil _ _)

/-- Settles O45: the units before the silent one are read, and an isolation passes to the head of its queue. -/
theorem dumpsAndIsolationsGoOn : Obligations.DumpsAndIsolationsGoOn := by
  intro s hrun
  refine ⟨fun n t u ht hu hlate => ?dump, fun i x hi hx hover => ⟨?row, fun y rest hqueue => ?next, fun hempty hawaiting => ?none⟩⟩
  case dump =>
    obtain ⟨hlt, hget⟩ := List.getElem?_eq_some_iff.mp hu
    obtain ⟨d, hd, htoRead, hcourse, hunits⟩ := State.readUnits_dumping n s t ht hlt.le
    have hhead : d.toRead = u :: t.toRead.drop (n + 1) := by rw [htoRead, List.drop_eq_getElem_cons hlt, hget]
    have hskip := State.skipUnit_dumping hd hhead
    have hexec : execDumpUnitTimeout n s = .next ((s.readUnits n).skipUnit.count Reg.rvDumpUnreadable 1).endDump := by
      simp only [execDumpUnitTimeout, ht, hu]
      exact act_of_true (by simp only [hrun, decide_eq_true hlate, Bool.and_self])
    refine ⟨_, _, rfl, hskip, rfl, hcourse, ?_, ?_, fun hmore => hexec.trans ?_, fun hdone => hexec.trans ?_⟩
    · simp [hcourse]
    · simp only [List.map_append, hunits, List.take_add_one, hu, Option.toList_some, List.map_cons, List.map_nil, List.append_assoc]
    · simp only [State.endDump, State.count_rv, hskip, if_neg hmore]
    · simp only [State.endDump, State.count_rv, hskip, if_pos hdone]
  case row =>
    have hover' : (decide (s.fld Reg.rvConfig Fld.rvConfigIsolateCourses * 16 ≤ coursesSince s.course i.since) ||
        s.haltedEverywhere x || (s.coresOf x).all (fun c => NatSet.has i.yielded c) || decide (s.ctxState x ≠ ctxReady)) = true := by
      simpa only [Bool.or_eq_true, decide_eq_true_eq, List.all_eq_true, or_assoc] using hover
    show execIsolationLimit s = _
    simp only [execIsolationLimit, hi, hx]
    exact act_of_true (by simp only [hrun, hover', Bool.and_self])
  case next => exact State.isolation_nextSuspect hqueue
  case none => simp only [State.nextSuspect, hempty, if_neg hawaiting, State.showIsolation, State.setReg_rv]

end Sys2Proof.Machine
end

section
/-! PROOF. Frames of the host link, its flow control and queue pairs, and what ends by time (R550–R576, R565, R601, R619,
R620, R634, R635). -/

namespace Sys2Proof.Machine

/-! ### Frames -/

/-- Settles O46: frames by their protection and address, addresses by what is under detection. -/
theorem hostFramesAreTaken : Obligations.HostFramesAreTaken := by
  intro s frame
  refine ⟨fun hrun hdown hfabric hchip hlow hhigh u hu => ?up, fun hup => ⟨fun c hc hreached => ?retry, fun hlocal => ?passLocal,
      fun hglobal => ?passGlobal, fun t hbad => ⟨fun hto => ?badArp, fun kind hto => ?badNd, ?badEcho⟩,
      fun t hgood => ⟨fun hto => ?arp, fun here hhere hto => ?nd, fun recent u hrecent hu => ?echo⟩⟩,
    fun hopen => ⟨fun bytes t hreceive => ?datagram, fun bytes t hreceive => ?noDatagram,
      fun hnone hflag hlocal hgap t ht => ?announce⟩⟩
  case up =>
    subst hu
    exact (act_of_true (by simp [hrun, hdown, hfabric, hchip, hlow, hhigh]) : execHostLinkUp s = _)
  case retry =>
    show execDadRetry s = _
    simp only [execDadRetry, hc]
    exact act_of_true (by simp only [hup, hreached, Bool.and_self])
  case passLocal =>
    show execDadPass true s = _
    simp only [execDadPass, if_true]
    exact act_of_true (by simp only [hup, hlocal, Bool.and_self])
  case passGlobal =>
    show execDadPass false s = _
    simp only [execDadPass, Bool.false_eq_true, if_false]
    exact act_of_true (by simp only [hup, hglobal, Bool.and_self])
  case badArp =>
    show execArp frame s = _
    simp only [execArp, hbad]
    exact act_of_true (by simp only [hup, hto, decide_true, Bool.and_self])
  case badNd =>
    show execNeighborDiscovery frame kind s = _
    simp only [execNeighborDiscovery, hbad]
    exact act_of_true (by simp only [hup, hto, decide_true, Bool.and_self])
  case badEcho =>
    show execEchoRequest frame s = _
    simp only [execEchoRequest, hbad]
    exact act_of_true hup
  case arp =>
    show execArp frame s = _
    simp only [execArp, hgood]
    exact act_of_true (by simp only [hup, hto, decide_true, Bool.and_self])
  case nd =>
    subst hhere
    have hexec : ∀ kind, execNeighborDiscovery frame kind s = .next (match kind with
        | .advert => if (if decide (frame.to_.val = 0) then t.hp.dadLocal else t.hp.dadGlobal)
            then t.addressConflict (decide (frame.to_.val = 0)) else t
        | .probe => if (if decide (frame.to_.val = 0) then t.hp.dadLocal else t.hp.dadGlobal)
            then t.addressConflict (decide (frame.to_.val = 0))
            else if t.addressed frame then t.send (.neighborAdvert frame.from_ (t.hostAddress (decide (frame.to_.val = 0)))) else t
        | .solicit => if t.addressed frame
            then t.send (.neighborAdvert frame.from_ (t.hostAddress (decide (frame.to_.val = 0)))) else t) := fun kind => by
      simp only [execNeighborDiscovery, hgood]
      refine (act_of_true (by simp only [hup, hto, decide_true, Bool.and_self])).trans ?_
      cases kind <;> rfl
    refine ⟨hexec .solicit, fun hdetecting => ⟨(hexec .advert).trans ?_, (hexec .probe).trans ?_⟩,
      fun hdetecting => ⟨(hexec .advert).trans ?_, (hexec .probe).trans ?_⟩⟩
    · dsimp only; rw [if_pos hdetecting]
    · dsimp only; rw [if_pos hdetecting]
    · dsimp only; rw [if_neg (by rw [hdetecting]; exact Bool.false_ne_true)]
    · dsimp only; rw [if_neg (by rw [hdetecting]; exact Bool.false_ne_true)]
  case echo =>
    subst hu hrecent
    show execEchoRequest frame s = _
    simp only [execEchoRequest, hgood]
    exact act_of_true hup
  case datagram =>
    show execFcpDatagram frame bytes s = _
    simp only [execFcpDatagram, hreceive]
    exact act_of_true hopen
  case noDatagram =>
    show execFcpDatagram frame bytes s = _
    simp only [execFcpDatagram, hreceive]
    exact act_of_true hopen
  case announce =>
    subst ht
    show execAnnounce s = _
    cases ha : s.hp.announcedAt with
    | none =>
      simp only [execAnnounce, ha]
      exact act_of_true (by simp only [hopen, hnone, hflag, hlocal, Option.isNone_none, Bool.and_self])
    | some a =>
      simp only [execAnnounce, ha]
      exact act_of_true (by simp only [hopen, hnone, hflag, hlocal, Option.isNone_none, decide_eq_true (hgap a ha), Bool.and_self])

/-! ### Flow control -/

/-- A class held off whose room suffices is released (R556). -/
theorem State.setRoom_of_release {s : State} (bulk : Bool) {room : Nat} (hoff : s.xoff (bit bulk) = true)
    (hroom : xonAbove (bit bulk) < room) : s.setRoom (bit bulk) room =
      (if bulk then { s with hp := { s.hp with freeBulk := room } } else { s with hp := { s.hp with freeCmd := room } }).sendPfc
        (bit bulk) false := by
  cases bulk <;>
  · simp only [bit, State.xoff, Bool.false_eq_true, if_true, if_false, Nat.one_ne_zero] at hoff hroom
    simp only [State.setRoom, bit, State.xoff, Bool.false_eq_true, if_true, if_false, Nat.one_ne_zero, hoff, hroom,
      Bool.true_eq_false, false_and, and_self]

/-- Settles O47: each row under its conditions. -/
theorem hostFlowControl : Obligations.HostFlowControl := by
  intro s
  refine ⟨fun hup => ⟨fun named quanta t u ht hu => ?pause, fun bulk room hoff => ⟨fun hroom => ?release, fun hroom hlate => ?again⟩⟩,
    fun hrun hshown => ?expiry⟩
  case pause =>
    subst hu ht
    exact (act_of_true hup : execPfcFrame named quanta s = _)
  case release =>
    show execXoffRepeat bulk room s = _
    simp only [execXoffRepeat, if_pos hroom, State.setRoom_of_release bulk hoff hroom]
    exact act_of_true (by simp only [hup, hoff, Bool.and_self])
  case again =>
    show execXoffRepeat bulk room s = _
    simp only [execXoffRepeat, if_neg (Nat.not_lt.mpr hroom)]
    exact act_of_true (by simp only [hup, hoff, decide_eq_true hlate, Bool.and_self])
  case expiry => exact (act_of_true (by simp only [hrun, decide_eq_true hshown, Bool.and_self]) : execPfcPauseExpiry s = _)

/-! ### Queue pairs -/

/-- A frame that passes reception reaches the queue pair that it names. -/
theorem State.onQp_of_received {s t : State} {frame : Frame} {h : RdmaHeader} {q : QueuePair} {effect : State → QueuePair → State}
    (hsession : s.hp.session ≠ none) (hreceive : s.receive frame 1 = (t, true)) (haddressed : t.addressed frame = true)
    (hqp : t.qp h.qpn = some q) (hsound : q.error = false) :
    s.onQp frame h effect = (effect t q).notify frame.from_ h.qpn h.marked := by
  have : s.hp.session.isNone = false := by simpa [Option.isNone_eq_false_iff, Option.isSome_iff_ne_none] using hsession
  simp only [State.onQp, this, Bool.false_eq_true, if_false, hreceive, haddressed, Bool.not_true, hqp, hsound]

/-- A part that fits, in a message that is allowed, moves the expected number on and offers its bytes (R570, R575). -/
theorem State.takePart_of_fit {s u : State} {to_ : Peer} {n : Nat} {q : QueuePair} {part : WritePart} {h : RdmaHeader} {data : List Byte}
    {a left : Nat} {due : Bool} {w : HeldWrite} (hfit : partFits q part h data.length = true)
    (hallowed : opens part = false ∨ s.rdmaAllowed true h = true)
    (ha : (a, left) = if opens part then (h.addr.toNat, h.len) else q.message.getD (0, 0))
    (hdue : due = (decide (part = .last) || decide (part = .only) || decide (63 ≤ q.sinceAck)))
    (hw : w = ⟨n, to_, q.hostQpn, a, data, h.psn, due⟩)
    (hu : u = s.setQp n (some { q with psn := q.psn + 1, sinceAck := if due then 0 else q.sinceAck + 1
                                       message := if part = .first ∨ part = .middle then some (a + data.length, left - data.length) else none })) :
    s.takePart to_ n q part h data = u.offerWrite w := by
  subst hu hw hdue
  have hopen : (opens part && !s.rdmaAllowed true h) = false := by
    rcases hallowed with h | h <;> simp [h]
  simp only [State.takePart, hfit, hopen, Bool.not_true, Bool.false_eq_true, if_false, ← ha]

/-- The first queue pair whose rate rises is below the full rate and has had no CNP for 64 courses. -/
theorem State.rateDue_spec {s : State} {n : Nat} {p : QueuePair} (h : s.rateDue = some (n, p)) :
    p.rate < 92 * 1024 ∧ 64 ≤ coursesSince s.course p.lastCnp ∧ s.qp n = some p := by
  obtain ⟨m, -, hm⟩ := List.exists_of_findSome?_eq_some h
  cases hqp : s.qp m with
  | none => simp [hqp] at hm
  | some q =>
    rw [hqp] at hm
    dsimp only at hm
    split at hm
    · next hcond =>
      obtain ⟨rfl, rfl⟩ := Prod.mk.inj (Option.some.inj hm)
      exact ⟨hcond.1, hcond.2, hqp⟩
    · exact absurd hm (Option.some_ne_none _).symm

theorem State.running_of_hostOpen {s : State} (h : s.hostOpen = true) : s.running = true := by
  simp only [State.hostOpen, Bool.and_eq_true] at h
  obtain ⟨⟨⟨⟨hrun, -⟩, -⟩, -⟩, -⟩ := h
  exact hrun

/-- Settles O48: each request by its number, each part by its tests. -/
theorem queuePairsOfTheHost : Obligations.QueuePairsOfTheHost := by
  intro s t frame h q hopen hsession hreceive haddressed hqp hsound
  have hon : ∀ effect : State → QueuePair → State, act s s.hostOpen (s.onQp frame h effect) =
      .next ((effect t q).notify frame.from_ h.qpn h.marked) := fun effect => by
    rw [State.onQp_of_received hsession hreceive haddressed hqp hsound, act_of_true hopen]
  have hread : execRdmaRead frame h s = _ := hon _
  have hwrite : ∀ part data, execRdmaWrite frame h part data s =
      .next ((t.takeWrite frame.from_ q h part data).notify frame.from_ h.qpn h.marked) := fun part data => hon _
  refine ⟨hon _, fun hpsn => hread.trans ?expected, fun hpsn hbehind => hread.trans ?behind, fun hpsn hbehind => hread.trans ?ahead,
    fun part data => ⟨fun hpsn hpart => (hwrite part data).trans ?unsupported, fun hpsn hbehind => (hwrite part data).trans ?again,
      fun hpsn hbehind => (hwrite part data).trans ?refused, fun hpsn hpart => ⟨fun hfit => (hwrite part data).trans ?unfit,
        fun hfit hopens hallowed => (hwrite part data).trans ?denied,
        fun a left due w u hfit hallowed ha hdue hw hu => ⟨(hwrite part data).trans ?taken, fun hheld => ?held, fun hfirst hfree => ?lands⟩⟩⟩,
    fun n p hdue => ⟨State.rateDue_spec hdue, ?raise⟩⟩
  case expected => simp only [hpsn, true_or, if_true, ne_eq, not_true_eq_false, decide_false]
  case behind => simp only [hbehind, or_true, if_true, decide_eq_true hpsn]
  case ahead => simp only [hpsn, hbehind, Bool.false_eq_true, or_self, if_false, State.outOfSequence]
  case unsupported => simp only [State.takeWrite, hpsn, hpart, if_true]
  case again => simp only [State.takeWrite, if_neg hpsn, hbehind, if_true]
  case refused => simp only [State.takeWrite, if_neg hpsn, hbehind, Bool.false_eq_true, if_false, State.outOfSequence]
  case unfit => simp only [State.takeWrite, if_pos hpsn, if_neg hpart, State.takePart, hfit, Bool.not_false, if_true]
  case denied =>
    simp only [State.takeWrite, if_pos hpsn, if_neg hpart, State.takePart, hfit, hopens, hallowed, Bool.not_true, Bool.not_false,
      Bool.false_eq_true, if_false, Bool.and_self, if_true]
  case taken => rw [State.takeWrite, if_pos hpsn, if_neg hpart, State.takePart_of_fit hfit hallowed ha hdue hw hu]
  case held =>
    have hwait : (u.hp.heldWrites.any (fun x => decide (x.qp = w.qp)) || u.memWaits w.addr w.data.length) = true := by
      rw [hw]
      simpa only [Bool.or_eq_true, List.any_eq_true, decide_eq_true_eq] using hheld
    rw [State.offerWrite, if_pos hwait]
  case lands =>
    have hwait : (u.hp.heldWrites.any (fun x => decide (x.qp = w.qp)) || u.memWaits w.addr w.data.length) = false := by
      rw [hw]
      simp only [Bool.or_eq_false_iff, List.any_eq_false, decide_eq_true_eq]
      exact ⟨hfirst, hfree⟩
    rw [State.offerWrite, if_neg (by rw [hwait]; exact Bool.false_ne_true)]
  case raise =>
    show execCnpRateRaise s = _
    simp only [execCnpRateRaise, hdue]
    exact act_of_true (State.running_of_hostOpen hopen)

/-! ### What ends by time -/

/-- Settles O49: each row at the end of its time. -/
theorem sessionsGrantsAndLeasesEnd : Obligations.SessionsGrantsAndLeasesEnd := by
  intro s hrun
  refine ⟨fun e a he ha hreached => ?previous, fun e he hlate => ⟨?lapse, rfl, rfl⟩, fun o ho hlate => ?opening,
    fun a ha hlate => ?approval, fun g hg hlate => ?grant, fun n r hr hwhole hreached => ⟨_, ?lease, rfl, ?freed, fun m hm => ?others⟩⟩
  case previous =>
    show execMacsecPreviousAnEnd s = _
    simp only [execMacsecPreviousAnEnd, he, ha]
    exact act_of_true (by simp only [hrun, hreached, Bool.and_self])
  case lapse =>
    show execSessionLapse s = _
    simp only [execSessionLapse, he]
    exact act_of_true (by simp only [hrun, Session.over, decide_eq_true hlate, Bool.and_self])
  case opening =>
    show execSessionOpenLapse s = _
    simp only [execSessionOpenLapse, ho]
    exact act_of_true (by simp only [hrun, decide_eq_true hlate, Bool.and_self])
  case approval =>
    have hover : s.approvalOver = true := by simp only [State.approvalOver, ha, decide_eq_true hlate]
    have hend : s.endApproval = ({ s with rt := { s.rt with approval := none } }.completeResult a.slot stRtApprovalExpired []).count
        Reg.rtApprovalsExpired 1 := by simp only [State.endApproval, ha]
    rw [← hend]
    exact (act_of_true (by simp only [hrun, hover, Bool.and_self]) : execApprovalWindowEnd s = _)
  case grant =>
    show execGrantLapse s = _
    simp only [execGrantLapse, hg]
    exact act_of_true (by simp only [hrun, decide_eq_true hlate, Bool.and_self])
  case lease =>
    show execResultLeaseEnd n s = _
    simp only [execResultLeaseEnd, hr]
    exact act_of_true (by simp only [hrun, hwhole, hreached]; rfl)
  case freed => exact SMap.get_set_same none s.cmd.results n.val none
  case others => exact SMap.get_set_ne none s.cmd.results none hm

end Sys2Proof.Machine
end

section
/-! PROOF. The phases of cast-on, and the sampling and limiting of power (R637–R654, R664–R688). -/

namespace Sys2Proof.Machine

/-! ### Cast-on -/

theorem State.workDone_of {s : State} {report : PhaseReport}
    (hflash : s.phase = 1 → report = .disagreement ∨ s.flashTime ≤ s.phaseTime)
    (hheld : s.phase = 6 → cleanSwatches report = true → 1250000000 ≤ s.phaseTime) : s.workDone report = true := by
  have h1 : s.phase ≠ 1 ∨ report = .disagreement ∨ s.flashTime ≤ s.phaseTime := or_iff_not_imp_left.mpr fun h => hflash (not_not.mp h)
  have h6 : s.phase ≠ 6 ∨ cleanSwatches report = false ∨ 1250000000 ≤ s.phaseTime := by
    by_cases h : s.phase = 6
    · cases hclean : cleanSwatches report with
      | false => exact .inr (.inl rfl)
      | true => exact .inr (.inr (hheld h hclean))
    · exact .inl h
  simp only [State.workDone, decide_eq_true h1, decide_eq_true h6, Bool.and_self]

/-- Settles O50: each row under its conditions. -/
theorem castOnBeginsAndRuns : Obligations.CastOnBeginsAndRuns := by
  intro s
  refine ⟨fun power straps flash0 flash1 t hlow ht => ?rise, fun hhigh => ?assert, fun hpower => ?deassert,
    fun report hphase htime hflash hheld => ?ends, fun unit_ hphase htime => ?timeout,
    fun hpower hhigh htripped hpulsing hlate => ?pulse⟩
  case rise =>
    have hrow : execPerstNRise power straps flash0 flash1 s = .next (if !power || s.tripped then t
        else if straps.test then t.pulseFaultN
        else ({ t with alive := true, co := { t.co with active := true } }.showStrict.setFld Reg.hpStatus Fld.hpStatusMode
          (bit straps.eightLane))) := by
      subst ht
      exact act_of_true (by simp only [hlow, Bool.not_false])
    refine ⟨fun hnone => hrow.trans ?_, fun hpower htripped htest => hrow.trans ?_, fun hpower htripped htest => hrow.trans ?_⟩
    · rw [if_pos (by rcases hnone with h | h <;> simp [h])]
    · rw [hpower, htripped, if_neg (by decide), htest, if_pos rfl]
    · rw [hpower, htripped, if_neg (by decide), htest, if_neg Bool.false_ne_true]
  case assert => exact ⟨_, act_of_true hhigh, rfl, rfl, rfl, rfl, rfl, rfl, rfl, rfl, rfl, rfl⟩
  case deassert => exact ⟨_, act_of_true hpower, rfl, rfl, rfl, rfl, rfl, rfl, rfl, rfl, rfl, rfl⟩
  case ends =>
    exact (act_of_true (by simp only [hphase, decide_eq_true htime, State.workDone_of hflash hheld, Bool.and_self]) :
      execCastonPhaseEnd report s = _)
  case timeout =>
    exact (act_of_true (by simp only [hphase, decide_eq_true htime, Bool.and_self]) : execCastonPhaseTimeout unit_ s = _)
  case pulse =>
    exact (act_of_true (by simp only [hpower, hhigh, htripped, hpulsing, decide_eq_true hlate]; rfl) : execFaultNPulse s = _)

/-! ### Power -/

/-- DUTY shows the lesser of the limits that are set. -/
theorem State.duty_setLimits (s : State) (e t : Nat) : (s.setLimits e t).fld Reg.pmStatus Fld.pmStatusDuty = min e t % 32 := by
  simp only [State.setLimits, State.fld, State.reg_setFld, if_true]
  rw [BitField.get_put_ne _ _ _ _ (by decide) (by decide), BitField.get_put _ _ _ (by decide)]
  rfl

/-- Settles O52: each row at its course. -/
theorem powerIsSampledAndLimited : Obligations.PowerIsSampledAndLimited := by
  intro s
  refine ⟨fun bus rails t w hbus hpowered hdue => ?sample, fun p q e hmean he hpowered hdue hstitch => ?envelope,
    fun p v hv hpowered hdue => ?setpoint, fun p u hrun hu => ⟨?fault, rfl⟩, fun js ss hrun hdue => ?junction⟩
  case sample =>
    show execAvsSample bus rails s = _
    simp only [execAvsSample, hbus]
    exact act_of_true (by simp only [hpowered, hdue, Bool.and_self])
  case envelope =>
    have hrow : execEnvelopeStep s = .next ((s.setLimits (envelopeNext p q e s.pm.envelopeLimit) s.pm.thermalLimit).ran tmrEnvelope) := by
      simp only [execEnvelopeStep, hmean, he]
      exact act_of_true (by simp only [hpowered, hdue, hstitch]; rfl)
    refine ⟨_, hrow, s.setLimits_thermalLimit _ _, ?_⟩
    rw [State.setLimits_envelopeLimit, State.setLimits_thermalLimit]
    refine ⟨fun habove => ?_, fun hbelow hlow => ?_, fun hbelow hhigh => ?_, s.duty_setLimits _ _⟩
    · rw [envelopeNext, if_pos habove]
    · rw [envelopeNext, if_neg hbelow, if_pos hlow]
    · rw [envelopeNext, if_neg hbelow, if_neg hhigh]
  case setpoint =>
    subst hv
    exact (act_of_true (by simp only [hpowered, hdue, Bool.and_self]) : execSetpointStep p s = _)
  case fault =>
    subst hu
    exact (act_of_true hrun : execVrFault p s = _)
  case junction => exact (act_of_true (by simp only [hrun, hdue, Bool.and_self]) : execJunctionRead js ss s = _)

end Sys2Proof.Machine
end

section
/-! PROOF. Commands that are refused before they are looked at, and the answer of a command (R537, R584–R591, R598, R647). -/

namespace Sys2Proof.Machine

/-! ### A command row and the head of the queue -/

/-- Without a command of its own that it can carry out, a row changes nothing. -/
theorem runTrusted_idle {s : State} {op : Nat} (agree : CmdSlot → Bool) (f : State → CmdSlot → Done)
    (h : s.interprets = false ∨ ∀ c rest, s.cmd.queue = c :: rest → c.opcode.toNat ≠ op) : runTrusted agree op f s = .next s := by
  cases hq : s.cmd.queue with
  | nil => simp only [runTrusted, hq]
  | cons c rest =>
    simp only [runTrusted, hq]
    refine act_of_false ?_
    rcases h with h | h
    · rw [h, Bool.false_and]
    · rw [decide_eq_false (h c rest hq), Bool.and_false]

theorem State.interprets_of {s : State} (hrun : s.running = true) (hinterpreted : s.interpreted = true) (hfabric : s.inReset 4 = false)
    (hchip : s.inReset 5 = false) (hreading : s.cmd.reading = none) : s.interprets = true := by
  simp only [State.interprets, hrun, hinterpreted, hfabric, hchip, hreading]
  rfl

theorem plainOutcome_refused {status : Nat} (h : status = stState ∨ status = stBadParam) : plainOutcome status = true := by
  rcases h with rfl | rfl <;> decide

/-- What a command that waits for cast-on is answered before READY (R591, R647). -/
def earlyStatus (status : Nat) : Nat := if status = stBadParam then stBadParam else stState

theorem earlyStatus_cases (status : Nat) : earlyStatus status = stState ∨ earlyStatus status = stBadParam := by
  unfold earlyStatus
  split
  · exact .inr rfl
  · exact .inl rfl

theorem runTrusted_early {s : State} {op : Nat} {c : CmdSlot} {rest : List CmdSlot} (agree : CmdSlot → Bool) (f : State → CmdSlot → Done)
    (hq : s.cmd.queue = c :: rest) (hop : c.opcode.toNat = op) (hinterprets : s.interprets = true) (hready : s.ready = false)
    (hearly : earlyClass op = false) :
    runTrusted agree op f s = .next ((s.popped rest).replied s c (earlyStatus (f (s.popped rest) c).status) []) := by
  have hplain := plainOutcome_refused (earlyStatus_cases (f (s.popped rest) c).status)
  simp only [runTrusted, hq, hready, hearly, Bool.not_false, Bool.and_self, if_true]
  rw [act_of_true (by rw [hinterprets, decide_eq_true hop]; rfl)]
  exact congrArg _ (if_pos (by rw [Bool.or_eq_true]; exact .inr hplain))

theorem sized_of_length_ne {n : Nat} {f : State → CmdSlot → Done} {s : State} {c : CmdSlot} (h : c.body.length ≠ n) :
    sized n f s c = Done.refuse s stBadParam := if_neg h

theorem sized_of_length {n : Nat} {f : State → CmdSlot → Done} {s : State} {c : CmdSlot} (h : c.body.length = n) :
    sized n f s c = f s c := if_pos h

/-! ### The rows of a fixed length -/

/-- `row` carries out the commands of opcode `op`, of a body of `len` bytes; a CS_READ of the right length may take longer. -/
def SizedRow (row : Instr) (op len : Nat) : Prop :=
  ∃ agree f, (∀ s : State, (∀ c rest, s.cmd.queue = c :: rest → c.opcode.toNat ≠ op ∨ c.body.length ≠ len ∨ op ≠ 0x10) →
    exec row s = runTrusted agree op (sized len f) s) ∧ ∀ s : State, s.interprets = false → exec row s = .next s

theorem SizedRow.of_runTrusted {row : Instr} {op len : Nat} {agree : CmdSlot → Bool} {f : State → CmdSlot → Done}
    (h : ∀ s, exec row s = runTrusted agree op (sized len f) s) : SizedRow row op len :=
  ⟨agree, f, fun s _ => h s, fun s hs => (h s).trans (runTrusted_idle _ _ (.inl hs))⟩

theorem csRead_sizedRow : SizedRow .csRead 0x10 10 := by
  refine ⟨fun _ => true, csReadDone, fun s hs => ?_, fun s hs => ?_⟩
  · show execCsRead s = _
    cases hq : s.cmd.queue with
    | nil => simp only [execCsRead, runTrusted, hq]
    | cons c rest =>
      have hshort : c.longRead = false := by
        rcases hs c rest hq with h | h | h
        · simp [CmdSlot.longRead, h]
        · simp [CmdSlot.longRead, h]
        · exact absurd rfl h
      simp only [execCsRead, hq, hshort, Bool.false_eq_true, if_false]
      rfl
  · show execCsRead s = _
    cases hq : s.cmd.queue with
    | nil => simp only [execCsRead, hq]
    | cons c rest =>
      simp only [execCsRead, hq]
      split
      · exact act_of_false hs
      · exact runTrusted_idle _ _ (.inl hs)

/-- The rows of commands with a body of one length. -/
def sizedRows : List (Instr × Nat × Nat) := [
  (.statusRead, 0x01, 0), (.identityGet, 0x02, 0), (.attest, 0x03, 32), (.sessionOpen, 0x04, 152), (.sessionConfirm true, 0x05, 148), (.sessionConfirm false, 0x05, 148),
  (.sessionRekey, 0x06, 0), (.sessionClose, 0x07, 0), (.jobKeyProvision true, 0x09, 252), (.jobKeyProvision false, 0x09, 252), (.csRead, 0x10, 10), (.jobLoad, 0x20, 66),
  (.jobUnload, 0x21, 0), (.ctxLoad, 0x22, 26), (.ctxFree, 0x23, 1), (.ctxSwitch, 0x24, 6), (.overlayStage, 0x25, 13),
  (.stepArm, 0x30, 88), (.eventSchedule, 0x32, 17), (.eventCancel, 0x33, 2), (.lifelineArm, 0x40, 4), (.lifelineRestore, 0x41, 4),
  (.spareFill, 0x42, 0), (.manifestRead, 0x43, 2), (.epochAdvance, 0x50, 8), (.faultDeclare, 0x51, 2), (.isolationReport, 0x52, 2),
  (.dumpRead, 0x53, 9), (.dumpRelease, 0x54, 1), (.logRead, 0x60, 11), (.fsrRead, 0x61, 2), (.fsrFree, 0x62, 2), (.qpCreate, 0x70, 10),
  (.qpDestroy, 0x71, 3), (.serveOpen, 0x80, 23), (.serveClose, 0x82, 1), (.resultRead, 0x90, 13), (.resultRelease, 0x91, 5),
  (.bindOff, 0xA0, 0)]

theorem sizedRow_of_mem : ∀ r ∈ sizedRows, SizedRow r.1 r.2.1 r.2.2 := by
  simp only [sizedRows, List.forall_mem_cons]
  and_intros
  on_goal 11 => exact csRead_sizedRow
  on_goal 39 => exact fun r hr => absurd hr List.not_mem_nil
  all_goals exact SizedRow.of_runTrusted fun _ => rfl

/-- Settles O53: the rows of a fixed length test the length, then whether the device is ready. -/
theorem commandsAreRefusedFirst : Obligations.CommandsAreRefusedFirst := by
  intro s row op len hrow
  obtain ⟨agree, f, hexec, hidle⟩ : SizedRow row op len := sizedRow_of_mem (row, op, len) hrow
  refine ⟨fun c rest hq hop hrun hinterpreted hfabric hchip hreading hready hearly => ?early, fun c rest hcommand hlen => ?length,
    fun hnone => ?none⟩
  case early =>
    have hnot : op ≠ 0x10 := by
      rintro rfl
      exact absurd hearly (by decide)
    have hrow := (hexec s fun _ _ _ => .inr (.inr hnot)).trans (runTrusted_early agree (sized len f) hq hop
      (State.interprets_of hrun hinterpreted hfabric hchip hreading) hready hearly)
    refine ⟨fun hlen => hrow.trans ?_, _, earlyStatus_cases _, hrow⟩
    rw [sized_of_length_ne hlen]
    rfl
  case length =>
    have hq : s.cmd.queue = c :: rest := hcommand.1
    rw [hexec s fun d more hd => .inr (.inl ?_), runTrusted_commanded hcommand, sized_of_length_ne hlen]
    · exact congrArg _ (if_pos (by rw [Bool.or_eq_true]; exact .inr (plainOutcome_refused (.inr rfl))))
    · obtain ⟨rfl, -⟩ := List.cons.inj (hq.symm.trans hd)
      exact hlen
  case none =>
    have hhead : (∀ c rest, s.cmd.queue = c :: rest → c.opcode.toNat ≠ op) → exec row s = .next s := fun h =>
      (hexec s fun c rest hq => .inl (h c rest hq)).trans (runTrusted_idle _ _ (.inr h))
    rcases hnone with h | ⟨c, rest, hq, hop⟩ | h | h
    · exact hhead fun c rest hq => absurd (h.symm.trans hq) (List.cons_ne_nil _ _).symm
    · refine hhead fun d more hd => ?_
      obtain ⟨rfl, -⟩ := List.cons.inj (hq.symm.trans hd)
      exact hop
    · exact hidle s (by simp [State.interprets, h])
    · have hsome : s.cmd.reading.isNone = false := by
        cases hr : s.cmd.reading with
        | none => exact absurd hr h
        | some r => rfl
      exact hidle s (by rw [State.interprets, hsome, Bool.and_false])

/-! ### The frames of an answer -/

/-- Frames that have left and frames that wait. -/
def HostPort.frames (h : HostPort) : Nat := h.out.length + h.waiting.length

/-- A frame that is sent leaves or waits, and changes nothing but port H. -/
theorem State.sendOut_only (s : State) (w : Outgoing) : ∃ h, s.sendOut w = { s with hp := h } ∧ h.frames = s.hp.frames + 1 := by
  by_cases hheld : s.holdsBack w.frame = true
  · exact ⟨_, if_pos hheld, by simp only [HostPort.frames, List.length_append, List.length_singleton]; omega⟩
  · exact ⟨_, if_neg hheld, by simp only [HostPort.frames, List.length_append, List.length_singleton]; omega⟩

theorem State.foldl_sendOut_only (g : State → Nat → Outgoing) (l : List Nat) : ∀ s : State,
    ∃ h, l.foldl (fun t i => t.sendOut (g t i)) s = { s with hp := h } ∧ h.frames = s.hp.frames + l.length := by
  induction l with
  | nil => exact fun s => ⟨s.hp, rfl, rfl⟩
  | cons i l ih =>
    intro s
    obtain ⟨h, hs, hframes⟩ := s.sendOut_only (g s i)
    obtain ⟨h', hs', hframes'⟩ := ih (s.sendOut (g s i))
    refine ⟨h', by rw [List.foldl_cons, hs', hs], ?_⟩
    rw [hframes', hs, List.length_cons, hframes]
    omega

/-- A reply is at least one frame, and changes nothing but port H. -/
theorem State.reply_only (s : State) (to_ : Peer) (opcode : BitVec 16) (status : Nat) (seq session : BitVec 32)
    (under : Option (Option Session)) (slot : Option CmdSlot) (body : List Byte) :
    ∃ h, s.reply to_ opcode status seq session under slot body = { s with hp := h } ∧ s.hp.frames < h.frames := by
  obtain ⟨h, hs, hframes⟩ := State.foldl_sendOut_only (fun t i =>
    ⟨.fcp to_ (fcpDatagram fcpReply opcode status seq session i (max 1 ((body.length + bodyLimit to_ - 1) / bodyLimit to_))
      (decide (i + 1 = max 1 ((body.length + bodyLimit to_ - 1) / bodyLimit to_))) t.course ((body.drop (bodyLimit to_ * i)).take (bodyLimit to_))),
      under, slot, decide (i + 1 = max 1 ((body.length + bodyLimit to_ - 1) / bodyLimit to_))⟩)
    (List.range (max 1 ((body.length + bodyLimit to_ - 1) / bodyLimit to_))) s
  exact ⟨h, hs, by rw [hframes, List.length_range]; omega⟩

/-- The sequence state of a command that was not accepted after all is as before it (R598). -/
def State.withdrawn (t : State) (c : CmdSlot) : State :=
  match c.prior with
  | none => t
  | some q => { t.setSeqState (withoutCommand q t.cmd.queue).1 with
      cmd := { (t.setSeqState (withoutCommand q t.cmd.queue).1).cmd with queue := (withoutCommand q t.cmd.queue).2 } }

/-- A command that has been accepted counts and stands in the cache of replies (R584, R598). -/
def State.counted_ (t : State) (c : CmdSlot) : State :=
  if takesSlot c.opcode.toNat && c.prior.isSome then t.count Reg.cmdAccepted 1 else t

def State.cached (t : State) (c : CmdSlot) (status : Nat) (body : List Byte) : State :=
  if readClass c.opcode.toNat then t.counted_ c else (t.counted_ c).cacheReply ⟨c.seq, c.opcode, status, body⟩

/-- An answer is the state without the command, or with its reply kept, and what leaves port H. -/
theorem State.answer_only (t s : State) (c : CmdSlot) (status : Nat) (body : List Byte) :
    ∃ h, t.answer s c status body = { (if status = stNoResultSlot then t.withdrawn c else t.cached c status body) with hp := h } ∧
      t.hp.frames < h.frames := by
  by_cases hslot : status = stNoResultSlot
  · have hwithdrawn : (t.withdrawn c).hp = t.hp := by
      unfold State.withdrawn
      split
      · rfl
      · unfold State.setSeqState
        split <;> rfl
    simp only [State.answer, if_pos hslot]
    rw [← hwithdrawn]
    exact State.reply_only (t.withdrawn c) _ _ _ _ _ _ _ _
  · have hcached : (t.cached c status body).hp = t.hp := by
      unfold State.cached State.counted_
      split <;> split <;> rfl
    simp only [State.answer, if_neg hslot]
    rw [← hcached]
    exact State.reply_only (t.cached c status body) _ _ _ _ _ _ _ _

theorem State.withdrawn_of_new {t : State} {c : CmdSlot} (h : c.prior = none) : t.withdrawn c = t := by
  simp only [State.withdrawn, h]

/-- What a withdrawn command leaves: the queue and the sequence state without it. -/
theorem State.withdrawn_of_prior {t : State} {c : CmdSlot} {q : SeqState} (h : c.prior = some q) :
    (t.withdrawn c).cmd.queue = (withoutCommand q t.cmd.queue).2 ∧
      (if t.hp.session.isSome then (t.withdrawn c).cmd.seqSession else (t.withdrawn c).cmd.seqOpen) = (withoutCommand q t.cmd.queue).1 := by
  cases hsession : t.hp.session.isSome with
  | true => simp only [State.withdrawn, h, State.setSeqState, hsession, if_true, and_self]
  | false => simp only [State.withdrawn, h, State.setSeqState, hsession, Bool.false_eq_true, if_false, and_self]

theorem State.withdrawn_rest (t : State) (c : CmdSlot) : (t.withdrawn c).cmd.cache = t.cmd.cache ∧ (t.withdrawn c).regs = t.regs ∧
    (t.withdrawn c).mem = t.mem ∧ (t.withdrawn c).tokens = t.tokens ∧ (t.withdrawn c).cores = t.cores := by
  unfold State.withdrawn
  split
  · exact ⟨rfl, rfl, rfl, rfl, rfl⟩
  · unfold State.setSeqState
    split <;> exact ⟨rfl, rfl, rfl, rfl, rfl⟩

theorem State.cached_rest (t : State) (c : CmdSlot) (status : Nat) (body : List Byte) : (t.cached c status body).cmd.queue = t.cmd.queue ∧
    (t.cached c status body).regs = (if takesSlot c.opcode.toNat = true ∧ c.prior ≠ none then t.count Reg.cmdAccepted 1 else t).regs ∧
    (t.cached c status body).mem = t.mem ∧ (t.cached c status body).tokens = t.tokens ∧ (t.cached c status body).cores = t.cores := by
  have hcounts : (takesSlot c.opcode.toNat && c.prior.isSome) = true ↔ takesSlot c.opcode.toNat = true ∧ c.prior ≠ none := by
    rw [Bool.and_eq_true, Option.isSome_iff_ne_none]
  unfold State.cached State.counted_
  simp only [hcounts]
  split <;> split <;> exact ⟨rfl, rfl, rfl, rfl, rfl⟩

/-- A reply of a reading command is not kept; any other is, with its first 256 bytes. -/
theorem State.cached_of_read {t : State} {c : CmdSlot} (status : Nat) (body : List Byte) (h : readClass c.opcode.toNat = true) :
    (t.cached c status body).cmd.cache = t.cmd.cache := by
  unfold State.cached State.counted_
  rw [if_pos h]
  split <;> rfl

theorem State.mem_cached {t : State} {c : CmdSlot} (status : Nat) (body : List Byte) (h : readClass c.opcode.toNat = false) :
    (⟨c.seq, c.opcode, status, body.take 256⟩ : CachedReply) ∈ (t.cached c status body).cmd.cache := by
  unfold State.cached
  rw [if_neg (by rw [h]; exact Bool.false_ne_true)]
  exact List.mem_append_right _ (List.mem_singleton.mpr rfl)

/-- Settles O54: the answer without a result slot, the answer that is kept, and the reserved opcodes behind it. -/
theorem theAnswerOfACommand : Obligations.TheAnswerOfACommand := by
  intro t s u c status body hu
  obtain ⟨h, hanswer, hframes⟩ := t.answer_only s c status body
  have hreserved : t.replied s c status body = (u.cmd.queue.takeWhile (fun d => !opcodes.contains d.opcode.toNat)).foldl
      (fun v d => v.answer v d stBadOpcode [])
      { u with cmd := { u.cmd with queue := u.cmd.queue.dropWhile (fun d => !opcodes.contains d.opcode.toNat) } } := by
    rw [hu]
    rfl
  rw [hanswer] at hu
  refine ⟨fun hslot => ?noSlot, fun hslot => ?kept, ?mem, ?tokens, ?cores, ?frames, fun hhead => hreserved.trans ?alone, hreserved⟩
  case noSlot =>
    rw [if_pos hslot] at hu
    obtain ⟨hcache, hregs, -⟩ := t.withdrawn_rest c
    subst hu
    refine ⟨hcache, hregs, fun hnew => ?_, fun q hq => State.withdrawn_of_prior hq⟩
    rw [State.withdrawn_of_new hnew]
  case kept =>
    rw [if_neg hslot] at hu
    obtain ⟨hqueue, hregs, -⟩ := t.cached_rest c status body
    subst hu
    exact ⟨hregs, hqueue, fun hread => State.cached_of_read status body hread, fun hread => State.mem_cached status body hread⟩
  case mem =>
    subst hu
    split
    · exact (t.withdrawn_rest c).2.2.1
    · exact (t.cached_rest c status body).2.2.1
  case tokens =>
    subst hu
    split
    · exact (t.withdrawn_rest c).2.2.2.1
    · exact (t.cached_rest c status body).2.2.2.1
  case cores =>
    subst hu
    split
    · exact (t.withdrawn_rest c).2.2.2.2
    · exact (t.cached_rest c status body).2.2.2.2
  case frames =>
    subst hu
    exact hframes
  case alone =>
    have hnone : u.cmd.queue.takeWhile (fun d => !opcodes.contains d.opcode.toNat) = [] ∧
        u.cmd.queue.dropWhile (fun d => !opcodes.contains d.opcode.toNat) = u.cmd.queue := by
      cases hq : u.cmd.queue with
      | nil => exact ⟨rfl, rfl⟩
      | cons d more =>
        have hd : ¬(!opcodes.contains d.opcode.toNat) = true := by rw [hhead d more hq]; exact Bool.false_ne_true
        exact ⟨List.takeWhile_cons_of_neg hd, List.dropWhile_cons_of_neg hd⟩
    obtain ⟨htake, hdrop⟩ := hnone
    rw [htake, hdrop]
    rfl

end Sys2Proof.Machine
end

section
/-! PROOF. The commands that succeed at once, those answered later, and what the root of trust decides
(R10, R563–R566, R584–R600, R628–R635). -/

namespace Sys2Proof.Machine

/-! ### A row whose command's outcome is known -/

section outcome
variable {s t : State} {op n status : Nat} {c : CmdSlot} {rest : List CmdSlot} {f : State → CmdSlot → Done} {body : List Byte}

/-- A command that comes out as `⟨t, status, body⟩` is answered so. -/
theorem runCommand_of_done (h : s.commanded op c rest) (hdone : f (s.popped rest) c = ⟨t, status, body⟩) :
    runCommand op f s = .next (t.replied s c status body) := by
  rw [runCommand_commanded h, hdone]

theorem runSized_of_done (h : s.commanded op c rest) (hlen : c.body.length = n) (hdone : f (s.popped rest) c = ⟨t, status, body⟩) :
    runCommand op (sized n f) s = .next (t.replied s c status body) :=
  runCommand_of_done h ((sized_of_length hlen).trans hdone)

/-- An outcome that is the root of trust's own is answered where the halves agree on it. -/
theorem runTrusted_of_done {agree : CmdSlot → Bool} (h : s.commanded op c rest) (hagree : agree c = true)
    (hdone : f (s.popped rest) c = ⟨t, status, body⟩) : runTrusted agree op f s = .next (t.replied s c status body) := by
  rw [runTrusted_commanded h, hdone, hagree]
  rfl

theorem runTrustedSized_of_done {agree : CmdSlot → Bool} (h : s.commanded op c rest) (hagree : agree c = true) (hlen : c.body.length = n)
    (hdone : f (s.popped rest) c = ⟨t, status, body⟩) : runTrusted agree op (sized n f) s = .next (t.replied s c status body) :=
  runTrusted_of_done h hagree ((sized_of_length hlen).trans hdone)

/-- An outcome that is the root of trust's own is discarded where the halves disagree on it. -/
theorem runTrusted_of_disagreement {agree : CmdSlot → Bool} (h : s.commanded op c rest) (hagree : agree c = false)
    (hown : plainOutcome (f (s.popped rest) c).status = false) : runTrusted agree op f s = .next (s.popped rest).trustDisagrees := by
  rw [runTrusted_commanded h, hagree, hown]
  rfl

theorem runTrustedSized_of_disagreement {agree : CmdSlot → Bool} (h : s.commanded op c rest) (hagree : agree c = false) (hlen : c.body.length = n)
    (hown : plainOutcome (f (s.popped rest) c).status = false) : runTrusted agree op (sized n f) s = .next (s.popped rest).trustDisagrees :=
  runTrusted_of_disagreement h hagree (by rw [sized_of_length hlen]; exact hown)

/-- Without a free result slot a command that is answered later is answered NO_RESULT_SLOT. -/
theorem deferred_of_none {work : State → Nat → State} (h : s.freeResult = none) : deferred s c work = ⟨s, stNoResultSlot, []⟩ := by
  simp only [deferred, h]
  rfl

/-- With one it takes the slot and is answered PENDING. -/
theorem deferred_of_some {work : State → Nat → State} {k : Nat} (h : s.freeResult = some k) :
    deferred s c work = ⟨work (s.takeResult k c.opcode c.seq false) k, stPending, beBytes 1 k ++ zeroBytes 3 ++ beBytes 4 c.seq.toNat⟩ := by
  simp only [deferred, h]

end outcome

/-! ### Session, register, job and context commands -/

theorem csWriteDone_of_inside {t : State} {c : CmdSlot} (hcount : c.arg 0 1 < 64) (hlen : c.body.length = 1 + 16 * (c.arg 0 1 + 1))
    (hinside : c.pairsInside = true) :
    csWriteDone t c = ⟨(t.csWrite c.pairs).1, stOk, (t.csWrite c.pairs).2.map (fun o => BitVec.ofNat 8 o)⟩ := by
  rw [csWriteDone, if_neg (by omega), if_pos hinside]
  rfl

/-- A CS_WRITE of pairs inside the register map is carried out where no pair is protected or the halves agree. -/
theorem execCsWrite_commanded {s : State} {c : CmdSlot} {rest : List CmdSlot} (h : s.commanded 0x11 c rest) (hcount : c.arg 0 1 < 64)
    (hlen : c.body.length = 1 + 16 * (c.arg 0 1 + 1)) (hinside : c.pairsInside = true) (hagree : c.writeAgreed = true) :
    execCsWrite s = .next (((s.popped rest).csWrite c.pairs).1.replied s c stOk
      (((s.popped rest).csWrite c.pairs).2.map (fun o => BitVec.ofNat 8 o))) :=
  runTrusted_of_done h hagree (csWriteDone_of_inside hcount hlen hinside)

/-- A CS_READ of more than 64 registers is carried on by stitches (R10). -/
theorem CmdSlot.longRead_iff {c : CmdSlot} : c.longRead = true ↔
    c.opcode.toNat = 0x10 ∧ c.body.length = 10 ∧ 64 < c.arg 8 2 + 1 ∧ c.arg 8 2 + 1 ≤ 2048 ∧ inControl (c.arg 0 8) (c.arg 8 2 + 1) = true := by
  simp only [CmdSlot.longRead, Bool.and_eq_true, decide_eq_true_iff]
  exact ⟨fun ⟨⟨⟨⟨hop, hlen⟩, hlong⟩, hmost⟩, hin⟩ => ⟨hop, hlen, by omega, by omega, hin⟩,
    fun ⟨hop, hlen, hlong, hmost, hin⟩ => ⟨⟨⟨⟨hop, hlen⟩, by omega⟩, by omega⟩, hin⟩⟩

/-- A CS_READ of up to 64 registers answers them at once. -/
theorem execCsRead_short {s : State} {c : CmdSlot} {rest : List CmdSlot} (h : s.commanded 0x10 c rest) (hlen : c.body.length = 10)
    (hshort : c.arg 8 2 + 1 ≤ 64) (hin : inControl (c.arg 0 8) (c.arg 8 2 + 1) = true) :
    execCsRead s = .next ((s.popped rest).replied s c stOk ((s.popped rest).readWords c 0 (c.arg 8 2 + 1))) := by
  have hnot : c.longRead = false := Bool.eq_false_iff.mpr fun hlong => by
    obtain ⟨-, -, hmore, -⟩ := CmdSlot.longRead_iff.mp hlong
    omega
  have hdone : csReadDone (s.popped rest) c = ⟨s.popped rest, stOk, (s.popped rest).readWords c 0 (c.arg 8 2 + 1)⟩ := by
    simp only [csReadDone, hin, if_true]
    rw [if_neg (by omega)]
    rfl
  rw [execCsRead, h.1]
  dsimp only
  rw [hnot]
  exact runSized_of_done h hlen hdone

theorem State.readWords_zero (s : State) (c : CmdSlot) (n : Nat) :
    s.readWords c 0 n = (List.range n).flatMap (fun i => beBytes 8 (s.readWord (c.arg 0 8 - controlBase + 8 * i)).toNat) := by
  simp only [State.readWords, Nat.zero_add]

/-- Settles O55: each row is its command's outcome on the state that has left the queue, and the conditions of the command decide that
outcome's branch; a long CS_READ is held, and the stitches read on. -/
theorem sessionAndJobCommands : Obligations.SessionAndJobCommands := by
  unfold Obligations.SessionAndJobCommands
  refine ⟨fun s c rest row op ok effect body hmem h hok => ?rows, fun s t c rest h hlen hlong hmost hin ht => ?long,
    fun s t r ws hr ht hws => ?carriedOn⟩
  case rows =>
    simp only [List.mem_cons, Prod.mk.injEq, List.not_mem_nil, or_false] at hmem
    rcases hmem with ⟨rfl, rfl, rfl, rfl, rfl⟩ | ⟨rfl, rfl, rfl, rfl, rfl⟩ | ⟨rfl, rfl, rfl, rfl, rfl⟩ | ⟨rfl, rfl, rfl, rfl, rfl⟩ |
      ⟨rfl, rfl, rfl, rfl, rfl⟩ | ⟨rfl, rfl, rfl, rfl, rfl⟩ | ⟨rfl, rfl, rfl, rfl, rfl⟩ | ⟨rfl, rfl, rfl, rfl, rfl⟩ |
      ⟨rfl, rfl, rfl, rfl, rfl⟩ | ⟨rfl, rfl, rfl, rfl, rfl⟩ | ⟨rfl, rfl, rfl, rfl, rfl⟩ | ⟨rfl, rfl, rfl, rfl, rfl⟩
    · exact (runSized_of_done h hok rfl : execStatusRead s = _)
    · exact (runSized_of_done h hok rfl : execIdentityGet s = _)
    · exact (runTrustedSized_of_done h hok.2 hok.1 rfl : execAttest s = _)
    case _ => -- SESSION_REKEY
      obtain ⟨hlen, hsession, hagree⟩ := hok
      obtain ⟨e, he⟩ := Option.ne_none_iff_exists'.mp hsession
      refine (runTrustedSized_of_done h hagree hlen ?_ : execSessionRekey s = _)
      simp only [he]
      rfl
    case _ => -- SESSION_CLOSE
      obtain ⟨hlen, hsession⟩ := hok
      exact (runSized_of_done h hlen (if_pos (Option.isSome_iff_ne_none.mpr hsession)) : execSessionClose s = _)
    case _ => -- CS_READ
      obtain ⟨hlen, hshort, hin⟩ := hok
      exact ((execCsRead_short h hlen hshort hin).trans (by rw [State.readWords_zero]) : execCsRead s = _)
    case _ => -- CS_WRITE
      obtain ⟨hcount, hlen, hinside, hagree⟩ := hok
      exact execCsWrite_commanded h hcount hlen hinside hagree
    case _ => -- JOB_LOAD
      obtain ⟨hlen, hformed, hbusy, hfits⟩ := hok
      refine (runSized_of_done h hlen ?_ : execJobLoad s = _)
      simp only [hformed, hbusy, hfits]
      rfl
    case _ => -- JOB_UNLOAD
      obtain ⟨hlen, harmed, hcuts, hfill, hrestore⟩ := hok
      refine (runSized_of_done h hlen ?_ : execJobUnload s = _)
      exact if_neg (by simp only [harmed, hcuts, hfill, hrestore, ne_eq, not_true_eq_false, Option.isSome_none, Bool.false_eq_true, or_self, not_false_eq_true])
    case _ => -- CTX_LOAD
      obtain ⟨hlen, hctx, haligned, hbase, hcontrol, hreserved, hfree, hsize⟩ := hok
      refine (runSized_of_done h hlen ?_ : execCtxLoad s = _)
      dsimp only
      rw [if_neg (by omega), if_neg (not_not.mpr hfree), if_neg (by omega)]
      rfl
    case _ => -- CTX_FREE
      obtain ⟨hlen, hctx, hstate⟩ := hok
      refine (runSized_of_done h hlen ?_ : execCtxFree s = _)
      dsimp only
      rw [if_neg (by omega), if_neg (by tauto)]
      rfl
    case _ => -- CTX_SWITCH
      obtain ⟨hlen, hctx, hready⟩ := hok
      refine (runSized_of_done h hlen ?_ : execCtxSwitch s = _)
      dsimp only
      rw [if_neg (by omega), if_neg (not_not.mpr hready)]
      rfl
  case long =>
    obtain ⟨hqueue, hop, hrun, hinterpreted, hfabric, hchip, hreading, -⟩ := h
    have hl : c.longRead = true := CmdSlot.longRead_iff.mpr ⟨hop, hlen, hlong, hmost, hin⟩
    have hi : s.interprets = true := State.interprets_of hrun hinterpreted hfabric hchip hreading
    subst ht
    show execCsRead s = _
    rw [execCsRead, hqueue]
    dsimp only
    rw [if_pos hl]
    exact act_of_true hi
  case carriedOn =>
    subst ht hws
    simp only [State.readOn, hr]
    exact ⟨fun hlast => if_pos hlast, fun hmore => if_neg (by omega)⟩

/-! ### The rows of register writes of one kind -/

theorem kindRow_of_all {s : State} {k : WriteKind} {c : CmdSlot} {rest : List CmdSlot} (hqueue : s.cmd.queue = c :: rest)
    (hop : c.opcode.toNat = 0x11) (hkind : ∀ p, p ∈ c.pairs → writeKind p.1 = k) : kindRow k s = execCsWrite s := by
  refine if_pos ?_
  rw [State.writesOnly, hqueue]
  simp only [hop, decide_true, Bool.true_and, List.all_eq_true, decide_eq_true_iff]
  exact hkind

theorem kindRow_of_other {s : State} {k : WriteKind} {c : CmdSlot} {rest : List CmdSlot} {p : Nat × Word} (hqueue : s.cmd.queue = c :: rest)
    (hmem : p ∈ c.pairs) (hkind : writeKind p.1 ≠ k) : kindRow k s = .next s := by
  refine if_neg ?_
  rw [State.writesOnly, hqueue]
  simp only [Bool.and_eq_true, List.all_eq_true, decide_eq_true_iff, not_and]
  exact fun _ hall => hkind (hall p hmem)

/-- Settles O60: each row is CS_WRITE's where every pair is of its kind, and nothing's where one is not. -/
theorem registerWriteRows : Obligations.RegisterWriteRows := by
  unfold Obligations.RegisterWriteRows
  intro s t c rest row k ht hmem
  have hrow : exec row s = kindRow k s := by
    simp only [List.mem_cons, Prod.mk.injEq, List.not_mem_nil, or_false] at hmem
    rcases hmem with ⟨rfl, rfl⟩ | ⟨rfl, rfl⟩ | ⟨rfl, rfl⟩ | ⟨rfl, rfl⟩ | ⟨rfl, rfl⟩ | ⟨rfl, rfl⟩ | ⟨rfl, rfl⟩ | ⟨rfl, rfl⟩ | ⟨rfl, rfl⟩ |
      ⟨rfl, rfl⟩ | ⟨rfl, rfl⟩ | ⟨rfl, rfl⟩ | ⟨rfl, rfl⟩ | ⟨rfl, rfl⟩ <;> rfl
  subst ht
  refine ⟨fun h hcount hlen hinside hkind hagree => ?_, fun p hqueue hp hkind => hrow.trans (kindRow_of_other hqueue hp hkind)⟩
  rw [hrow, kindRow_of_all h.1 h.2.1 hkind]
  exact execCsWrite_commanded h hcount hlen hinside hagree

end Sys2Proof.Machine
end

section
/-! PROOF. Step, event, lifeline, recovery, book, host and result commands that succeed (R584–R600). -/

namespace Sys2Proof.Machine

/-! ### Step, event, lifeline and recovery commands -/

/-- Settles O58: each row is its command's outcome on the state that has left the queue, and the conditions of the command decide that
outcome's branch. -/
theorem stepAndLifelineCommands : Obligations.StepAndLifelineCommands := by
  unfold Obligations.StepAndLifelineCommands
  rintro s t c rest row op ok effect body rfl (hmem | ⟨n, hn, rfl, rfl, rfl, rfl, rfl⟩ | ⟨i, j, u, hi, rfl, rfl, rfl, hj, hu, rfl, rfl⟩) h hok
  case inl =>
    simp only [List.mem_cons, Prod.mk.injEq, List.not_mem_nil, or_false] at hmem
    rcases hmem with ⟨rfl, rfl, rfl, rfl, rfl⟩ | ⟨rfl, rfl, rfl, rfl, rfl⟩ | ⟨rfl, rfl, rfl, rfl, rfl⟩ | ⟨rfl, rfl, rfl, rfl, rfl⟩ |
      ⟨rfl, rfl, rfl, rfl, rfl⟩ | ⟨rfl, rfl, rfl, rfl, rfl⟩ | ⟨rfl, rfl, rfl, rfl, rfl⟩ | ⟨rfl, rfl, rfl, rfl, rfl⟩ | ⟨rfl, rfl, rfl, rfl, rfl⟩
    case _ => -- STEP_ARM
      obtain ⟨hlen, hcourse, hstatus⟩ := hok
      refine (runSized_of_done h hlen ?_ : execStepArm s = _)
      dsimp only
      rw [if_neg (by omega), if_neg (not_not.mpr hstatus)]
      rfl
    case _ => -- EVENT_CANCEL of an armed entry
      obtain ⟨hlen, htable, hentry, harmed, hdue⟩ := hok
      refine (runSized_of_done h hlen ?_ : execEventCancel s = _)
      dsimp only
      rw [if_neg (by omega), harmed, hdue]
      rfl
    case _ => -- EVENT_CANCEL of an entry that is due or has fired
      obtain ⟨hlen, htable, hentry, hlate⟩ := hok
      refine (runSized_of_done h hlen ?_ : execEventCancel s = _)
      dsimp only
      rw [if_neg (by omega)]
      cases harmed : (s.popped rest).evArmed (c.arg 0 1) (c.arg 1 1) with
      | false =>
        rw [harmed] at hlate
        rw [show (s.popped rest).firedNow (c.arg 0 1) (c.arg 1 1) = true from hlate]
        rfl
      | true =>
        rw [harmed] at hlate
        rw [show (s.popped rest).evDue (c.arg 0 1) (c.arg 1 1) = true from hlate]
        rfl
    case _ => -- LIFELINE_ARM
      obtain ⟨hlen, henabled, hpassed⟩ := hok
      refine (runSized_of_done h hlen ?_ : execLifelineArm s = _)
      dsimp only
      rw [henabled, hpassed]
      rfl
    case _ => -- MANIFEST_READ
      obtain ⟨hlen, harea, hslot⟩ := hok
      refine (runSized_of_done h hlen ?_ : execManifestRead s = _)
      dsimp only
      rw [if_neg (by omega)]
      by_cases hown : c.arg 0 1 = 0
      · simp only [if_pos hown]
        rfl
      · simp only [if_neg hown]
        rfl
    case _ => -- EPOCH_ADVANCE
      obtain ⟨hlen, haborted, hepoch⟩ := hok
      refine (runSized_of_done h hlen ?_ : execEpochAdvance s = _)
      rw [if_neg (not_not.mpr haborted), if_neg hepoch]
      rfl
    case _ => -- FAULT_DECLARE
      obtain ⟨hlen, hdevice⟩ := hok
      refine (runSized_of_done h hlen ?_ : execFaultDeclare s = _)
      rw [if_neg (by omega)]
      rfl
    case _ => -- DUMP_READ
      obtain ⟨hlen, hslot, hbytes⟩ := hok
      refine (runSized_of_done h hlen ?_ : execDumpRead s = _)
      dsimp only
      rw [if_neg (by omega)]
      rfl
    case _ => -- DUMP_RELEASE
      obtain ⟨hlen, hslot⟩ := hok
      refine (runSized_of_done h hlen ?_ : execDumpRelease s = _)
      dsimp only
      rw [if_neg (by omega)]
      cases (s.popped rest).dumpSlot (c.arg 0 1) <;> rfl
  case inr.inl => -- EVENT_SCHEDULE
    obtain ⟨hlen, htable, hring, hcourse, hstitch, hstaged, haction, hadmitted, hwindow, hfar⟩ := hok
    refine (runSized_of_done h hlen ?_ : execEventSchedule s = _)
    dsimp only
    rw [if_neg (by omega), if_neg (by omega), if_neg (fun hw => by simp [hwindow hw.1] at hw), if_neg ?staged,
      if_neg (not_or.mpr ⟨ne_false_of_eq_true haction, ne_false_of_eq_true hadmitted⟩), if_neg (by simp [hfar]), hn]
    · rfl
    case staged =>
      rintro ⟨hoverlay, hmode, hsite⟩
      exact (hstaged hoverlay).elim (· (Option.isNone_iff_eq_none.mp hmode)) (· (Option.isNone_iff_eq_none.mp hsite))
  case inr.inr => -- ISOLATION_REPORT
    obtain ⟨hlen, hctx, hreproduced, hawaited⟩ := hok
    refine (runSized_of_done h hlen ?_ : execIsolationReport s = _)
    subst hj hu
    dsimp only
    rw [if_neg (by omega), hi]
    dsimp only
    rw [hawaited]
    rfl

/-! ### Book, queue-pair, serving and result commands -/

/-- No stream serves a context that none of the sixteen names. -/
theorem any_stream_eq_false {t : State} {x : Nat} (h : ∀ i v, i < 16 → t.stream i = some v → v.ctx ≠ x) :
    (List.range 16).any (fun i => match t.stream i with
      | none => false
      | some v => decide (v.ctx = x)) = false := by
  refine List.any_eq_false.mpr fun i hi => ?_
  cases hv : t.stream i with
  | none => exact Bool.false_ne_true
  | some v => exact fun hx => h i v (List.mem_range.mp hi) hv (of_decide_eq_true hx)

/-- A SERVE_OPEN that may be and finds a slot and a stream opens that stream. -/
theorem execServeOpen_commanded {s : State} {c : CmdSlot} {rest : List CmdSlot} {slot i : Nat} (h : s.commanded 0x80 c rest)
    (hlen : c.body.length = 23) (hctx : c.arg 0 1 < 16)
    (harea : inPartitionHbm (ctxPartition (c.arg 0 1)) (c.arg 3 8) (areaBytes (c.arg 11 4)) = true ∨
      (s.popped rest).inGeneral (c.arg 3 8) (areaBytes (c.arg 11 4)) = true)
    (hmode : (s.popped rest).cfg.mode = .serve) (hfree : (s.popped rest).ctxState (c.arg 0 1) ≠ ctxFree)
    (hfaulted : (s.popped rest).ctxState (c.arg 0 1) ≠ ctxFaulted)
    (hnone : ∀ i v, i < 16 → (s.popped rest).stream i = some v → v.ctx ≠ c.arg 0 1) (hslot : (s.popped rest).freeResult = some slot)
    (hstream : (List.range 16).find? (fun i => ((s.popped rest).stream i).isNone) = some i) :
    execServeOpen s = .next (((((s.popped rest).takeResult slot c.opcode c.seq true).setStream i (some {
      ctx := c.arg 0 1, deadline := c.arg 1 2, area := c.arg 3 8, granules := c.arg 11 4, table := c.arg 15 8, slot := slot
      waiting := [], closed := [], running := none, faulted := false, closing := false })).setHalted (c.arg 0 1)).replied s c stOk
        (beBytes 1 i ++ beBytes 1 slot)) := by
  refine runSized_of_done h hlen ?_
  have hinside := Bool.or_eq_true_iff.mpr harea
  dsimp only
  refine (if_neg (not_or.mpr ⟨by omega, ne_false_of_eq_true hinside⟩)).trans ?_
  refine (if_neg (not_or.mpr ⟨not_not.mpr hmode, not_or.mpr ⟨hfree, not_or.mpr ⟨hfaulted,
    ne_true_of_eq_false (any_stream_eq_false hnone)⟩⟩⟩)).trans ?_
  rw [hslot, hstream]
  rfl

/-- A SERVE_SUBMIT of a formed list of requests to a stream that takes more adds them to it, or completes them where it has faulted. -/
theorem execServeSubmit_commanded {s : State} {c : CmdSlot} {rest : List CmdSlot} {v : Stream} {k : Nat} {qs : List Request}
    (h : s.commanded 0x81 c rest) (hk : k = c.arg 1 1 + 1) (hqs : qs = (List.range k).map (fun i => requestAt c.body i (s.popped rest).now))
    (hmost : k ≤ 128) (hlen : c.body.length = 2 + 32 * k) (hreserved : ∀ i, i < k → c.arg (30 + 32 * i) 4 = 0)
    (hinside : ∀ q, q ∈ qs → (s.popped rest).inGeneral q.input q.len = true) (hstream : (s.popped rest).stream (c.arg 0 1) = some v)
    (hopen : v.closing = false) :
    execServeSubmit s = .next ((if v.faulted then (s.popped rest).completeFaulted v.slot qs
      else (s.popped rest).setStream (c.arg 0 1) (some { v with waiting := v.waiting ++ qs })).replied s c stOk []) := by
  subst hk hqs
  refine runCommand_of_done h ?_
  have hformed : (List.range (c.arg 1 1 + 1)).any (fun i => decide (c.arg (30 + 32 * i) 4 ≠ 0)) = false :=
    List.any_eq_false.mpr fun i hi => by simp only [hreserved i (List.mem_range.mp hi), ne_eq, not_true_eq_false, decide_false, Bool.false_eq_true, not_false_eq_true]
  have hall := List.all_eq_true.mpr hinside
  dsimp only
  rw [if_neg (by simp only [hformed, hall, Bool.false_eq_true, Bool.true_eq_false, or_false]; omega), hstream]
  dsimp only
  rw [hopen]
  cases v.faulted <;> rfl

/-- Settles O59: each row is its command's outcome on the state that has left the queue, and the conditions of the command decide that
outcome's branch. -/
theorem bookAndHostCommands : Obligations.BookAndHostCommands := by
  unfold Obligations.BookAndHostCommands
  rintro s t c rest rfl
  refine ⟨fun h hlen hlog hsome hmost => ?logRead, fun h hlen hsome hmost => ?fsrRead, fun h hlen => ?fsrFree,
    fun n h hlen hleast hmost hfree => ?qpCreate, fun h hlen hqp => ?qpDestroy,
    fun slot i h hlen hctx harea hmode hfree hfaulted hnone hslot hstream =>
      execServeOpen_commanded h hlen hctx harea hmode hfree hfaulted hnone hslot hstream,
    fun v k qs h hk hqs _ hmost hlen hreserved hinside hstream hopen => ?serveSubmit,
    fun v h hlen hstream hopen => ?serveClose, fun r h hlen hslot hheld hseq => ?resultRead,
    fun r h hlen hslot hheld hwhole hseq => ?resultRelease⟩
  case logRead =>
    refine (runSized_of_done h hlen ?_ : execLogRead s = _)
    rw [if_neg (by omega)]
    rfl
  case fsrRead =>
    refine (runSized_of_done h hlen ?_ : execFsrRead s = _)
    rw [if_neg (by omega)]
    rfl
  case fsrFree => exact (runSized_of_done h hlen rfl : execFsrFree s = _)
  case qpCreate =>
    refine (runSized_of_done h hlen ?_ : execQpCreate s = _)
    dsimp only
    rw [if_neg (by omega), hfree]
    rfl
  case qpDestroy =>
    refine (runSized_of_done h hlen ?_ : execQpDestroy s = _)
    rw [if_neg (mt Option.isNone_iff_eq_none.mp hqp)]
    rfl
  case serveSubmit =>
    have hrow : exec .serveSubmit s = _ := execServeSubmit_commanded h hk hqs hmost hlen hreserved hinside hstream hopen
    exact ⟨fun hf => hrow.trans (by rw [hf]; rfl), fun hf => hrow.trans (by rw [hf]; rfl)⟩
  case serveClose =>
    refine (runSized_of_done h hlen ?_ : execServeClose s = _)
    simp only [hstream, hopen]
    rfl
  case resultRead =>
    refine (runSized_of_done h hlen ?_ : execResultRead s = _)
    dsimp only
    rw [if_neg (by omega), hheld]
    dsimp only
    rw [if_neg (not_not.mpr hseq)]
    rfl
  case resultRelease =>
    refine (runSized_of_done h hlen ?_ : execResultRelease s = _)
    dsimp only
    rw [if_neg (by omega), hheld]
    dsimp only
    rw [hwhole, if_neg (not_not.mpr hseq)]
    rfl

end Sys2Proof.Machine
end

section
/-! PROOF. What the root of trust decides, and commands answered later (R563–R566, R593–R600, R619–R635). -/

namespace Sys2Proof.Machine

/-! ### Sessions, approvals and job keys -/

/-- An outcome the halves agree on is answered. -/
theorem runTrusted_agreed {s : State} {op : Nat} {c : CmdSlot} {rest : List CmdSlot} (h : s.commanded op c rest) (f : State → CmdSlot → Done) :
    runTrusted (fun _ => true) op f s = .next ((f (s.popped rest) c).state.replied s c (f (s.popped rest) c).status (f (s.popped rest) c).body) := by
  rw [runTrusted_commanded h]
  rfl

theorem submission_formed {c : CmdSlot} {r : List Byte} (hrole : c.arg 0 1 < 2) (hreserved : c.arg 1 7 = 0)
    (hlen : c.body.length = 10 + c.arg 8 2 + 114) (hformed : recordFormed r = true) :
    ¬ (2 ≤ c.arg 0 1 ∨ c.arg 1 7 ≠ 0 ∨ c.body.length ≠ 10 + c.arg 8 2 + 114 ∨ recordFormed r = false) :=
  not_or.mpr ⟨Nat.not_le.mpr hrole, not_or.mpr ⟨not_not.mpr hreserved, not_or.mpr ⟨not_not.mpr hlen, ne_false_of_eq_true hformed⟩⟩⟩

/-- What a formed record comes to: it may be out of date, unsigned or barred; else it approves, or waits in a result slot. -/
def approvalOutcome (u : State) (c : CmdSlot) (r : List Byte) : Done :=
  if (r.drop 8).take 16 ≠ keyDigest identityKey ∨ (r.drop 0x18).take 16 ≠ u.rt.approvalNonce then ⟨u, stRtApprovalExpired, []⟩
  else if u.approvalSigned (c.arg 0 1) r (c.body.drop (10 + c.arg 8 2)) = false then ⟨u.count Reg.rtSigFails 1, stRtBadSignature, []⟩
  else if u.approvalBarred (c.arg 0 1) r = true then ⟨u, stState, []⟩
  else match u.rt.approval with
    | some a => ⟨u.approve a, stPending, beBytes 1 a.slot ++ zeroBytes 3 ++ beBytes 4 c.seq.toNat⟩
    | none => deferred u c (fun w n => { w with rt := { w.rt with approval := some ⟨r, c.arg 0 1, w.course, n⟩ } })

/-- An APPROVAL_SUBMIT of a formed record comes to that outcome, once a submission whose window is over has ended. -/
theorem execApprovalSubmit_formed {s u : State} {c : CmdSlot} {rest : List CmdSlot} {r : List Byte} (h : s.commanded 0x08 c rest)
    (hr : r = (c.body.drop 10).take (c.arg 8 2)) (hrole : c.arg 0 1 < 2) (hreserved : c.arg 1 7 = 0)
    (hlen : c.body.length = 10 + c.arg 8 2 + 114) (hformed : recordFormed r = true)
    (hu : u = if (s.popped rest).approvalOver then (s.popped rest).endApproval else s.popped rest) :
    execApprovalSubmit true s =
      .next ((approvalOutcome u c r).state.replied s c (approvalOutcome u c r).status (approvalOutcome u c r).body) := by
  refine runTrusted_of_done h rfl ?_
  dsimp only
  rw [← hu, ← hr, if_neg (submission_formed hrole hreserved hlen hformed)]
  simp only [Bool.not_eq_true']
  rfl

/-- A new key has an ident of its own, not 0, and finds room among the four. -/
theorem jobKey_new {ident : Nat} {keys : List JobKey} (hident : ident ≠ 0) (hnew : ∀ k, k ∈ keys → k.ident.toNat ≠ ident)
    (hroom : keys.length < 4) : ¬ (ident = 0 ∨ keys.any (fun k => decide (k.ident.toNat = ident)) = true ∨ 4 ≤ keys.length) := by
  refine not_or.mpr ⟨hident, not_or.mpr ⟨fun hany => ?_, Nat.not_le.mpr hroom⟩⟩
  obtain ⟨k, hk, hsame⟩ := List.any_eq_true.mp hany
  exact hnew k hk (of_decide_eq_true hsame)

/-- Settles O56: each row is its command's outcome on the state that has left the queue; the tests come in the order of the rows of the
command, and an outcome that is the root of trust's own is discarded where the halves disagree. -/
theorem sessionsAreOpenedAndApproved : Obligations.SessionsAreOpenedAndApproved := by
  unfold Obligations.SessionsAreOpenedAndApproved
  rintro s t c rest rfl
  refine ⟨fun v secret eD nD ident tr h hlen hreserved hagree hv hsession hsecret heD hnD hident htr => ?sessionOpen,
    fun o h hlen hreserved hopening hkey => ?sessionConfirm,
    fun r h hr hrole hreserved hlen hformed u hu => ?approvalSubmit,
    fun w h hlen hident hw hnew hroom henrolled => ?jobKeyProvision, fun row op ok hmem h hok => ?disagreement⟩
  case sessionOpen =>
    refine (runTrustedSized_of_done h hagree hlen ?_ : execSessionOpen s = _)
    dsimp only
    rw [← hv, if_neg (not_not.mpr hreserved), if_neg (Option.not_isSome_iff_eq_none.mpr hsession)]
    subst hsecret heD hnD hident htr
    rfl
  case sessionConfirm =>
    refine (runTrusted_agreed h _ : execSessionConfirm true s = _).trans (congrArg Host.Outcome.next ?_)
    rw [sized_of_length hlen]
    dsimp only
    rw [if_neg (not_not.mpr hreserved), hopening]
    dsimp only
    rw [if_neg (ne_true_of_eq_false hkey)]
    by_cases hgood : Config.ed448Verify o.hostKey (ascii "MDN-SV1 HOST") o.transcript (c.body.take 114) = true ∧
        (c.body.drop 114).take 32 = shake 32 (derive o.secret "CONFIRM H" 32 [] ++ o.transcript)
    · rw [if_pos hgood, if_neg (by rw [hgood.1]; exact not_or.mpr ⟨Bool.true_eq_false_eq_False, not_not.mpr hgood.2⟩)]
      rfl
    · rw [if_neg hgood, if_pos (by rwa [not_and_or, Bool.not_eq_true] at hgood)]
      rfl
  case approvalSubmit =>
    refine (execApprovalSubmit_formed h hr hrole hreserved hlen hformed hu : execApprovalSubmit true s = _).trans (congrArg Host.Outcome.next ?_)
    unfold approvalOutcome
    by_cases hdated : (r.drop 8).take 16 ≠ keyDigest identityKey ∨ (r.drop 0x18).take 16 ≠ u.rt.approvalNonce
    · simp only [if_pos hdated]
    rw [if_neg hdated, if_neg hdated]
    by_cases hsigned : u.approvalSigned (c.arg 0 1) r (c.body.drop (10 + c.arg 8 2)) = false
    · simp only [if_pos hsigned]
    rw [if_neg hsigned, if_neg hsigned]
    by_cases hbarred : u.approvalBarred (c.arg 0 1) r = true
    · simp only [if_pos hbarred]
    rw [if_neg hbarred, if_neg hbarred]
    cases u.rt.approval with
    | some a => rfl
    | none => cases hfree : u.freeResult with
      | none => rw [deferred_of_none hfree]
      | some n => rw [deferred_of_some hfree]; rfl
  case jobKeyProvision =>
    refine (runTrusted_agreed h _ : execJobKeyProvision true s = _).trans (congrArg Host.Outcome.next ?_)
    rw [sized_of_length hlen]
    dsimp only
    rw [← hw, if_neg (jobKey_new hident hnew hroom), henrolled]
    by_cases hsigned : Config.ed448Verify ((s.popped rest).enrolledKey 0) (ascii "MDN-SV1 JOBKEY") (c.body.take 138) (c.body.drop 138) = false
    · simp only [hsigned]
      rfl
    rw [if_neg hsigned, Bool.not_eq_false _ |>.mp hsigned]
    cases Config.gcmOpen (w.take 32) (w.drop 32) (c.body.take 2) ((c.body.drop 90).take 48) <;> rfl
  case disagreement =>
    simp only [List.mem_cons, Prod.mk.injEq, List.not_mem_nil, or_false] at hmem
    rcases hmem with ⟨rfl, rfl, rfl⟩ | ⟨rfl, rfl, rfl⟩ | ⟨rfl, rfl, rfl⟩ | ⟨rfl, rfl, rfl⟩ | ⟨rfl, rfl, rfl⟩ | ⟨rfl, rfl, rfl⟩ | ⟨rfl, rfl, rfl⟩
    case _ => -- ATTEST
      obtain ⟨hagree, hlen⟩ := hok
      exact (runTrustedSized_of_disagreement h hagree hlen rfl : execAttest s = _)
    case _ => -- SESSION_OPEN
      obtain ⟨hagree, hlen, hreserved, hsession⟩ := hok
      refine (runTrustedSized_of_disagreement h hagree hlen ?_ : execSessionOpen s = _)
      dsimp only
      rw [if_neg (not_not.mpr hreserved), if_neg (Option.not_isSome_iff_eq_none.mpr hsession)]
      rfl
    case _ => -- SESSION_CONFIRM
      obtain ⟨hlen, hreserved, hopening⟩ := hok
      obtain ⟨o, ho⟩ := Option.ne_none_iff_exists'.mp hopening
      refine (runTrustedSized_of_disagreement h rfl hlen ?_ : execSessionConfirm false s = _)
      dsimp only
      rw [if_neg (not_not.mpr hreserved), ho]
      dsimp only
      split_ifs <;> rfl
    case _ => -- SESSION_REKEY
      obtain ⟨hagree, hlen, hsession⟩ := hok
      obtain ⟨e, he⟩ := Option.ne_none_iff_exists'.mp hsession
      refine (runTrustedSized_of_disagreement h hagree hlen ?_ : execSessionRekey s = _)
      simp only [he]
      rfl
    case _ => -- APPROVAL_SUBMIT
      obtain ⟨hrole, hreserved, hlen, hformed, hdevice⟩ := hok
      refine (runTrusted_of_disagreement h rfl ?_ : execApprovalSubmit false s = _)
      dsimp only
      rw [if_neg (submission_formed hrole hreserved hlen hformed), if_pos (.inl hdevice)]
      rfl
    case _ => -- JOB_KEY_PROVISION
      obtain ⟨hlen, hident, hnew, hroom⟩ := hok
      refine (runTrustedSized_of_disagreement h rfl hlen ?_ : execJobKeyProvision false s = _)
      dsimp only
      rw [if_neg (jobKey_new hident hnew hroom)]
      split_ifs
      · rfl
      · rfl
      · split <;> rfl
    case _ => -- CS_WRITE of a protected register
      obtain ⟨hcount, hlen, hinside, hagree⟩ := hok
      refine (runTrusted_of_disagreement h hagree ?_ : execCsWrite s = _)
      rw [csWriteDone_of_inside hcount hlen hinside]
      rfl

/-! ### Commands answered later -/

theorem diagnosisFirst_of_commanded {s : State} {c : CmdSlot} {rest : List CmdSlot} (h : s.commanded 0x31 c rest) (hlen : c.body.length = 14) :
    s.diagnosisFirst = decide (c.arg 12 1 = 1) := by
  rw [State.diagnosisFirst, h.1]
  simp only [h.2.1, hlen, decide_true, Bool.true_and]

/-- A row that comes to `deferred` gives its command the answer of a free slot, or of none. -/
theorem deferred_answers {s : State} {row : Instr} {op : Nat} {c : CmdSlot} {rest : List CmdSlot} {work : State → Nat → State}
    (h : s.commanded op c rest) (hrow : ∃ f, exec row s = runCommand op f s ∧ f (s.popped rest) c = deferred (s.popped rest) c work) :
    ((s.popped rest).freeResult = none → exec row s = .next ((s.popped rest).replied s c stNoResultSlot [])) ∧
    (∀ n, (s.popped rest).freeResult = some n → exec row s =
      .next ((work ((s.popped rest).takeResult n c.opcode c.seq false) n).replied s c stPending
        (beBytes 1 n ++ zeroBytes 3 ++ beBytes 4 c.seq.toNat))) := by
  obtain ⟨f, hexec, hdone⟩ := hrow
  rw [hexec]
  exact ⟨fun hnone => runCommand_of_done h (hdone.trans (deferred_of_none hnone)),
    fun n hsome => runCommand_of_done h (hdone.trans (deferred_of_some hsome))⟩

/-- Settles O57: each row that defers comes to `deferred` on the state that has left the queue; the completions follow their own
definitions by cases on the image. -/
theorem deferredCommandsTakeASlot : Obligations.DeferredCommandsTakeASlot := by
  unfold Obligations.DeferredCommandsTakeASlot
  refine ⟨fun s c rest row op ok work hmem h hok => ?rows,
    fun s c rest n k y h hlen hdiagnosis hy hctx hcourse hdiag hhalted hnone hfar hentry hfree => ?diagnosisReplay,
    fun s t g more hrun hstaging ht => ?overlay, fun s t u n hrun hreset hbind ht hu => ?bindOffComplete⟩
  case rows =>
    refine deferred_answers h ?_
    simp only [List.mem_cons, Prod.mk.injEq, List.not_mem_nil, or_false] at hmem
    rcases hmem with ⟨rfl, rfl, rfl, rfl⟩ | ⟨rfl, rfl, rfl, rfl⟩ | ⟨rfl, rfl, rfl, rfl⟩ | ⟨rfl, rfl, rfl, rfl⟩ | ⟨rfl, rfl, rfl, rfl⟩
    case _ => -- OVERLAY_STAGE
      obtain ⟨hlen, hkind⟩ := hok
      refine ⟨_, (rfl : execOverlayStage s = _), (sized_of_length hlen).trans ?_⟩
      exact if_neg (Nat.not_le.mpr hkind)
    case _ => -- STEP_REPLAY
      obtain ⟨hlen, hkind, hctx, hcourse, hloaded, hstate, hstatus⟩ := hok
      refine ⟨_, (if_neg ?_ : execStepReplay s = _), (sized_of_length hlen).trans ?_⟩
      · rw [diagnosisFirst_of_commanded h hlen, hkind]
        decide
      · rw [replayDone]
        dsimp only
        rw [if_neg (by omega), if_neg (by rw [hloaded]; tauto), if_neg (not_not.mpr hstatus)]
    case _ => -- LIFELINE_RESTORE
      obtain ⟨hlen, hbars⟩ := hok
      refine ⟨_, (rfl : execLifelineRestore s = _), (sized_of_length hlen).trans ?_⟩
      exact if_neg (ne_true_of_eq_false hbars)
    case _ => -- SPARE_FILL
      obtain ⟨hlen, hbusy⟩ := hok
      refine ⟨_, (rfl : execSpareFill s = _), (sized_of_length hlen).trans ?_⟩
      exact if_neg (ne_true_of_eq_false hbusy)
    case _ => -- BIND_OFF
      obtain ⟨hlen, hbarred⟩ := hok
      refine ⟨_, (rfl : execBindOff s = _), (sized_of_length hlen).trans ?_⟩
      exact if_neg (ne_true_of_eq_false hbarred)
  case diagnosisReplay =>
    have hfirst : s.diagnosisFirst = true := by rw [diagnosisFirst_of_commanded h hlen, hdiagnosis]; rfl
    subst hy
    refine ((if_pos hfirst).trans (runSized_of_done h hlen ?_) : execDiagnosisReplay s = _)
    rw [diagnosisDone, if_neg (by omega), if_neg (by simp [hdiag, hhalted, hnone]), if_neg (ne_false_of_eq_true hfar), hentry]
    exact deferred_of_some hfree
  case overlay =>
    subst ht
    refine ⟨?disagreed, fun hpoisoned => ?poisoned, fun hclean fault hfault => ⟨fun hmode => ?mode, fun hsite => ?site⟩⟩
    case disagreed =>
      show execOverlayStageComplete false s = _
      simp only [execOverlayStageComplete, hstaging]
      exact act_of_true hrun
    case poisoned =>
      show execOverlayStageComplete true s = _
      simp only [execOverlayStageComplete, hstaging, if_pos hpoisoned]
      exact act_of_true hrun
    case mode =>
      show execOverlayStageComplete true s = _
      simp only [execOverlayStageComplete, hstaging, hclean, hmode]
      rw [hmode] at hfault
      subst hfault
      exact act_of_true hrun
    case site =>
      show execOverlayStageComplete true s = _
      simp only [execOverlayStageComplete, hstaging, hclean, hsite]
      rw [hsite] at hfault
      subst hfault
      exact act_of_true hrun
  case bindOffComplete =>
    subst ht hu
    show execBindOffComplete s = _
    simp only [execBindOffComplete, hbind]
    exact act_of_true (by rw [hrun, hreset]; rfl)

end Sys2Proof.Machine
end
